-- ==== Sys2Proof/Word.lean ====
section
/-! DEFINITION. The word types of the OZ4812's register space (R24: registers are 32-bit words; R127: pages are taken as
bytes, least significant byte first) and the two lanes (R26, R1). -/

namespace Sys2Proof

/-- A 32-bit register word. -/
abbrev Word := BitVec 32

/-- One byte of a frame, a buffer or a memory. -/
abbrev Byte := BitVec 8

/-- The two lanes of the module: A (dies IA, CA) and B (dies IB, CB). -/
inductive Lane where
  | a
  | b
  deriving DecidableEq, Repr

/-- The other lane. -/
def Lane.other : Lane → Lane
  | .a => .b
  | .b => .a

/-- Lane A is 0 and lane B is 1, as every register field that names a lane codes it. -/
def Lane.idx : Lane → Nat
  | .a => 0
  | .b => 1

/-- A pair of values, one for each lane. -/
structure PerLane (α : Type) where
  a : α
  b : α
  deriving DecidableEq, Repr

/-- The value of one lane. -/
def PerLane.at {α : Type} (p : PerLane α) : Lane → α
  | .a => p.a
  | .b => p.b

/-- The pair with one lane's value replaced. -/
def PerLane.put {α : Type} (p : PerLane α) (l : Lane) (v : α) : PerLane α :=
  match l with
  | .a => { p with a := v }
  | .b => { p with b := v }

@[simp] theorem PerLane.at_put_same {α : Type} (p : PerLane α) (l : Lane) (v : α) : (p.put l v).at l = v := by
  cases l <;> rfl

@[simp] theorem PerLane.at_put_other {α : Type} (p : PerLane α) (l : Lane) (v : α) :
    (p.put l v).at l.other = p.at l.other := by
  cases l <;> rfl

end Sys2Proof
end

