-- ==== Sys2Proof/Syntax.lean ====
section
/-! DEFINITION. The commands: one constructor of Instr for each row of the opcode table, with the operands the row's event or
access carries. Times are not operands: a command takes effect at the device time of the state it is applied to; a stamp an
event brings along that is older is an operand. -/

namespace Sys2Proof

/-- An identity that may write the register space (R130): a port, the firmware of a lane, the firmware of an island. -/
inductive Writer where
  | port (n : Fin 48)
  | laneFw (l : Lane)
  | islandFw (l : Lane)
  deriving DecidableEq, Repr

/-- The identity number of R130: the port number, 48 and 49 for lane firmware, 50 and 51 for island firmware. -/
def Writer.ident : Writer → Nat
  | .port n => n.val
  | .laneFw l => 48 + l.idx
  | .islandFw l => 50 + l.idx

/-- The receivers of the internal links (R29): the interface cross-link and the control cross-link at the die of lane `l`;
the isolated data and time lanes of lane `l` at its control die or at its interface die; the driver link of lane `l` and die
`d` at the driver die or at the control die that is its master. -/
inductive LinkRx where
  | ifaceCross (l : Lane)
  | ctlCross (l : Lane)
  | isoData (l : Lane) (atCtl : Bool)
  | isoTime (l : Lane) (atCtl : Bool)
  | drvDie (l : Lane) (d : Fin 8)
  | drvMaster (l : Lane) (d : Fin 8)
  deriving DecidableEq, Repr

/-- The seventeen supplies of R75. -/
inductive Supply where
  | vsup (l : Lane)
  | vio
  | vctl (l : Lane)
  | vposL
  | vnegL
  | vpos (n : Fin 6)
  | vneg (n : Fin 6)
  deriving DecidableEq, Repr

/-- The dies that leave and enter reset (R77): interface dies, control dies, driver dies. -/
inductive Die where
  | iface (l : Lane)
  | ctl (l : Lane)
  | drv (d : Fin 8)
  deriving DecidableEq, Repr

/-- Wake sources in the order of SYS.WAKE_EN (R97, R108). -/
inductive WakeSource where
  | wake | sto | hvil | can (n : Fin 4) | link (l : Lane)
  deriving DecidableEq, Repr

/-- The two ports that carry host frames: HOST and SERVICE. -/
inductive HostPort where
  | host | service
  deriving DecidableEq, Repr

/-- The port number of a host-frame port (R56). -/
def HostPort.num : HostPort → Nat
  | .host => 0
  | .service => 2

/-- A request frame as it is received (R138): header fields, data words (the route word first in a REMOTE frame), ALIVE,
whether its CRC matches, and whether it is as long as its header implies. -/
structure HostFrame where
  opcode : Fin 16
  page : Fin 512
  woff : Fin 1024
  count : Fin 64
  fixed : Bool
  low : Fin 4
  data : List Word
  alive : Fin 256
  crc : Word
  lengthOk : Bool
  deriving DecidableEq, Repr

/-- What moves HOST.PROXY (R137): a write; the core that set EN leaves its handler, is interrupted by a higher-priority one, or returns
from one. -/
inductive ProxyAct where
  | write (value : Word)
  | leave
  | interrupted
  | back
  deriving DecidableEq, Repr

/-- A memory of Quill that a debugger names: data words, coefficient words (value and shift of each entry in turn), program halves of both
banks. The memory of the control cores is one. -/
inductive DebugMem where
  | data
  | coef
  | prog
  deriving DecidableEq, Repr

/-- What a debugger does to a pair (R319, R440): resume, single step, register and memory writes, and reads. Of the cores, registers 0 to
31 are the integer ones and 32 to 63 the floating-point ones. -/
inductive DebugAct where
  | resume
  | step
  | writeReg (r : Fin 64) (v : Word)
  | writeMem (m : DebugMem) (a : Nat) (v : Word)
  | readReg (r : Fin 64)
  | readMem (m : DebugMem) (a : Nat)
  deriving DecidableEq, Repr

/-- An asynchronous input of a lockstep pair (R437): interrupt requests, frames, the DEBUG port, and the levels of STO, SDI and HVIL that a
safety-core pair reads. -/
inductive PairInput where
  | irq
  | frame
  | debug
  | sto (ch : Lane)
  | sdi (n : Fin 2)
  | hvil
  deriving DecidableEq, Repr

/-- The decision word of R466: per axis the safety state code, active monitors (SLS, direction) and last violation; the brake
command; the input levels the sender read (STO channels A and B active, SDI0_1, SDI0_2, SDI1_1 and SDI1_2 high). -/
structure DecisionWord where
  state1 : Fin 5
  state2 : Fin 5
  monitors : Fin 16
  viol1 : Fin 16
  viol2 : Fin 16
  brake : Bool
  inputs : Fin 64
  deriving DecidableEq, Repr

/-- A CAN frame (R526): format (0 classical base, 1 classical extended, 2 FD base, 3 FD extended, 4 XL), remote, BRS, ESI, SEC,
identifier, SDT, VCID, AF, data. -/
structure CanFrame where
  fmt : Fin 5
  rtr : Bool
  brs : Bool
  esi : Bool
  sec : Bool
  id : Fin 536870912
  sdt : Fin 256
  vcid : Fin 256
  af : Word
  data : List Byte
  deriving DecidableEq, Repr

/-- How a transmission attempt ends (R537): sent, arbitration lost, or an error with its codes as ERR.LEC and ERR.DLEC. -/
inductive TxOutcome where
  | sent
  | lostArbitration
  | error (lec : Fin 7) (dlec : Fin 7)
  deriving DecidableEq, Repr

/-- What ETH does under IEEE 802.1AS (R552): it takes a Sync with its stamp, a Follow_Up with the time it carries in ns, a completed
peer-delay exchange with its four stamps in ns; it issues a peer-delay request; it takes the partner's and answers it. -/
inductive PtpMessage where
  | sync
  | followUp (ns : Nat)
  | peerDelay (t1 t2 t3 t4 : Nat)
  | requestSent
  | requestTaken
  deriving DecidableEq, Repr

/-- The frame kinds of a NOTICE (R543): an interrupt with its summary, or a role mismatch with the tag and the node's epoch. -/
inductive LinkNotice where
  | interrupt (s0 s1 : Word)
  | mismatch (tag : Fin 256) (epoch : Fin 256)
  deriving DecidableEq, Repr

/-- What the ROM finds at a start-up (R102): the comparator self-test of the lane's pairs (R438). -/
structure BootFacts where
  selftestOk : Bool
  deriving DecidableEq, Repr


/-- The commands of the opcode table. -/
inductive Instr where
  /-- LINK_FRAME_RECEIVE: a frame reaches the receiver `k`; `skew` is the device time it carries as the difference from the
  receiving driver die's own time in ticks (R34). What else it carries is its sender's state. -/
  | linkFrameReceive (k : LinkRx) (seq : Fin 256) (crcOk : Bool) (skew : Int)
  /-- LINK_LOST: the receiver `k` has accepted nothing for three longest gaps. -/
  | linkLost (k : LinkRx)
  /-- LINK_START_UP: a start-up of `k` completes; the round trips of its 1,024 echoes sum to `trips` and their turnarounds to `turns`, and
  the last round trip is `rtt`, in fine steps. -/
  | linkStartUp (k : LinkRx) (trips : Nat) (turns : Nat) (rtt : Nat)
  /-- ROLE_DESIGNATION_APPLY: a designation of port `l` reaches the tick from which it applies. -/
  | roleDesignationApply (d : Fin 8) (l : Lane)
  /-- EDGE_MESSAGE_RECEIVE: the port `l` of die `d` receives an edge message word. -/
  | edgeMessageReceive (d : Fin 8) (l : Lane) (word : Word)
  /-- EDGE_EXECUTE: the due instant of the oldest held edge of output `o` arrives. -/
  | edgeExecute (o : Fin 14)
  /-- PRIORITY_SYMBOL_RECEIVE: a copy of the priority symbol on its way reaches port `l` of die `d`, with the bits of `err` disturbed. -/
  | prioritySymbolReceive (d : Fin 8) (l : Lane) (err : Word)
  /-- STO_CHANNEL_CHANGE: the filter of island `i` passes a new level of STO channel `ch`. -/
  | stoChannelChange (ch : Lane) (i : Lane) (active : Bool) (held : Nat)
  /-- SUPPLY_VALID: the supply rises above its validity threshold. -/
  | supplyValid (u : Supply) (millivolt : Nat)
  /-- DOMAIN_RESET_RELEASE: the supply of die `d` has stood valid for 100 us. -/
  | domainResetRelease (d : Die)
  /-- SUPPLY_INVALID: the supply has fallen to this level. -/
  | supplyInvalid (u : Supply) (millivolt : Nat)
  /-- XTAL_READY: the 25 MHz crystal of the lane's interface die is within specification. -/
  | xtalReady (l : Lane)
  /-- XTAL_ABSENT: 5.0 ms have passed without it. -/
  | xtalAbsent (l : Lane)
  /-- PLL_LOCK: the PLL of the lane's interface die, or of its control die, locks. -/
  | pllLock (l : Lane) (ctl : Bool)
  /-- CLK_FAIL: the main clock deviates by more than 3 percent, or its PLL loses lock. -/
  | clkFail (l : Lane) (ctl : Bool) (lostLock : Bool)
  /-- CLK_TRIM_UPDATE: the trim that steering lane B to lane A requires, in ppm. -/
  | clkTrimUpdate (ppm : Int)
  /-- AON_CALIBRATION: the measured always-on cycle in 1/128 tick, before rounding to 24 bits. -/
  | aonCalibration (l : Lane) (inc : Nat)
  /-- MAIN_CLOCK_STOP: the lane's main clock stops. -/
  | mainClockStop (l : Lane)
  /-- MAIN_CLOCK_START: the lane's main clock starts again. -/
  | mainClockStart (l : Lane)
  /-- START_UP: lane `l` runs R102; `b` is what its ROM finds. -/
  | startUp (l : Lane) (b : BootFacts)
  /-- DEFAULT_MODE_ENTRY: after STANDBY the default mode is entered. -/
  | defaultModeEntry
  /-- SUPERVISOR_READY_RETRY: 100 ms after the last READY request of the blank supervisor. -/
  | supervisorReadyRetry
  /-- SUPERVISOR_STATUS_QUERY: a frame arrives on CAN0 under the blank supervisor. -/
  | supervisorStatusQuery (id : Nat) (ext : Bool)
  /-- MODE_REQUEST: the writer writes SYS.MODE_REQ. -/
  | modeRequest (w : Writer) (target : Fin 8)
  /-- READY_REQUEST_TIMEOUT: 100 ms have passed since the READY request. -/
  | readyRequestTimeout
  /-- MODE_TRANSITION_COMPLETE: the agreed transition takes effect. -/
  | modeTransitionComplete
  /-- HVIL_CHANGE: the HVIL loop opens or closes. -/
  | hvilChange (opened : Bool)
  /-- DISCHARGE_COMPLETE: every available DC-link reading is below 60 V. -/
  | dischargeComplete
  /-- DCL_WATCH_SAMPLE: a WATCH sample of the lane's DCLINK input. -/
  | dclWatchSample (l : Lane) (volt : Nat)
  /-- SPEED_WATCH: the interface die judges the encoder counts of its last 1,024 always-on cycles. -/
  | speedWatch (l : Lane)
  /-- WAKE_EVENT: a wake source was active for `held` always-on cycles. -/
  | wakeEvent (src : WakeSource) (held : Nat)
  /-- WAKE_TIMER: the wake timer's cycles have elapsed. -/
  | wakeTimer
  /-- RESET_REQUEST: the writer writes SYS.RESET_REQ. -/
  | resetRequest (w : Writer) (value : Word)
  /-- WATCHDOG_KICK: the writer writes CPU_x.WDOG_KICK. -/
  | watchdogKick (w : Writer) (l : Lane) (key : Fin 65536)
  /-- WATCHDOG_EXPIRY: PERIOD has passed without a kick. -/
  | watchdogExpiry (l : Lane)
  /-- REGISTER_WRITE: one word is written to the register space. -/
  | registerWrite (w : Writer) (addr : Nat) (value : Word)
  /-- HOST_READ: a frame with OPCODE READ arrives. -/
  | hostRead (p : HostPort) (f : HostFrame)
  /-- HOST_WRITE: a frame with OPCODE WRITE arrives. -/
  | hostWrite (p : HostPort) (f : HostFrame)
  /-- HOST_FETCH: a frame with OPCODE FETCH arrives. -/
  | hostFetch (p : HostPort) (f : HostFrame)
  /-- REMOTE_READ: a frame with OPCODE REMOTE_READ arrives. -/
  | remoteRead (p : HostPort) (f : HostFrame)
  /-- REMOTE_WRITE: a frame with OPCODE REMOTE_WRITE arrives. -/
  | remoteWrite (p : HostPort) (f : HostFrame)
  /-- HOST_REQUEST_COMPLETE: the accepted request in progress completes. -/
  | hostRequestComplete
  /-- REMOTE_TIMEOUT: 3 link cycles plus 20 us have passed without a remote answer. -/
  | remoteTimeout
  /-- CTRL_COMMIT: the writer writes 1 to CTRL.COMMIT of page `p`. -/
  | ctrlCommit (w : Writer) (p : Fin 45)
  /-- COMMIT_POINT: the commit point of page `p` is reached. -/
  | commitPoint (p : Fin 45)
  /-- CTRL_SOFTRST: the writer writes 1 to CTRL.SOFTRST. -/
  | ctrlSoftrst (w : Writer) (p : Fin 45)
  /-- CTRL_FREEZE: the writer writes CTRL.FREEZE. -/
  | ctrlFreeze (w : Writer) (p : Fin 45) (on : Bool)
  /-- CTRL_ENABLE: the writer writes CTRL.ENABLE. -/
  | ctrlEnable (w : Writer) (p : Fin 45) (on : Bool)
  /-- PAGE_LOCK: key 0x6C is written to LOCK. -/
  | pageLock (w : Writer) (p : Fin 45)
  /-- PAGE_UNLOCK: key 0x93 is written to LOCK. -/
  | pageUnlock (w : Writer) (p : Fin 45)
  /-- PAGE_HARD_LOCK: key 0xE7 is written to LOCK. -/
  | pageHardLock (w : Writer) (p : Fin 45)
  /-- PAGE_FORCE: a write to FORCE. -/
  | pageForce (w : Writer) (p : Fin 45) (bits : Word)
  /-- CAUSE_CLEAR: a W1C write to CAUSE; `meets` are the bits whose cause event falls in the same tick. -/
  | causeClear (w : Writer) (p : Fin 45) (bits : Word) (meets : Word)
  /-- PAGE_CLAIM: the writer writes its own identity to OWNER. -/
  | pageClaim (w : Writer) (p : Fin 45)
  /-- PAGE_RELEASE: the writer writes 63 to OWNER. -/
  | pageRelease (w : Writer) (p : Fin 45)
  /-- SEAL_RECOMPUTE: the seal of page `p` is recomputed. -/
  | sealRecompute (p : Fin 45)
  /-- PORT_CLASS_WRITE: the writer writes HOST.PORT_CLASS. -/
  | portClassWrite (w : Writer) (value : Word)
  /-- PROXY_WRITE: the writer writes HOST.PROXY. -/
  | proxyWrite (w : Writer) (act : ProxyAct)
  /-- INTERRUPT_NOTICE: this node sends a notice on link `k` in the next link cycle. -/
  | interruptNotice (k : Lane)
  /-- PIN_MISMATCH: the interface die of lane `l` has read the IRQ_N land low, or high, against its own drive for more than 1 us. -/
  | pinMismatch (l : Lane) (low : Bool)
  /-- CONVERSION_COMPLETE: a slice of converter `c` of lane `l` delivers raw code `raw`. -/
  | conversionComplete (l : Lane) (c : Fin 2) (slice : Fin 9) (raw : Int)
  /-- SPARE_TURN_END: the spare turn of rotation set `g` ends. -/
  | spareTurnEnd (l : Lane) (c : Fin 2) (g : Fin 3)
  /-- REFERENCE_SETTLED: 2.0 ms after the reference buffer was enabled. -/
  | referenceSettled (l : Lane) (c : Fin 2)
  /-- WINDOW_CLOSE: the window of group `g` closes. -/
  | windowClose (l : Lane) (c : Fin 2) (g : Fin 3)
  /-- DCL_EXCHANGE: the lanes exchange their DC-link values. -/
  | dclExchange
  /-- SEQ_START: the writer writes 1 to SEQCFG.START. -/
  | seqStart (w : Writer) (l : Lane)
  /-- SEQ_ENTRY_START: the sequencer's present entry starts on group `g`. -/
  | seqEntryStart (l : Lane) (g : Fin 3)
  /-- SEQ_ENTRY_COMPLETE: the sequencer's entry completes. -/
  | seqEntryComplete (l : Lane)
  /-- URGENT_REQUEST: the writer writes URGENT3. -/
  | urgentRequest (w : Writer) (l : Lane) (value : Word)
  /-- URGENT_START: the request of channel `ch` starts on group `g`. -/
  | urgentStart (l : Lane) (ch : Fin 4) (g : Fin 3)
  /-- URGENT_COMPLETE: the conversions of channel `ch` are complete. -/
  | urgentComplete (l : Lane) (ch : Fin 4)
  /-- SOURCE_SELECT: the writer writes SRCc of position unit `u`. -/
  | sourceSelect (w : Writer) (u : Lane) (c : Fin 4) (value : Word)
  /-- QUADRATURE_EDGE: A and B of the ENC port have the levels `a` and `b` after an edge stamped `age` ticks ago. -/
  | quadratureEdge (u : Lane) (a b : Bool) (age : Nat)
  /-- TOOTH_EDGE: a tooth edge of the ENC port, stamped `age` ticks ago. -/
  | toothEdge (u : Lane) (age : Nat)
  /-- HALL_CHANGE: the Hall inputs H3 H2 H1 have the state `h`, stamped `age` ticks ago. -/
  | hallChange (u : Lane) (h : Fin 8) (age : Nat)
  /-- RESOLVER_DEMODULATION: an excitation period gives the sine and cosine amplitudes. -/
  | resolverDemodulation (u : Lane) (s c : Int)
  /-- SSI_FRAME_START: the SSI clock of a frame starts. -/
  | ssiFrameStart (u : Lane)
  /-- SSI_FRAME_COMPLETE: the last bit of an SSI frame is read: its bits, first bit highest. -/
  | ssiFrameComplete (u : Lane) (bits : Nat)
  /-- SENT_FRAME: a SENT frame completes: synchronisation, nibble and pause periods in device ticks. -/
  | sentFrame (u : Lane) (second : Bool) (sync : Nat) (pulses : List Nat) (pause : Option Nat) (age : Nat)
  /-- LINE_FAULT: the pair A, B or Z of the ENC port shows a line fault. -/
  | lineFault (u : Lane) (line : Fin 3)
  /-- LINE_FAULT_END: the pair is sound again and reads `level`. -/
  | lineFaultEnd (u : Lane) (line : Fin 3) (level : Bool)
  /-- INDEX_EVENT: the Z line changes to `z`; A and B stand at `a` and `b` since the same stamp, or as before. -/
  | indexEvent (u : Lane) (a b z : Bool) (age : Nat)
  /-- SENSOR_FRAME_TIMEOUT: a frame source has given no good frame for its timeout. -/
  | sensorFrameTimeout (u : Lane) (c : Fin 4)
  /-- SPEED_BOUND: the time without a step lowers the bound of the channel's speed. -/
  | speedBound (u : Lane) (c : Fin 4)
  /-- SPEED_STANDSTILL: the channel stands still. -/
  | speedStandstill (u : Lane) (c : Fin 4)
  /-- POS_SET: the writer writes POS_SET of a channel. -/
  | posSet (w : Writer) (u : Lane) (c : Fin 4) (value : Word)
  /-- COMPARE_WRITE: the writer writes COMPn, or CCFGn, of a channel. -/
  | compareWrite (w : Writer) (u : Lane) (c : Fin 4) (n : Fin 8) (cfg : Bool) (value : Word)
  /-- SENSE_CLEAR: the writer writes SENSE.CLR. -/
  | senseClear (w : Writer) (value : Word)
  /-- WATCH_EDGE_COUNT: in WATCH, A and B of the ENC port change at the present rate of edges per second. -/
  | watchEdgeCount (u : Lane) (a b : Bool) (rate : Nat)
  /-- POS_RECORD_PUBLISH: a channel's record goes out. -/
  | posRecordPublish (u : Lane) (c : Fin 4)
  /-- POS_RECORD_RECEIVE: the interface die, or the control die, of lane `l` receives a record of unit `u`. -/
  | posRecordReceive (l : Lane) (atCtl : Bool) (u : Lane) (c : Fin 4) (seq : Fin 256) (crcOk : Bool)
  /-- SENSE_PAIR_COMPARE: the once-per-millisecond comparison of a sensor pair. -/
  | sensePairCompare (k : Fin 4)
  /-- FIELD_PERIOD: the field unit of lane `l` evaluates axis `x` at its period. -/
  | fieldPeriod (l : Lane) (x : Fin 2)
  /-- ANGLE_SOURCE_TIMEOUT: no record of the axis's angle source has arrived in time. -/
  | angleSourceTimeout (l : Lane) (x : Fin 2)
  /-- AXIS_START: the writer writes START to FIELD_n.CMD. -/
  | axisStart (w : Writer) (x : Fin 2) (epoch : Fin 256)
  /-- AXIS_STOP: the writer writes STOP. -/
  | axisStop (w : Writer) (x : Fin 2) (epoch : Fin 256)
  /-- AXIS_OFF: the writer writes OFF. -/
  | axisOff (w : Writer) (x : Fin 2) (epoch : Fin 256)
  /-- AXIS_CLR: the writer writes CLR. -/
  | axisClr (w : Writer) (x : Fin 2) (epoch : Fin 256)
  /-- CMD_TIMEOUT: CMDTO.TMO has passed without a TCMD write. -/
  | cmdTimeout (x : Fin 2)
  /-- ALIGN_COMPLETE: the ALIGN time ends. -/
  | alignComplete (x : Fin 2)
  /-- LOCKED_ROTOR: the locked-rotor conditions have held for their time. -/
  | lockedRotor (x : Fin 2)
  /-- CATCH_SAMPLE: the next sample of a catch window is due. -/
  | catchSample (x : Fin 2)
  /-- CATCH_WINDOW_END: a catch window ends. -/
  | catchWindowEnd (x : Fin 2)
  /-- CATCH_TIMEOUT: the time for CATCH has passed. -/
  | catchTimeout (x : Fin 2)
  /-- ASC_RELEASE_CHECK: ASC_T after ASC began, it is released for one window. -/
  | ascReleaseCheck (x : Fin 2)
  /-- MAP_SWAP: the writer writes 1 to MAPCFG.SWAP. -/
  | mapSwap (w : Writer) (x : Fin 2)
  /-- QUILL_TRIGGER: trigger `e` of lane `l`'s Quill fires; `bad` names the legs whose word fails its check. -/
  | quillTrigger (l : Lane) (e : Fin 2) (bad : Fin 64)
  /-- QUILL_RELEASE: the release point of lane `l`'s Quill. -/
  | quillRelease (l : Lane)
  /-- RUN_LIMIT: a run reaches MAXCYC. -/
  | runLimit (l : Lane)
  /-- NOP: lane `l`'s Quill issues the NOP at its program counter. -/
  | qNop (l : Lane)
  /-- LDI: lane `l`'s Quill issues the LDI at its program counter. -/
  | qLdi (l : Lane)
  /-- MOV: lane `l`'s Quill issues the MOV at its program counter. -/
  | qMov (l : Lane)
  /-- ADD: lane `l`'s Quill issues the ADD at its program counter. -/
  | qAdd (l : Lane)
  /-- SUB: lane `l`'s Quill issues the SUB at its program counter. -/
  | qSub (l : Lane)
  /-- NEG: lane `l`'s Quill issues the NEG at its program counter. -/
  | qNeg (l : Lane)
  /-- ABS: lane `l`'s Quill issues the ABS at its program counter. -/
  | qAbs (l : Lane)
  /-- MIN: lane `l`'s Quill issues the MIN at its program counter. -/
  | qMin (l : Lane)
  /-- MAX: lane `l`'s Quill issues the MAX at its program counter. -/
  | qMax (l : Lane)
  /-- CLAMP: lane `l`'s Quill issues the CLAMP at its program counter. -/
  | qClamp (l : Lane)
  /-- CLAMPS: lane `l`'s Quill issues the CLAMPS at its program counter. -/
  | qClamps (l : Lane)
  /-- SHL: lane `l`'s Quill issues the SHL at its program counter. -/
  | qShl (l : Lane)
  /-- SHR: lane `l`'s Quill issues the SHR at its program counter. -/
  | qShr (l : Lane)
  /-- AND: lane `l`'s Quill issues the AND at its program counter. -/
  | qAnd (l : Lane)
  /-- OR: lane `l`'s Quill issues the OR at its program counter. -/
  | qOr (l : Lane)
  /-- XOR: lane `l`'s Quill issues the XOR at its program counter. -/
  | qXor (l : Lane)
  /-- SEL: lane `l`'s Quill issues the SEL at its program counter. -/
  | qSel (l : Lane)
  /-- SELP: lane `l`'s Quill issues the SELP at its program counter. -/
  | qSelp (l : Lane)
  /-- CMP: lane `l`'s Quill issues the CMP at its program counter. -/
  | qCmp (l : Lane)
  /-- CLRF: lane `l`'s Quill issues the CLRF at its program counter. -/
  | qClrf (l : Lane)
  /-- MUL: lane `l`'s Quill issues the MUL at its program counter. -/
  | qMul (l : Lane)
  /-- MAC: lane `l`'s Quill issues the MAC at its program counter. -/
  | qMac (l : Lane)
  /-- MSU: lane `l`'s Quill issues the MSU at its program counter. -/
  | qMsu (l : Lane)
  /-- MULK: lane `l`'s Quill issues the MULK at its program counter. -/
  | qMulk (l : Lane)
  /-- MACK: lane `l`'s Quill issues the MACK at its program counter. -/
  | qMack (l : Lane)
  /-- VMULK: lane `l`'s Quill issues the VMULK at its program counter. -/
  | qVmulk (l : Lane)
  /-- DOT2: lane `l`'s Quill issues the DOT2 at its program counter. -/
  | qDot2 (l : Lane)
  /-- ROT: lane `l`'s Quill issues the ROT at its program counter. -/
  | qRot (l : Lane)
  /-- ICLK: lane `l`'s Quill issues the ICLK at its program counter. -/
  | qIclk (l : Lane)
  /-- RECON3: lane `l`'s Quill issues the RECON3 at its program counter. -/
  | qRecon3 (l : Lane)
  /-- SVM: lane `l`'s Quill issues the SVM at its program counter. -/
  | qSvm (l : Lane)
  /-- PI: lane `l`'s Quill issues the PI at its program counter. -/
  | qPi (l : Lane)
  /-- SINCOS: lane `l`'s Quill issues the SINCOS at its program counter. -/
  | qSincos (l : Lane)
  /-- DIV: lane `l`'s Quill issues the DIV at its program counter. -/
  | qDiv (l : Lane)
  /-- RCP: lane `l`'s Quill issues the RCP at its program counter. -/
  | qRcp (l : Lane)
  /-- SQRT: lane `l`'s Quill issues the SQRT at its program counter. -/
  | qSqrt (l : Lane)
  /-- LD: lane `l`'s Quill issues the LD at its program counter. -/
  | qLd (l : Lane)
  /-- LDX: lane `l`'s Quill issues the LDX at its program counter. -/
  | qLdx (l : Lane)
  /-- ST: lane `l`'s Quill issues the ST at its program counter. -/
  | qSt (l : Lane)
  /-- STX: lane `l`'s Quill issues the STX at its program counter. -/
  | qStx (l : Lane)
  /-- BR: lane `l`'s Quill issues the BR at its program counter. -/
  | qBr (l : Lane)
  /-- STAGE: lane `l`'s Quill issues the STAGE at its program counter. -/
  | qStage (l : Lane)
  /-- MONW: lane `l`'s Quill issues the MONW at its program counter. -/
  | qMonw (l : Lane)
  /-- EXPORT: lane `l`'s Quill issues the EXPORT at its program counter. -/
  | qExport (l : Lane)
  /-- HALT: lane `l`'s Quill issues the HALT at its program counter. -/
  | qHalt (l : Lane)
  /-- ILLEGAL_OP: the instruction at the program counter of lane `l`'s Quill is illegal. -/
  | illegalOp (l : Lane)
  /-- LOCKSTEP: the two copies of lane `l`'s Quill differ. -/
  | lockstepQuill (l : Lane)
  /-- ECC_FATAL: a check error in lane `l`'s Quill, of two bits if `double`, else of one, or a failed check in the staged compare of
  `leg`. -/
  | eccFatal (l : Lane) (leg : Option (Fin 6)) (double : Bool)
  /-- COEFF_SHIFT_WRITE: the writer writes the shift word of coefficient entry `k`. -/
  | coeffShiftWrite (w : Writer) (k : Fin 1024) (value : Word)
  /-- PROG_WINDOW_WRITE: the writer writes a half of program-window word `n`. -/
  | progWindowWrite (w : Writer) (n : Fin 4096) (high : Bool) (value : Word)
  /-- PROG_SWAP: the writer writes PROG.SWAP = 1. -/
  | progSwap (w : Writer) (l : Lane)
  /-- PROG_BANK_CHECK: lane `l` completes the check of its inactive bank. -/
  | progBankCheck (l : Lane)
  /-- SWAP_DONE: the agreed swap tick arrives. -/
  | swapDone
  /-- SHADOW_RECEIVE: an export of the other lane arrives at lane `l`. -/
  | shadowReceive (l : Lane)
  /-- SERVO_TICK: the servo tick that has fallen for axis `x` is computed. -/
  | servoTick (x : Fin 2)
  /-- MOTION_GO: the writer writes GO to MOTION_n.CMD. -/
  | motionGo (w : Writer) (x : Fin 2) (epoch : Fin 256)
  /-- MOTION_STOP: the writer writes STOP. -/
  | motionStop (w : Writer) (x : Fin 2) (epoch : Fin 256)
  /-- MOTION_RESUME: the writer writes RESUME. -/
  | motionResume (w : Writer) (x : Fin 2) (epoch : Fin 256)
  /-- MOTION_ABORT: the writer writes ABORT. -/
  | motionAbort (w : Writer) (x : Fin 2) (epoch : Fin 256)
  /-- STEP_UPDATE: the coil references of the STEP axis are taken anew. -/
  | stepUpdate
  /-- CHOPPER_DECISION: lane `l` takes the chopper decision of leg 4 + `n`; `bad` when the sample's check fails. -/
  | chopperDecision (l : Lane) (n : Fin 3) (bad : Bool)
  /-- CHOP_STATE_CHANGE: the scheduled HIGH or LOW change of leg `n` falls due. -/
  | chopStateChange (l : Lane) (n : Fin 6)
  /-- TIMEBASE_START: timebase `tb` of modulator `l` starts at count 0. -/
  | timebaseStart (l : Lane) (tb : Fin 2)
  /-- LATCH_POINT: the latch point of the next period of timebase `tb` of modulator `l`. -/
  | latchPoint (l : Lane) (tb : Fin 2)
  /-- PERIOD_START: timebase `tb` of modulator `l` returns to 0. -/
  | periodStart (l : Lane) (tb : Fin 2)
  /-- DEFERRED_ACTION_TICK: the tick at which actions due on stopped timebases take effect. -/
  | deferredActionTick
  /-- SYNC_IN_EDGE: a rising edge of SYNC_IN is stamped at modulator `l`. -/
  | syncInEdge (l : Lane)
  /-- SYNC_LOST: no SYNC_IN edge has come for four periods. -/
  | syncLost (l : Lane)
  /-- GROUP_COMMIT: the writer writes COMMIT of modulator `l`. -/
  | groupCommit (w : Writer) (l : Lane) (groups : Fin 16)
  /-- EDGE_MESSAGE_SEND: the link master of lane `l` sends its earliest message to die `d`. -/
  | edgeMessageSend (l : Lane) (d : Fin 8)
  /-- LINK_ECHO: an echo returns, with round trip and turnaround in fine steps. -/
  | linkEcho (l : Lane) (d : Fin 8) (roundTrip : Nat) (turnaround : Nat)
  /-- TRIP_ACCEPT: trip source `src` (T1, T2, SW, PROT) acts at modulator `l`; TRIP1 and TRIP2 with the level of the land and the ticks
  for which it has been held. -/
  | tripAccept (l : Lane) (src : Fin 4) (level : Bool) (held : Nat)
  /-- SWTRIP: the writer writes SWTRIP of modulator `l`. -/
  | swtrip (w : Writer) (l : Lane) (trig : Bool)
  /-- TRIPCLR: the writer writes TRIPCLR of modulator `l`. -/
  | tripclr (w : Writer) (l : Lane) (bits : Fin 16)
  /-- BOOT_UV: the driver die of leg `n` reports a bootstrap undervoltage. -/
  | bootUv (n : Fin 6)
  /-- GATE_PHASE_END: the gate of output `o` stands at the level code `gate`, or a time of its profile has passed; `settled` says that it
  is within 1.0 V of its supply; at the end of phase 2 with the measured t_pl and dv/dt. -/
  | gatePhaseEnd (o : Fin 14) (gate : Nat) (settled : Bool) (tpl : Nat) (dv : Nat)
  /-- HALF_FAILED: a half of output `o` misbehaves as R392 lists. -/
  | halfFailed (o : Fin 14) (half : Lane)
  /-- DESAT: the desaturation sense of output `o` has exceeded TH for `held` ticks. -/
  | desat (o : Fin 14) (held : Nat)
  /-- PLATEAU_SHORT: the gate of `o` crosses PW_V with plateau time `tpl` and the sense voltage above TH or not. -/
  | plateauShort (o : Fin 14) (tpl : Nat) (above : Bool)
  /-- SOFT_TURN_OFF_STEP: the soft turn-off of `o` passes its next step: SOFT_T elapses, or the gate, at
  the level code `gate`, stands at the off level (`settled`). -/
  | softTurnOffStep (o : Fin 14) (gate : Nat) (settled : Bool)
  /-- GATE_MON: the gate of `o` has not reached its level by GMON_T; the die's check of the halves. -/
  | gateMon (o : Fin 14) (badA : Bool) (badB : Bool)
  /-- GATE_SUPPLY: a supply of `o` falls; VPOS and the magnitude of VNEG in 0.125 V steps. -/
  | gateSupply (o : Fin 14) (vpos : Nat) (vneg : Nat)
  /-- DRIVER_LINK_TIMEOUT: a link start-up to die `d` has not completed within 1 ms. -/
  | driverLinkTimeout (l : Lane) (d : Fin 8)
  /-- DCLINK_COMPARATOR: a DC-link comparator of lane `l` changes; the reading in volts. -/
  | dclinkComparator (l : Lane) (volt : Nat)
  /-- CHOP_CURRENT_CHECK: the on time of CH reaches a multiple of 10 us. -/
  | chopCurrentCheck (l : Lane)
  /-- CHOP_ENERGY_UPDATE: 10 us have passed. -/
  | chopEnergyUpdate (l : Lane)
  /-- DISCHARGE_TIMEOUT: TMAX has passed since DISCHARGE was entered. -/
  | dischargeTimeout
  /-- GATE_CONFIG_BLOCK: the control die of lane `l` builds and sends the blocks of a GATE commit. -/
  | gateConfigBlock (l : Lane)
  /-- CONFIG_BLOCK_APPLY: die `d` judges its staged blocks. -/
  | configBlockApply (d : Fin 8)
  /-- CONFIG_MISMATCH_TIMEOUT: the blocks' CRCs of the two ports of die `d` have differed for 1 ms. -/
  | configMismatchTimeout (d : Fin 8)
  /-- CLEAR_SHORT: the writer writes PROT.CLR with KIND 0. -/
  | clearShort (w : Writer) (outs : Fin 16384)
  /-- CLEAR_HALF_FAILED: the writer writes PROT.CLR with KIND 1; `pass` are the outputs whose cut-off halves pass the test of R394. -/
  | clearHalfFailed (w : Writer) (outs : Fin 16384) (pass : Fin 16384)
  /-- CLEAR_GATE_MON: the writer writes PROT.CLR with KIND 2. -/
  | clearGateMon (w : Writer) (outs : Fin 16384)
  /-- CLEAR_GATE_SUPPLY: the writer writes PROT.CLR with KIND 3. -/
  | clearGateSupply (w : Writer) (outs : Fin 16384)
  /-- LOCKSTEP_CPU: the copies of lane `l`'s control-core pair differ in a compared group. -/
  | lockstepCpu (l : Lane) (group : Fin 5)
  /-- INPUT_DISAGREE: the synchronized values of an input still disagree in the second cycle. -/
  | inputDisagree (l : Lane) (island : Bool) (x : PairInput) (agree : Bool)
  /-- LANE_SWITCH: the writer writes LANE.CMD with OP SWITCH. -/
  | laneSwitch (w : Writer)
  /-- LANE_SELFTEST: the writer writes LANE.CMD with OP SELFTEST; the outcome of the test of each lane. -/
  | laneSelftest (w : Writer) (passA : Bool) (passB : Bool)
  /-- LANE_REJOIN: the writer writes LANE.CMD with OP REJOIN. -/
  | laneRejoin (w : Writer)
  /-- HANDOVER: the handover tick arrives. -/
  | handover
  /-- SILENT_WITHDRAWAL: the control die of lane `l` learns of a LANE cause. -/
  | silentWithdrawal (l : Lane)
  /-- LANE_DOWN_SYMBOL: the control die of lane `l` receives LANE_DOWN from its interface die. -/
  | laneDownSymbol (l : Lane)
  /-- SURVIVOR_ACTIVE: die `d` reports the port of lane `l` active. -/
  | survivorActive (l : Lane) (d : Fin 8)
  /-- ROLE_ASSIGN: the lane managers judge eligibility in a period and assign roles. -/
  | roleAssign
  /-- PEER_RESET: the other lane's manager requests a reset of lane `l`. -/
  | peerReset (l : Lane)
  /-- LANE_REJOINED: lane `l` has matched for REJOIN_N periods. -/
  | laneRejoined (l : Lane)
  /-- STATE_SHADOW_SEND: lane `l` sends its state blocks of the period. -/
  | stateShadowSend (l : Lane)
  /-- STATE_SHADOW_RECEIVE: lane `l` verifies the blocks it received: Quill, field, motion, protection, time-outs. -/
  | stateShadowReceive (l : Lane) (good : Fin 32)
  /-- EDGE_STREAM_COMPARE: the lane managers compare the two edge streams of a period. -/
  | edgeStreamCompare
  /-- DEBUG_HALT: DEBUG halts or resumes the control cores or Quill. -/
  | debugHalt (l : Lane) (quill : Bool) (on : Bool)
  /-- DEBUG_ACTION: a debugger action on a pair of lane `l`. -/
  | debugAction (l : Lane) (quill : Bool) (a : DebugAct)
  /-- SAFETY_CYCLE_END: the safety cycle of island `i` ends. -/
  | safetyCycleEnd (i : Lane)
  /-- DECISION_WORD_RECEIVE: island `i` receives the other island's decision word. -/
  | decisionWordReceive (i : Lane) (word : DecisionWord)
  /-- ISLAND_LOCKSTEP: the copies of island `i`'s safety-core pair differ. -/
  | islandLockstep (i : Lane) (group : Fin 6)
  /-- ACTIVE_VALUE_RELAY: island `i` receives the ACTIVE lane's values of the period; a bit of `failed` marks a value whose check fails, in
  the order of `Dev.relayValues`. -/
  | activeValueRelay (i : Lane) (failed : BitVec 22)
  /-- SAFETY_DEGRADED_TIMEOUT: SAFETY_DEGRADED has stood for DEGR_T minutes. -/
  | safetyDegradedTimeout (i : Lane)
  /-- STO_DISCREPANCY: the STO channels have differed for DISC ms at island `i`. -/
  | stoDiscrepancy (i : Lane)
  /-- SDIN_CHANGE: a channel of SDIn has a level at island `i` that has held for `held` ticks. -/
  | sdinChange (i : Lane) (n : Fin 2) (ch : Fin 2) (high : Bool) (held : Nat)
  /-- SDIN_DISCREPANCY: SDIn has stood in an invalid combination for more than DISC ms. -/
  | sdinDiscrepancy (i : Lane) (n : Fin 2)
  /-- SAFE_REQUEST: the writer writes SAFE_x.REQ. -/
  | safeRequest (w : Writer) (i : Lane) (value : Word)
  /-- SAFE_ACK: the writer writes SAFE_x.ACK. -/
  | safeAck (w : Writer) (i : Lane) (key : Fin 256)
  /-- SAFE_STOP_REQUEST: a safe stop request of island `i` for axis `x` reaches the lanes. -/
  | safeStopRequest (i : Lane) (x : Fin 2)
  /-- SS_DELAY_EXPIRY: SS.DELAY has passed since the entry to SS1 or SS2. -/
  | ssDelayExpiry (i : Lane) (x : Fin 2)
  /-- ISEC_SAMPLE: island `i` samples its six ISEC channels, 16-bit values. -/
  | isecSample (i : Lane) (u : List Int)
  /-- SBC_ENGAGE: an engage condition of island `i`'s brake output is met. -/
  | sbcEngage (i : Lane)
  /-- SBC_TEST: island `i` tests its brake output, and the readback shows the opening `seen` µs after it, or not at all. -/
  | sbcTest (i : Lane) (seen : Option Nat)
  /-- SBC_COIL_CHECK: 10 ms of coil current, its highest value. -/
  | sbcCoilCheck (i : Lane) (milliamp : Nat)
  /-- SAFETY_PDU_RECEIVE: a safety frame of port `n` with transport identifier `id`, stamped `age` ticks ago, reaches island `i`. -/
  | safetyPduReceive (i : Lane) (n : Fin 48) (id : Fin 536870912) (data : List Byte) (age : Nat)
  /-- DUAL_MISSING: the second copy of entry `k` has not come in time. -/
  | dualMissing (i : Lane) (k : Fin 1024)
  /-- SL_TIMEOUT: the window of entry `k` ends. -/
  | slTimeout (i : Lane) (k : Fin 1024)
  /-- SAFETY_PDU_PRODUCE: island `i` builds the PDU of produced entry `k`; firmware's payload, and the partner's CRC from its decision word. -/
  | safetyPduProduce (i : Lane) (k : Fin 1024) (payload : List Byte) (partner : Option Word)
  /-- SLAYER_CLEAR: the writer writes SLAYER.CLR. -/
  | slayerClear (w : Writer) (value : Word)
  /-- REBIND: the writer writes SLAYER.REBIND. -/
  | rebind (w : Writer) (value : Word)
  /-- BIND_TICK: a safety cycle starts, and what waits for it is bound. -/
  | bindTick
  /-- ENTRY_CHECK_VERIFY: island `i` verifies every entry check. -/
  | entryCheckVerify (i : Lane)
  /-- CAN_FRAME_RECEIVE: a frame becomes valid at controller `n`; its start of frame was `sofAge` ticks ago. -/
  | canFrameReceive (n : Fin 4) (f : CanFrame) (sofAge : Nat)
  /-- BUS_OFF: controller `n` goes bus-off. -/
  | busOff (n : Fin 4)
  /-- ERROR_PASSIVE: controller `n` becomes error-passive. -/
  | errorPassive (n : Fin 4)
  /-- BUS_OFF_RECOVERY: 128 occurrences of 11 recessive bits have passed since bus-off. -/
  | busOffRecovery (n : Fin 4)
  /-- FILTER_UPDATE: the writer writes the CFG word of a filter. -/
  | filterUpdate (w : Writer) (n : Fin 4) (f : Fin 128) (value : Word)
  /-- QUEUE_WINDOW_READ: the identity reads word `k` of a queue window. -/
  | queueWindowRead (w : Writer) (n : Fin 4) (q : Fin 2) (k : Fin 22)
  /-- QUEUE_TAKE: the writer writes TAKE to QCMD. -/
  | queueTake (w : Writer) (n : Fin 4) (q : Fin 2)
  /-- QUEUE_GIVE: the writer writes GIVE to QCMD. -/
  | queueGive (w : Writer) (n : Fin 4) (q : Fin 2)
  /-- TX_BUFFER_ARM: the writer writes w21 of TXWIN. -/
  | txBufferArm (w : Writer) (n : Fin 4) (value : Word)
  /-- CAN_TRANSMIT: the bus is idle, and the controller offers its next buffer. -/
  | canTransmit (n : Fin 4)
  /-- TX_COMPLETE: the attempt on the bus ends. -/
  | txComplete (n : Fin 4) (r : TxOutcome) (sofAge : Nat)
  /-- TXCANCEL: the writer writes TXCANCEL. -/
  | txCancel (w : Writer) (n : Fin 4) (value : Word)
  /-- RULING_REFERENCE_SEND: the master's reference message starts: its start-of-frame sample point. -/
  | rulingReferenceSend (n : Fin 4)
  /-- RULING_REFERENCE_RECEIVE: a reference message is received. -/
  | rulingReferenceReceive (n : Fin 4) (f : CanFrame) (sofAge : Nat)
  /-- REF_LOST: no reference has come within 1.5 times RULCYC. -/
  | refLost (n : Fin 4)
  /-- RULING_BACKUP_TAKEOVER: no reference has come within RULCYC + RULBK. -/
  | rulingBackupTakeover (n : Fin 4)
  /-- RULING_CELL_WRITE: the writer writes the ACT word of a cell. -/
  | rulingCellWrite (w : Writer) (k : Fin 1024) (value : Word)
  /-- RULING_CELL_MARK: the cycle time reaches the MARK of a cell of controller `n`. -/
  | rulingCellMark (n : Fin 4) (k : Fin 1024)
  /-- RULING_MISS: the window of a cell ends. -/
  | rulingMiss (n : Fin 4) (k : Fin 1024)
  /-- LINK_CYCLE_START: the head of link port `l` sends CYCLE_START. -/
  | linkCycleStart (l : Lane)
  /-- CYCLE_START_RECEIVE: link port `l` receives CYCLE_START with its cycle count; the time it carries comes to TIME as TIME_SOURCE_EVENT. -/
  | cycleStartReceive (l : Lane) (src : Fin 64) (count : Word)
  /-- LINK_SLOT: the slot of link port `l` opens; the number of frames sent before a readback mismatch. -/
  | linkSlot (l : Lane) (collision : Option Nat)
  /-- REG_REQ: link port `l` receives a register request. -/
  | regReq (l : Lane) (dst : Fin 64) (epoch : Fin 256) (header : Word) (owner : Bool) (tag : Fin 256) (data : List Word)
  /-- REG_RSP: the head receives the answer to its request. -/
  | regRsp (l : Lane) (src : Fin 64) (rstat : Word) (tag : Fin 256) (data : List Word)
  /-- NOTICE: the head receives a NOTICE frame. -/
  | notice (l : Lane) (src : Fin 64) (n : LinkNotice)
  /-- FRAME_ERROR: a frame fails its CRC at link port `l`. -/
  | frameError (l : Lane)
  /-- HEAD_LOST: no CYCLE_START has come for 2 cycles. -/
  | headLost (l : Lane)
  /-- HEAD_TAKEOVER: no CYCLE_START has come for 4 cycles. -/
  | headTakeover (l : Lane)
  /-- SYNCTX: the writer writes LINK_x.SYNCTX. -/
  | syncTx (w : Writer) (l : Lane) (evt : Fin 256)
  /-- SYNC_EVENT: a SYNC_EVENT frame reaches link port `l` and takes effect at its due tick. -/
  | syncEvent (l : Lane) (src : Fin 64) (evt : Fin 256) (due : Word)
  /-- ETH_FRAME_RECEIVE: a frame arrives on ETH, without its FCS; its start-frame delimiter came `age` ticks ago. -/
  | ethFrameReceive (data : List Byte) (fcsOk : Bool) (age : Nat)
  /-- ETH_RXDATA_READ: the identity reads RXDATA. -/
  | ethRxdataRead (w : Writer)
  /-- ETH_TXDATA: the writer writes TXDATA. -/
  | ethTxdata (w : Writer) (value : Word)
  /-- ETH_TXLEN: the writer writes TXLEN. -/
  | ethTxlen (w : Writer) (value : Word)
  /-- ETH_LINK_DOWN: the Ethernet lane goes down. -/
  | ethLinkDown
  /-- MDIO_GO: the writer writes MDIO with GO = 1. -/
  | mdioGo (w : Writer) (value : Word)
  /-- MDIO_DONE: the management access completes; the data read. -/
  | mdioDone (data : Fin 65536)
  /-- PTP_MESSAGE: ETH takes a message of 802.1AS, stamped `age` ticks ago. -/
  | ptpMessage (m : PtpMessage) (age : Nat)
  /-- TIME_SOURCE_EVENT: an event of the selected source with domain time `domain`, stamped `age` ticks ago. -/
  | timeSourceEvent (domain : Nat) (age : Nat)
  /-- TIME_EVENT_TIMEOUT: 4 times EXPINT have passed without an event. -/
  | timeEventTimeout
  /-- NOW_LO_READ: the identity reads TIME.NOW_LO. -/
  | nowLoRead (w : Writer)
  /-- HALLMARK_DATA4: the writer writes DATA4 of a unit. -/
  | hallmarkData4 (w : Writer) (u : Fin 16) (value : Word)
  /-- HALLMARK_DATA1: the writer writes DATA1. -/
  | hallmarkData1 (w : Writer) (u : Fin 16) (value : Word)
  /-- HALLMARK_CHECKIN: the writer writes CHECKIN. -/
  | hallmarkCheckin (w : Writer) (u : Fin 16) (value : Word)
  /-- HALLMARK_START: the writer writes CLOSE with OP START. -/
  | hallmarkStart (w : Writer) (u : Fin 16)
  /-- APPEND_CLOSE: the writer writes CLOSE with OP CLOSE to a unit in APPEND. -/
  | appendClose (w : Writer) (u : Fin 16) (alive : Fin 256)
  /-- STRIP_CLOSE: the writer writes CLOSE with OP CLOSE to a unit in STRIP, with the received alive value. -/
  | stripClose (w : Writer) (u : Fin 16) (alive : Fin 256)
  /-- HALLMARK_VALUE_RESTORE: the writer writes VALUE. -/
  | hallmarkValueRestore (w : Writer) (u : Fin 16) (value : Word)
  /-- LEDGER_RAISE: source `n` is raised with a stamp `age` ticks old. -/
  | ledgerRaise (n : Fin 384) (age : Nat) (detail : Fin 8)
  /-- SOURCE_CLEAR: the writer writes 1 to SRCn.STATUS. -/
  | sourceClear (w : Writer) (n : Fin 384)
  /-- CLRALL: the writer writes LEDGER.CLRALL. -/
  | clrall (w : Writer) (key : Fin 256)
  /-- SOURCE_FORCE: the writer writes SRCn.FORCE. -/
  | sourceForce (w : Writer) (n : Fin 384) (on : Bool)
  /-- FIRST_REARM: the writer writes 1 to FIRST.VALID. -/
  | firstRearm (w : Writer)
  /-- FIRST_FINAL: 1,000 ticks have passed since the record's stamp. -/
  | firstFinal
  /-- CNTCLR: the writer writes 1 to SRCn.CNTCLR. -/
  | cntclr (w : Writer) (n : Fin 384)
  /-- TINKER_SLICE_START: Tinker takes its next slice on die `x`. -/
  | tinkerSliceStart (x : Die)
  /-- TINKER_SLICE_END: the test of slice `s` on die `x` ends; its signature equals the stored one or not. -/
  | tinkerSliceEnd (x : Die) (s : Fin 64) (sigOk : Bool)
  /-- TINKER_SWEEP: the writer writes CMD with OP SWEEP. -/
  | tinkerSweep (w : Writer)
  /-- TINKER_ABORT: the writer writes CMD with OP ABORT. -/
  | tinkerAbort (w : Writer)
  /-- TINKER_FAIL_CLEAR: the writer writes FAIL0 or FAIL1. -/
  | tinkerFailClear (w : Writer) (n : Fin 2) (value : Word)
  /-- TEMP_READING: the count of a sensor's ring oscillator over a window that ended `age` ticks ago. -/
  | tempReading (s : Fin 20) (value : Nat) (age : Nat)
  /-- TEMP_CLEAR: the writer writes TEMP.CLR. -/
  | tempClear (w : Writer) (value : Word)
  /-- THERMAL_RECORD_WRITTEN: the interface die of lane `l` has written its shutdown record. -/
  | thermalRecordWritten (l : Lane)
  /-- THERMAL_DORMANT_ENTRY: the records are written and every axis may be off. -/
  | thermalDormantEntry
  /-- THERMAL_RETRY_WAKE: RETRY seconds have passed; what the sensors read in the two rounds before STANDBY, none for an unavailable one. -/
  | thermalRetryWake (first second : List (Option Int))
  /-- UPD_BEGIN: the writer writes UPD with OP BEGIN. -/
  | updBegin (w : Writer) (bank : Fin 2)
  /-- ERASE_COMPLETE: the bank is erased. -/
  | eraseComplete
  /-- PAGE_PROGRAM: the writer writes WBUF63. -/
  | pageProgram (w : Writer) (value : Word)
  /-- PROGRAM_COMPLETE: the page is programmed. -/
  | programComplete
  /-- UPD_FINISH: the writer writes UPD with OP FINISH. -/
  | updFinish (w : Writer)
  /-- VERIFY_COMPLETE: the verification ends. -/
  | verifyComplete
  /-- UPD_ACTIVATE: the writer writes UPD with OP ACTIVATE. -/
  | updActivate (w : Writer) (bank : Fin 2) (scope : Fin 8)
  /-- ACTIVATION_SETTLE: SETTLE has passed since the handover. -/
  | activationSettle
  /-- UPDATE_FAILED: the reset lane is not eligible within TMO. -/
  | updateFailed
  /-- UPD_ABORT: the writer writes UPD with OP ABORT. -/
  | updAbort (w : Writer)
  /-- UPD_SETPREF: the writer writes UPD with OP SETPREF. -/
  | updSetpref (w : Writer) (bank : Fin 2)
  /-- UPD_COMMIT_SVN: the writer writes UPD with OP COMMIT_SVN. -/
  | updCommitSvn (w : Writer)
  /-- UPD_PROVISION: the writer writes UPD with OP PROVISION; the entropy sources pass their health test or not. -/
  | updProvision (w : Writer) (healthy : Bool)
  /-- UNLOCK_CHALLENGE: the writer writes UNLOCK with OP CHALLENGE; eight random words, none when the health test fails. -/
  | unlockChallenge (w : Writer) (entropy : Option (List Word))
  /-- UNLOCK_SUBMIT: the writer writes UNLOCK with OP SUBMIT. -/
  | unlockSubmit (w : Writer)
  /-- OBJDATA_ACCESS: the identity writes OBJDATA, or reads it. -/
  | objdataAccess (w : Writer) (write : Option Word)
  /-- JTAG_CHALLENGE: boundary scan reads the challenge and issues a new one at Update-DR. -/
  | jtagChallenge (entropy : Option (List Word))
  /-- JTAG_TOKEN_SUBMIT: boundary scan submits a token at Update-DR. -/
  | jtagTokenSubmit (token : List Word)
  /-- QUOTE: the writer writes QUOTE. -/
  | quote (w : Writer) (value : Word)
  /-- QUOTE_COMPLETE: the quote's signature is complete. -/
  | quoteComplete
  /-- RESOURCE_CLAIM: the writer writes RES.CLAIM with OP CLAIM. -/
  | resourceClaim (w : Writer) (r : Fin 256)
  /-- RESOURCE_RELEASE: the writer writes RES.CLAIM with OP RELEASE. -/
  | resourceRelease (w : Writer) (r : Fin 256)
  /-- RESOURCE_TAKE: a device function (0x40 + `f`) takes a resource. -/
  | resourceTake (r : Fin 256) (f : Fin 6)
  /-- RESOURCE_TAKE_END: the take of a device function ends. -/
  | resourceTakeEnd (r : Fin 256) (f : Fin 6)
  /-- AON_XTAL_READY: the 32.768 kHz crystal of the lane's interface die comes up. -/
  | aonXtalReady (l : Lane)
  /-- DEBUG_RESET: an unlocked DEBUG port requests a reset. -/
  | debugReset (scope : Fin 4)
  /-- CPU_ECC_FATAL: a double-bit error in a control core's memories. -/
  | cpuEccFatal (l : Lane)
  /-- CPU_ECC_CORR: a single-bit error, corrected. -/
  | cpuEccCorr (l : Lane)
  /-- STO_SYMBOL_RECEIVE: port `l` of die `d` receives a STO symbol naming outputs of the die. -/
  | stoSymbolReceive (d : Fin 8) (l : Lane) (outs : Fin 16) (active : Bool)
  /-- ASC_DLY_EXPIRY: DLY has passed since the last soft turn-off of bridge `b` reached the off level. -/
  | ascDlyExpiry (b : Fin 2)
  /-- GATE_SUPPLY_RECOVERED: a monitored level of `o` rises back; levels as in GATE_SUPPLY. -/
  | gateSupplyRecovered (o : Fin 14) (vpos : Nat) (vneg : Nat)
  /-- CHOP_LEVEL_HOLD: the 2 us hold of a CH level ends. -/
  | chopLevelHold (l : Lane)
  /-- TRIP_RELEASE: the land of TRIP1, or of TRIP2, comes to a level. -/
  | tripRelease (l : Lane) (second : Bool) (level : Bool)
  /-- ETH_LINK_UP: the Ethernet lane comes up. -/
  | ethLinkUp
  /-- ETH_TXDONE: the frame on the Ethernet lane has left. -/
  | ethTxdone
  /-- TIMEREF_PULSE: an edge of TIMEREF, stamped `age` ticks ago. -/
  | timerefPulse (rising : Bool) (age : Nat)
  /-- AUX_SAMPLE: an AUX input is read; full scale 32,768. -/
  | auxSample (n : Fin 4) (v : Int)
  deriving DecidableEq, Repr

end Sys2Proof
end

