-- ==== Sys2Proof/Decode.lean ====
section
/-! DEFINITION. The commands that a word of the opcode table's bits spells. The table gives no bits to any of its rows: a command
reaches the block as an event or as an access, with its operands, and no word stands for one. -/

namespace Sys2Proof

/-- The command that the low `nbits` bits of `w` spell by the table: none, for every row has an empty bit list. -/
def decodeTableWord (_nbits _w : Nat) : Option Instr := none

end Sys2Proof
end

