-- ==== Sys2Proof/Config.lean ====
section
/-! DEFINITION. What an implementation fixes and the values the spec leaves open. Each is a constant without a body, so nothing
can be proved of its value: a claim about the model holds whatever it is. -/

namespace Sys2Proof.Config

/-- The n-th value the spec leaves open in a run (a fresh one each time, by `Dev.freeCtr`). -/
opaque freeWord : Nat → Word

/-- Direction-asymmetry trim of a driver die's links in its calibration set (R377, R426). -/
opaque asymTrim : Nat → Word

/-- OTP content that no command changes (R604): ROOT_HASH and UNLOCK_HASH of an interface die (0 IA, 1 IB), and SERIAL, byte by byte;
SHA3-256 of the ROM (R628). -/
opaque rootHash : Nat → Nat → Byte
opaque unlockHash : Nat → Nat → Byte
opaque serial : Nat → Byte
opaque romHash : Nat → Byte

/-- ML-DSA-44 of FIPS 204, which R606 names and no rule spells out: verification of a signature over a message under a public key;
public key and signature bytes of an interface die's generated key pair. -/
opaque mldsaVerify : List Byte → List Byte → List Byte → Bool
opaque mldsaPublic : Nat → Nat → Byte
opaque mldsaSign : Nat → List Byte → Nat → Byte

/-- Where the spec names a result and gives no rule for its rounding, or for a tie: whether the upper neighbour is taken, of
the quotient num / den. -/
opaque roundUp : Int → Nat → Bool

/-- Offset estimate of a spare turn in 1/8 LSB, from the sum of its 1,024 zero codes (R158 gives no formula). -/
opaque offsetEstimate : Int → Int

/-- Gain estimate of a spare turn in 1/65,536, from the sums of its 1,024 zero codes and 1,024 reference codes (R158 gives no
formula). -/
opaque gainEstimate : Int → Int → Int

/-- Skew estimate in 1/256 tick of a turn whose live input did not change, so that the quotient of R158 has no value. -/
opaque skewEstimate : Int → Int

/-- By how many LSB, from -4 (0) to +4 (8), SINCOS is off the exactly rounded cosine and sine of an angle (R307 bounds it). -/
opaque cosError : Word → Fin 9
opaque sinError : Word → Fin 9

/-- The observer's error where its flux estimate is the null vector, so that the quotient of R261 has no value. -/
opaque nullFluxError : Int

/-- The type-2 tracking loop of a resolver channel (R203 gives its bandwidth and no gains): by how much it moves its angle, in binary-angle
LSB, and its speed, in 1/65,536 LSB per tick, at a demodulation with this error; of the bandwidth in Hz and the ticks since the last
one. -/
opaque trackAngle : Nat → Nat → Int → Int
opaque trackSpeed : Nat → Nat → Int → Int

/-- Where within its 5 ticks around a period start SYNC_OUT rises (R360 gives the period start within 2 ticks). -/
opaque syncSkew : Nat → Nat

/-- The reading in 1/16 °C that a sensor's count stands for where no calibration set gives two trim counts of it (R592). -/
opaque sensorTemp : Nat → Nat → Int

/-- Whether the CAN FD frame of a safety PDU carries an identifier below 2^11 in the extended format, and whether it switches its bit rate
(R509 names neither). -/
opaque pduExtended : Nat → Bool
opaque pduFast : Nat → Bool

end Sys2Proof.Config
end

