-- ==== Sys2Proof/Machine/Regs.lean ====
section
/-! DEFINITION. What a register field is: where it lies, how it may be accessed (R24), its reset value, the values it
defines, and whether the page's seal covers it (R127). -/

namespace Sys2Proof.Machine

/-- The access types of R24. -/
inductive Acc where
  | ro | rw | rws | rwl | w1c | wo
  deriving DecidableEq, Repr

/-- Which values a field defines (check 7 of R116). -/
inductive Check where
  /-- every value -/
  | any
  /-- the values from lo to hi -/
  | rng (lo hi : Nat)
  /-- every value but one -/
  | ne (v : Nat)
  deriving DecidableEq, Repr

/-- The check itself. -/
def Check.ok : Check → Nat → Bool
  | .any, _ => true
  | .rng lo hi, v => lo ≤ v && v ≤ hi
  | .ne x, v => v != x

/-- A field: byte offset of its register in the page (or in the entry), distance and number of like registers, highest and
lowest bit, access type, reset value, defined values, sealed or not. -/
structure Fld where
  off : Nat
  stride : Nat
  count : Nat
  hi : Nat
  lo : Nat
  acc : Acc
  reset : Nat
  chk : Check
  inSeal : Bool
  deriving DecidableEq, Repr

/-- The number of bits of a field. -/
def Fld.width (f : Fld) : Nat := f.hi + 1 - f.lo

/-- Byte offset of the i-th register that holds the field. -/
def Fld.at (f : Fld) (i : Nat) : Nat := f.off + f.stride * i

/-- True when the register at byte offset `o` holds the field. -/
def Fld.holds (f : Fld) (o : Nat) : Bool :=
  f.off ≤ o && (o - f.off) % f.stride == 0 && (o - f.off) / f.stride < f.count

/-- The bits of the field, as a word with ones in them. -/
def Fld.mask (f : Fld) : Word := BitVec.ofNat 32 ((2 ^ f.width - 1) * 2 ^ f.lo)

/-- The field's value in a word. -/
def Fld.get (f : Fld) (w : Word) : Nat := w.toNat / 2 ^ f.lo % 2 ^ f.width

/-- The word with the field replaced by the low bits of `v`. -/
def Fld.put (f : Fld) (w : Word) (v : Nat) : Word :=
  (w &&& ~~~f.mask) ||| BitVec.ofNat 32 (v % 2 ^ f.width * 2 ^ f.lo)

/-- The field's value in a word, read as a two's-complement number. -/
def Fld.getS (f : Fld) (w : Word) : Int :=
  let v := f.get w
  if v < 2 ^ (f.width - 1) then (v : Int) else (v : Int) - 2 ^ f.width

end Sys2Proof.Machine
end

