-- ==== Sys2Proof/Machine/RegTable.lean ====
section
/-! DEFINITION. Every field of every register of the 45 pages (R110) and of the four table regions with fields, as the field
tables of the chapters give them: offset, stride and number of the register, bits, access type (R24), reset value, the values
the field defines (R116 check 7) and whether it is sealed (R127). FRM_CFG and FRM_TIME stand as whole words, because their
layout follows SRC.SEL (R664); the fields of every layout are in Position.lean. -/

namespace Sys2Proof.Machine.R

/-! SYS -/

def SYS_MODE_REFUSE : Fld := ⟨0x40, 0x4, 1, 19, 16, .ro, 0, .any, false⟩
def SYS_MODE_PREV : Fld := ⟨0x40, 0x4, 1, 10, 8, .ro, 2, .any, false⟩
def SYS_MODE_TRANS : Fld := ⟨0x40, 0x4, 1, 4, 4, .ro, 0, .any, false⟩
def SYS_MODE_MODE : Fld := ⟨0x40, 0x4, 1, 2, 0, .ro, 2, .any, false⟩
def SYS_MODE_REQ_TARGET : Fld := ⟨0x44, 0x4, 1, 2, 0, .wo, 0, .any, false⟩
def SYS_CONFIG_SUPERVISOR : Fld := ⟨0x48, 0x4, 1, 10, 10, .ro, 0, .any, false⟩
def SYS_CONFIG_DISCH_ON_HVIL : Fld := ⟨0x48, 0x4, 1, 9, 9, .rw, 1, .any, true⟩
def SYS_CONFIG_DEFAULT_MODE : Fld := ⟨0x48, 0x4, 1, 6, 4, .rw, 2, .any, true⟩
def SYS_CONFIG_SIZE : Fld := ⟨0x48, 0x4, 1, 3, 2, .rw, 0, (.rng 0 2), true⟩
def SYS_CONFIG_POWER : Fld := ⟨0x48, 0x4, 1, 1, 0, .rw, 0, .any, true⟩
def SYS_RESET_REQ_KEY : Fld := ⟨0x4C, 0x4, 1, 31, 24, .wo, 0, .any, false⟩
def SYS_RESET_REQ_SCOPE : Fld := ⟨0x4C, 0x4, 1, 1, 0, .wo, 0, .any, false⟩
def SYS_RESET_CAUSE_THERMAL : Fld := ⟨0x50, 0x4, 1, 11, 11, .w1c, 0, .any, false⟩
def SYS_RESET_CAUSE_DEBUG : Fld := ⟨0x50, 0x4, 1, 10, 10, .w1c, 0, .any, false⟩
def SYS_RESET_CAUSE_PEER : Fld := ⟨0x50, 0x4, 1, 9, 9, .w1c, 0, .any, false⟩
def SYS_RESET_CAUSE_SWRST_MODULE : Fld := ⟨0x50, 0x4, 1, 8, 8, .w1c, 0, .any, false⟩
def SYS_RESET_CAUSE_SWRST_LANE : Fld := ⟨0x50, 0x4, 1, 7, 7, .w1c, 0, .any, false⟩
def SYS_RESET_CAUSE_WDOG_B : Fld := ⟨0x50, 0x4, 1, 6, 6, .w1c, 0, .any, false⟩
def SYS_RESET_CAUSE_WDOG_A : Fld := ⟨0x50, 0x4, 1, 5, 5, .w1c, 0, .any, false⟩
def SYS_RESET_CAUSE_UV_B : Fld := ⟨0x50, 0x4, 1, 4, 4, .w1c, 0, .any, false⟩
def SYS_RESET_CAUSE_UV_A : Fld := ⟨0x50, 0x4, 1, 3, 3, .w1c, 0, .any, false⟩
def SYS_RESET_CAUSE_WAKE : Fld := ⟨0x50, 0x4, 1, 2, 2, .w1c, 0, .any, false⟩
def SYS_RESET_CAUSE_POR_B : Fld := ⟨0x50, 0x4, 1, 1, 1, .w1c, 1, .any, false⟩
def SYS_RESET_CAUSE_POR_A : Fld := ⟨0x50, 0x4, 1, 0, 0, .w1c, 1, .any, false⟩
def SYS_WAKE_EN_SPEED_WATCH : Fld := ⟨0x54, 0x4, 1, 11, 11, .rw, 1, .any, true⟩
def SYS_WAKE_EN_DCL_WATCH : Fld := ⟨0x54, 0x4, 1, 10, 10, .ro, 1, .any, false⟩
def SYS_WAKE_EN_TIMER : Fld := ⟨0x54, 0x4, 1, 9, 9, .rw, 0, .any, true⟩
def SYS_WAKE_EN_LINKB : Fld := ⟨0x54, 0x4, 1, 8, 8, .rw, 1, .any, true⟩
def SYS_WAKE_EN_LINKA : Fld := ⟨0x54, 0x4, 1, 7, 7, .rw, 1, .any, true⟩
def SYS_WAKE_EN_CAN : Fld := ⟨0x54, 0x4, 1, 6, 3, .rw, 15, .any, true⟩
def SYS_WAKE_EN_HVIL : Fld := ⟨0x54, 0x4, 1, 2, 2, .rw, 1, .any, true⟩
def SYS_WAKE_EN_STO : Fld := ⟨0x54, 0x4, 1, 1, 1, .rw, 1, .any, true⟩
def SYS_WAKE_EN_WAKE : Fld := ⟨0x54, 0x4, 1, 0, 0, .rw, 1, .any, true⟩
def SYS_WAKE_CAUSE_SPEED_WATCH : Fld := ⟨0x58, 0x4, 1, 11, 11, .w1c, 0, .any, false⟩
def SYS_WAKE_CAUSE_DCL_WATCH : Fld := ⟨0x58, 0x4, 1, 10, 10, .w1c, 0, .any, false⟩
def SYS_WAKE_CAUSE_TIMER : Fld := ⟨0x58, 0x4, 1, 9, 9, .w1c, 0, .any, false⟩
def SYS_WAKE_CAUSE_LINKB : Fld := ⟨0x58, 0x4, 1, 8, 8, .w1c, 0, .any, false⟩
def SYS_WAKE_CAUSE_LINKA : Fld := ⟨0x58, 0x4, 1, 7, 7, .w1c, 0, .any, false⟩
def SYS_WAKE_CAUSE_CAN : Fld := ⟨0x58, 0x4, 1, 6, 3, .w1c, 0, .any, false⟩
def SYS_WAKE_CAUSE_HVIL : Fld := ⟨0x58, 0x4, 1, 2, 2, .w1c, 0, .any, false⟩
def SYS_WAKE_CAUSE_STO : Fld := ⟨0x58, 0x4, 1, 1, 1, .w1c, 0, .any, false⟩
def SYS_WAKE_CAUSE_WAKE : Fld := ⟨0x58, 0x4, 1, 0, 0, .w1c, 0, .any, false⟩
def SYS_WAKE_CFG_TIMER : Fld := ⟨0x5C, 0x4, 1, 31, 8, .rw, 0, .any, true⟩
def SYS_WAKE_CFG_FILT : Fld := ⟨0x5C, 0x4, 1, 2, 0, .rw, 2, .any, true⟩
def SYS_VNOM_V : Fld := ⟨0x60, 0x4, 1, 10, 0, .rw, 0x320, (.rng 1 1100), true⟩

/-! PWR -/

def PWR_SUPPLY_HS : Fld := ⟨0x40, 0x4, 1, 13, 8, .ro, 0, .any, false⟩
def PWR_SUPPLY_VNEG_L : Fld := ⟨0x40, 0x4, 1, 7, 7, .ro, 0, .any, false⟩
def PWR_SUPPLY_VPOS_L : Fld := ⟨0x40, 0x4, 1, 6, 6, .ro, 0, .any, false⟩
def PWR_SUPPLY_VCTL_B : Fld := ⟨0x40, 0x4, 1, 5, 5, .ro, 0, .any, false⟩
def PWR_SUPPLY_VCTL_A : Fld := ⟨0x40, 0x4, 1, 4, 4, .ro, 0, .any, false⟩
def PWR_SUPPLY_VIO_3V3 : Fld := ⟨0x40, 0x4, 1, 3, 3, .ro, 0, .any, false⟩
def PWR_SUPPLY_VIO : Fld := ⟨0x40, 0x4, 1, 2, 2, .ro, 0, .any, false⟩
def PWR_SUPPLY_VSUP_B : Fld := ⟨0x40, 0x4, 1, 1, 1, .ro, 0, .any, false⟩
def PWR_SUPPLY_VSUP_A : Fld := ⟨0x40, 0x4, 1, 0, 0, .ro, 0, .any, false⟩
def PWR_WATCH_SPEED_LEVEL : Fld := ⟨0x44, 0x4, 1, 31, 16, .rw, 64, .any, true⟩
def PWR_WATCH_DCL_LEVEL : Fld := ⟨0x44, 0x4, 1, 10, 0, .rw, 0x3e8, (.rng 0 1100), true⟩

/-! CLK -/

def CLK_SRC_AON_SEL : Fld := ⟨0x40, 0x4, 1, 1, 1, .rwl, 0, .any, true⟩
def CLK_SRC_REF_SEL : Fld := ⟨0x40, 0x4, 1, 0, 0, .rwl, 0, .any, true⟩
def CLK_STATUS_TRIM_B : Fld := ⟨0x44, 0x4, 1, 31, 16, .ro, 0, .any, false⟩
def CLK_STATUS_PLL_CB : Fld := ⟨0x44, 0x4, 1, 11, 11, .ro, 0, .any, false⟩
def CLK_STATUS_PLL_IB : Fld := ⟨0x44, 0x4, 1, 10, 10, .ro, 0, .any, false⟩
def CLK_STATUS_AON_XTAL_B : Fld := ⟨0x44, 0x4, 1, 9, 9, .ro, 0, .any, false⟩
def CLK_STATUS_REF_XTAL_B : Fld := ⟨0x44, 0x4, 1, 8, 8, .ro, 0, .any, false⟩
def CLK_STATUS_PLL_CA : Fld := ⟨0x44, 0x4, 1, 3, 3, .ro, 0, .any, false⟩
def CLK_STATUS_PLL_IA : Fld := ⟨0x44, 0x4, 1, 2, 2, .ro, 0, .any, false⟩
def CLK_STATUS_AON_XTAL_A : Fld := ⟨0x44, 0x4, 1, 1, 1, .ro, 0, .any, false⟩
def CLK_STATUS_REF_XTAL_A : Fld := ⟨0x44, 0x4, 1, 0, 0, .ro, 0, .any, false⟩
def CLK_AON_INC_A_INC : Fld := ⟨0x48, 0x4, 1, 23, 0, .ro, 0x1dcd65, .any, false⟩
def CLK_AON_INC_B_INC : Fld := ⟨0x4C, 0x4, 1, 23, 0, .ro, 0x1dcd65, .any, false⟩

/-! HOST -/

def HOST_CFG_LINKA_RELAY : Fld := ⟨0x40, 0x4, 1, 4, 4, .rw, 1, .any, true⟩
def HOST_CFG_VIEW : Fld := ⟨0x40, 0x4, 1, 2, 1, .rw, 0, (.rng 0 2), true⟩
def HOST_CFG_WIDTH : Fld := ⟨0x40, 0x4, 1, 0, 0, .rw, 0, .any, true⟩
def HOST_ALIVE_RALIVE : Fld := ⟨0x44, 0x4, 1, 15, 8, .ro, 0, .any, false⟩
def HOST_ALIVE_EXP : Fld := ⟨0x44, 0x4, 1, 7, 0, .ro, 0, .any, false⟩
def HOST_ERRCNT_ALIVE_ERR : Fld := ⟨0x48, 0x4, 1, 31, 16, .rw, 0, .any, true⟩
def HOST_ERRCNT_CRC_ERR : Fld := ⟨0x48, 0x4, 1, 15, 0, .rw, 0, .any, true⟩
def HOST_PORT_CLASS_P : Fld := ⟨0x4C, 0x4, 1, 31, 20, .ro, 0, .any, false⟩
def HOST_PORT_CLASS_P9 : Fld := ⟨0x4C, 0x4, 1, 19, 18, .rw, 2, .any, true⟩
def HOST_PORT_CLASS_P8 : Fld := ⟨0x4C, 0x4, 1, 17, 16, .rw, 2, .any, true⟩
def HOST_PORT_CLASS_P7 : Fld := ⟨0x4C, 0x4, 1, 15, 14, .rw, 2, .any, true⟩
def HOST_PORT_CLASS_P6 : Fld := ⟨0x4C, 0x4, 1, 13, 12, .rw, 2, .any, true⟩
def HOST_PORT_CLASS_P5 : Fld := ⟨0x4C, 0x4, 1, 11, 10, .rw, 2, .any, true⟩
def HOST_PORT_CLASS_P4 : Fld := ⟨0x4C, 0x4, 1, 9, 8, .rw, 2, .any, true⟩
def HOST_PORT_CLASS_P3 : Fld := ⟨0x4C, 0x4, 1, 7, 6, .rw, 2, .any, true⟩
def HOST_PORT_CLASS_P2 : Fld := ⟨0x4C, 0x4, 1, 5, 4, .rw, 3, .any, true⟩
def HOST_PORT_CLASS_P1 : Fld := ⟨0x4C, 0x4, 1, 3, 2, .ro, 0, .any, false⟩
def HOST_PORT_CLASS_P0 : Fld := ⟨0x4C, 0x4, 1, 1, 0, .rw, 3, .any, true⟩
def HOST_PROXY_EN : Fld := ⟨0x50, 0x4, 1, 6, 6, .rw, 0, .any, true⟩
def HOST_PROXY_PORT : Fld := ⟨0x50, 0x4, 1, 5, 0, .rw, 0, .any, true⟩

/-! IRQ -/

def IRQ_SUMMARY0_PAGE : Fld := ⟨0x40, 0x4, 1, 31, 0, .ro, 0, .any, false⟩
def IRQ_SUMMARY1_PAGE : Fld := ⟨0x44, 0x4, 1, 12, 0, .ro, 0, .any, false⟩
def IRQ_SMASK0_EN : Fld := ⟨0x48, 0x4, 1, 31, 0, .rw, 0, .any, true⟩
def IRQ_SMASK1_EN : Fld := ⟨0x4C, 0x4, 1, 12, 0, .rw, 0, .any, true⟩
def IRQ_PIN_LEVEL : Fld := ⟨0x50, 0x4, 1, 1, 1, .ro, 0, .any, false⟩
def IRQ_PIN_EN : Fld := ⟨0x50, 0x4, 1, 0, 0, .rw, 1, .any, true⟩

/-! CONV -/

def CONV_MODE_TB : Fld := ⟨0x40, 0x4, 1, 8, 8, .rw, 0, .any, true⟩
def CONV_MODE_GANG : Fld := ⟨0x40, 0x4, 1, 5, 5, .rw, 0, .any, true⟩
def CONV_MODE_PHASE : Fld := ⟨0x40, 0x4, 1, 4, 0, .rw, 0, (.rng 0 19), true⟩
def CONV_REF_SETTLED : Fld := ⟨0x44, 0x4, 1, 1, 1, .ro, 0, .any, false⟩
def CONV_REF_EN : Fld := ⟨0x44, 0x4, 1, 0, 0, .rw, 0, .any, true⟩
def CONV_CAL_SPARE : Fld := ⟨0x48, 0x4, 1, 19, 16, .ro, 2, .any, false⟩
def CONV_CAL_SPARE_SPLIT : Fld := ⟨0x48, 0x4, 1, 15, 8, .ro, 133, .any, false⟩
def CONV_CAL_MU : Fld := ⟨0x48, 0x4, 1, 6, 4, .rw, 3, .any, true⟩
def CONV_CAL_AUTO : Fld := ⟨0x48, 0x4, 1, 0, 0, .rw, 1, .any, true⟩
def CONV_GRP0_WEN : Fld := ⟨0x4C, 0x4, 1, 12, 12, .rw, 0, .any, true⟩
def CONV_GRP0_RANGE : Fld := ⟨0x4C, 0x4, 1, 9, 8, .rw, 2, (.rng 0 2), true⟩
def CONV_GRP0_INPUT : Fld := ⟨0x4C, 0x4, 1, 5, 0, .rw, 0, .any, true⟩
def CONV_GRP1_WEN : Fld := ⟨0x50, 0x4, 1, 12, 12, .rw, 0, .any, true⟩
def CONV_GRP1_RANGE : Fld := ⟨0x50, 0x4, 1, 9, 8, .rw, 2, (.rng 0 2), true⟩
def CONV_GRP1_INPUT : Fld := ⟨0x50, 0x4, 1, 5, 0, .rw, 1, .any, true⟩
def CONV_GRP2_WEN : Fld := ⟨0x54, 0x4, 1, 12, 12, .rw, 0, .any, true⟩
def CONV_GRP2_RANGE : Fld := ⟨0x54, 0x4, 1, 9, 8, .rw, 2, (.rng 0 2), true⟩
def CONV_GRP2_INPUT : Fld := ⟨0x54, 0x4, 1, 5, 0, .rw, 2, .any, true⟩
def CONV_WIN_NMIN : Fld := ⟨0x58, 0x8, 3, 22, 16, .rw, 8, (.rng 4 64), true⟩
def CONV_WIN_BLANK : Fld := ⟨0x58, 0x8, 3, 11, 0, .rw, 100, .any, true⟩
def CONV_WEND_WEND : Fld := ⟨0x5C, 0x8, 3, 19, 0, .rw, 0xfffff, .any, true⟩
def CONV_DCL_FS : Fld := ⟨0x70, 0x4, 1, 11, 0, .rw, 0x4e2, (.rng 1 4095), true⟩
def CONV_XCHK_ILIM : Fld := ⟨0x74, 0x4, 1, 31, 16, .rw, 0x400, .any, true⟩
def CONV_XCHK_CNT : Fld := ⟨0x74, 0x4, 1, 15, 8, .rw, 4, (.rng 1 255), true⟩
def CONV_XCHK_VLIM : Fld := ⟨0x74, 0x4, 1, 7, 0, .rw, 20, .any, true⟩
def CONV_STAT_SKIPPED : Fld := ⟨0x78, 0x4, 1, 6, 4, .ro, 0, .any, false⟩
def CONV_STAT_WOPEN : Fld := ⟨0x78, 0x4, 1, 2, 0, .ro, 0, .any, false⟩
def CONV_MEAN_VALUE : Fld := ⟨0x80, 0x4, 3, 31, 0, .ro, 0, .any, false⟩
def CONV_SLOPE_VALUE : Fld := ⟨0x8C, 0x4, 3, 31, 0, .ro, 0, .any, false⟩
def CONV_INFO_N : Fld := ⟨0x98, 0x4, 3, 17, 0, .ro, 0, .any, false⟩
def CONV_LAST_VALUE : Fld := ⟨0xA4, 0x4, 3, 31, 0, .ro, 0, .any, false⟩
def CONV_FIRST_VALUE : Fld := ⟨0xB0, 0x4, 3, 31, 0, .ro, 0, .any, false⟩
def CONV_CORR_GAIN : Fld := ⟨0xC0, 0x4, 9, 31, 20, .rw, 0, (.ne 2048), false⟩
def CONV_CORR_OFFSET : Fld := ⟨0xC0, 0x4, 9, 19, 8, .rw, 0, (.ne 2048), false⟩
def CONV_CORR_SKEW : Fld := ⟨0xC0, 0x4, 9, 7, 0, .rw, 0, (.ne 128), false⟩

/-! SEQ -/

def SEQ_SEQCFG_START : Fld := ⟨0x40, 0x4, 1, 9, 9, .wo, 0, .any, false⟩
def SEQ_SEQCFG_RUN : Fld := ⟨0x40, 0x4, 1, 8, 8, .rw, 0, .any, true⟩
def SEQ_SEQCFG_LEN : Fld := ⟨0x40, 0x4, 1, 5, 0, .rw, 0, .any, true⟩
def SEQ_STAT_WAITING : Fld := ⟨0x44, 0x4, 1, 10, 10, .ro, 0, .any, false⟩
def SEQ_STAT_PREEMPTED : Fld := ⟨0x44, 0x4, 1, 9, 9, .ro, 0, .any, false⟩
def SEQ_STAT_CUR : Fld := ⟨0x44, 0x4, 1, 5, 0, .ro, 0, .any, false⟩
def SEQ_URGENT_REQ : Fld := ⟨0x48, 0x4, 3, 31, 31, .ro, 0, .any, false⟩
def SEQ_URGENT_CONV : Fld := ⟨0x48, 0x4, 3, 30, 29, .ro, 0, .any, false⟩
def SEQ_URGENT_GROUP : Fld := ⟨0x48, 0x4, 3, 28, 27, .ro, 0, .any, false⟩
def SEQ_URGENT_INPUT : Fld := ⟨0x48, 0x4, 3, 26, 21, .ro, 28, .any, false⟩
def SEQ_URGENT_RANGE : Fld := ⟨0x48, 0x4, 3, 20, 19, .ro, 2, .any, false⟩
def SEQ_URGENT_AVG : Fld := ⟨0x48, 0x4, 3, 18, 16, .ro, 0, .any, false⟩
def SEQ_URGENT3_REQ : Fld := ⟨0x54, 0x4, 1, 31, 31, .rw, 0, .any, true⟩
def SEQ_URGENT3_CONV : Fld := ⟨0x54, 0x4, 1, 30, 29, .rw, 0, (.rng 0 1), true⟩
def SEQ_URGENT3_GROUP : Fld := ⟨0x54, 0x4, 1, 28, 27, .rw, 0, .any, true⟩
def SEQ_URGENT3_INPUT : Fld := ⟨0x54, 0x4, 1, 26, 21, .rw, 28, .any, true⟩
def SEQ_URGENT3_RANGE : Fld := ⟨0x54, 0x4, 1, 20, 19, .rw, 2, (.rng 0 2), true⟩
def SEQ_URGENT3_AVG : Fld := ⟨0x54, 0x4, 1, 18, 16, .rw, 0, .any, true⟩
def SEQ_URES_VALUE : Fld := ⟨0x58, 0x4, 4, 31, 0, .ro, 0, .any, false⟩
def SEQ_ENTRY_CFG_EN : Fld := ⟨0x100, 0x8, 64, 31, 31, .rw, 0, .any, true⟩
def SEQ_ENTRY_CFG_CONV : Fld := ⟨0x100, 0x8, 64, 30, 29, .rw, 0, (.rng 0 1), true⟩
def SEQ_ENTRY_CFG_GROUP : Fld := ⟨0x100, 0x8, 64, 28, 27, .rw, 0, .any, true⟩
def SEQ_ENTRY_CFG_INPUT : Fld := ⟨0x100, 0x8, 64, 26, 21, .rw, 28, .any, true⟩
def SEQ_ENTRY_CFG_RANGE : Fld := ⟨0x100, 0x8, 64, 20, 19, .rw, 2, (.rng 0 2), true⟩
def SEQ_ENTRY_CFG_AVG : Fld := ⟨0x100, 0x8, 64, 18, 16, .rw, 0, .any, true⟩
def SEQ_ENTRY_CFG_TRIG : Fld := ⟨0x100, 0x8, 64, 15, 14, .rw, 0, .any, true⟩
def SEQ_ENTRY_RES_VALUE : Fld := ⟨0x104, 0x8, 64, 31, 0, .ro, 0, .any, false⟩

/-! POS -/

def POS_CFG_SSI_ROLE : Fld := ⟨0x40, 0x4, 1, 7, 6, .rw, 0, (.rng 0 2), true⟩
def POS_CFG_RES_ROLE : Fld := ⟨0x40, 0x4, 1, 5, 4, .rw, 0, (.rng 0 2), true⟩
def POS_CFG_SSI_TERM : Fld := ⟨0x40, 0x4, 1, 3, 3, .rw, 1, .any, true⟩
def POS_CFG_ENC_TERM : Fld := ⟨0x40, 0x4, 1, 2, 2, .rw, 1, .any, true⟩
def POS_CFG_WATCH_CNT : Fld := ⟨0x40, 0x4, 1, 0, 0, .rw, 1, .any, true⟩
def POS_EXC_FREQ : Fld := ⟨0x44, 0x4, 1, 15, 8, .rw, 80, (.rng 20 160), true⟩
def POS_EXC_AMP : Fld := ⟨0x44, 0x4, 1, 7, 0, .rw, 100, (.rng 40 160), true⟩
def POS_SRC0_AUTO_TW : Fld := ⟨0x50, 0x4, 1, 8, 8, .rw, 1, .any, true⟩
def POS_SRC0_SEL : Fld := ⟨0x50, 0x4, 1, 3, 0, .rw, 1, (.rng 0 7), true⟩
def POS_FILT_ZPOL : Fld := ⟨0x54, 0xA8, 4, 11, 11, .rw, 0, .any, true⟩
def POS_FILT_INV : Fld := ⟨0x54, 0xA8, 4, 10, 10, .rw, 0, .any, true⟩
def POS_FILT_MULT : Fld := ⟨0x54, 0xA8, 4, 9, 8, .rw, 2, (.rng 0 2), true⟩
def POS_FILT_FLT : Fld := ⟨0x54, 0xA8, 4, 7, 0, .rw, 8, .any, true⟩
def POS_CPR_CPR : Fld := ⟨0x58, 0xA8, 4, 16, 0, .rw, 0x2000, (.rng 1 65536), true⟩
def POS_IDX_CFG_GOOD : Fld := ⟨0x5C, 0xA8, 4, 23, 20, .rw, 2, (.rng 1 15), true⟩
def POS_IDX_CFG_MLIM : Fld := ⟨0x5C, 0xA8, 4, 19, 16, .rw, 3, (.rng 1 15), true⟩
def POS_IDX_CFG_TOL : Fld := ⟨0x5C, 0xA8, 4, 15, 12, .rw, 2, (.rng 1 15), true⟩
def POS_IDX_CFG_GATE : Fld := ⟨0x5C, 0xA8, 4, 9, 9, .rw, 0, .any, true⟩
def POS_IDX_CFG_QST : Fld := ⟨0x5C, 0xA8, 4, 8, 7, .rw, 3, .any, true⟩
def POS_IDX_CFG_INIT : Fld := ⟨0x5C, 0xA8, 4, 6, 6, .rw, 1, .any, true⟩
def POS_IDX_CFG_EN : Fld := ⟨0x5C, 0xA8, 4, 5, 5, .rw, 0, .any, true⟩
def POS_IDX_EXP_REV : Fld := ⟨0x60, 0xA8, 4, 31, 16, .rw, 0, .any, true⟩
def POS_IDX_EXP_FWD : Fld := ⟨0x60, 0xA8, 4, 15, 0, .rw, 0, .any, true⟩
def POS_LIM_LO_LIM : Fld := ⟨0x64, 0xA8, 4, 31, 0, .rw, 0x80000000, .any, true⟩
def POS_LIM_HI_LIM : Fld := ⟨0x68, 0xA8, 4, 31, 0, .rw, 0x7fffffff, .any, true⟩
def POS_SPD_CFG_ZTIME : Fld := ⟨0x6C, 0xA8, 4, 31, 16, .rw, 0x2710, (.rng 1 65535), true⟩
def POS_SPD_CFG_NEDGE : Fld := ⟨0x6C, 0xA8, 4, 13, 8, .rw, 15, .any, true⟩
def POS_TW_DIRSRC : Fld := ⟨0x70, 0xA8, 4, 27, 26, .rw, 0, .any, true⟩
def POS_TW_DCH : Fld := ⟨0x70, 0xA8, 4, 25, 24, .rw, 0, .any, true⟩
def POS_TW_KIND : Fld := ⟨0x70, 0xA8, 4, 23, 22, .rw, 0, (.rng 0 2), true⟩
def POS_TW_MISS : Fld := ⟨0x70, 0xA8, 4, 21, 20, .rw, 1, (.rng 1 2), true⟩
def POS_TW_GAP : Fld := ⟨0x70, 0xA8, 4, 15, 8, .rw, 24, .any, true⟩
def POS_TW_EXTRA : Fld := ⟨0x70, 0xA8, 4, 7, 0, .rw, 192, .any, true⟩
def POS_FRM_CFG_VALUE : Fld := ⟨0x74, 0xA8, 4, 31, 0, .rw, 0, .any, true⟩
def POS_FRM_TIME_VALUE : Fld := ⟨0x78, 0xA8, 4, 31, 0, .rw, 0, .any, true⟩
def POS_POS_POS : Fld := ⟨0x7C, 0xA8, 4, 31, 0, .ro, 0, .any, false⟩
def POS_REVPOS_REVPOS : Fld := ⟨0x80, 0xA8, 4, 15, 0, .ro, 0, .any, false⟩
def POS_EDGE_T_T : Fld := ⟨0x84, 0xA8, 4, 31, 0, .ro, 0, .any, false⟩
def POS_SPEED_SPEED : Fld := ⟨0x88, 0xA8, 4, 31, 0, .ro, 0, .any, false⟩
def POS_STATE_CMPL : Fld := ⟨0x8C, 0xA8, 4, 26, 24, .ro, 0, .any, false⟩
def POS_STATE_SPDQ : Fld := ⟨0x8C, 0xA8, 4, 23, 22, .ro, 2, .any, false⟩
def POS_STATE_DIR : Fld := ⟨0x8C, 0xA8, 4, 21, 21, .ro, 0, .any, false⟩
def POS_STATE_AT_LIMIT : Fld := ⟨0x8C, 0xA8, 4, 20, 20, .ro, 0, .any, false⟩
def POS_STATE_REFD : Fld := ⟨0x8C, 0xA8, 4, 19, 19, .ro, 0, .any, false⟩
def POS_STATE_INVALID : Fld := ⟨0x8C, 0xA8, 4, 18, 18, .ro, 0, .any, false⟩
def POS_STATE_LOST : Fld := ⟨0x8C, 0xA8, 4, 17, 17, .ro, 0, .any, false⟩
def POS_STATE_MCNT : Fld := ⟨0x8C, 0xA8, 4, 16, 13, .ro, 0, .any, false⟩
def POS_STATE_GCNT : Fld := ⟨0x8C, 0xA8, 4, 12, 9, .ro, 0, .any, false⟩
def POS_STATE_HSTATE : Fld := ⟨0x8C, 0xA8, 4, 8, 6, .ro, 0, .any, false⟩
def POS_IDX_CORR_COUNT : Fld := ⟨0x90, 0xA8, 4, 31, 16, .rw, 0, .any, false⟩
def POS_IDX_CORR_LAST : Fld := ⟨0x90, 0xA8, 4, 15, 0, .ro, 0, .any, false⟩
def POS_IDX_T_T : Fld := ⟨0x94, 0xA8, 4, 31, 0, .ro, 0, .any, false⟩
def POS_ERRCNT_MISM : Fld := ⟨0x98, 0xA8, 4, 31, 16, .rw, 0, .any, false⟩
def POS_ERRCNT_DEC : Fld := ⟨0x98, 0xA8, 4, 15, 0, .rw, 0, .any, false⟩
def POS_FRAME_DATA : Fld := ⟨0x9C, 0xA8, 4, 31, 0, .ro, 0, .any, false⟩
def POS_SLOW_ID : Fld := ⟨0xA0, 0xA8, 4, 31, 24, .ro, 0, .any, false⟩
def POS_SLOW_DATA : Fld := ⟨0xA0, 0xA8, 4, 23, 8, .ro, 0, .any, false⟩
def POS_SLOW_NEW : Fld := ⟨0xA0, 0xA8, 4, 0, 0, .w1c, 0, .any, false⟩
def POS_ANGLE_ANGLE : Fld := ⟨0xA4, 0xA8, 4, 31, 0, .ro, 0, .any, false⟩
def POS_POS_SET_VALUE : Fld := ⟨0xA8, 0xA8, 4, 31, 0, .wo, 0, .any, false⟩
def POS_CMP_T_T : Fld := ⟨0xAC, 0xA8, 4, 31, 0, .ro, 0, .any, false⟩
def POS_CCAUSE_BEHIND : Fld := ⟨0xB0, 0xA8, 4, 15, 8, .w1c, 0, .any, false⟩
def POS_CCAUSE_FIRE : Fld := ⟨0xB0, 0xA8, 4, 7, 0, .w1c, 0, .any, false⟩
def POS_COMP0_VALUE : Fld := ⟨0xB4, 0xA8, 4, 31, 0, .rw, 0, .any, false⟩
def POS_COMP1_VALUE : Fld := ⟨0xB8, 0xA8, 4, 31, 0, .rw, 0, .any, false⟩
def POS_COMP2_VALUE : Fld := ⟨0xBC, 0xA8, 4, 31, 0, .rw, 0, .any, false⟩
def POS_COMP3_VALUE : Fld := ⟨0xC0, 0xA8, 4, 31, 0, .rw, 0, .any, false⟩
def POS_COMP4_VALUE : Fld := ⟨0xC4, 0xA8, 4, 31, 0, .rw, 0, .any, false⟩
def POS_COMP5_VALUE : Fld := ⟨0xC8, 0xA8, 4, 31, 0, .rw, 0, .any, false⟩
def POS_COMP6_VALUE : Fld := ⟨0xCC, 0xA8, 4, 31, 0, .rw, 0, .any, false⟩
def POS_COMP7_VALUE : Fld := ⟨0xD0, 0xA8, 4, 31, 0, .rw, 0, .any, false⟩
def POS_CCFG0_ARMED : Fld := ⟨0xD4, 0xA8, 4, 7, 7, .ro, 0, .any, false⟩
def POS_CCFG0_FIP : Fld := ⟨0xD4, 0xA8, 4, 6, 6, .rw, 0, .any, true⟩
def POS_CCFG0_REARM : Fld := ⟨0xD4, 0xA8, 4, 5, 5, .rw, 0, .any, true⟩
def POS_CCFG0_DIRSEL : Fld := ⟨0xD4, 0xA8, 4, 4, 3, .rw, 0, (.rng 0 2), true⟩
def POS_CCFG0_MODE : Fld := ⟨0xD4, 0xA8, 4, 2, 1, .rw, 0, (.rng 0 2), true⟩
def POS_CCFG0_INSIDE : Fld := ⟨0xD4, 0xA8, 4, 0, 0, .ro, 0, .any, false⟩
def POS_CCFG1_ARMED : Fld := ⟨0xD8, 0xA8, 4, 7, 7, .ro, 0, .any, false⟩
def POS_CCFG1_FIP : Fld := ⟨0xD8, 0xA8, 4, 6, 6, .rw, 0, .any, true⟩
def POS_CCFG1_REARM : Fld := ⟨0xD8, 0xA8, 4, 5, 5, .rw, 0, .any, true⟩
def POS_CCFG1_DIRSEL : Fld := ⟨0xD8, 0xA8, 4, 4, 3, .rw, 0, (.rng 0 2), true⟩
def POS_CCFG1_MODE : Fld := ⟨0xD8, 0xA8, 4, 2, 1, .rw, 0, (.rng 0 2), true⟩
def POS_CCFG1_INSIDE : Fld := ⟨0xD8, 0xA8, 4, 0, 0, .ro, 0, .any, false⟩
def POS_CCFG2_ARMED : Fld := ⟨0xDC, 0xA8, 4, 7, 7, .ro, 0, .any, false⟩
def POS_CCFG2_FIP : Fld := ⟨0xDC, 0xA8, 4, 6, 6, .rw, 0, .any, true⟩
def POS_CCFG2_REARM : Fld := ⟨0xDC, 0xA8, 4, 5, 5, .rw, 0, .any, true⟩
def POS_CCFG2_DIRSEL : Fld := ⟨0xDC, 0xA8, 4, 4, 3, .rw, 0, (.rng 0 2), true⟩
def POS_CCFG2_MODE : Fld := ⟨0xDC, 0xA8, 4, 2, 1, .rw, 0, (.rng 0 2), true⟩
def POS_CCFG2_INSIDE : Fld := ⟨0xDC, 0xA8, 4, 0, 0, .ro, 0, .any, false⟩
def POS_CCFG3_ARMED : Fld := ⟨0xE0, 0xA8, 4, 7, 7, .ro, 0, .any, false⟩
def POS_CCFG3_FIP : Fld := ⟨0xE0, 0xA8, 4, 6, 6, .rw, 0, .any, true⟩
def POS_CCFG3_REARM : Fld := ⟨0xE0, 0xA8, 4, 5, 5, .rw, 0, .any, true⟩
def POS_CCFG3_DIRSEL : Fld := ⟨0xE0, 0xA8, 4, 4, 3, .rw, 0, (.rng 0 2), true⟩
def POS_CCFG3_MODE : Fld := ⟨0xE0, 0xA8, 4, 2, 1, .rw, 0, (.rng 0 2), true⟩
def POS_CCFG3_INSIDE : Fld := ⟨0xE0, 0xA8, 4, 0, 0, .ro, 0, .any, false⟩
def POS_CCFG4_ARMED : Fld := ⟨0xE4, 0xA8, 4, 7, 7, .ro, 0, .any, false⟩
def POS_CCFG4_FIP : Fld := ⟨0xE4, 0xA8, 4, 6, 6, .rw, 0, .any, true⟩
def POS_CCFG4_REARM : Fld := ⟨0xE4, 0xA8, 4, 5, 5, .rw, 0, .any, true⟩
def POS_CCFG4_DIRSEL : Fld := ⟨0xE4, 0xA8, 4, 4, 3, .rw, 0, (.rng 0 2), true⟩
def POS_CCFG4_MODE : Fld := ⟨0xE4, 0xA8, 4, 2, 1, .rw, 0, (.rng 0 2), true⟩
def POS_CCFG4_INSIDE : Fld := ⟨0xE4, 0xA8, 4, 0, 0, .ro, 0, .any, false⟩
def POS_CCFG5_ARMED : Fld := ⟨0xE8, 0xA8, 4, 7, 7, .ro, 0, .any, false⟩
def POS_CCFG5_FIP : Fld := ⟨0xE8, 0xA8, 4, 6, 6, .rw, 0, .any, true⟩
def POS_CCFG5_REARM : Fld := ⟨0xE8, 0xA8, 4, 5, 5, .rw, 0, .any, true⟩
def POS_CCFG5_DIRSEL : Fld := ⟨0xE8, 0xA8, 4, 4, 3, .rw, 0, (.rng 0 2), true⟩
def POS_CCFG5_MODE : Fld := ⟨0xE8, 0xA8, 4, 2, 1, .rw, 0, (.rng 0 2), true⟩
def POS_CCFG5_INSIDE : Fld := ⟨0xE8, 0xA8, 4, 0, 0, .ro, 0, .any, false⟩
def POS_CCFG6_ARMED : Fld := ⟨0xEC, 0xA8, 4, 7, 7, .ro, 0, .any, false⟩
def POS_CCFG6_FIP : Fld := ⟨0xEC, 0xA8, 4, 6, 6, .rw, 0, .any, true⟩
def POS_CCFG6_REARM : Fld := ⟨0xEC, 0xA8, 4, 5, 5, .rw, 0, .any, true⟩
def POS_CCFG6_DIRSEL : Fld := ⟨0xEC, 0xA8, 4, 4, 3, .rw, 0, (.rng 0 2), true⟩
def POS_CCFG6_MODE : Fld := ⟨0xEC, 0xA8, 4, 2, 1, .rw, 0, (.rng 0 2), true⟩
def POS_CCFG6_INSIDE : Fld := ⟨0xEC, 0xA8, 4, 0, 0, .ro, 0, .any, false⟩
def POS_CCFG7_ARMED : Fld := ⟨0xF0, 0xA8, 4, 7, 7, .ro, 0, .any, false⟩
def POS_CCFG7_FIP : Fld := ⟨0xF0, 0xA8, 4, 6, 6, .rw, 0, .any, true⟩
def POS_CCFG7_REARM : Fld := ⟨0xF0, 0xA8, 4, 5, 5, .rw, 0, .any, true⟩
def POS_CCFG7_DIRSEL : Fld := ⟨0xF0, 0xA8, 4, 4, 3, .rw, 0, (.rng 0 2), true⟩
def POS_CCFG7_MODE : Fld := ⟨0xF0, 0xA8, 4, 2, 1, .rw, 0, (.rng 0 2), true⟩
def POS_CCFG7_INSIDE : Fld := ⟨0xF0, 0xA8, 4, 0, 0, .ro, 0, .any, false⟩
def POS_JUMP_JUMP : Fld := ⟨0xF4, 0xA8, 4, 15, 0, .rw, 0x400, (.rng 1 65535), true⟩
def POS_SRC_AUTO_TW : Fld := ⟨0xF8, 0xA8, 3, 8, 8, .rw, 0, .any, true⟩
def POS_SRC_SEL : Fld := ⟨0xF8, 0xA8, 3, 3, 0, .rw, 0, (.rng 0 7), true⟩

/-! SENSE -/

def SENSE_VALID_CH : Fld := ⟨0x40, 0x4, 1, 7, 0, .ro, 255, .any, false⟩
def SENSE_CLEAR_CH : Fld := ⟨0x44, 0x4, 1, 7, 0, .wo, 0, .any, false⟩
def SENSE_PAIR_TOL : Fld := ⟨0x48, 0x4, 4, 31, 24, .rw, 4, .any, true⟩
def SENSE_PAIR_EN : Fld := ⟨0x48, 0x4, 4, 8, 8, .rw, 0, .any, true⟩
def SENSE_PAIR_CHB : Fld := ⟨0x48, 0x4, 4, 5, 4, .rw, 0, .any, true⟩
def SENSE_PAIR_CHA : Fld := ⟨0x48, 0x4, 4, 1, 0, .rw, 0, .any, true⟩

/-! FIELD -/

def FIELD_AXCFG_TPH : Fld := ⟨0x40, 0x4, 1, 5, 5, .rw, 0, .any, true⟩
def FIELD_AXCFG_MODE : Fld := ⟨0x40, 0x4, 1, 2, 1, .rw, 0, (.rng 0 2), true⟩
def FIELD_AXCFG_EN : Fld := ⟨0x40, 0x4, 1, 0, 0, .rw, 0, .any, true⟩
def FIELD_CMD_EPOCH : Fld := ⟨0x44, 0x4, 1, 31, 24, .wo, 0, .any, false⟩
def FIELD_CMD_OP : Fld := ⟨0x44, 0x4, 1, 2, 0, .wo, 0, (.rng 1 4), false⟩
def FIELD_STATE_REFUSE : Fld := ⟨0x48, 0x4, 1, 23, 20, .ro, 0, .any, false⟩
def FIELD_STATE_CASE : Fld := ⟨0x48, 0x4, 1, 19, 18, .ro, 0, .any, false⟩
def FIELD_STATE_RULE : Fld := ⟨0x48, 0x4, 1, 17, 16, .ro, 0, .any, false⟩
def FIELD_STATE_ASRC : Fld := ⟨0x48, 0x4, 1, 15, 14, .ro, 0, .any, false⟩
def FIELD_STATE_OBS_LOCK : Fld := ⟨0x48, 0x4, 1, 11, 11, .ro, 0, .any, false⟩
def FIELD_STATE_HFI_ON : Fld := ⟨0x48, 0x4, 1, 10, 10, .ro, 0, .any, false⟩
def FIELD_STATE_ASC : Fld := ⟨0x48, 0x4, 1, 9, 9, .ro, 0, .any, false⟩
def FIELD_STATE_PULSES : Fld := ⟨0x48, 0x4, 1, 8, 8, .ro, 0, .any, false⟩
def FIELD_STATE_AXSTATE : Fld := ⟨0x48, 0x4, 1, 2, 0, .ro, 0, .any, false⟩
def FIELD_ROLE_MISMATCH : Fld := ⟨0x4C, 0x4, 1, 31, 24, .rw, 0, .any, false⟩
def FIELD_ROLE_EPOCH : Fld := ⟨0x4C, 0x4, 1, 15, 8, .rw, 0, .any, true⟩
def FIELD_TCMD_T : Fld := ⟨0x50, 0x4, 1, 31, 0, .rw, 0, .any, false⟩
def FIELD_CMDTO_TRAMP : Fld := ⟨0x54, 0x4, 1, 31, 16, .rw, 0x3e8, .any, true⟩
def FIELD_CMDTO_ACT : Fld := ⟨0x54, 0x4, 1, 15, 14, .rw, 1, (.rng 0 2), true⟩
def FIELD_CMDTO_TMO : Fld := ⟨0x54, 0x4, 1, 13, 0, .rw, 0, .any, true⟩
def FIELD_LIMITS_IMAX : Fld := ⟨0x58, 0x4, 1, 31, 16, .rw, 0x6000, .any, true⟩
def FIELD_LIMITS_KMOD : Fld := ⟨0x58, 0x4, 1, 9, 0, .rw, 0x3d7, (.rng 512 1023), true⟩
def FIELD_RECON_SUMTOL : Fld := ⟨0x5C, 0x4, 1, 31, 16, .rw, 0x400, .any, true⟩
def FIELD_RECON_PLIM : Fld := ⟨0x5C, 0x4, 1, 7, 4, .rw, 4, (.rng 1 15), true⟩
def FIELD_RECON_REFER : Fld := ⟨0x5C, 0x4, 1, 1, 1, .rw, 0, .any, true⟩
def FIELD_RECON_CONN : Fld := ⟨0x5C, 0x4, 1, 0, 0, .rw, 0, .any, true⟩
def FIELD_ANGSRC_PP : Fld := ⟨0x60, 0x4, 1, 19, 14, .rw, 4, (.rng 1 32), true⟩
def FIELD_ANGSRC_SEC : Fld := ⟨0x60, 0x4, 1, 13, 7, .rw, 0, .any, true⟩
def FIELD_ANGSRC_PRI : Fld := ⟨0x60, 0x4, 1, 6, 0, .rw, 64, .any, true⟩
def FIELD_ANG_OFS_OFS : Fld := ⟨0x64, 0x4, 1, 31, 0, .rw, 0, .any, true⟩
def FIELD_FUSE_TOL : Fld := ⟨0x68, 0x4, 1, 31, 24, .rw, 16, .any, true⟩
def FIELD_FUSE_W : Fld := ⟨0x68, 0x4, 1, 23, 16, .rw, 0, .any, true⟩
def FIELD_FUSE_MODE : Fld := ⟨0x68, 0x4, 1, 1, 0, .rw, 0, (.rng 0 2), true⟩
def FIELD_BAND_HB_HI : Fld := ⟨0x6C, 0x4, 1, 31, 16, .rw, 0x1e0, .any, true⟩
def FIELD_BAND_HB_LO : Fld := ⟨0x6C, 0x4, 1, 15, 0, .rw, 240, .any, true⟩
def FIELD_HFI_VINJ : Fld := ⟨0x70, 0x4, 1, 31, 16, .rw, 0x800, .any, true⟩
def FIELD_HFI_LOCK : Fld := ⟨0x70, 0x4, 1, 15, 4, .rw, 205, .any, true⟩
def FIELD_HFI_SIGN : Fld := ⟨0x70, 0x4, 1, 1, 1, .rw, 0, .any, true⟩
def FIELD_HFI_EN : Fld := ⟨0x70, 0x4, 1, 0, 0, .rw, 0, .any, true⟩
def FIELD_POL_VPOL : Fld := ⟨0x74, 0x4, 1, 31, 16, .rw, 0x1000, .any, true⟩
def FIELD_POL_MARGIN : Fld := ⟨0x74, 0x4, 1, 15, 8, .rw, 13, .any, true⟩
def FIELD_POL_N : Fld := ⟨0x74, 0x4, 1, 7, 0, .rw, 4, (.rng 1 255), true⟩
def FIELD_CATCH_WIN : Fld := ⟨0x78, 0x4, 1, 31, 16, .rw, 0x7d0, (.rng 100 65535), true⟩
def FIELD_CATCH_DT : Fld := ⟨0x78, 0x4, 1, 15, 10, .rw, 20, (.rng 2 63), true⟩
def FIELD_CATCH_TRIES : Fld := ⟨0x78, 0x4, 1, 9, 6, .rw, 3, (.rng 1 15), true⟩
def FIELD_CATCH_RES : Fld := ⟨0x78, 0x4, 1, 5, 1, .rw, 8, .any, true⟩
def FIELD_CATCH_RECATCH : Fld := ⟨0x78, 0x4, 1, 0, 0, .rw, 1, .any, true⟩
def FIELD_CATCH2_VMIN : Fld := ⟨0x7C, 0x4, 1, 31, 20, .rw, 10, .any, true⟩
def FIELD_CATCH2_ASC_T : Fld := ⟨0x7C, 0x4, 1, 19, 10, .rw, 100, (.rng 1 1023), true⟩
def FIELD_CATCH2_TMO : Fld := ⟨0x7C, 0x4, 1, 9, 0, .rw, 0x3e8, .any, true⟩
def FIELD_VPH_FS_FS : Fld := ⟨0x80, 0x4, 1, 11, 0, .rw, 0x4e2, (.rng 1 4095), true⟩
def FIELD_LR_I : Fld := ⟨0x84, 0x4, 1, 31, 24, .rw, 192, .any, true⟩
def FIELD_LR_T : Fld := ⟨0x84, 0x4, 1, 23, 16, .rw, 200, .any, true⟩
def FIELD_LR_W : Fld := ⟨0x84, 0x4, 1, 15, 8, .rw, 16, .any, true⟩
def FIELD_LR_POS : Fld := ⟨0x84, 0x4, 1, 7, 0, .rw, 4, .any, true⟩
def FIELD_MAPCFG_PSIMAX : Fld := ⟨0x88, 0x4, 1, 31, 16, .rw, 0x4000, .any, true⟩
def FIELD_MAPCFG_SWAP : Fld := ⟨0x88, 0x4, 1, 1, 1, .wo, 0, .any, false⟩
def FIELD_MAPCFG_BANK : Fld := ⟨0x88, 0x4, 1, 0, 0, .ro, 0, .any, false⟩
def FIELD_MAP_CRC_CRC : Fld := ⟨0x8C, 0x4, 2, 31, 0, .rw, 0, .any, true⟩
def FIELD_ADV_STEP : Fld := ⟨0x94, 0x4, 1, 31, 0, .rw, 0x100000, .any, true⟩
def FIELD_FW_IDMIN : Fld := ⟨0x98, 0x4, 1, 31, 16, .rw, 0xc000, .any, true⟩
def FIELD_FW_REF : Fld := ⟨0x98, 0x4, 1, 15, 1, .rw, 0x3d7, .any, true⟩
def FIELD_FW_EN : Fld := ⟨0x98, 0x4, 1, 0, 0, .rw, 1, .any, true⟩
def FIELD_SHARE_MAX : Fld := ⟨0x9C, 0x4, 1, 15, 0, .rw, 64, .any, true⟩
def FIELD_OBS_LOCK : Fld := ⟨0xA0, 0x4, 1, 31, 16, .rw, 0x19a, .any, true⟩
def FIELD_OBS_N : Fld := ⟨0xA0, 0x4, 1, 7, 0, .rw, 16, (.rng 1 255), true⟩
def FIELD_ALIGN_I : Fld := ⟨0xA4, 0x4, 1, 31, 16, .rw, 0x2000, .any, true⟩
def FIELD_ALIGN_T : Fld := ⟨0xA4, 0x4, 1, 15, 1, .rw, 0x1f4, .any, true⟩
def FIELD_ALIGN_EN : Fld := ⟨0xA4, 0x4, 1, 0, 0, .rw, 0, .any, true⟩
def FIELD_ALEAD_LEAD : Fld := ⟨0xA8, 0x4, 1, 12, 0, .rw, 0, (.ne 4096), true⟩
def FIELD_COEF_V : Fld := ⟨0x100, 0x8, 16, 31, 0, .rw, 0, .any, true⟩
def FIELD_CSHIFT_S : Fld := ⟨0x104, 0x8, 16, 5, 0, .rw, 0, .any, true⟩
def FIELD_THETA_VALUE : Fld := ⟨0x180, 0x4, 1, 31, 0, .ro, 0, .any, false⟩
def FIELD_RATE_VALUE : Fld := ⟨0x184, 0x4, 1, 31, 0, .ro, 0, .any, false⟩
def FIELD_ID_VALUE : Fld := ⟨0x188, 0x4, 1, 31, 0, .ro, 0, .any, false⟩
def FIELD_IQ_VALUE : Fld := ⟨0x18C, 0x4, 1, 31, 0, .ro, 0, .any, false⟩
def FIELD_VD_VALUE : Fld := ⟨0x190, 0x4, 1, 31, 0, .ro, 0, .any, false⟩
def FIELD_VQ_VALUE : Fld := ⟨0x194, 0x4, 1, 31, 0, .ro, 0, .any, false⟩
def FIELD_THETA_S_VALUE : Fld := ⟨0x198, 0x4, 1, 31, 0, .ro, 0, .any, false⟩
def FIELD_THETA_O_VALUE : Fld := ⟨0x19C, 0x4, 1, 31, 0, .ro, 0, .any, false⟩
def FIELD_EMF_VALUE : Fld := ⟨0x1A0, 0x4, 1, 31, 0, .ro, 0, .any, false⟩
def FIELD_DID_VALUE : Fld := ⟨0x1A4, 0x4, 1, 31, 0, .ro, 0, .any, false⟩
def FIELD_PRED_RUN_VALUE : Fld := ⟨0x1A8, 0x4, 1, 31, 0, .ro, 0, .any, false⟩
def FIELD_TRIM_VALUE : Fld := ⟨0x1AC, 0x4, 3, 31, 0, .ro, 0, .any, false⟩
def FIELD_FLAGS_SOURCE_SPLIT : Fld := ⟨0x1B8, 0x4, 1, 3, 3, .w1c, 0, .any, false⟩
def FIELD_FLAGS_SUM_ERROR : Fld := ⟨0x1B8, 0x4, 1, 2, 2, .w1c, 0, .any, false⟩
def FIELD_FLAGS_VOLTAGE_LIMIT : Fld := ⟨0x1B8, 0x4, 1, 1, 1, .w1c, 0, .any, false⟩
def FIELD_FLAGS_CURRENT_LIMIT : Fld := ⟨0x1B8, 0x4, 1, 0, 0, .w1c, 0, .any, false⟩

/-! QUILL -/

def QUILL_RUN_MAXCYC : Fld := ⟨0x40, 0x4, 1, 31, 16, .rw, 0x1000, (.rng 256 65535), true⟩
def QUILL_RUN_TRACK : Fld := ⟨0x40, 0x4, 1, 0, 0, .rw, 1, .any, true⟩
def QUILL_TRIG_EN : Fld := ⟨0x44, 0x4, 2, 31, 31, .rw, 0, .any, true⟩
def QUILL_TRIG_SRC : Fld := ⟨0x44, 0x4, 2, 30, 30, .rw, 0, .any, true⟩
def QUILL_TRIG_TB : Fld := ⟨0x44, 0x4, 2, 29, 29, .rw, 0, .any, true⟩
def QUILL_TRIG_FRAMES : Fld := ⟨0x44, 0x4, 2, 27, 26, .rw, 0, .any, true⟩
def QUILL_TRIG_GROUPS : Fld := ⟨0x44, 0x4, 2, 25, 20, .rw, 0, .any, true⟩
def QUILL_TRIG_COUNT : Fld := ⟨0x44, 0x4, 2, 19, 0, .rw, 0, .any, true⟩
def QUILL_PROG_WIN : Fld := ⟨0x4C, 0x4, 1, 2, 2, .rw, 0, .any, true⟩
def QUILL_PROG_SWAP : Fld := ⟨0x4C, 0x4, 1, 1, 1, .rw, 0, .any, true⟩
def QUILL_PROG_BANK : Fld := ⟨0x4C, 0x4, 1, 0, 0, .ro, 0, .any, false⟩
def QUILL_PROG_CRC_CRC : Fld := ⟨0x50, 0x4, 2, 31, 0, .rw, 0, .any, true⟩
def QUILL_EXPORT_MASK : Fld := ⟨0x58, 0x4, 1, 31, 0, .rw, 0, .any, true⟩
def QUILL_EXPORT_DM_COUNT : Fld := ⟨0x5C, 0x4, 1, 17, 12, .rw, 0, (.rng 0 32), true⟩
def QUILL_EXPORT_DM_BASE : Fld := ⟨0x5C, 0x4, 1, 11, 0, .rw, 0, .any, true⟩
def QUILL_ZERO_MASK : Fld := ⟨0x60, 0x4, 2, 31, 0, .rw, 0, .any, true⟩
def QUILL_STAT_PC : Fld := ⟨0x68, 0x4, 1, 27, 16, .ro, 0, .any, false⟩
def QUILL_STAT_RUNNING : Fld := ⟨0x68, 0x4, 1, 15, 15, .ro, 0, .any, false⟩
def QUILL_STAT_HELD : Fld := ⟨0x68, 0x4, 1, 14, 13, .ro, 0, .any, false⟩
def QUILL_STAT_FLAGS : Fld := ⟨0x68, 0x4, 1, 8, 0, .ro, 0, .any, false⟩
def QUILL_CYCLES_HALT : Fld := ⟨0x6C, 0x4, 1, 31, 16, .ro, 0, .any, false⟩
def QUILL_CYCLES_STAGE : Fld := ⟨0x6C, 0x4, 1, 15, 0, .ro, 0xffff, .any, false⟩
def QUILL_PEAK_HALT : Fld := ⟨0x70, 0x4, 1, 31, 16, .rw, 0, (.rng 0 0), false⟩
def QUILL_PEAK_STAGE : Fld := ⟨0x70, 0x4, 1, 15, 0, .rw, 0, (.rng 0 0), false⟩
def QUILL_ERRCNT_ECC : Fld := ⟨0x74, 0x4, 1, 31, 24, .rw, 0, .any, false⟩
def QUILL_ERRCNT_DEADLINE : Fld := ⟨0x74, 0x4, 1, 23, 16, .rw, 0, .any, false⟩
def QUILL_ERRCNT_OVERRUN : Fld := ⟨0x74, 0x4, 1, 15, 8, .rw, 0, .any, false⟩
def QUILL_ERRCNT_SHADOW : Fld := ⟨0x74, 0x4, 1, 7, 0, .rw, 0, .any, false⟩
def QUILL_SATCNT_TOTAL : Fld := ⟨0x78, 0x4, 1, 31, 16, .rw, 0, .any, false⟩
def QUILL_SATCNT_RUN : Fld := ⟨0x78, 0x4, 1, 15, 0, .ro, 0, .any, false⟩
def QUILL_SHSTAT_SEQ : Fld := ⟨0x7C, 0x4, 1, 31, 16, .ro, 0, .any, false⟩
def QUILL_SHSTAT_ENTRY : Fld := ⟨0x7C, 0x4, 1, 1, 1, .ro, 0, .any, false⟩
def QUILL_SHSTAT_CURRENT : Fld := ⟨0x7C, 0x4, 1, 0, 0, .ro, 0, .any, false⟩
def QUILL_QSNAP_VALUE : Fld := ⟨0x80, 0x4, 32, 31, 0, .ro, 0, .any, false⟩
def QUILL_SHADOW_VALUE : Fld := ⟨0x100, 0x4, 32, 31, 0, .ro, 0, .any, false⟩

/-! MOTION -/

def MOTION_CFG_TB : Fld := ⟨0x40, 0x4, 1, 16, 16, .rw, 0, .any, true⟩
def MOTION_CFG_SDIV : Fld := ⟨0x40, 0x4, 1, 15, 8, .rw, 0, .any, true⟩
def MOTION_CFG_MODE : Fld := ⟨0x40, 0x4, 1, 1, 0, .rw, 0, .any, true⟩
def MOTION_CMD_EPOCH : Fld := ⟨0x44, 0x4, 1, 31, 24, .wo, 0, .any, false⟩
def MOTION_CMD_OP : Fld := ⟨0x44, 0x4, 1, 2, 0, .wo, 0, (.rng 1 4), false⟩
def MOTION_STAT_REFUSE : Fld := ⟨0x48, 0x4, 1, 31, 28, .ro, 0, .any, false⟩
def MOTION_STAT_LEVEL : Fld := ⟨0x48, 0x4, 1, 27, 24, .ro, 0, .any, false⟩
def MOTION_STAT_PENDING : Fld := ⟨0x48, 0x4, 1, 6, 6, .ro, 0, .any, false⟩
def MOTION_STAT_RESUMABLE : Fld := ⟨0x48, 0x4, 1, 5, 5, .ro, 0, .any, false⟩
def MOTION_STAT_ARRIVED : Fld := ⟨0x48, 0x4, 1, 4, 4, .ro, 0, .any, false⟩
def MOTION_STAT_ACT : Fld := ⟨0x48, 0x4, 1, 2, 0, .ro, 5, .any, false⟩
def MOTION_START_INDEX : Fld := ⟨0x4C, 0x4, 1, 11, 0, .rw, 0, .any, true⟩
def MOTION_SERVO_T_T : Fld := ⟨0x50, 0x4, 1, 31, 0, .rw, 0x7a12, (.rng 1 4294967295), true⟩
def MOTION_TARGET_P : Fld := ⟨0x54, 0x4, 1, 31, 0, .rw, 0, .any, false⟩
def MOTION_VTARGET_V : Fld := ⟨0x58, 0x4, 1, 31, 0, .rw, 0, .any, false⟩
def MOTION_VMAX_V : Fld := ⟨0x5C, 0x4, 1, 31, 0, .rw, 0x1000000, .any, true⟩
def MOTION_AMAX_A : Fld := ⟨0x60, 0x4, 1, 31, 0, .rw, 0xf4240, .any, true⟩
def MOTION_DMAX_A : Fld := ⟨0x64, 0x4, 1, 31, 0, .rw, 0xf4240, .any, true⟩
def MOTION_JMAX_J : Fld := ⟨0x68, 0x4, 1, 31, 0, .rw, 0x5f5e100, .any, true⟩
def MOTION_WAITSRC_EN : Fld := ⟨0x6C, 0x4, 1, 8, 8, .rw, 0, .any, true⟩
def MOTION_WAITSRC_UNIT : Fld := ⟨0x6C, 0x4, 1, 6, 6, .rw, 0, .any, true⟩
def MOTION_WAITSRC_CH : Fld := ⟨0x6C, 0x4, 1, 5, 4, .rw, 0, .any, true⟩
def MOTION_WAITSRC_CMP : Fld := ⟨0x6C, 0x4, 1, 2, 0, .rw, 0, .any, true⟩
def MOTION_SP_POS_VALUE : Fld := ⟨0x70, 0x4, 1, 31, 0, .ro, 0, .any, false⟩
def MOTION_SP_FRAC_VALUE : Fld := ⟨0x74, 0x4, 1, 31, 0, .ro, 0, .any, false⟩
def MOTION_SP_VEL_VALUE : Fld := ⟨0x78, 0x4, 1, 31, 0, .ro, 0, .any, false⟩
def MOTION_SP_ACC_VALUE : Fld := ⟨0x7C, 0x4, 1, 31, 0, .ro, 0, .any, false⟩
def MOTION_SEG_RIDX : Fld := ⟨0x80, 0x4, 1, 27, 16, .ro, 0, .any, false⟩
def MOTION_SEG_INDEX : Fld := ⟨0x80, 0x4, 1, 11, 0, .ro, 0, .any, false⟩
def MOTION_SEGK_K : Fld := ⟨0x84, 0x4, 1, 23, 0, .ro, 0, .any, false⟩
def MOTION_REMAIN_D : Fld := ⟨0x88, 0x4, 1, 31, 0, .ro, 0, .any, false⟩
def MOTION_STEPCFG_I_RUN : Fld := ⟨0x8C, 0x4, 1, 31, 16, .rw, 0x2000, (.rng 0 32767), true⟩
def MOTION_STEPCFG_I_HOLD : Fld := ⟨0x8C, 0x4, 1, 15, 0, .rw, 0x1000, (.rng 0 32767), true⟩
def MOTION_MSTHR01_THR_ODD : Fld := ⟨0x90, 0x4, 1, 31, 16, .rw, 100, .any, true⟩
def MOTION_MSTHR01_THR_EVEN : Fld := ⟨0x90, 0x4, 1, 15, 0, .rw, 50, .any, true⟩
def MOTION_MSTHR23_THR_ODD : Fld := ⟨0x94, 0x4, 1, 31, 16, .rw, 0x190, .any, true⟩
def MOTION_MSTHR23_THR_EVEN : Fld := ⟨0x94, 0x4, 1, 15, 0, .rw, 200, .any, true⟩
def MOTION_MSTHR45_THR_ODD : Fld := ⟨0x98, 0x4, 1, 31, 16, .rw, 0x640, .any, true⟩
def MOTION_MSTHR45_THR_EVEN : Fld := ⟨0x98, 0x4, 1, 15, 0, .rw, 0x320, .any, true⟩
def MOTION_MSTHR67_THR_ODD : Fld := ⟨0x9C, 0x4, 1, 31, 16, .rw, 0x1900, .any, true⟩
def MOTION_MSTHR67_THR_EVEN : Fld := ⟨0x9C, 0x4, 1, 15, 0, .rw, 0xc80, .any, true⟩
def MOTION_CHOP_BAND : Fld := ⟨0xA0, 0x4, 1, 31, 20, .rw, 0x100, (.rng 1 4095), true⟩
def MOTION_CHOP_BLANK : Fld := ⟨0xA0, 0x4, 1, 19, 10, .rw, 100, .any, true⟩
def MOTION_CHOP_TMIN : Fld := ⟨0xA0, 0x4, 1, 9, 0, .rw, 100, (.rng 20 1023), true⟩
def MOTION_CHOP2_HOLD_T : Fld := ⟨0xA4, 0x4, 1, 31, 20, .rw, 200, (.rng 1 4095), true⟩
def MOTION_CHOP2_TMAX : Fld := ⟨0xA4, 0x4, 1, 19, 4, .rw, 0x1388, (.rng 64 65535), true⟩
def MOTION_CHOP2_KOFS : Fld := ⟨0xA4, 0x4, 1, 3, 0, .rw, 4, .any, true⟩
def MOTION_STALL_N : Fld := ⟨0xA8, 0x4, 1, 23, 16, .rw, 8, (.rng 1 255), true⟩
def MOTION_STALL_ANG : Fld := ⟨0xA8, 0x4, 1, 7, 0, .rw, 0, .any, true⟩
def MOTION_OFS45_OFS5 : Fld := ⟨0xAC, 0x4, 1, 31, 16, .ro, 0, .any, false⟩
def MOTION_OFS45_OFS4 : Fld := ⟨0xAC, 0x4, 1, 15, 0, .ro, 0, .any, false⟩
def MOTION_OFS6_OFS6 : Fld := ⟨0xB0, 0x4, 1, 15, 0, .ro, 0, .any, false⟩

/-! MOD -/

def MOD_TB0_CFG_SYNCIN : Fld := ⟨0x40, 0x4, 1, 5, 5, .rw, 0, .any, true⟩
def MOD_TB0_CFG_UPD : Fld := ⟨0x40, 0x4, 1, 4, 3, .rw, 0, (.rng 0 2), true⟩
def MOD_TB0_CFG_CG : Fld := ⟨0x40, 0x4, 1, 2, 1, .rw, 0, .any, true⟩
def MOD_TB0_CFG_EN : Fld := ⟨0x40, 0x4, 1, 0, 0, .rw, 0, .any, true⟩
def MOD_TB0_PER_PER : Fld := ⟨0x44, 0x4, 1, 19, 0, .rws, 0x7a12, .any, false⟩
def MOD_TB0_CNT_PSEQ : Fld := ⟨0x48, 0x4, 1, 31, 20, .ro, 0, .any, false⟩
def MOD_TB0_CNT_CNT : Fld := ⟨0x48, 0x4, 1, 19, 0, .ro, 0, .any, false⟩
def MOD_TB1_CFG_PHASE : Fld := ⟨0x4C, 0x4, 1, 31, 12, .rw, 0, .any, true⟩
def MOD_TB1_CFG_LOCK : Fld := ⟨0x4C, 0x4, 1, 6, 6, .rw, 0, .any, true⟩
def MOD_TB1_CFG_UPD : Fld := ⟨0x4C, 0x4, 1, 4, 3, .rw, 0, (.rng 0 2), true⟩
def MOD_TB1_CFG_CG : Fld := ⟨0x4C, 0x4, 1, 2, 1, .rw, 0, .any, true⟩
def MOD_TB1_CFG_EN : Fld := ⟨0x4C, 0x4, 1, 0, 0, .rw, 0, .any, true⟩
def MOD_TB1_PER_PER : Fld := ⟨0x50, 0x4, 1, 19, 0, .rws, 0x7a12, .any, false⟩
def MOD_TB1_CNT_PSEQ : Fld := ⟨0x54, 0x4, 1, 31, 20, .ro, 0, .any, false⟩
def MOD_TB1_CNT_CNT : Fld := ⟨0x54, 0x4, 1, 19, 0, .ro, 0, .any, false⟩
def MOD_COMMIT_G : Fld := ⟨0x58, 0x4, 1, 3, 0, .wo, 0, .any, false⟩
def MOD_GRPGEN_G3 : Fld := ⟨0x5C, 0x4, 1, 31, 24, .ro, 0, .any, false⟩
def MOD_GRPGEN_G2 : Fld := ⟨0x5C, 0x4, 1, 23, 16, .ro, 0, .any, false⟩
def MOD_GRPGEN_G1 : Fld := ⟨0x5C, 0x4, 1, 15, 8, .ro, 0, .any, false⟩
def MOD_GRPGEN_G0 : Fld := ⟨0x5C, 0x4, 1, 7, 0, .ro, 0, .any, false⟩
def MOD_SYNC_MAXADJ : Fld := ⟨0x60, 0x4, 1, 31, 16, .rw, 64, .any, true⟩
def MOD_SYNC_INDLY : Fld := ⟨0x60, 0x4, 1, 15, 4, .rw, 0, .any, true⟩
def MOD_SYNC_OUTEN : Fld := ⟨0x60, 0x4, 1, 0, 0, .rw, 0, .any, true⟩
def MOD_MINP_MINOFF : Fld := ⟨0x64, 0x4, 1, 25, 16, .rw, 50, .any, true⟩
def MOD_MINP_MINON : Fld := ⟨0x64, 0x4, 1, 9, 0, .rw, 50, .any, true⟩
def MOD_BOOT_N : Fld := ⟨0x68, 0x4, 1, 31, 24, .rw, 8, (.rng 1 255), true⟩
def MOD_BOOT_PRE : Fld := ⟨0x68, 0x4, 1, 23, 12, .rw, 0x1f4, .any, true⟩
def MOD_BOOT_RFW : Fld := ⟨0x68, 0x4, 1, 11, 0, .rw, 250, (.rng 1 4095), true⟩
def MOD_TRIPCFG_FILT2 : Fld := ⟨0x6C, 0x4, 1, 31, 20, .rw, 0, .any, true⟩
def MOD_TRIPCFG_POL2 : Fld := ⟨0x6C, 0x4, 1, 17, 17, .rw, 0, .any, true⟩
def MOD_TRIPCFG_EN2 : Fld := ⟨0x6C, 0x4, 1, 16, 16, .rw, 0, .any, true⟩
def MOD_TRIPCFG_FILT1 : Fld := ⟨0x6C, 0x4, 1, 15, 4, .rw, 0, .any, true⟩
def MOD_TRIPCFG_POL1 : Fld := ⟨0x6C, 0x4, 1, 1, 1, .rw, 0, .any, true⟩
def MOD_TRIPCFG_EN1 : Fld := ⟨0x6C, 0x4, 1, 0, 0, .rw, 0, .any, true⟩
def MOD_TRIPMASK_PROT : Fld := ⟨0x70, 0x4, 1, 29, 24, .rwl, 63, .any, true⟩
def MOD_TRIPMASK_SW : Fld := ⟨0x70, 0x4, 1, 21, 16, .rwl, 63, .any, true⟩
def MOD_TRIPMASK_T2 : Fld := ⟨0x70, 0x4, 1, 13, 8, .rwl, 63, .any, true⟩
def MOD_TRIPMASK_T1 : Fld := ⟨0x70, 0x4, 1, 5, 0, .rwl, 63, .any, true⟩
def MOD_TRIPSTAT_FORCED : Fld := ⟨0x74, 0x4, 1, 29, 24, .ro, 0, .any, false⟩
def MOD_TRIPSTAT_LATCH : Fld := ⟨0x74, 0x4, 1, 19, 16, .ro, 0, .any, false⟩
def MOD_TRIPSTAT_LIVE : Fld := ⟨0x74, 0x4, 1, 11, 8, .ro, 0, .any, false⟩
def MOD_TRIPCLR_PROT : Fld := ⟨0x78, 0x4, 1, 3, 3, .wo, 0, .any, false⟩
def MOD_TRIPCLR_SW : Fld := ⟨0x78, 0x4, 1, 2, 2, .wo, 0, .any, false⟩
def MOD_TRIPCLR_T2 : Fld := ⟨0x78, 0x4, 1, 1, 1, .wo, 0, .any, false⟩
def MOD_TRIPCLR_T1 : Fld := ⟨0x78, 0x4, 1, 0, 0, .wo, 0, .any, false⟩
def MOD_SWTRIP_TRIG : Fld := ⟨0x7C, 0x4, 1, 0, 0, .wo, 0, .any, false⟩
def MOD_LEG_CFG_BOOT : Fld := ⟨0x80, 0x20, 6, 7, 7, .rw, 0, .any, true⟩
def MOD_LEG_CFG_SRC : Fld := ⟨0x80, 0x20, 6, 5, 4, .rw, 0, .any, true⟩
def MOD_LEG_CFG_CG : Fld := ⟨0x80, 0x20, 6, 3, 2, .rw, 0, .any, true⟩
def MOD_LEG_CFG_TB : Fld := ⟨0x80, 0x20, 6, 0, 0, .rw, 0, .any, true⟩
def MOD_LEG_MODE_MODE : Fld := ⟨0x84, 0x20, 6, 2, 0, .rws, 0, .any, false⟩
def MOD_LEG_CMP_VALUE : Fld := ⟨0x88, 0x20, 6, 24, 0, .rws, 0, .any, false⟩
def MOD_LEG_DT_DT : Fld := ⟨0x8C, 0x20, 6, 15, 0, .rws, 0x1900, .any, true⟩
def MOD_LEG_SAFE_LEVEL : Fld := ⟨0x90, 0x20, 6, 1, 0, .rwl, 0, (.rng 0 2), true⟩
def MOD_LEG_ACMP_C : Fld := ⟨0x94, 0x20, 6, 24, 0, .ro, 0, .any, false⟩
def MOD_LEG_STAT_NOLS : Fld := ⟨0x98, 0x20, 6, 31, 24, .ro, 0, .any, false⟩
def MOD_LEG_STAT_CLAMPED : Fld := ⟨0x98, 0x20, 6, 7, 7, .ro, 0, .any, false⟩
def MOD_LEG_STAT_REFRESH : Fld := ⟨0x98, 0x20, 6, 6, 6, .ro, 0, .any, false⟩
def MOD_LEG_STAT_DROP_L : Fld := ⟨0x98, 0x20, 6, 5, 5, .ro, 0, .any, false⟩
def MOD_LEG_STAT_DROP_H : Fld := ⟨0x98, 0x20, 6, 4, 4, .ro, 0, .any, false⟩
def MOD_LEG_STAT_STRETCH : Fld := ⟨0x98, 0x20, 6, 3, 3, .ro, 0, .any, false⟩
def MOD_LEG_STAT_FORCED : Fld := ⟨0x98, 0x20, 6, 2, 2, .ro, 0, .any, false⟩
def MOD_LEG_STAT_HS : Fld := ⟨0x98, 0x20, 6, 1, 1, .ro, 0, .any, false⟩
def MOD_LEG_STAT_LS : Fld := ⟨0x98, 0x20, 6, 0, 0, .ro, 0, .any, false⟩
def MOD_LINK_LAT_RTT : Fld := ⟨0x140, 0x10, 8, 31, 16, .ro, 0, .any, false⟩
def MOD_LINK_LAT_LAT : Fld := ⟨0x140, 0x10, 8, 15, 0, .ro, 0, .any, false⟩
def MOD_LINK_STAT_CALOK : Fld := ⟨0x144, 0x10, 8, 3, 3, .ro, 0, .any, false⟩
def MOD_LINK_STAT_LIVE : Fld := ⟨0x144, 0x10, 8, 2, 2, .ro, 0, .any, false⟩
def MOD_LINK_ERR_LATE : Fld := ⟨0x148, 0x10, 8, 31, 24, .rw, 0, .any, false⟩
def MOD_LINK_ERR_SEQ : Fld := ⟨0x148, 0x10, 8, 23, 16, .rw, 0, .any, false⟩
def MOD_LINK_ERR_CONG : Fld := ⟨0x148, 0x10, 8, 15, 8, .rw, 0, .any, false⟩
def MOD_LINK_ERR_CALSTEP : Fld := ⟨0x148, 0x10, 8, 7, 0, .rw, 0, .any, false⟩

/-! GATE -/

def GATE_PSEL_P : Fld := ⟨0x40, 0x4, 1, 27, 0, .rws, 0, .any, true⟩
def GATE_PSETI_I : Fld := ⟨0x44, 0x4, 1, 15, 0, .rws, 0x400, .any, true⟩
def GATE_OCFG_ADAPT : Fld := ⟨0x100, 0x40, 14, 7, 7, .rws, 0, .any, true⟩
def GATE_OCFG_CLAMP_EN : Fld := ⟨0x100, 0x40, 14, 6, 6, .rws, 1, .any, true⟩
def GATE_OCFG_PW_EN : Fld := ⟨0x100, 0x40, 14, 5, 5, .rws, 1, .any, true⟩
def GATE_OCFG_DESAT_EN : Fld := ⟨0x100, 0x40, 14, 4, 4, .rws, 1, .any, true⟩
def GATE_OCFG_EN : Fld := ⟨0x100, 0x40, 14, 0, 0, .rws, 0, .any, true⟩
def GATE_ON0_PRE_V : Fld := ⟨0x104, 0x40, 14, 31, 24, .rws, 104, .any, true⟩
def GATE_ON0_END_V : Fld := ⟨0x104, 0x40, 14, 23, 16, .rws, 160, .any, true⟩
def GATE_ON0_PRE_I : Fld := ⟨0x104, 0x40, 14, 15, 11, .rws, 10, (.rng 1 20), true⟩
def GATE_ON0_HOLD_I : Fld := ⟨0x104, 0x40, 14, 10, 6, .rws, 10, (.rng 1 20), true⟩
def GATE_ON0_IPL : Fld := ⟨0x104, 0x40, 14, 4, 0, .rws, 7, .any, true⟩
def GATE_OFF0_PRE_V : Fld := ⟨0x108, 0x40, 14, 31, 24, .rws, 144, .any, true⟩
def GATE_OFF0_END_V : Fld := ⟨0x108, 0x40, 14, 23, 16, .rws, 88, .any, true⟩
def GATE_OFF0_PRE_I : Fld := ⟨0x108, 0x40, 14, 15, 11, .rws, 10, (.rng 1 25), true⟩
def GATE_OFF0_HOLD_I : Fld := ⟨0x108, 0x40, 14, 10, 6, .rws, 10, (.rng 1 25), true⟩
def GATE_OFF0_IPL : Fld := ⟨0x108, 0x40, 14, 4, 0, .rws, 7, .any, true⟩
def GATE_ON1_PRE_V : Fld := ⟨0x10C, 0x40, 14, 31, 24, .rws, 104, .any, true⟩
def GATE_ON1_END_V : Fld := ⟨0x10C, 0x40, 14, 23, 16, .rws, 160, .any, true⟩
def GATE_ON1_PRE_I : Fld := ⟨0x10C, 0x40, 14, 15, 11, .rws, 10, (.rng 1 20), true⟩
def GATE_ON1_HOLD_I : Fld := ⟨0x10C, 0x40, 14, 10, 6, .rws, 10, (.rng 1 20), true⟩
def GATE_ON1_IPL : Fld := ⟨0x10C, 0x40, 14, 4, 0, .rws, 7, .any, true⟩
def GATE_OFF1_PRE_V : Fld := ⟨0x110, 0x40, 14, 31, 24, .rws, 144, .any, true⟩
def GATE_OFF1_END_V : Fld := ⟨0x110, 0x40, 14, 23, 16, .rws, 88, .any, true⟩
def GATE_OFF1_PRE_I : Fld := ⟨0x110, 0x40, 14, 15, 11, .rws, 10, (.rng 1 25), true⟩
def GATE_OFF1_HOLD_I : Fld := ⟨0x110, 0x40, 14, 10, 6, .rws, 10, (.rng 1 25), true⟩
def GATE_OFF1_IPL : Fld := ⟨0x110, 0x40, 14, 4, 0, .rws, 7, .any, true⟩
def GATE_DVDT_OFF1 : Fld := ⟨0x114, 0x40, 14, 31, 24, .rws, 100, (.rng 20 200), true⟩
def GATE_DVDT_ON1 : Fld := ⟨0x114, 0x40, 14, 23, 16, .rws, 100, (.rng 20 200), true⟩
def GATE_DVDT_OFF0 : Fld := ⟨0x114, 0x40, 14, 15, 8, .rws, 100, (.rng 20 200), true⟩
def GATE_DVDT_ON0 : Fld := ⟨0x114, 0x40, 14, 7, 0, .rws, 100, (.rng 20 200), true⟩
def GATE_ADLIM_IMAX : Fld := ⟨0x118, 0x40, 14, 31, 27, .rws, 31, .any, true⟩
def GATE_ADLIM_IMIN : Fld := ⟨0x118, 0x40, 14, 26, 22, .rws, 0, .any, true⟩
def GATE_ADLIM_GS : Fld := ⟨0x118, 0x40, 14, 18, 16, .rws, 2, (.rng 0 4), true⟩
def GATE_ADLIM_DET : Fld := ⟨0x118, 0x40, 14, 15, 8, .rws, 10, .any, true⟩
def GATE_DESAT_TH : Fld := ⟨0x11C, 0x40, 14, 28, 24, .rws, 14, (.rng 6 24), true⟩
def GATE_DESAT_BLANK : Fld := ⟨0x11C, 0x40, 14, 22, 12, .rws, 0x1f4, (.rng 100 1500), true⟩
def GATE_DESAT_FLT : Fld := ⟨0x11C, 0x40, 14, 5, 0, .rws, 10, .any, true⟩
def GATE_PWATCH_PW_V : Fld := ⟨0x120, 0x40, 14, 31, 24, .rws, 176, .any, true⟩
def GATE_PWATCH_MIN : Fld := ⟨0x120, 0x40, 14, 23, 16, .rws, 10, .any, true⟩
def GATE_SOFT_V_SOFT : Fld := ⟨0x124, 0x40, 14, 31, 24, .rws, 144, .any, true⟩
def GATE_SOFT_SOFT_T : Fld := ⟨0x124, 0x40, 14, 23, 12, .rws, 0x1f4, (.rng 25 1250), true⟩
def GATE_SOFT_SOFT_I : Fld := ⟨0x124, 0x40, 14, 4, 0, .rws, 3, .any, true⟩
def GATE_GMON_CLAMP_V : Fld := ⟨0x128, 0x40, 14, 31, 24, .rws, 80, .any, true⟩
def GATE_GMON_GMON_T : Fld := ⟨0x128, 0x40, 14, 23, 12, .rws, 0x3e8, .any, true⟩
def GATE_GMON_PL_TMAX : Fld := ⟨0x128, 0x40, 14, 11, 0, .rws, 0x1f4, .any, true⟩
def GATE_SUPMON_VPOS_UV : Fld := ⟨0x12C, 0x40, 14, 31, 24, .rws, 104, .any, true⟩
def GATE_SUPMON_VPOS_WARN : Fld := ⟨0x12C, 0x40, 14, 23, 16, .rws, 112, .any, true⟩
def GATE_SUPMON_VNEG_MIN : Fld := ⟨0x12C, 0x40, 14, 15, 8, .rws, 0, .any, true⟩
def GATE_ASTATE_OFF1 : Fld := ⟨0x130, 0x40, 14, 19, 15, .ro, 7, .any, false⟩
def GATE_ASTATE_ON1 : Fld := ⟨0x130, 0x40, 14, 14, 10, .ro, 7, .any, false⟩
def GATE_ASTATE_OFF0 : Fld := ⟨0x130, 0x40, 14, 9, 5, .ro, 7, .any, false⟩
def GATE_ASTATE_ON0 : Fld := ⟨0x130, 0x40, 14, 4, 0, .ro, 7, .any, false⟩
def GATE_MEAS_TPL : Fld := ⟨0x134, 0x40, 14, 31, 24, .ro, 0, .any, false⟩
def GATE_MEAS_DV_ON : Fld := ⟨0x134, 0x40, 14, 23, 16, .ro, 0, .any, false⟩
def GATE_MEAS_DV_OFF : Fld := ⟨0x134, 0x40, 14, 15, 8, .ro, 0, .any, false⟩
def GATE_OSTAT_CFG : Fld := ⟨0x138, 0x40, 14, 8, 8, .ro, 0, .any, false⟩
def GATE_OSTAT_LEVEL : Fld := ⟨0x138, 0x40, 14, 7, 7, .ro, 0, .any, false⟩
def GATE_OSTAT_CLAMP : Fld := ⟨0x138, 0x40, 14, 6, 6, .ro, 0, .any, false⟩
def GATE_OSTAT_WARN : Fld := ⟨0x138, 0x40, 14, 5, 5, .ro, 0, .any, false⟩
def GATE_OSTAT_SUP : Fld := ⟨0x138, 0x40, 14, 4, 4, .ro, 0, .any, false⟩
def GATE_OSTAT_GMON : Fld := ⟨0x138, 0x40, 14, 3, 3, .ro, 0, .any, false⟩
def GATE_OSTAT_SC : Fld := ⟨0x138, 0x40, 14, 2, 2, .ro, 0, .any, false⟩
def GATE_OSTAT_CUT_B : Fld := ⟨0x138, 0x40, 14, 1, 1, .ro, 0, .any, false⟩
def GATE_OSTAT_CUT_A : Fld := ⟨0x138, 0x40, 14, 0, 0, .ro, 0, .any, false⟩
def GATE_OCNT_DESAT : Fld := ⟨0x13C, 0x40, 14, 15, 8, .rw, 0, .any, false⟩
def GATE_OCNT_PW : Fld := ⟨0x13C, 0x40, 14, 7, 0, .rw, 0, .any, false⟩
def GATE_DSTAT_NOFALLBACK : Fld := ⟨0x480, 0x10, 8, 7, 7, .ro, 1, .any, false⟩
def GATE_DSTAT_TIME_SKEW : Fld := ⟨0x480, 0x10, 8, 6, 6, .ro, 0, .any, false⟩
def GATE_DSTAT_ROLE_CONFLICT : Fld := ⟨0x480, 0x10, 8, 5, 5, .ro, 0, .any, false⟩
def GATE_DSTAT_CFG_MISMATCH : Fld := ⟨0x480, 0x10, 8, 4, 4, .ro, 0, .any, false⟩
def GATE_DSTAT_CFG_OK : Fld := ⟨0x480, 0x10, 8, 3, 3, .ro, 0, .any, false⟩
def GATE_DSTAT_ACTIVE : Fld := ⟨0x480, 0x10, 8, 2, 2, .ro, 0, .any, false⟩
def GATE_DSTAT_LIVE_B : Fld := ⟨0x480, 0x10, 8, 1, 1, .ro, 0, .any, false⟩
def GATE_DSTAT_LIVE_A : Fld := ⟨0x480, 0x10, 8, 0, 0, .ro, 0, .any, false⟩
def GATE_DCRC_CRC : Fld := ⟨0x484, 0x10, 8, 31, 0, .ro, 0, .any, false⟩
def GATE_DERR_CFGREJ : Fld := ⟨0x488, 0x10, 8, 31, 16, .rw, 0, .any, false⟩
def GATE_DERR_DISCARD : Fld := ⟨0x488, 0x10, 8, 15, 0, .rw, 0, .any, false⟩

/-! PROT -/

def PROT_ASCCFG_DLY : Fld := ⟨0x40, 0x4, 1, 15, 8, .rw, 2, (.rng 1 255), true⟩
def PROT_ASCCFG_PREF : Fld := ⟨0x40, 0x4, 1, 0, 0, .rw, 0, .any, true⟩
def PROT_ASCSTAT_B1 : Fld := ⟨0x44, 0x4, 1, 15, 8, .ro, 0, .any, false⟩
def PROT_ASCSTAT_B0 : Fld := ⟨0x44, 0x4, 1, 7, 0, .ro, 0, .any, false⟩
def PROT_OV_ON_V : Fld := ⟨0x48, 0x4, 1, 26, 16, .rw, 0x3c0, .any, true⟩
def PROT_OV_OFF_V : Fld := ⟨0x48, 0x4, 1, 10, 0, .rw, 0x398, .any, true⟩
def PROT_OV2_TOW_V : Fld := ⟨0x4C, 0x4, 1, 26, 16, .rw, 0x3e8, .any, true⟩
def PROT_OV2_TRIP_V : Fld := ⟨0x4C, 0x4, 1, 10, 0, .rw, 0x41a, .any, true⟩
def PROT_CHOP_EN : Fld := ⟨0x50, 0x4, 1, 31, 31, .rw, 1, .any, true⟩
def PROT_CHOP_R : Fld := ⟨0x50, 0x4, 1, 30, 20, .rw, 100, (.rng 1 2047), true⟩
def PROT_CHOP_EMAX : Fld := ⟨0x50, 0x4, 1, 19, 8, .rw, 0x1f4, (.rng 1 4095), true⟩
def PROT_CHOP_TAU : Fld := ⟨0x50, 0x4, 1, 7, 0, .rw, 60, (.rng 1 255), true⟩
def PROT_CHOPSTAT_ON : Fld := ⟨0x54, 0x4, 1, 31, 31, .ro, 0, .any, false⟩
def PROT_CHOPSTAT_LIMIT : Fld := ⟨0x54, 0x4, 1, 30, 30, .ro, 0, .any, false⟩
def PROT_CHOPSTAT_E : Fld := ⟨0x54, 0x4, 1, 11, 0, .ro, 0, .any, false⟩
def PROT_DISCH_TMAX : Fld := ⟨0x58, 0x4, 1, 31, 16, .rw, 0x7d0, (.rng 1 65535), true⟩
def PROT_DISCH_WIND_I : Fld := ⟨0x58, 0x4, 1, 15, 8, .rw, 64, .any, true⟩
def PROT_DISCH_METHOD : Fld := ⟨0x58, 0x4, 1, 1, 0, .rw, 0, (.rng 0 2), true⟩
def PROT_DISCHSTAT_ACTIVE : Fld := ⟨0x5C, 0x4, 1, 31, 31, .ro, 0, .any, false⟩
def PROT_DISCHSTAT_TIME : Fld := ⟨0x5C, 0x4, 1, 15, 0, .ro, 0, .any, false⟩
def PROT_SCFIRST_TIE : Fld := ⟨0x60, 0x4, 1, 15, 15, .ro, 0, .any, false⟩
def PROT_SCFIRST_VALID : Fld := ⟨0x60, 0x4, 1, 14, 14, .ro, 0, .any, false⟩
def PROT_SCFIRST_LEG : Fld := ⟨0x60, 0x4, 1, 10, 8, .ro, 0, .any, false⟩
def PROT_SCFIRST_SIDE : Fld := ⟨0x60, 0x4, 1, 4, 4, .ro, 0, .any, false⟩
def PROT_SCFIRST_KIND : Fld := ⟨0x60, 0x4, 1, 1, 0, .ro, 0, .any, false⟩
def PROT_SCFIRST_T_T : Fld := ⟨0x64, 0x4, 1, 31, 0, .ro, 0, .any, false⟩
def PROT_SCSTAT_SC : Fld := ⟨0x68, 0x4, 1, 13, 0, .ro, 0, .any, false⟩
def PROT_CLR_KIND : Fld := ⟨0x6C, 0x4, 1, 17, 16, .wo, 0, (.rng 0 3), false⟩
def PROT_CLR_OUT : Fld := ⟨0x6C, 0x4, 1, 13, 0, .wo, 0, .any, false⟩
def PROT_CHOP2_RSENSE : Fld := ⟨0x70, 0x4, 1, 15, 0, .rw, 0x3e8, (.rng 1 65535), true⟩

/-! LANE -/

def LANE_CFG_REJOIN_N : Fld := ⟨0x40, 0x4, 1, 23, 16, .rw, 16, (.rng 1 255), true⟩
def LANE_CFG_HOLDOFF : Fld := ⟨0x40, 0x4, 1, 15, 8, .rw, 10, (.rng 1 255), true⟩
def LANE_CFG_AUTORESET : Fld := ⟨0x40, 0x4, 1, 2, 2, .rw, 1, .any, true⟩
def LANE_CFG_TRACK : Fld := ⟨0x40, 0x4, 1, 1, 1, .rw, 1, .any, true⟩
def LANE_CFG_PREF : Fld := ⟨0x40, 0x4, 1, 0, 0, .rw, 0, .any, true⟩
def LANE_CMD_KEY : Fld := ⟨0x44, 0x4, 1, 31, 24, .wo, 0, .any, false⟩
def LANE_CMD_OP : Fld := ⟨0x44, 0x4, 1, 1, 0, .wo, 0, .any, false⟩
def LANE_STAT_REFUSE : Fld := ⟨0x48, 0x4, 1, 31, 28, .ro, 0, .any, false⟩
def LANE_STAT_ACTIVE : Fld := ⟨0x48, 0x4, 1, 17, 16, .ro, 0, .any, false⟩
def LANE_STAT_SW_PEND : Fld := ⟨0x48, 0x4, 1, 12, 12, .ro, 0, .any, false⟩
def LANE_STAT_LANE_B : Fld := ⟨0x48, 0x4, 1, 11, 8, .ro, 0, .any, false⟩
def LANE_STAT_LANE_A : Fld := ⟨0x48, 0x4, 1, 3, 0, .ro, 0, .any, false⟩
def LANE_FAILREC_SRC : Fld := ⟨0x4C, 0x4, 2, 31, 16, .ro, 0xffff, .any, false⟩
def LANE_FAILREC_KIND : Fld := ⟨0x4C, 0x4, 2, 7, 4, .ro, 0, .any, false⟩
def LANE_FAILREC_VALID : Fld := ⟨0x4C, 0x4, 2, 0, 0, .ro, 0, .any, false⟩
def LANE_SWTIME_T : Fld := ⟨0x54, 0x4, 1, 31, 0, .ro, 0, .any, false⟩
def LANE_SWCNT_DIAG : Fld := ⟨0x58, 0x4, 1, 31, 16, .rw, 0, .any, false⟩
def LANE_SWCNT_CMD : Fld := ⟨0x58, 0x4, 1, 15, 0, .rw, 0, .any, false⟩
def LANE_ECMP_TOL : Fld := ⟨0x5C, 0x4, 1, 25, 16, .rw, 64, (.rng 1 1023), true⟩
def LANE_ECMP_CNT : Fld := ⟨0x5C, 0x4, 1, 15, 8, .rw, 4, (.rng 1 255), true⟩
def LANE_ECMP_EN : Fld := ⟨0x5C, 0x4, 1, 0, 0, .rw, 1, .any, true⟩
def LANE_ECMP_STAT_MAXDEV : Fld := ⟨0x60, 0x4, 1, 31, 16, .rw, 0, .any, false⟩
def LANE_ECMP_STAT_MISMATCH : Fld := ⟨0x60, 0x4, 1, 15, 0, .rw, 0, .any, false⟩
def LANE_XSTAT_XI_OK : Fld := ⟨0x64, 0x4, 1, 7, 7, .ro, 0, .any, false⟩
def LANE_XSTAT_XC_OK : Fld := ⟨0x64, 0x4, 1, 6, 6, .ro, 0, .any, false⟩
def LANE_XSTAT_ISO_B : Fld := ⟨0x64, 0x4, 1, 5, 4, .ro, 0, .any, false⟩
def LANE_XSTAT_ISO_A : Fld := ⟨0x64, 0x4, 1, 3, 2, .ro, 0, .any, false⟩

/-! CPU -/

def CPU_WDOG_CFG_PERIOD : Fld := ⟨0x40, 0x4, 1, 31, 16, .rw, 0x3e8, (.rng 10 65535), true⟩
def CPU_WDOG_CFG_WIN : Fld := ⟨0x40, 0x4, 1, 15, 8, .rw, 0, .any, true⟩
def CPU_WDOG_CFG_EN : Fld := ⟨0x40, 0x4, 1, 0, 0, .rw, 0, .any, true⟩
def CPU_WDOG_KICK_KEY : Fld := ⟨0x44, 0x4, 1, 15, 0, .wo, 0, .any, false⟩
def CPU_LSSTAT_GROUP : Fld := ⟨0x48, 0x4, 1, 31, 24, .ro, 255, .any, false⟩
def CPU_LSSTAT_AGREE_ERR : Fld := ⟨0x48, 0x4, 1, 23, 16, .rw, 0, .any, false⟩
def CPU_ECCCNT_CORR : Fld := ⟨0x4C, 0x4, 1, 15, 0, .rw, 0, .any, false⟩
def CPU_DBG_HALTED : Fld := ⟨0x50, 0x4, 1, 0, 0, .ro, 0, .any, false⟩

/-! SAFE -/

def SAFE_CFG_DEGR_T : Fld := ⟨0x40, 0x4, 1, 31, 24, .rw, 60, (.rng 1 255), true⟩
def SAFE_CFG_DEGR : Fld := ⟨0x40, 0x4, 1, 23, 22, .rw, 1, (.rng 0 2), true⟩
def SAFE_CFG_XCNT : Fld := ⟨0x40, 0x4, 1, 19, 16, .rw, 4, (.rng 1 15), true⟩
def SAFE_CFG_RESTART : Fld := ⟨0x40, 0x4, 1, 2, 2, .rw, 1, .any, true⟩
def SAFE_CFG_ASC_STO : Fld := ⟨0x40, 0x4, 1, 1, 1, .rw, 0, .any, true⟩
def SAFE_CFG_ASC_EN : Fld := ⟨0x40, 0x4, 1, 0, 0, .rw, 1, .any, true⟩
def SAFE_STATE_ACKPEND : Fld := ⟨0x44, 0x4, 1, 11, 11, .ro, 0, .any, false⟩
def SAFE_STATE_PARTNER : Fld := ⟨0x44, 0x4, 1, 10, 10, .ro, 0, .any, false⟩
def SAFE_STATE_INTSTO : Fld := ⟨0x44, 0x4, 1, 9, 8, .ro, 0, .any, false⟩
def SAFE_STATE_SDIN : Fld := ⟨0x44, 0x4, 1, 7, 6, .ro, 0, .any, false⟩
def SAFE_STATE_STO : Fld := ⟨0x44, 0x4, 1, 5, 4, .ro, 0, .any, false⟩
def SAFE_REQ_BRAKE : Fld := ⟨0x48, 0x4, 1, 8, 8, .rw, 0, .any, false⟩
def SAFE_REQ_AX2 : Fld := ⟨0x48, 0x4, 1, 6, 4, .rw, 0, (.rng 0 4), false⟩
def SAFE_REQ_AX1 : Fld := ⟨0x48, 0x4, 1, 2, 0, .rw, 0, (.rng 0 4), false⟩
def SAFE_ACK_KEY : Fld := ⟨0x4C, 0x4, 1, 7, 0, .wo, 0, .any, false⟩
def SAFE_STO_DISC : Fld := ⟨0x50, 0x4, 1, 31, 16, .rw, 100, (.rng 1 1000), true⟩
def SAFE_STO_FILT : Fld := ⟨0x50, 0x4, 1, 5, 0, .rw, 8, (.rng 4 32), true⟩
def SAFE_SDIN_DISC : Fld := ⟨0x54, 0x4, 2, 31, 16, .rw, 50, .any, true⟩
def SAFE_SDIN_FILT : Fld := ⟨0x54, 0x4, 2, 15, 9, .rw, 10, (.rng 1 100), true⟩
def SAFE_SDIN_ANTI : Fld := ⟨0x54, 0x4, 2, 8, 8, .rw, 0, .any, true⟩
def SAFE_SDIN_AXES : Fld := ⟨0x54, 0x4, 2, 5, 4, .rw, 3, .any, true⟩
def SAFE_SDIN_FUNC : Fld := ⟨0x54, 0x4, 2, 2, 0, .rw, 0, (.rng 0 6), true⟩
def SAFE_SBC_TPER : Fld := ⟨0x5C, 0x4, 1, 31, 20, .rw, 60, (.rng 1 3600), true⟩
def SAFE_SBC_TPW : Fld := ⟨0x5C, 0x4, 1, 19, 11, .rw, 200, (.rng 100 500), true⟩
def SAFE_SBC_DLY : Fld := ⟨0x5C, 0x4, 1, 10, 3, .rw, 0, .any, true⟩
def SAFE_SBC_AXES : Fld := ⟨0x5C, 0x4, 1, 2, 1, .rw, 3, .any, true⟩
def SAFE_SBC_EN : Fld := ⟨0x5C, 0x4, 1, 0, 0, .rw, 0, .any, true⟩
def SAFE_SBC2_IMIN : Fld := ⟨0x60, 0x4, 1, 15, 0, .rw, 100, .any, true⟩
def SAFE_SBCSTAT_I : Fld := ⟨0x64, 0x4, 1, 31, 16, .ro, 0, .any, false⟩
def SAFE_SBCSTAT_FAULT : Fld := ⟨0x64, 0x4, 1, 3, 3, .ro, 0, .any, false⟩
def SAFE_SBCSTAT_LS : Fld := ⟨0x64, 0x4, 1, 2, 2, .ro, 0, .any, false⟩
def SAFE_SBCSTAT_HS : Fld := ⟨0x64, 0x4, 1, 1, 1, .ro, 0, .any, false⟩
def SAFE_SBCSTAT_RELEASED : Fld := ⟨0x64, 0x4, 1, 0, 0, .ro, 0, .any, false⟩
def SAFE_AXCFG_SEC : Fld := ⟨0x80, 0x40, 2, 31, 25, .rw, 0, .any, true⟩
def SAFE_AXCFG_PRI : Fld := ⟨0x80, 0x40, 2, 24, 18, .rw, 64, .any, true⟩
def SAFE_AXCFG_SPDF : Fld := ⟨0x80, 0x40, 2, 17, 12, .rw, 4, (.rng 1 63), true⟩
def SAFE_AXCFG_RELAY : Fld := ⟨0x80, 0x40, 2, 11, 11, .rw, 0, .any, true⟩
def SAFE_AXCFG_EARLY : Fld := ⟨0x80, 0x40, 2, 10, 10, .rw, 1, .any, true⟩
def SAFE_AXCFG_LOSTR : Fld := ⟨0x80, 0x40, 2, 9, 9, .rw, 0, .any, true⟩
def SAFE_SS_DELAY : Fld := ⟨0x84, 0x40, 2, 31, 16, .rw, 0x7d0, (.rng 1 65535), true⟩
def SAFE_SS_RAMP : Fld := ⟨0x84, 0x40, 2, 15, 0, .rw, 0x3e8, .any, true⟩
def SAFE_SSDEC_DECEL : Fld := ⟨0x88, 0x40, 2, 31, 0, .rw, 0, .any, true⟩
def SAFE_SSTOL_VTOL : Fld := ⟨0x8C, 0x40, 2, 31, 0, .rw, 0x1000, .any, true⟩
def SAFE_VZERO_V : Fld := ⟨0x90, 0x40, 2, 31, 0, .rw, 0x400, .any, true⟩
def SAFE_SOS_POSTOL : Fld := ⟨0x94, 0x40, 2, 31, 16, .rw, 0x100, .any, true⟩
def SAFE_SLS0_LIMIT : Fld := ⟨0x98, 0x40, 2, 31, 0, .rw, 0xffffffff, .any, true⟩
def SAFE_SLS1_LIMIT : Fld := ⟨0x9C, 0x40, 2, 31, 0, .rw, 0xffffffff, .any, true⟩
def SAFE_SLS2_LIMIT : Fld := ⟨0xA0, 0x40, 2, 31, 0, .rw, 0xffffffff, .any, true⟩
def SAFE_SLS3_LIMIT : Fld := ⟨0xA4, 0x40, 2, 31, 0, .rw, 0xffffffff, .any, true⟩
def SAFE_SLSCFG_GRACE : Fld := ⟨0xA8, 0x40, 2, 31, 16, .rw, 0x1f4, .any, true⟩
def SAFE_SLSCFG_REACT : Fld := ⟨0xA8, 0x40, 2, 4, 3, .rw, 1, (.rng 0 2), true⟩
def SAFE_SLSCFG_SET : Fld := ⟨0xA8, 0x40, 2, 2, 1, .rw, 0, .any, true⟩
def SAFE_SLSCFG_EN : Fld := ⟨0xA8, 0x40, 2, 0, 0, .rw, 0, .any, true⟩
def SAFE_DIR_TOL : Fld := ⟨0xAC, 0x40, 2, 31, 16, .rw, 0x100, .any, true⟩
def SAFE_DIR_REACT : Fld := ⟨0xAC, 0x40, 2, 4, 3, .rw, 0, (.rng 0 2), true⟩
def SAFE_DIR_ALLOW : Fld := ⟨0xAC, 0x40, 2, 1, 1, .rw, 0, .any, true⟩
def SAFE_DIR_EN : Fld := ⟨0xAC, 0x40, 2, 0, 0, .rw, 0, .any, true⟩
def SAFE_SPEED_V : Fld := ⟨0xB0, 0x40, 2, 31, 0, .ro, 0, .any, false⟩
def SAFE_POSREF_P : Fld := ⟨0xB4, 0x40, 2, 31, 0, .ro, 0, .any, false⟩
def SAFE_ASTATE_VIOL : Fld := ⟨0xB8, 0x40, 2, 15, 12, .ro, 0, .any, false⟩
def SAFE_ASTATE_NOMOTION : Fld := ⟨0xB8, 0x40, 2, 11, 11, .ro, 0, .any, false⟩
def SAFE_ASTATE_RELAYED : Fld := ⟨0xB8, 0x40, 2, 10, 10, .ro, 0, .any, false⟩
def SAFE_ASTATE_SRC : Fld := ⟨0xB8, 0x40, 2, 9, 9, .ro, 0, .any, false⟩
def SAFE_ASTATE_SPDVALID : Fld := ⟨0xB8, 0x40, 2, 8, 8, .ro, 0, .any, false⟩
def SAFE_ASTATE_DIR_ACT : Fld := ⟨0xB8, 0x40, 2, 5, 5, .ro, 0, .any, false⟩
def SAFE_ASTATE_SLS_ACT : Fld := ⟨0xB8, 0x40, 2, 4, 4, .ro, 0, .any, false⟩
def SAFE_ASTATE_STATE : Fld := ⟨0xB8, 0x40, 2, 2, 0, .ro, 0, .any, false⟩

/-! ASSAY -/

def ASSAY_CFG_PBREACT : Fld := ⟨0x40, 0x4, 1, 3, 2, .rw, 0, (.rng 0 2), true⟩
def ASSAY_CFG_PBEN : Fld := ⟨0x40, 0x4, 1, 1, 1, .rw, 0, .any, true⟩
def ASSAY_CFG_EN : Fld := ⟨0x40, 0x4, 1, 0, 0, .rw, 0, .any, true⟩
def ASSAY_GAIN_GAIN1 : Fld := ⟨0x44, 0x4, 6, 31, 16, .rw, 0, .any, true⟩
def ASSAY_GAIN_GAIN0 : Fld := ⟨0x44, 0x4, 6, 15, 0, .rw, 0, .any, true⟩
def ASSAY_OFS_OFS1 : Fld := ⟨0x5C, 0x4, 6, 31, 16, .rw, 0, .any, true⟩
def ASSAY_OFS_OFS0 : Fld := ⟨0x5C, 0x4, 6, 15, 0, .rw, 0, .any, true⟩
def ASSAY_MAP_B_S2PB : Fld := ⟨0x80, 0x40, 2, 23, 21, .rw, 7, (.ne 6), true⟩
def ASSAY_MAP_B_S2PA : Fld := ⟨0x80, 0x40, 2, 20, 18, .rw, 7, (.ne 6), true⟩
def ASSAY_MAP_B_S1PB : Fld := ⟨0x80, 0x40, 2, 17, 15, .rw, 7, (.ne 6), true⟩
def ASSAY_MAP_B_S1PA : Fld := ⟨0x80, 0x40, 2, 14, 12, .rw, 7, (.ne 6), true⟩
def ASSAY_MAP_A_S2PB : Fld := ⟨0x80, 0x40, 2, 11, 9, .rw, 7, (.ne 6), true⟩
def ASSAY_MAP_A_S2PA : Fld := ⟨0x80, 0x40, 2, 8, 6, .rw, 7, (.ne 6), true⟩
def ASSAY_MAP_A_S1PB : Fld := ⟨0x80, 0x40, 2, 5, 3, .rw, 7, (.ne 6), true⟩
def ASSAY_MAP_A_S1PA : Fld := ⟨0x80, 0x40, 2, 2, 0, .rw, 7, (.ne 6), true⟩
def ASSAY_MACH_PP : Fld := ⟨0x84, 0x40, 2, 31, 26, .rw, 4, (.rng 1 63), true⟩
def ASSAY_MACH_SPP : Fld := ⟨0x84, 0x40, 2, 25, 20, .rw, 4, (.rng 1 32), true⟩
def ASSAY_MACH_PSI : Fld := ⟨0x84, 0x40, 2, 19, 0, .rw, 0, .any, true⟩
def ASSAY_LD_L : Fld := ⟨0x88, 0x40, 2, 31, 0, .rw, 0, .any, true⟩
def ASSAY_LQ_L : Fld := ⟨0x8C, 0x40, 2, 31, 0, .rw, 0, .any, true⟩
def ASSAY_RS_R : Fld := ⟨0x90, 0x40, 2, 31, 0, .rw, 0, .any, true⟩
def ASSAY_TFS_T : Fld := ⟨0x94, 0x40, 2, 31, 0, .rw, 0, .any, true⟩
def ASSAY_TOL_TOL_ABS : Fld := ⟨0x98, 0x40, 2, 31, 16, .rw, 20, .any, true⟩
def ASSAY_TOL_TOL_REL : Fld := ⟨0x98, 0x40, 2, 15, 8, .rw, 13, .any, true⟩
def ASSAY_TOL_TT : Fld := ⟨0x98, 0x40, 2, 7, 0, .rw, 10, (.rng 1 100), true⟩
def ASSAY_TLIM_TLIM_M : Fld := ⟨0x9C, 0x40, 2, 31, 16, .rw, 0xffff, .any, true⟩
def ASSAY_TLIM_TLIM_G : Fld := ⟨0x9C, 0x40, 2, 15, 0, .rw, 0xffff, .any, true⟩
def ASSAY_PB_PB_REL : Fld := ⟨0xA0, 0x40, 2, 31, 24, .rw, 13, .any, true⟩
def ASSAY_PB_PB_ABS : Fld := ⟨0xA0, 0x40, 2, 23, 8, .rw, 100, .any, true⟩
def ASSAY_PB_PB_T : Fld := ⟨0xA0, 0x40, 2, 7, 0, .rw, 20, (.rng 1 255), true⟩
def ASSAY_AOFS_OFS : Fld := ⟨0xA4, 0x40, 2, 31, 0, .rw, 0, .any, true⟩
def ASSAY_TEST_T_B : Fld := ⟨0xA8, 0x40, 2, 31, 16, .ro, 0, .any, false⟩
def ASSAY_TEST_T_A : Fld := ⟨0xA8, 0x40, 2, 15, 0, .ro, 0, .any, false⟩
def ASSAY_PBAL_RESID : Fld := ⟨0xAC, 0x40, 2, 31, 16, .ro, 0, .any, false⟩
def ASSAY_PBAL_PLINK : Fld := ⟨0xAC, 0x40, 2, 15, 0, .ro, 0, .any, false⟩
def ASSAY_ASTAT_PCNT : Fld := ⟨0xB0, 0x40, 2, 31, 16, .ro, 0, .any, false⟩
def ASSAY_ASTAT_VCNT : Fld := ⟨0xB0, 0x40, 2, 15, 0, .ro, 0, .any, false⟩

/-! SLAYER -/

def SLAYER_DEVID_ID : Fld := ⟨0x40, 0x4, 1, 31, 0, .rw, 0, .any, true⟩
def SLAYER_CFG_EN : Fld := ⟨0x44, 0x4, 1, 0, 0, .rw, 0, .any, true⟩
def SLAYER_STAT_RUN : Fld := ⟨0x48, 0x4, 1, 26, 16, .ro, 0, .any, false⟩
def SLAYER_STAT_BAD : Fld := ⟨0x48, 0x4, 1, 10, 0, .ro, 0, .any, false⟩
def SLAYER_REBIND_ID_ID : Fld := ⟨0x4C, 0x4, 1, 31, 0, .rw, 0, .any, false⟩
def SLAYER_REBIND_KEY : Fld := ⟨0x50, 0x4, 1, 31, 24, .wo, 0, .any, false⟩
def SLAYER_REBIND_EPOCH : Fld := ⟨0x50, 0x4, 1, 23, 16, .wo, 0, .any, false⟩
def SLAYER_REBIND_IDX : Fld := ⟨0x50, 0x4, 1, 9, 0, .wo, 0, .any, false⟩
def SLAYER_REBSTAT_REFUSE : Fld := ⟨0x54, 0x4, 1, 31, 28, .ro, 0, .any, false⟩
def SLAYER_REBSTAT_PEND : Fld := ⟨0x54, 0x4, 1, 10, 10, .ro, 0, .any, false⟩
def SLAYER_REBSTAT_IDX : Fld := ⟨0x54, 0x4, 1, 9, 0, .ro, 0, .any, false⟩
def SLAYER_CLR_KEY : Fld := ⟨0x58, 0x4, 1, 31, 24, .wo, 0, .any, false⟩
def SLAYER_CLR_IDX : Fld := ⟨0x58, 0x4, 1, 9, 0, .wo, 0, .any, false⟩
def SLAYER_RXSEL_IDX : Fld := ⟨0x5C, 0x4, 1, 9, 0, .rw, 0, .any, false⟩
def SLAYER_RXDATA_DATA : Fld := ⟨0x60, 0x4, 12, 31, 0, .ro, 0, .any, false⟩
def SLAYER_FIRSTERR_VALID : Fld := ⟨0x90, 0x4, 1, 31, 31, .ro, 0, .any, false⟩
def SLAYER_FIRSTERR_KIND : Fld := ⟨0x90, 0x4, 1, 19, 16, .ro, 0, .any, false⟩
def SLAYER_FIRSTERR_IDX : Fld := ⟨0x90, 0x4, 1, 9, 0, .ro, 0, .any, false⟩
def SLAYER_FIRSTERR_T_T : Fld := ⟨0x94, 0x4, 1, 31, 0, .ro, 0, .any, false⟩

/-! HALLMARK -/

def HALLMARK_FAILSUM_U : Fld := ⟨0x40, 0x4, 1, 15, 0, .w1c, 0, .any, false⟩
def HALLMARK_ENSTAT_U : Fld := ⟨0x44, 0x4, 1, 15, 0, .ro, 0, .any, false⟩
def HALLMARK_CFG_EN : Fld := ⟨0x80, 0x20, 16, 31, 31, .rw, 0, .any, true⟩
def HALLMARK_CFG_CODE : Fld := ⟨0x80, 0x20, 16, 30, 29, .rw, 0, .any, true⟩
def HALLMARK_CFG_MODE : Fld := ⟨0x80, 0x20, 16, 28, 27, .rw, 0, (.rng 0 2), true⟩
def HALLMARK_CFG_AW : Fld := ⟨0x80, 0x20, 16, 26, 25, .rw, 0, (.rng 0 2), true⟩
def HALLMARK_CFG_GAP : Fld := ⟨0x80, 0x20, 16, 24, 22, .rw, 1, (.rng 1 7), true⟩
def HALLMARK_CFG_PAIREN : Fld := ⟨0x80, 0x20, 16, 21, 21, .rw, 0, .any, true⟩
def HALLMARK_CFG_PAIR : Fld := ⟨0x80, 0x20, 16, 20, 17, .rw, 0, .any, true⟩
def HALLMARK_CFG_RXSYNC : Fld := ⟨0x80, 0x20, 16, 16, 16, .rw, 1, .any, true⟩
def HALLMARK_CFG_ARX : Fld := ⟨0x80, 0x20, 16, 15, 8, .rw, 0, .any, true⟩
def HALLMARK_CFG_ATX : Fld := ⟨0x80, 0x20, 16, 7, 0, .rw, 0, .any, true⟩
def HALLMARK_VALUE_V : Fld := ⟨0x84, 0x20, 16, 31, 0, .rw, 0xffffffff, .any, false⟩
def HALLMARK_DATA4_D : Fld := ⟨0x88, 0x20, 16, 31, 0, .wo, 0, .any, false⟩
def HALLMARK_DATA1_D : Fld := ⟨0x8C, 0x20, 16, 7, 0, .wo, 0, .any, false⟩
def HALLMARK_CHECKIN_C : Fld := ⟨0x90, 0x20, 16, 31, 0, .wo, 0, .any, false⟩
def HALLMARK_CLOSE_OP : Fld := ⟨0x94, 0x20, 16, 31, 30, .wo, 0, (.rng 1 2), false⟩
def HALLMARK_CLOSE_ALIVEIN : Fld := ⟨0x94, 0x20, 16, 7, 0, .wo, 0, .any, false⟩
def HALLMARK_OUT_C : Fld := ⟨0x98, 0x20, 16, 31, 0, .ro, 0, .any, false⟩
def HALLMARK_STAT_RESULT : Fld := ⟨0x9C, 0x20, 16, 31, 30, .ro, 0, .any, false⟩
def HALLMARK_STAT_DISCARDED : Fld := ⟨0x9C, 0x20, 16, 29, 29, .ro, 0, .any, false⟩
def HALLMARK_STAT_FAILCNT : Fld := ⟨0x9C, 0x20, 16, 23, 16, .rw, 0, (.rng 0 0), false⟩
def HALLMARK_STAT_BYTES : Fld := ⟨0x9C, 0x20, 16, 15, 0, .ro, 0, .any, false⟩

/-! LEDGER -/

def LEDGER_CFG_FAULTN_EN : Fld := ⟨0x40, 0x4, 1, 0, 0, .rwl, 1, .any, true⟩
def LEDGER_FIRST_VALID : Fld := ⟨0x44, 0x4, 1, 31, 31, .w1c, 0, .any, false⟩
def LEDGER_FIRST_TIE : Fld := ⟨0x44, 0x4, 1, 30, 30, .ro, 0, .any, false⟩
def LEDGER_FIRST_FINAL : Fld := ⟨0x44, 0x4, 1, 29, 29, .ro, 0, .any, false⟩
def LEDGER_FIRST_DETAIL : Fld := ⟨0x44, 0x4, 1, 18, 16, .ro, 0, .any, false⟩
def LEDGER_FIRST_SRC : Fld := ⟨0x44, 0x4, 1, 8, 0, .ro, 0, .any, false⟩
def LEDGER_FIRST_T_T : Fld := ⟨0x48, 0x4, 1, 31, 0, .ro, 0, .any, false⟩
def LEDGER_UNCLEARED_TOP : Fld := ⟨0x4C, 0x4, 1, 26, 24, .ro, 0, .any, false⟩
def LEDGER_UNCLEARED_COUNT : Fld := ⟨0x4C, 0x4, 1, 8, 0, .ro, 0, .any, false⟩
def LEDGER_CLRALL_KEY : Fld := ⟨0x50, 0x4, 1, 31, 24, .wo, 0, .any, false⟩
def LEDGER_LAST_SRC : Fld := ⟨0x54, 0x4, 1, 8, 0, .ro, 0, .any, false⟩
def LEDGER_LAST_T_T : Fld := ⟨0x58, 0x4, 1, 31, 0, .ro, 0, .any, false⟩
def LEDGER_STATUS_S : Fld := ⟨0x80, 0x4, 12, 31, 0, .ro, 0, .any, false⟩
def LEDGER_RAISED_R : Fld := ⟨0xC0, 0x4, 12, 31, 0, .w1c, 0, .any, false⟩
def LEDGER_SRC_STATUS : Fld := ⟨0x200, 0x4, 384, 31, 31, .w1c, 0, .any, false⟩
def LEDGER_SRC_LIVE : Fld := ⟨0x200, 0x4, 384, 30, 30, .ro, 0, .any, false⟩
def LEDGER_SRC_FORCE : Fld := ⟨0x200, 0x4, 384, 29, 29, .rw, 0, .any, false⟩
def LEDGER_SRC_FORCED : Fld := ⟨0x200, 0x4, 384, 28, 28, .ro, 0, .any, false⟩
def LEDGER_SRC_PIN : Fld := ⟨0x200, 0x4, 384, 27, 27, .rwl, 0, .any, true⟩
def LEDGER_SRC_CLASS : Fld := ⟨0x200, 0x4, 384, 26, 24, .rwl, 0, (.rng 0 6), true⟩
def LEDGER_SRC_FLOOR : Fld := ⟨0x200, 0x4, 384, 23, 21, .ro, 0, .any, false⟩
def LEDGER_SRC_CNTCLR : Fld := ⟨0x200, 0x4, 384, 16, 16, .wo, 0, .any, false⟩
def LEDGER_SRC_CLRREF : Fld := ⟨0x200, 0x4, 384, 15, 8, .ro, 0, .any, false⟩
def LEDGER_SRC_COUNT : Fld := ⟨0x200, 0x4, 384, 7, 0, .ro, 0, .any, false⟩

/-! TINKER -/

def TINKER_CFG_GAP : Fld := ⟨0x40, 0x4, 1, 31, 16, .rw, 100, (.rng 1 65535), true⟩
def TINKER_CMD_KEY : Fld := ⟨0x44, 0x4, 1, 31, 24, .wo, 0, .any, false⟩
def TINKER_CMD_OP : Fld := ⟨0x44, 0x4, 1, 1, 0, .wo, 0, (.rng 1 2), false⟩
def TINKER_STAT_BUSY : Fld := ⟨0x48, 0x4, 1, 31, 31, .ro, 0, .any, false⟩
def TINKER_STAT_DONE : Fld := ⟨0x48, 0x4, 1, 23, 16, .ro, 0, .any, false⟩
def TINKER_STAT_CUR : Fld := ⟨0x48, 0x4, 1, 5, 0, .ro, 0, .any, false⟩
def TINKER_SWEEPCNT_ONLINE : Fld := ⟨0x4C, 0x4, 1, 31, 16, .rw, 0, (.rng 0 0), false⟩
def TINKER_SWEEPCNT_AGE : Fld := ⟨0x4C, 0x4, 1, 15, 0, .ro, 0, .any, false⟩
def TINKER_FAIL_S : Fld := ⟨0x50, 0x4, 2, 31, 0, .w1c, 0, .any, false⟩
def TINKER_EN0_S : Fld := ⟨0x58, 0x4, 1, 31, 0, .rw, 0xffffffff, .any, true⟩
def TINKER_EN1_S : Fld := ⟨0x5C, 0x4, 1, 13, 0, .rw, 0x3fff, .any, true⟩
def TINKER_SLICE_FAIL : Fld := ⟨0x100, 0x4, 46, 31, 31, .ro, 0, .any, false⟩
def TINKER_SLICE_LASTOK : Fld := ⟨0x100, 0x4, 46, 30, 30, .ro, 0, .any, false⟩
def TINKER_SLICE_ONLINE : Fld := ⟨0x100, 0x4, 46, 29, 29, .ro, 1, .any, false⟩
def TINKER_SLICE_FAILCNT : Fld := ⟨0x100, 0x4, 46, 23, 16, .rw, 0, (.rng 0 0), false⟩
def TINKER_SLICE_ABANDON : Fld := ⟨0x100, 0x4, 46, 15, 8, .rw, 0, (.rng 0 0), false⟩
def TINKER_SLICE_RUNS : Fld := ⟨0x100, 0x4, 46, 7, 0, .rw, 0, (.rng 0 0), false⟩
def TINKER_SLICEM_FAIL : Fld := ⟨0x1B8, 0x4, 3, 31, 31, .ro, 0, .any, false⟩
def TINKER_SLICEM_LASTOK : Fld := ⟨0x1B8, 0x4, 3, 30, 30, .ro, 0, .any, false⟩
def TINKER_SLICEM_ONLINE : Fld := ⟨0x1B8, 0x4, 3, 29, 29, .ro, 0, .any, false⟩
def TINKER_SLICEM_FAILCNT : Fld := ⟨0x1B8, 0x4, 3, 23, 16, .rw, 0, (.rng 0 0), false⟩
def TINKER_SLICEM_ABANDON : Fld := ⟨0x1B8, 0x4, 3, 15, 8, .rw, 0, (.rng 0 0), false⟩
def TINKER_SLICEM_RUNS : Fld := ⟨0x1B8, 0x4, 3, 7, 0, .rw, 0, (.rng 0 0), false⟩

/-! TEMP -/

def TEMP_CFG_WARN : Fld := ⟨0x40, 0x4, 1, 23, 16, .rw, 140, (.rng 100 165), true⟩
def TEMP_CFG_RETRY : Fld := ⟨0x40, 0x4, 1, 15, 8, .rw, 10, (.rng 1 255), true⟩
def TEMP_CLR_S : Fld := ⟨0x44, 0x4, 1, 19, 0, .wo, 0, .any, false⟩
def TEMP_THROT_TINKER : Fld := ⟨0x48, 0x4, 1, 19, 16, .rw, 0, .any, false⟩
def TEMP_THROT_ACCEL : Fld := ⟨0x48, 0x4, 1, 15, 12, .rw, 0, .any, false⟩
def TEMP_THROT_ETH : Fld := ⟨0x48, 0x4, 1, 11, 8, .rw, 0, .any, false⟩
def TEMP_THROT_LINK : Fld := ⟨0x48, 0x4, 1, 7, 4, .rw, 0, .any, false⟩
def TEMP_THROT_CAN : Fld := ⟨0x48, 0x4, 1, 3, 0, .rw, 0, .any, false⟩
def TEMP_SHUT_LATCH : Fld := ⟨0x4C, 0x4, 1, 31, 31, .ro, 0, .any, false⟩
def TEMP_SHUT_COUNT : Fld := ⟨0x4C, 0x4, 1, 7, 0, .ro, 0, .any, false⟩
def TEMP_REC_MODE : Fld := ⟨0x50, 0x4, 1, 26, 24, .ro, 0, .any, false⟩
def TEMP_REC_BLIND : Fld := ⟨0x50, 0x4, 1, 23, 23, .ro, 0, .any, false⟩
def TEMP_REC_SENSOR : Fld := ⟨0x50, 0x4, 1, 20, 16, .ro, 0, .any, false⟩
def TEMP_REC_TEMP : Fld := ⟨0x50, 0x4, 1, 15, 0, .ro, 0, .any, false⟩
def TEMP_REC_T_LO_T : Fld := ⟨0x54, 0x4, 1, 31, 0, .ro, 0, .any, false⟩
def TEMP_REC_T_HI_T : Fld := ⟨0x58, 0x4, 1, 31, 0, .ro, 0, .any, false⟩
def TEMP_MAX_SENSOR : Fld := ⟨0x5C, 0x4, 1, 20, 16, .ro, 0, .any, false⟩
def TEMP_MAX_VALUE : Fld := ⟨0x5C, 0x4, 1, 15, 0, .ro, 0, .any, false⟩
def TEMP_SENS_EXCL : Fld := ⟨0x80, 0x4, 20, 31, 31, .ro, 0, .any, false⟩
def TEMP_SENS_AVAIL : Fld := ⟨0x80, 0x4, 20, 30, 30, .ro, 0, .any, false⟩
def TEMP_SENS_VALUE : Fld := ⟨0x80, 0x4, 20, 15, 0, .ro, 0, .any, false⟩

/-! NVM -/

def NVM_BANK_ERR1 : Fld := ⟨0x40, 0x4, 1, 19, 16, .ro, 0, .any, false⟩
def NVM_BANK_ERR0 : Fld := ⟨0x40, 0x4, 1, 15, 12, .ro, 0, .any, false⟩
def NVM_BANK_VALID1 : Fld := ⟨0x40, 0x4, 1, 11, 11, .ro, 0, .any, false⟩
def NVM_BANK_VALID0 : Fld := ⟨0x40, 0x4, 1, 10, 10, .ro, 0, .any, false⟩
def NVM_BANK_RUN_B : Fld := ⟨0x40, 0x4, 1, 9, 9, .ro, 0, .any, false⟩
def NVM_BANK_RUN_A : Fld := ⟨0x40, 0x4, 1, 8, 8, .ro, 0, .any, false⟩
def NVM_BANK_TRY_B : Fld := ⟨0x40, 0x4, 1, 7, 7, .ro, 0, .any, false⟩
def NVM_BANK_TRY_A : Fld := ⟨0x40, 0x4, 1, 6, 6, .ro, 0, .any, false⟩
def NVM_BANK_PREF : Fld := ⟨0x40, 0x4, 1, 5, 5, .ro, 0, .any, false⟩
def NVM_UPD_KEY : Fld := ⟨0x44, 0x4, 1, 31, 24, .wo, 0, .any, false⟩
def NVM_UPD_SCOPE : Fld := ⟨0x44, 0x4, 1, 18, 16, .wo, 0, (.rng 0 4), false⟩
def NVM_UPD_BANK : Fld := ⟨0x44, 0x4, 1, 8, 8, .wo, 0, .any, false⟩
def NVM_UPD_OP : Fld := ⟨0x44, 0x4, 1, 3, 0, .wo, 0, (.rng 1 7), false⟩
def NVM_UPDSTAT_REFUSE : Fld := ⟨0x48, 0x4, 1, 31, 28, .ro, 0, .any, false⟩
def NVM_UPDSTAT_STATE : Fld := ⟨0x48, 0x4, 1, 27, 24, .ro, 0, .any, false⟩
def NVM_UPDSTAT_RESULT : Fld := ⟨0x48, 0x4, 1, 23, 22, .ro, 0, .any, false⟩
def NVM_UPDSTAT_SKIPPED : Fld := ⟨0x48, 0x4, 1, 15, 0, .ro, 0, .any, false⟩
def NVM_WADDR_PAGE : Fld := ⟨0x4C, 0x4, 1, 20, 8, .rw, 0, .any, false⟩
def NVM_VER_VERSION : Fld := ⟨0x50, 0x4, 2, 31, 0, .ro, 0, .any, false⟩
def NVM_SVN_SVN1 : Fld := ⟨0x58, 0x4, 1, 31, 24, .ro, 0, .any, false⟩
def NVM_SVN_SVN0 : Fld := ⟨0x58, 0x4, 1, 23, 16, .ro, 0, .any, false⟩
def NVM_SVN_OTP : Fld := ⟨0x58, 0x4, 1, 6, 0, .ro, 0, .any, false⟩
def NVM_UNLOCK_KEY : Fld := ⟨0x5C, 0x4, 1, 31, 24, .wo, 0, .any, false⟩
def NVM_UNLOCK_RESULT : Fld := ⟨0x5C, 0x4, 1, 19, 16, .ro, 0, .any, false⟩
def NVM_UNLOCK_DBG : Fld := ⟨0x5C, 0x4, 1, 8, 8, .ro, 0, .any, false⟩
def NVM_UNLOCK_OP : Fld := ⟨0x5C, 0x4, 1, 1, 0, .wo, 0, (.rng 1 2), false⟩
def NVM_QUOTE_KEY : Fld := ⟨0x60, 0x4, 1, 31, 24, .wo, 0, .any, false⟩
def NVM_QUOTE_RESULT : Fld := ⟨0x60, 0x4, 1, 19, 16, .ro, 0, .any, false⟩
def NVM_QUOTE_BUSY : Fld := ⟨0x60, 0x4, 1, 15, 15, .ro, 0, .any, false⟩
def NVM_QUOTE_DIE : Fld := ⟨0x60, 0x4, 1, 8, 8, .rw, 0, .any, false⟩
def NVM_QUOTE_GO : Fld := ⟨0x60, 0x4, 1, 0, 0, .wo, 0, .any, false⟩
def NVM_IDSTAT_ROOT : Fld := ⟨0x64, 0x4, 1, 2, 2, .ro, 0, .any, false⟩
def NVM_IDSTAT_UKEY : Fld := ⟨0x64, 0x4, 1, 1, 1, .ro, 0, .any, false⟩
def NVM_IDSTAT_SET : Fld := ⟨0x64, 0x4, 1, 0, 0, .ro, 0, .any, false⟩
def NVM_UPDCFG_TMO : Fld := ⟨0x68, 0x4, 1, 31, 16, .rw, 0x1f4, (.rng 10 65535), false⟩
def NVM_UPDCFG_SETTLE : Fld := ⟨0x68, 0x4, 1, 15, 0, .rw, 100, .any, false⟩
def NVM_QNONCE_N : Fld := ⟨0x80, 0x4, 8, 31, 0, .rw, 0, .any, false⟩
def NVM_CHAL_C : Fld := ⟨0xA0, 0x4, 8, 31, 0, .ro, 0, .any, false⟩
def NVM_OBJSEL_OBJ : Fld := ⟨0xC0, 0x4, 1, 15, 12, .rw, 0, (.rng 0 3), false⟩
def NVM_OBJSEL_DIE : Fld := ⟨0xC0, 0x4, 1, 10, 10, .rw, 0, .any, false⟩
def NVM_OBJSEL_IDX : Fld := ⟨0xC0, 0x4, 1, 9, 0, .rw, 0, .any, false⟩
def NVM_OBJDATA_D : Fld := ⟨0xC4, 0x4, 1, 31, 0, .rw, 0, .any, false⟩
def NVM_WBUF_D : Fld := ⟨0x100, 0x4, 64, 31, 0, .rw, 0, .any, false⟩

/-! RES -/

def RES_CLAIM_KEY : Fld := ⟨0x40, 0x4, 1, 31, 24, .wo, 0, .any, false⟩
def RES_CLAIM_OP : Fld := ⟨0x40, 0x4, 1, 9, 8, .wo, 0, (.rng 1 2), false⟩
def RES_CLAIM_R : Fld := ⟨0x40, 0x4, 1, 7, 0, .wo, 0, .any, false⟩
def RES_STAT_REFUSE : Fld := ⟨0x44, 0x4, 1, 31, 28, .ro, 0, .any, false⟩
def RES_STAT_R : Fld := ⟨0x44, 0x4, 1, 7, 0, .ro, 0, .any, false⟩
def RES_RSEL_R : Fld := ⟨0x48, 0x4, 1, 7, 0, .rw, 0, .any, false⟩
def RES_RINFO_PREEMPTED : Fld := ⟨0x4C, 0x4, 1, 24, 24, .w1c, 0, .any, false⟩
def RES_RINFO_WAIT : Fld := ⟨0x4C, 0x4, 1, 23, 16, .ro, 255, .any, false⟩
def RES_RINFO_TAKER : Fld := ⟨0x4C, 0x4, 1, 15, 8, .ro, 255, .any, false⟩
def RES_RINFO_OWNER : Fld := ⟨0x4C, 0x4, 1, 7, 0, .ro, 255, .any, false⟩
def RES_TAKEN_R : Fld := ⟨0x50, 0x4, 5, 31, 0, .ro, 0, .any, false⟩
def RES_AUXCFG_F : Fld := ⟨0x64, 0x4, 1, 7, 0, .rw, 0, .any, true⟩
def RES_AUXVAL_V : Fld := ⟨0x68, 0x4, 4, 15, 0, .ro, 0, .any, false⟩
def RES_OWN_O : Fld := ⟨0x80, 0x4, 40, 31, 0, .ro, 0xffffffff, .any, false⟩

/-! CAN -/

def CAN_CFG_OPMODE : Fld := ⟨0x40, 0x4, 1, 29, 28, .rw, 0, .any, true⟩
def CAN_CFG_AUTORECOV : Fld := ⟨0x40, 0x4, 1, 27, 27, .rw, 1, .any, true⟩
def CAN_CFG_TXORD : Fld := ⟨0x40, 0x4, 1, 26, 26, .rw, 0, .any, true⟩
def CAN_CFG_TSPOINT : Fld := ⟨0x40, 0x4, 1, 25, 25, .rw, 0, .any, true⟩
def CAN_CFG_NOMATCH : Fld := ⟨0x40, 0x4, 1, 24, 23, .rw, 0, (.rng 0 2), true⟩
def CAN_CFG_QMODE1 : Fld := ⟨0x40, 0x4, 1, 22, 22, .rw, 0, .any, true⟩
def CAN_CFG_QMODE0 : Fld := ⟨0x40, 0x4, 1, 21, 21, .rw, 0, .any, true⟩
def CAN_CFG_OVF1 : Fld := ⟨0x40, 0x4, 1, 20, 20, .rw, 0, .any, true⟩
def CAN_CFG_OVF0 : Fld := ⟨0x40, 0x4, 1, 19, 19, .rw, 0, .any, true⟩
def CAN_CFG_XLEN : Fld := ⟨0x40, 0x4, 1, 18, 18, .rw, 0, .any, true⟩
def CAN_CFG_FDEN : Fld := ⟨0x40, 0x4, 1, 17, 17, .rw, 0, .any, true⟩
def CAN_BTN_BRP : Fld := ⟨0x44, 0x4, 1, 31, 24, .rw, 9, .any, true⟩
def CAN_BTN_TSEG1 : Fld := ⟨0x44, 0x4, 1, 23, 16, .rw, 78, (.rng 1 255), true⟩
def CAN_BTN_TSEG2 : Fld := ⟨0x44, 0x4, 1, 15, 9, .rw, 19, .any, true⟩
def CAN_BTN_SJW : Fld := ⟨0x44, 0x4, 1, 8, 2, .rw, 19, .any, true⟩
def CAN_BTD_BRP : Fld := ⟨0x48, 0x4, 1, 31, 27, .rw, 4, .any, true⟩
def CAN_BTD_TSEG1 : Fld := ⟨0x48, 0x4, 1, 26, 20, .rw, 18, .any, true⟩
def CAN_BTD_TSEG2 : Fld := ⟨0x48, 0x4, 1, 19, 14, .rw, 4, .any, true⟩
def CAN_BTD_SJW : Fld := ⟨0x48, 0x4, 1, 13, 8, .rw, 4, .any, true⟩
def CAN_BTD_TDC : Fld := ⟨0x48, 0x4, 1, 7, 7, .rw, 1, .any, true⟩
def CAN_BTD_TDCO : Fld := ⟨0x48, 0x4, 1, 6, 0, .rw, 20, .any, true⟩
def CAN_BTX_BRP : Fld := ⟨0x4C, 0x4, 1, 31, 27, .rw, 4, .any, true⟩
def CAN_BTX_TSEG1 : Fld := ⟨0x4C, 0x4, 1, 26, 20, .rw, 18, .any, true⟩
def CAN_BTX_TSEG2 : Fld := ⟨0x4C, 0x4, 1, 19, 14, .rw, 4, .any, true⟩
def CAN_BTX_SJW : Fld := ⟨0x4C, 0x4, 1, 13, 8, .rw, 4, .any, true⟩
def CAN_BTX_TDC : Fld := ⟨0x4C, 0x4, 1, 7, 7, .rw, 1, .any, true⟩
def CAN_BTX_TDCO : Fld := ⟨0x4C, 0x4, 1, 6, 0, .rw, 20, .any, true⟩
def CAN_STAT_TXBUSY : Fld := ⟨0x50, 0x4, 1, 7, 7, .ro, 0, .any, false⟩
def CAN_STAT_RXBUSY : Fld := ⟨0x50, 0x4, 1, 6, 6, .ro, 0, .any, false⟩
def CAN_STAT_STATE : Fld := ⟨0x50, 0x4, 1, 2, 0, .ro, 0, .any, false⟩
def CAN_ERR_TEC : Fld := ⟨0x54, 0x4, 1, 31, 24, .ro, 0, .any, false⟩
def CAN_ERR_REC : Fld := ⟨0x54, 0x4, 1, 23, 16, .ro, 0, .any, false⟩
def CAN_ERR_DLEC : Fld := ⟨0x54, 0x4, 1, 6, 4, .ro, 0, .any, false⟩
def CAN_ERR_LEC : Fld := ⟨0x54, 0x4, 1, 2, 0, .ro, 0, .any, false⟩
def CAN_RXCNT_NOMATCH : Fld := ⟨0x58, 0x4, 1, 31, 16, .rw, 0, .any, false⟩
def CAN_RXCNT_OVERSIZE : Fld := ⟨0x58, 0x4, 1, 15, 0, .rw, 0, .any, false⟩
def CAN_QSTAT0_HELD : Fld := ⟨0x5C, 0x4, 1, 15, 15, .ro, 0, .any, false⟩
def CAN_QSTAT0_FULL : Fld := ⟨0x5C, 0x4, 1, 14, 8, .ro, 0, .any, false⟩
def CAN_QSTAT0_HIDX : Fld := ⟨0x5C, 0x4, 1, 5, 0, .ro, 0, .any, false⟩
def CAN_QSTAT1_HELD : Fld := ⟨0x60, 0x4, 1, 15, 15, .ro, 0, .any, false⟩
def CAN_QSTAT1_FULL : Fld := ⟨0x60, 0x4, 1, 14, 8, .ro, 0, .any, false⟩
def CAN_QSTAT1_HIDX : Fld := ⟨0x60, 0x4, 1, 5, 0, .ro, 0, .any, false⟩
def CAN_QCMD_QUEUE : Fld := ⟨0x64, 0x4, 1, 8, 8, .wo, 0, .any, false⟩
def CAN_QCMD_OP : Fld := ⟨0x64, 0x4, 1, 1, 0, .wo, 0, (.rng 1 2), false⟩
def CAN_TXSEL_BUF : Fld := ⟨0x68, 0x4, 1, 4, 0, .rw, 0, .any, false⟩
def CAN_TXPEND_BUF : Fld := ⟨0x6C, 0x4, 1, 31, 0, .ro, 0, .any, false⟩
def CAN_TXDONE_BUF : Fld := ⟨0x70, 0x4, 1, 31, 0, .w1c, 0, .any, false⟩
def CAN_TXCANCEL_BUF : Fld := ⟨0x74, 0x4, 1, 31, 0, .wo, 0, .any, false⟩
def CAN_RULCFG_EN : Fld := ⟨0x78, 0x4, 1, 31, 31, .rw, 0, .any, true⟩
def CAN_RULCFG_ROLE : Fld := ⟨0x78, 0x4, 1, 30, 29, .rw, 0, (.rng 0 2), true⟩
def CAN_RULCFG_TIMEIN : Fld := ⟨0x78, 0x4, 1, 28, 28, .rw, 0, .any, true⟩
def CAN_RULCFG_CYCX : Fld := ⟨0x78, 0x4, 1, 27, 25, .rw, 0, (.rng 0 6), true⟩
def CAN_RULCFG_REFBUF : Fld := ⟨0x78, 0x4, 1, 24, 20, .rw, 0, .any, true⟩
def CAN_RULCFG_REFFILT : Fld := ⟨0x78, 0x4, 1, 19, 13, .rw, 0, .any, true⟩
def CAN_RULCYC_T : Fld := ⟨0x7C, 0x4, 1, 31, 0, .rw, 0x4c4b40, (.rng 5000 500000000), true⟩
def CAN_RULBK_T : Fld := ⟨0x80, 0x4, 1, 31, 0, .rw, 0xc350, .any, true⟩
def CAN_RULSTAT_MASTER : Fld := ⟨0x84, 0x4, 1, 7, 7, .ro, 0, .any, false⟩
def CAN_RULSTAT_REF_OK : Fld := ⟨0x84, 0x4, 1, 6, 6, .ro, 0, .any, false⟩
def CAN_RULSTAT_CYC : Fld := ⟨0x84, 0x4, 1, 5, 0, .ro, 0, .any, false⟩

/-! LINK -/

def LINK_CFG_HEAD : Fld := ⟨0x40, 0x4, 1, 9, 8, .rw, 0, (.rng 0 2), true⟩
def LINK_CFG_RATE : Fld := ⟨0x40, 0x4, 1, 7, 7, .rw, 0, .any, true⟩
def LINK_CFG_NMAX : Fld := ⟨0x40, 0x4, 1, 6, 0, .rw, 64, (.rng 1 64), true⟩
def LINK_NODE_MISMATCH : Fld := ⟨0x44, 0x4, 1, 31, 24, .rw, 0, .any, false⟩
def LINK_NODE_EPOCH : Fld := ⟨0x44, 0x4, 1, 15, 8, .rw, 0, .any, false⟩
def LINK_NODE_ADDR : Fld := ⟨0x44, 0x4, 1, 5, 0, .rw, 0, .any, false⟩
def LINK_CYCLE_CYC : Fld := ⟨0x48, 0x4, 1, 15, 0, .rw, 50, (.rng 10 1000), true⟩
def LINK_SLOT_START : Fld := ⟨0x4C, 0x4, 1, 31, 16, .rw, 0, .any, true⟩
def LINK_SLOT_LEN : Fld := ⟨0x4C, 0x4, 1, 15, 0, .rw, 0, .any, true⟩
def LINK_TIMING_PDLY : Fld := ⟨0x50, 0x4, 1, 15, 0, .rw, 50, .any, true⟩
def LINK_STAT_HEADADDR : Fld := ⟨0x54, 0x4, 1, 21, 16, .ro, 0, .any, false⟩
def LINK_STAT_HEADOK : Fld := ⟨0x54, 0x4, 1, 15, 15, .ro, 0, .any, false⟩
def LINK_STAT_ISHEAD : Fld := ⟨0x54, 0x4, 1, 14, 14, .ro, 0, .any, false⟩
def LINK_CYCCNT_N : Fld := ⟨0x58, 0x4, 1, 31, 0, .ro, 0, .any, false⟩
def LINK_NOTICE0_NODE : Fld := ⟨0x5C, 0x4, 1, 31, 0, .w1c, 0, .any, false⟩
def LINK_NOTICE1_NODE : Fld := ⟨0x60, 0x4, 1, 31, 0, .w1c, 0, .any, false⟩
def LINK_LIVE0_NODE : Fld := ⟨0x64, 0x4, 1, 31, 0, .ro, 0, .any, false⟩
def LINK_LIVE1_NODE : Fld := ⟨0x68, 0x4, 1, 31, 0, .ro, 0, .any, false⟩
def LINK_SYNCTX_EVT : Fld := ⟨0x6C, 0x4, 1, 7, 0, .wo, 0, .any, false⟩
def LINK_SYNCTX_T_T : Fld := ⟨0x70, 0x4, 1, 31, 0, .rw, 0, .any, false⟩
def LINK_SYNCRX_SRC : Fld := ⟨0x74, 0x4, 1, 21, 16, .ro, 0, .any, false⟩
def LINK_SYNCRX_LATE : Fld := ⟨0x74, 0x4, 1, 8, 8, .ro, 0, .any, false⟩
def LINK_SYNCRX_EVT : Fld := ⟨0x74, 0x4, 1, 7, 0, .ro, 0, .any, false⟩
def LINK_ERR_CRC : Fld := ⟨0x78, 0x4, 1, 31, 24, .rw, 0, .any, false⟩
def LINK_ERR_COLL : Fld := ⟨0x78, 0x4, 1, 23, 16, .rw, 0, .any, false⟩
def LINK_ERR_OVERRUN : Fld := ⟨0x78, 0x4, 1, 15, 8, .rw, 0, .any, false⟩

/-! ETH -/

def ETH_CFG_BCAST : Fld := ⟨0x40, 0x4, 1, 4, 4, .rw, 1, .any, true⟩
def ETH_CFG_MCEN : Fld := ⟨0x40, 0x4, 1, 3, 3, .rw, 0, .any, true⟩
def ETH_CFG_AN : Fld := ⟨0x40, 0x4, 1, 2, 2, .rw, 1, .any, true⟩
def ETH_CFG_PTP : Fld := ⟨0x40, 0x4, 1, 1, 1, .rw, 0, .any, true⟩
def ETH_STAT_PTPLOCK : Fld := ⟨0x44, 0x4, 1, 2, 2, .ro, 0, .any, false⟩
def ETH_STAT_AN_DONE : Fld := ⟨0x44, 0x4, 1, 1, 1, .ro, 0, .any, false⟩
def ETH_STAT_LINK : Fld := ⟨0x44, 0x4, 1, 0, 0, .ro, 0, .any, false⟩
def ETH_MAC_LO_ADDR : Fld := ⟨0x48, 0x4, 1, 31, 0, .rw, 0, .any, true⟩
def ETH_MAC_HI_ADDR : Fld := ⟨0x4C, 0x4, 1, 15, 0, .rw, 0, .any, true⟩
def ETH_MC_LO_ADDR : Fld := ⟨0x50, 0x4, 1, 31, 0, .rw, 0, .any, true⟩
def ETH_MC_HI_ADDR : Fld := ⟨0x54, 0x4, 1, 15, 0, .rw, 0, .any, true⟩
def ETH_SLDA_LO_ADDR : Fld := ⟨0x58, 0x4, 1, 31, 0, .rw, 0, .any, true⟩
def ETH_SLDA_HI_ADDR : Fld := ⟨0x5C, 0x4, 1, 15, 0, .rw, 0, .any, true⟩
def ETH_RXLEN_VALID : Fld := ⟨0x60, 0x4, 1, 31, 31, .ro, 0, .any, false⟩
def ETH_RXLEN_LEN : Fld := ⟨0x60, 0x4, 1, 10, 0, .ro, 0, .any, false⟩
def ETH_RXTS_T : Fld := ⟨0x64, 0x4, 1, 31, 0, .ro, 0, .any, false⟩
def ETH_RXDATA_DATA : Fld := ⟨0x68, 0x4, 1, 31, 0, .ro, 0, .any, false⟩
def ETH_TXLEN_LEN : Fld := ⟨0x6C, 0x4, 1, 10, 0, .wo, 0, (.rng 14 1518), false⟩
def ETH_TXDATA_DATA : Fld := ⟨0x70, 0x4, 1, 31, 0, .wo, 0, .any, false⟩
def ETH_MDIO_GO : Fld := ⟨0x74, 0x4, 1, 31, 31, .rw, 0, .any, true⟩
def ETH_MDIO_READ : Fld := ⟨0x74, 0x4, 1, 30, 30, .rw, 0, .any, true⟩
def ETH_MDIO_PHYAD : Fld := ⟨0x74, 0x4, 1, 25, 21, .rw, 0, .any, true⟩
def ETH_MDIO_REG : Fld := ⟨0x74, 0x4, 1, 20, 16, .rw, 0, .any, true⟩
def ETH_MDIO_DATA : Fld := ⟨0x74, 0x4, 1, 15, 0, .rw, 0, .any, true⟩
def ETH_CNT_RXDROP : Fld := ⟨0x78, 0x4, 1, 31, 16, .rw, 0, .any, true⟩
def ETH_CNT_RXERR : Fld := ⟨0x78, 0x4, 1, 15, 0, .rw, 0, .any, true⟩

/-! TIME -/

def TIME_CFG_MAXSLEW : Fld := ⟨0x40, 0x4, 1, 23, 16, .rw, 100, (.rng 1 200), true⟩
def TIME_CFG_SRC : Fld := ⟨0x40, 0x4, 1, 10, 8, .rw, 0, (.rng 0 5), true⟩
def TIME_CFG_CANSEL : Fld := ⟨0x40, 0x4, 1, 7, 6, .rw, 0, .any, true⟩
def TIME_CFG_STEPEN : Fld := ⟨0x40, 0x4, 1, 5, 5, .rw, 1, .any, true⟩
def TIME_CFG_PPSPOL : Fld := ⟨0x40, 0x4, 1, 4, 4, .rw, 0, .any, true⟩
def TIME_TOL_T : Fld := ⟨0x44, 0x4, 1, 31, 0, .rw, 0x1f4, (.rng 1 4294967295), true⟩
def TIME_EXPINT_T : Fld := ⟨0x48, 0x4, 1, 31, 0, .rw, 0xf4240, .any, true⟩
def TIME_STAT_STEPWAIT : Fld := ⟨0x4C, 0x4, 1, 3, 3, .ro, 0, .any, false⟩
def TIME_STAT_AHEAD : Fld := ⟨0x4C, 0x4, 1, 2, 2, .ro, 0, .any, false⟩
def TIME_STAT_SYNC : Fld := ⟨0x4C, 0x4, 1, 1, 1, .ro, 0, .any, false⟩
def TIME_STAT_VALID : Fld := ⟨0x4C, 0x4, 1, 0, 0, .ro, 0, .any, false⟩
def TIME_OFS_O : Fld := ⟨0x50, 0x4, 1, 31, 0, .ro, 0, .any, false⟩
def TIME_TRIM_R : Fld := ⟨0x54, 0x4, 1, 31, 0, .ro, 0, .any, false⟩
def TIME_NOW_LO_T : Fld := ⟨0x58, 0x4, 1, 31, 0, .ro, 0, .any, false⟩
def TIME_NOW_HI_T : Fld := ⟨0x5C, 0x4, 1, 31, 0, .ro, 0, .any, false⟩
def TIME_STEPCNT_N : Fld := ⟨0x60, 0x4, 1, 15, 0, .ro, 0, .any, false⟩
def TIME_PPS_T_T : Fld := ⟨0x64, 0x4, 1, 31, 0, .ro, 0, .any, false⟩

/-! SEGT -/

def SEGT_P1 : Fld := ⟨0x0, 0x10, 4096, 31, 0, .rw, 0, .any, false⟩
def SEGT_V1 : Fld := ⟨0x4, 0x10, 4096, 31, 0, .rw, 0, .any, false⟩
def SEGT_DUR : Fld := ⟨0x8, 0x10, 4096, 23, 0, .rw, 0, .any, false⟩
def SEGT_CHECK : Fld := ⟨0xC, 0x10, 4096, 31, 24, .rw, 0, .any, false⟩
def SEGT_END : Fld := ⟨0xC, 0x10, 4096, 14, 14, .rw, 0, .any, false⟩
def SEGT_WAIT : Fld := ⟨0xC, 0x10, 4096, 13, 13, .rw, 0, .any, false⟩
def SEGT_NEXT : Fld := ⟨0xC, 0x10, 4096, 11, 0, .rw, 0, .any, false⟩

/-! CONN -/

def CONN_CONNID : Fld := ⟨0x0, 0x40, 1024, 31, 0, .rw, 0, .any, false⟩
def CONN_PEERID : Fld := ⟨0x4, 0x40, 1024, 31, 0, .rw, 0, .any, false⟩
def CONN_EPOCH : Fld := ⟨0x8, 0x40, 1024, 31, 24, .rw, 0, .any, false⟩
def CONN_PERIOD : Fld := ⟨0x8, 0x40, 1024, 23, 16, .rw, 0, .any, false⟩
def CONN_REPLY_EN : Fld := ⟨0x8, 0x40, 1024, 12, 12, .rw, 0, .any, false⟩
def CONN_USE : Fld := ⟨0x8, 0x40, 1024, 11, 10, .rw, 0, (.rng 0 2), false⟩
def CONN_AXES : Fld := ⟨0x8, 0x40, 1024, 9, 8, .rw, 3, .any, false⟩
def CONN_REBIND_OK : Fld := ⟨0x8, 0x40, 1024, 7, 7, .rw, 0, .any, false⟩
def CONN_DUAL : Fld := ⟨0x8, 0x40, 1024, 6, 6, .rw, 0, .any, false⟩
def CONN_TSCHK : Fld := ⟨0x8, 0x40, 1024, 5, 5, .rw, 0, .any, false⟩
def CONN_DIR : Fld := ⟨0x8, 0x40, 1024, 4, 4, .rw, 0, .any, false⟩
def CONN_EN : Fld := ⟨0x8, 0x40, 1024, 0, 0, .rw, 0, .any, false⟩
def CONN_PATH0_ID : Fld := ⟨0xC, 0x40, 1024, 31, 0, .rw, 0, .any, false⟩
def CONN_PATH1_ID : Fld := ⟨0x10, 0x40, 1024, 31, 0, .rw, 0, .any, false⟩
def CONN_P1PORT : Fld := ⟨0x14, 0x40, 1024, 31, 26, .rw, 0, .any, false⟩
def CONN_P0PORT : Fld := ⟨0x14, 0x40, 1024, 25, 20, .rw, 0, .any, false⟩
def CONN_GAP : Fld := ⟨0x14, 0x40, 1024, 19, 16, .rw, 1, (.rng 1 15), false⟩
def CONN_REPLY : Fld := ⟨0x14, 0x40, 1024, 15, 6, .rw, 0, .any, false⟩
def CONN_LEN : Fld := ⟨0x14, 0x40, 1024, 5, 0, .rw, 0, (.rng 0 48), false⟩
def CONN_WMIN : Fld := ⟨0x18, 0x40, 1024, 31, 16, .rw, 0, .any, false⟩
def CONN_WMAX : Fld := ⟨0x18, 0x40, 1024, 15, 0, .rw, 0x3e8, (.rng 1 65535), false⟩
def CONN_CMPW : Fld := ⟨0x1C, 0x40, 1024, 31, 16, .rw, 200, .any, false⟩
def CONN_AGEMAX : Fld := ⟨0x1C, 0x40, 1024, 15, 0, .rw, 0x3e8, .any, false⟩
def CONN_TOREACT : Fld := ⟨0x20, 0x40, 1024, 31, 29, .rw, 3, (.rng 0 4), false⟩
def CONN_RECOV_N : Fld := ⟨0x20, 0x40, 1024, 23, 20, .rw, 4, (.rng 1 15), false⟩
def CONN_ERRLIM : Fld := ⟨0x20, 0x40, 1024, 19, 16, .rw, 3, (.rng 1 15), false⟩
def CONN_SKEW : Fld := ⟨0x20, 0x40, 1024, 15, 8, .rw, 20, .any, false⟩
def CONN_BINDT : Fld := ⟨0x24, 0x40, 1024, 15, 0, .rw, 100, (.rng 1 65535), false⟩
def CONN_LASTSEQ : Fld := ⟨0x30, 0x40, 1024, 31, 16, .ro, 0, .any, false⟩
def CONN_MISM : Fld := ⟨0x30, 0x40, 1024, 15, 8, .ro, 0, .any, false⟩
def CONN_CSTATE : Fld := ⟨0x30, 0x40, 1024, 2, 0, .ro, 0, .any, false⟩
def CONN_LAST_T : Fld := ⟨0x34, 0x40, 1024, 31, 0, .ro, 0, .any, false⟩
def CONN_DMISS : Fld := ⟨0x38, 0x40, 1024, 31, 16, .ro, 0, .any, false⟩
def CONN_REJECT : Fld := ⟨0x38, 0x40, 1024, 15, 0, .ro, 0, .any, false⟩
def CONN_ECRC : Fld := ⟨0x3C, 0x40, 1024, 31, 0, .rw, 0, .any, false⟩

/-! FILT -/

def FILT_ID_M : Fld := ⟨0x0, 0x40, 128, 28, 0, .rw, 0, .any, false⟩
def FILT_ID_K : Fld := ⟨0x4, 0x40, 128, 28, 0, .rw, 0, .any, false⟩
def FILT_XL_M : Fld := ⟨0x8, 0x40, 128, 15, 0, .rw, 0, .any, false⟩
def FILT_XL_K : Fld := ⟨0xC, 0x40, 128, 15, 0, .rw, 0, .any, false⟩
def FILT_AF_M : Fld := ⟨0x10, 0x40, 128, 31, 0, .rw, 0, .any, false⟩
def FILT_AF_K : Fld := ⟨0x14, 0x40, 128, 31, 0, .rw, 0, .any, false⟩
def FILT_D_M : Fld := ⟨0x18, 0x40, 128, 31, 0, .rw, 0, .any, false⟩
def FILT_D_K : Fld := ⟨0x1C, 0x40, 128, 31, 0, .rw, 0, .any, false⟩
def FILT_EN : Fld := ⟨0x20, 0x40, 128, 31, 31, .rw, 0, .any, false⟩
def FILT_FMT : Fld := ⟨0x20, 0x40, 128, 30, 26, .rw, 0, .any, false⟩
def FILT_ACTION : Fld := ⟨0x20, 0x40, 128, 25, 23, .rw, 0, (.rng 0 3), false⟩
def FILT_EPOCH : Fld := ⟨0x20, 0x40, 128, 15, 8, .rw, 0, .any, false⟩
def FILT_GEN : Fld := ⟨0x24, 0x40, 128, 7, 0, .ro, 0, .any, false⟩
def FILT_HITS : Fld := ⟨0x28, 0x40, 128, 31, 0, .rw, 0, .any, false⟩

/-! CELL -/

def CELL_MARK : Fld := ⟨0x0, 0x20, 1024, 31, 0, .rw, 0, .any, false⟩
def CELL_WIN : Fld := ⟨0x4, 0x20, 1024, 23, 0, .rw, 0, .any, false⟩
def CELL_OFFSET : Fld := ⟨0x8, 0x20, 1024, 15, 10, .rw, 0, .any, false⟩
def CELL_REPX : Fld := ⟨0x8, 0x20, 1024, 9, 7, .rw, 0, (.rng 0 6), false⟩
def CELL_EN : Fld := ⟨0x1C, 0x20, 1024, 31, 31, .rw, 0, .any, false⟩
def CELL_KIND : Fld := ⟨0x1C, 0x20, 1024, 30, 28, .rw, 0, (.rng 0 3), false⟩
def CELL_CTRL : Fld := ⟨0x1C, 0x20, 1024, 27, 26, .rw, 0, .any, false⟩
def CELL_FILT : Fld := ⟨0x1C, 0x20, 1024, 23, 17, .rw, 0, .any, false⟩
def CELL_BUF : Fld := ⟨0x1C, 0x20, 1024, 16, 12, .rw, 0, .any, false⟩
def CELL_MISS : Fld := ⟨0x1C, 0x20, 1024, 7, 0, .ro, 0, .any, false⟩

/-- The fields of the SYS page registers at offsets 0x040 and above. -/
def fldsSYS : List Fld :=
  [ SYS_MODE_REFUSE, SYS_MODE_PREV, SYS_MODE_TRANS, SYS_MODE_MODE, SYS_MODE_REQ_TARGET,
   SYS_CONFIG_SUPERVISOR, SYS_CONFIG_DISCH_ON_HVIL, SYS_CONFIG_DEFAULT_MODE, SYS_CONFIG_SIZE, SYS_CONFIG_POWER,
   SYS_RESET_REQ_KEY, SYS_RESET_REQ_SCOPE, SYS_RESET_CAUSE_THERMAL, SYS_RESET_CAUSE_DEBUG, SYS_RESET_CAUSE_PEER,
   SYS_RESET_CAUSE_SWRST_MODULE, SYS_RESET_CAUSE_SWRST_LANE, SYS_RESET_CAUSE_WDOG_B, SYS_RESET_CAUSE_WDOG_A, SYS_RESET_CAUSE_UV_B,
   SYS_RESET_CAUSE_UV_A, SYS_RESET_CAUSE_WAKE, SYS_RESET_CAUSE_POR_B, SYS_RESET_CAUSE_POR_A, SYS_WAKE_EN_SPEED_WATCH,
   SYS_WAKE_EN_DCL_WATCH, SYS_WAKE_EN_TIMER, SYS_WAKE_EN_LINKB, SYS_WAKE_EN_LINKA, SYS_WAKE_EN_CAN,
   SYS_WAKE_EN_HVIL, SYS_WAKE_EN_STO, SYS_WAKE_EN_WAKE, SYS_WAKE_CAUSE_SPEED_WATCH, SYS_WAKE_CAUSE_DCL_WATCH,
   SYS_WAKE_CAUSE_TIMER, SYS_WAKE_CAUSE_LINKB, SYS_WAKE_CAUSE_LINKA, SYS_WAKE_CAUSE_CAN, SYS_WAKE_CAUSE_HVIL] ++
  [ SYS_WAKE_CAUSE_STO, SYS_WAKE_CAUSE_WAKE, SYS_WAKE_CFG_TIMER, SYS_WAKE_CFG_FILT, SYS_VNOM_V]

/-- The fields of the PWR page registers at offsets 0x040 and above. -/
def fldsPWR : List Fld :=
  [ PWR_SUPPLY_HS, PWR_SUPPLY_VNEG_L, PWR_SUPPLY_VPOS_L, PWR_SUPPLY_VCTL_B, PWR_SUPPLY_VCTL_A,
   PWR_SUPPLY_VIO_3V3, PWR_SUPPLY_VIO, PWR_SUPPLY_VSUP_B, PWR_SUPPLY_VSUP_A, PWR_WATCH_SPEED_LEVEL,
   PWR_WATCH_DCL_LEVEL]

/-- The fields of the CLK page registers at offsets 0x040 and above. -/
def fldsCLK : List Fld :=
  [ CLK_SRC_AON_SEL, CLK_SRC_REF_SEL, CLK_STATUS_TRIM_B, CLK_STATUS_PLL_CB, CLK_STATUS_PLL_IB,
   CLK_STATUS_AON_XTAL_B, CLK_STATUS_REF_XTAL_B, CLK_STATUS_PLL_CA, CLK_STATUS_PLL_IA, CLK_STATUS_AON_XTAL_A,
   CLK_STATUS_REF_XTAL_A, CLK_AON_INC_A_INC, CLK_AON_INC_B_INC]

/-- The fields of the HOST page registers at offsets 0x040 and above. -/
def fldsHOST : List Fld :=
  [ HOST_CFG_LINKA_RELAY, HOST_CFG_VIEW, HOST_CFG_WIDTH, HOST_ALIVE_RALIVE, HOST_ALIVE_EXP,
   HOST_ERRCNT_ALIVE_ERR, HOST_ERRCNT_CRC_ERR, HOST_PORT_CLASS_P, HOST_PORT_CLASS_P9, HOST_PORT_CLASS_P8,
   HOST_PORT_CLASS_P7, HOST_PORT_CLASS_P6, HOST_PORT_CLASS_P5, HOST_PORT_CLASS_P4, HOST_PORT_CLASS_P3,
   HOST_PORT_CLASS_P2, HOST_PORT_CLASS_P1, HOST_PORT_CLASS_P0, HOST_PROXY_EN, HOST_PROXY_PORT]

/-- The fields of the IRQ page registers at offsets 0x040 and above. -/
def fldsIRQ : List Fld :=
  [ IRQ_SUMMARY0_PAGE, IRQ_SUMMARY1_PAGE, IRQ_SMASK0_EN, IRQ_SMASK1_EN, IRQ_PIN_LEVEL,
   IRQ_PIN_EN]

/-- The fields of the CONV page registers at offsets 0x040 and above. -/
def fldsCONV : List Fld :=
  [ CONV_MODE_TB, CONV_MODE_GANG, CONV_MODE_PHASE, CONV_REF_SETTLED, CONV_REF_EN,
   CONV_CAL_SPARE, CONV_CAL_SPARE_SPLIT, CONV_CAL_MU, CONV_CAL_AUTO, CONV_GRP0_WEN,
   CONV_GRP0_RANGE, CONV_GRP0_INPUT, CONV_GRP1_WEN, CONV_GRP1_RANGE, CONV_GRP1_INPUT,
   CONV_GRP2_WEN, CONV_GRP2_RANGE, CONV_GRP2_INPUT, CONV_WIN_NMIN, CONV_WIN_BLANK,
   CONV_WEND_WEND, CONV_DCL_FS, CONV_XCHK_ILIM, CONV_XCHK_CNT, CONV_XCHK_VLIM,
   CONV_STAT_SKIPPED, CONV_STAT_WOPEN, CONV_MEAN_VALUE, CONV_SLOPE_VALUE, CONV_INFO_N,
   CONV_LAST_VALUE, CONV_FIRST_VALUE, CONV_CORR_GAIN, CONV_CORR_OFFSET, CONV_CORR_SKEW]

/-- The fields of the SEQ page registers at offsets 0x040 and above. -/
def fldsSEQ : List Fld :=
  [ SEQ_SEQCFG_START, SEQ_SEQCFG_RUN, SEQ_SEQCFG_LEN, SEQ_STAT_WAITING, SEQ_STAT_PREEMPTED,
   SEQ_STAT_CUR, SEQ_URGENT_REQ, SEQ_URGENT_CONV, SEQ_URGENT_GROUP, SEQ_URGENT_INPUT,
   SEQ_URGENT_RANGE, SEQ_URGENT_AVG, SEQ_URGENT3_REQ, SEQ_URGENT3_CONV, SEQ_URGENT3_GROUP,
   SEQ_URGENT3_INPUT, SEQ_URGENT3_RANGE, SEQ_URGENT3_AVG, SEQ_URES_VALUE, SEQ_ENTRY_CFG_EN,
   SEQ_ENTRY_CFG_CONV, SEQ_ENTRY_CFG_GROUP, SEQ_ENTRY_CFG_INPUT, SEQ_ENTRY_CFG_RANGE, SEQ_ENTRY_CFG_AVG,
   SEQ_ENTRY_CFG_TRIG, SEQ_ENTRY_RES_VALUE]

/-- The fields of the POS page registers at offsets 0x040 and above. -/
def fldsPOS : List Fld :=
  [ POS_CFG_SSI_ROLE, POS_CFG_RES_ROLE, POS_CFG_SSI_TERM, POS_CFG_ENC_TERM, POS_CFG_WATCH_CNT,
   POS_EXC_FREQ, POS_EXC_AMP, POS_SRC0_AUTO_TW, POS_SRC0_SEL, POS_FILT_ZPOL,
   POS_FILT_INV, POS_FILT_MULT, POS_FILT_FLT, POS_CPR_CPR, POS_IDX_CFG_GOOD,
   POS_IDX_CFG_MLIM, POS_IDX_CFG_TOL, POS_IDX_CFG_GATE, POS_IDX_CFG_QST, POS_IDX_CFG_INIT,
   POS_IDX_CFG_EN, POS_IDX_EXP_REV, POS_IDX_EXP_FWD, POS_LIM_LO_LIM, POS_LIM_HI_LIM,
   POS_SPD_CFG_ZTIME, POS_SPD_CFG_NEDGE, POS_TW_DIRSRC, POS_TW_DCH, POS_TW_KIND,
   POS_TW_MISS, POS_TW_GAP, POS_TW_EXTRA, POS_FRM_CFG_VALUE, POS_FRM_TIME_VALUE,
   POS_POS_POS, POS_REVPOS_REVPOS, POS_EDGE_T_T, POS_SPEED_SPEED, POS_STATE_CMPL] ++
  [ POS_STATE_SPDQ, POS_STATE_DIR, POS_STATE_AT_LIMIT, POS_STATE_REFD, POS_STATE_INVALID,
   POS_STATE_LOST, POS_STATE_MCNT, POS_STATE_GCNT, POS_STATE_HSTATE, POS_IDX_CORR_COUNT,
   POS_IDX_CORR_LAST, POS_IDX_T_T, POS_ERRCNT_MISM, POS_ERRCNT_DEC, POS_FRAME_DATA,
   POS_SLOW_ID, POS_SLOW_DATA, POS_SLOW_NEW, POS_ANGLE_ANGLE, POS_POS_SET_VALUE,
   POS_CMP_T_T, POS_CCAUSE_BEHIND, POS_CCAUSE_FIRE, POS_COMP0_VALUE, POS_COMP1_VALUE,
   POS_COMP2_VALUE, POS_COMP3_VALUE, POS_COMP4_VALUE, POS_COMP5_VALUE, POS_COMP6_VALUE,
   POS_COMP7_VALUE, POS_CCFG0_ARMED, POS_CCFG0_FIP, POS_CCFG0_REARM, POS_CCFG0_DIRSEL,
   POS_CCFG0_MODE, POS_CCFG0_INSIDE, POS_CCFG1_ARMED, POS_CCFG1_FIP, POS_CCFG1_REARM] ++
  [ POS_CCFG1_DIRSEL, POS_CCFG1_MODE, POS_CCFG1_INSIDE, POS_CCFG2_ARMED, POS_CCFG2_FIP,
   POS_CCFG2_REARM, POS_CCFG2_DIRSEL, POS_CCFG2_MODE, POS_CCFG2_INSIDE, POS_CCFG3_ARMED,
   POS_CCFG3_FIP, POS_CCFG3_REARM, POS_CCFG3_DIRSEL, POS_CCFG3_MODE, POS_CCFG3_INSIDE,
   POS_CCFG4_ARMED, POS_CCFG4_FIP, POS_CCFG4_REARM, POS_CCFG4_DIRSEL, POS_CCFG4_MODE,
   POS_CCFG4_INSIDE, POS_CCFG5_ARMED, POS_CCFG5_FIP, POS_CCFG5_REARM, POS_CCFG5_DIRSEL,
   POS_CCFG5_MODE, POS_CCFG5_INSIDE, POS_CCFG6_ARMED, POS_CCFG6_FIP, POS_CCFG6_REARM,
   POS_CCFG6_DIRSEL, POS_CCFG6_MODE, POS_CCFG6_INSIDE, POS_CCFG7_ARMED, POS_CCFG7_FIP,
   POS_CCFG7_REARM, POS_CCFG7_DIRSEL, POS_CCFG7_MODE, POS_CCFG7_INSIDE, POS_JUMP_JUMP] ++
  [ POS_SRC_AUTO_TW, POS_SRC_SEL]

/-- The fields of the SENSE page registers at offsets 0x040 and above. -/
def fldsSENSE : List Fld :=
  [ SENSE_VALID_CH, SENSE_CLEAR_CH, SENSE_PAIR_TOL, SENSE_PAIR_EN, SENSE_PAIR_CHB,
   SENSE_PAIR_CHA]

/-- The fields of the FIELD page registers at offsets 0x040 and above. -/
def fldsFIELD : List Fld :=
  [ FIELD_AXCFG_TPH, FIELD_AXCFG_MODE, FIELD_AXCFG_EN, FIELD_CMD_EPOCH, FIELD_CMD_OP,
   FIELD_STATE_REFUSE, FIELD_STATE_CASE, FIELD_STATE_RULE, FIELD_STATE_ASRC, FIELD_STATE_OBS_LOCK,
   FIELD_STATE_HFI_ON, FIELD_STATE_ASC, FIELD_STATE_PULSES, FIELD_STATE_AXSTATE, FIELD_ROLE_MISMATCH,
   FIELD_ROLE_EPOCH, FIELD_TCMD_T, FIELD_CMDTO_TRAMP, FIELD_CMDTO_ACT, FIELD_CMDTO_TMO,
   FIELD_LIMITS_IMAX, FIELD_LIMITS_KMOD, FIELD_RECON_SUMTOL, FIELD_RECON_PLIM, FIELD_RECON_REFER,
   FIELD_RECON_CONN, FIELD_ANGSRC_PP, FIELD_ANGSRC_SEC, FIELD_ANGSRC_PRI, FIELD_ANG_OFS_OFS,
   FIELD_FUSE_TOL, FIELD_FUSE_W, FIELD_FUSE_MODE, FIELD_BAND_HB_HI, FIELD_BAND_HB_LO,
   FIELD_HFI_VINJ, FIELD_HFI_LOCK, FIELD_HFI_SIGN, FIELD_HFI_EN, FIELD_POL_VPOL] ++
  [ FIELD_POL_MARGIN, FIELD_POL_N, FIELD_CATCH_WIN, FIELD_CATCH_DT, FIELD_CATCH_TRIES,
   FIELD_CATCH_RES, FIELD_CATCH_RECATCH, FIELD_CATCH2_VMIN, FIELD_CATCH2_ASC_T, FIELD_CATCH2_TMO,
   FIELD_VPH_FS_FS, FIELD_LR_I, FIELD_LR_T, FIELD_LR_W, FIELD_LR_POS,
   FIELD_MAPCFG_PSIMAX, FIELD_MAPCFG_SWAP, FIELD_MAPCFG_BANK, FIELD_MAP_CRC_CRC, FIELD_ADV_STEP,
   FIELD_FW_IDMIN, FIELD_FW_REF, FIELD_FW_EN, FIELD_SHARE_MAX, FIELD_OBS_LOCK,
   FIELD_OBS_N, FIELD_ALIGN_I, FIELD_ALIGN_T, FIELD_ALIGN_EN, FIELD_ALEAD_LEAD,
   FIELD_COEF_V, FIELD_CSHIFT_S, FIELD_THETA_VALUE, FIELD_RATE_VALUE, FIELD_ID_VALUE,
   FIELD_IQ_VALUE, FIELD_VD_VALUE, FIELD_VQ_VALUE, FIELD_THETA_S_VALUE, FIELD_THETA_O_VALUE] ++
  [ FIELD_EMF_VALUE, FIELD_DID_VALUE, FIELD_PRED_RUN_VALUE, FIELD_TRIM_VALUE, FIELD_FLAGS_SOURCE_SPLIT,
   FIELD_FLAGS_SUM_ERROR, FIELD_FLAGS_VOLTAGE_LIMIT, FIELD_FLAGS_CURRENT_LIMIT]

/-- The fields of the QUILL page registers at offsets 0x040 and above. -/
def fldsQUILL : List Fld :=
  [ QUILL_RUN_MAXCYC, QUILL_RUN_TRACK, QUILL_TRIG_EN, QUILL_TRIG_SRC, QUILL_TRIG_TB,
   QUILL_TRIG_FRAMES, QUILL_TRIG_GROUPS, QUILL_TRIG_COUNT, QUILL_PROG_WIN, QUILL_PROG_SWAP,
   QUILL_PROG_BANK, QUILL_PROG_CRC_CRC, QUILL_EXPORT_MASK, QUILL_EXPORT_DM_COUNT, QUILL_EXPORT_DM_BASE,
   QUILL_ZERO_MASK, QUILL_STAT_PC, QUILL_STAT_RUNNING, QUILL_STAT_HELD, QUILL_STAT_FLAGS,
   QUILL_CYCLES_HALT, QUILL_CYCLES_STAGE, QUILL_PEAK_HALT, QUILL_PEAK_STAGE, QUILL_ERRCNT_ECC,
   QUILL_ERRCNT_DEADLINE, QUILL_ERRCNT_OVERRUN, QUILL_ERRCNT_SHADOW, QUILL_SATCNT_TOTAL, QUILL_SATCNT_RUN,
   QUILL_SHSTAT_SEQ, QUILL_SHSTAT_ENTRY, QUILL_SHSTAT_CURRENT, QUILL_QSNAP_VALUE, QUILL_SHADOW_VALUE]

/-- The fields of the MOTION page registers at offsets 0x040 and above. -/
def fldsMOTION : List Fld :=
  [ MOTION_CFG_TB, MOTION_CFG_SDIV, MOTION_CFG_MODE, MOTION_CMD_EPOCH, MOTION_CMD_OP,
   MOTION_STAT_REFUSE, MOTION_STAT_LEVEL, MOTION_STAT_PENDING, MOTION_STAT_RESUMABLE, MOTION_STAT_ARRIVED,
   MOTION_STAT_ACT, MOTION_START_INDEX, MOTION_SERVO_T_T, MOTION_TARGET_P, MOTION_VTARGET_V,
   MOTION_VMAX_V, MOTION_AMAX_A, MOTION_DMAX_A, MOTION_JMAX_J, MOTION_WAITSRC_EN,
   MOTION_WAITSRC_UNIT, MOTION_WAITSRC_CH, MOTION_WAITSRC_CMP, MOTION_SP_POS_VALUE, MOTION_SP_FRAC_VALUE,
   MOTION_SP_VEL_VALUE, MOTION_SP_ACC_VALUE, MOTION_SEG_RIDX, MOTION_SEG_INDEX, MOTION_SEGK_K,
   MOTION_REMAIN_D, MOTION_STEPCFG_I_RUN, MOTION_STEPCFG_I_HOLD, MOTION_MSTHR01_THR_ODD, MOTION_MSTHR01_THR_EVEN,
   MOTION_MSTHR23_THR_ODD, MOTION_MSTHR23_THR_EVEN, MOTION_MSTHR45_THR_ODD, MOTION_MSTHR45_THR_EVEN, MOTION_MSTHR67_THR_ODD] ++
  [ MOTION_MSTHR67_THR_EVEN, MOTION_CHOP_BAND, MOTION_CHOP_BLANK, MOTION_CHOP_TMIN, MOTION_CHOP2_HOLD_T,
   MOTION_CHOP2_TMAX, MOTION_CHOP2_KOFS, MOTION_STALL_N, MOTION_STALL_ANG, MOTION_OFS45_OFS5,
   MOTION_OFS45_OFS4, MOTION_OFS6_OFS6]

/-- The fields of the MOD page registers at offsets 0x040 and above. -/
def fldsMOD : List Fld :=
  [ MOD_TB0_CFG_SYNCIN, MOD_TB0_CFG_UPD, MOD_TB0_CFG_CG, MOD_TB0_CFG_EN, MOD_TB0_PER_PER,
   MOD_TB0_CNT_PSEQ, MOD_TB0_CNT_CNT, MOD_TB1_CFG_PHASE, MOD_TB1_CFG_LOCK, MOD_TB1_CFG_UPD,
   MOD_TB1_CFG_CG, MOD_TB1_CFG_EN, MOD_TB1_PER_PER, MOD_TB1_CNT_PSEQ, MOD_TB1_CNT_CNT,
   MOD_COMMIT_G, MOD_GRPGEN_G3, MOD_GRPGEN_G2, MOD_GRPGEN_G1, MOD_GRPGEN_G0,
   MOD_SYNC_MAXADJ, MOD_SYNC_INDLY, MOD_SYNC_OUTEN, MOD_MINP_MINOFF, MOD_MINP_MINON,
   MOD_BOOT_N, MOD_BOOT_PRE, MOD_BOOT_RFW, MOD_TRIPCFG_FILT2, MOD_TRIPCFG_POL2,
   MOD_TRIPCFG_EN2, MOD_TRIPCFG_FILT1, MOD_TRIPCFG_POL1, MOD_TRIPCFG_EN1, MOD_TRIPMASK_PROT,
   MOD_TRIPMASK_SW, MOD_TRIPMASK_T2, MOD_TRIPMASK_T1, MOD_TRIPSTAT_FORCED, MOD_TRIPSTAT_LATCH] ++
  [ MOD_TRIPSTAT_LIVE, MOD_TRIPCLR_PROT, MOD_TRIPCLR_SW, MOD_TRIPCLR_T2, MOD_TRIPCLR_T1,
   MOD_SWTRIP_TRIG, MOD_LEG_CFG_BOOT, MOD_LEG_CFG_SRC, MOD_LEG_CFG_CG, MOD_LEG_CFG_TB,
   MOD_LEG_MODE_MODE, MOD_LEG_CMP_VALUE, MOD_LEG_DT_DT, MOD_LEG_SAFE_LEVEL, MOD_LEG_ACMP_C,
   MOD_LEG_STAT_NOLS, MOD_LEG_STAT_CLAMPED, MOD_LEG_STAT_REFRESH, MOD_LEG_STAT_DROP_L, MOD_LEG_STAT_DROP_H,
   MOD_LEG_STAT_STRETCH, MOD_LEG_STAT_FORCED, MOD_LEG_STAT_HS, MOD_LEG_STAT_LS, MOD_LINK_LAT_RTT,
   MOD_LINK_LAT_LAT, MOD_LINK_STAT_CALOK, MOD_LINK_STAT_LIVE, MOD_LINK_ERR_LATE, MOD_LINK_ERR_SEQ,
   MOD_LINK_ERR_CONG, MOD_LINK_ERR_CALSTEP]

/-- The fields of the GATE page registers at offsets 0x040 and above. -/
def fldsGATE : List Fld :=
  [ GATE_PSEL_P, GATE_PSETI_I, GATE_OCFG_ADAPT, GATE_OCFG_CLAMP_EN, GATE_OCFG_PW_EN,
   GATE_OCFG_DESAT_EN, GATE_OCFG_EN, GATE_ON0_PRE_V, GATE_ON0_END_V, GATE_ON0_PRE_I,
   GATE_ON0_HOLD_I, GATE_ON0_IPL, GATE_OFF0_PRE_V, GATE_OFF0_END_V, GATE_OFF0_PRE_I,
   GATE_OFF0_HOLD_I, GATE_OFF0_IPL, GATE_ON1_PRE_V, GATE_ON1_END_V, GATE_ON1_PRE_I,
   GATE_ON1_HOLD_I, GATE_ON1_IPL, GATE_OFF1_PRE_V, GATE_OFF1_END_V, GATE_OFF1_PRE_I,
   GATE_OFF1_HOLD_I, GATE_OFF1_IPL, GATE_DVDT_OFF1, GATE_DVDT_ON1, GATE_DVDT_OFF0,
   GATE_DVDT_ON0, GATE_ADLIM_IMAX, GATE_ADLIM_IMIN, GATE_ADLIM_GS, GATE_ADLIM_DET,
   GATE_DESAT_TH, GATE_DESAT_BLANK, GATE_DESAT_FLT, GATE_PWATCH_PW_V, GATE_PWATCH_MIN] ++
  [ GATE_SOFT_V_SOFT, GATE_SOFT_SOFT_T, GATE_SOFT_SOFT_I, GATE_GMON_CLAMP_V, GATE_GMON_GMON_T,
   GATE_GMON_PL_TMAX, GATE_SUPMON_VPOS_UV, GATE_SUPMON_VPOS_WARN, GATE_SUPMON_VNEG_MIN, GATE_ASTATE_OFF1,
   GATE_ASTATE_ON1, GATE_ASTATE_OFF0, GATE_ASTATE_ON0, GATE_MEAS_TPL, GATE_MEAS_DV_ON,
   GATE_MEAS_DV_OFF, GATE_OSTAT_CFG, GATE_OSTAT_LEVEL, GATE_OSTAT_CLAMP, GATE_OSTAT_WARN,
   GATE_OSTAT_SUP, GATE_OSTAT_GMON, GATE_OSTAT_SC, GATE_OSTAT_CUT_B, GATE_OSTAT_CUT_A,
   GATE_OCNT_DESAT, GATE_OCNT_PW, GATE_DSTAT_NOFALLBACK, GATE_DSTAT_TIME_SKEW, GATE_DSTAT_ROLE_CONFLICT,
   GATE_DSTAT_CFG_MISMATCH, GATE_DSTAT_CFG_OK, GATE_DSTAT_ACTIVE, GATE_DSTAT_LIVE_B, GATE_DSTAT_LIVE_A,
   GATE_DCRC_CRC, GATE_DERR_CFGREJ, GATE_DERR_DISCARD]

/-- The fields of the PROT page registers at offsets 0x040 and above. -/
def fldsPROT : List Fld :=
  [ PROT_ASCCFG_DLY, PROT_ASCCFG_PREF, PROT_ASCSTAT_B1, PROT_ASCSTAT_B0, PROT_OV_ON_V,
   PROT_OV_OFF_V, PROT_OV2_TOW_V, PROT_OV2_TRIP_V, PROT_CHOP_EN, PROT_CHOP_R,
   PROT_CHOP_EMAX, PROT_CHOP_TAU, PROT_CHOPSTAT_ON, PROT_CHOPSTAT_LIMIT, PROT_CHOPSTAT_E,
   PROT_DISCH_TMAX, PROT_DISCH_WIND_I, PROT_DISCH_METHOD, PROT_DISCHSTAT_ACTIVE, PROT_DISCHSTAT_TIME,
   PROT_SCFIRST_TIE, PROT_SCFIRST_VALID, PROT_SCFIRST_LEG, PROT_SCFIRST_SIDE, PROT_SCFIRST_KIND,
   PROT_SCFIRST_T_T, PROT_SCSTAT_SC, PROT_CLR_KIND, PROT_CLR_OUT, PROT_CHOP2_RSENSE]

/-- The fields of the LANE page registers at offsets 0x040 and above. -/
def fldsLANE : List Fld :=
  [ LANE_CFG_REJOIN_N, LANE_CFG_HOLDOFF, LANE_CFG_AUTORESET, LANE_CFG_TRACK, LANE_CFG_PREF,
   LANE_CMD_KEY, LANE_CMD_OP, LANE_STAT_REFUSE, LANE_STAT_ACTIVE, LANE_STAT_SW_PEND,
   LANE_STAT_LANE_B, LANE_STAT_LANE_A, LANE_FAILREC_SRC, LANE_FAILREC_KIND, LANE_FAILREC_VALID,
   LANE_SWTIME_T, LANE_SWCNT_DIAG, LANE_SWCNT_CMD, LANE_ECMP_TOL, LANE_ECMP_CNT,
   LANE_ECMP_EN, LANE_ECMP_STAT_MAXDEV, LANE_ECMP_STAT_MISMATCH, LANE_XSTAT_XI_OK, LANE_XSTAT_XC_OK,
   LANE_XSTAT_ISO_B, LANE_XSTAT_ISO_A]

/-- The fields of the CPU page registers at offsets 0x040 and above. -/
def fldsCPU : List Fld :=
  [ CPU_WDOG_CFG_PERIOD, CPU_WDOG_CFG_WIN, CPU_WDOG_CFG_EN, CPU_WDOG_KICK_KEY, CPU_LSSTAT_GROUP,
   CPU_LSSTAT_AGREE_ERR, CPU_ECCCNT_CORR, CPU_DBG_HALTED]

/-- The fields of the SAFE page registers at offsets 0x040 and above. -/
def fldsSAFE : List Fld :=
  [ SAFE_CFG_DEGR_T, SAFE_CFG_DEGR, SAFE_CFG_XCNT, SAFE_CFG_RESTART, SAFE_CFG_ASC_STO,
   SAFE_CFG_ASC_EN, SAFE_STATE_ACKPEND, SAFE_STATE_PARTNER, SAFE_STATE_INTSTO, SAFE_STATE_SDIN,
   SAFE_STATE_STO, SAFE_REQ_BRAKE, SAFE_REQ_AX2, SAFE_REQ_AX1, SAFE_ACK_KEY,
   SAFE_STO_DISC, SAFE_STO_FILT, SAFE_SDIN_DISC, SAFE_SDIN_FILT, SAFE_SDIN_ANTI,
   SAFE_SDIN_AXES, SAFE_SDIN_FUNC, SAFE_SBC_TPER, SAFE_SBC_TPW, SAFE_SBC_DLY,
   SAFE_SBC_AXES, SAFE_SBC_EN, SAFE_SBC2_IMIN, SAFE_SBCSTAT_I, SAFE_SBCSTAT_FAULT,
   SAFE_SBCSTAT_LS, SAFE_SBCSTAT_HS, SAFE_SBCSTAT_RELEASED, SAFE_AXCFG_SEC, SAFE_AXCFG_PRI,
   SAFE_AXCFG_SPDF, SAFE_AXCFG_RELAY, SAFE_AXCFG_EARLY, SAFE_AXCFG_LOSTR, SAFE_SS_DELAY] ++
  [ SAFE_SS_RAMP, SAFE_SSDEC_DECEL, SAFE_SSTOL_VTOL, SAFE_VZERO_V, SAFE_SOS_POSTOL,
   SAFE_SLS0_LIMIT, SAFE_SLS1_LIMIT, SAFE_SLS2_LIMIT, SAFE_SLS3_LIMIT, SAFE_SLSCFG_GRACE,
   SAFE_SLSCFG_REACT, SAFE_SLSCFG_SET, SAFE_SLSCFG_EN, SAFE_DIR_TOL, SAFE_DIR_REACT,
   SAFE_DIR_ALLOW, SAFE_DIR_EN, SAFE_SPEED_V, SAFE_POSREF_P, SAFE_ASTATE_VIOL,
   SAFE_ASTATE_NOMOTION, SAFE_ASTATE_RELAYED, SAFE_ASTATE_SRC, SAFE_ASTATE_SPDVALID, SAFE_ASTATE_DIR_ACT,
   SAFE_ASTATE_SLS_ACT, SAFE_ASTATE_STATE]

/-- The fields of the ASSAY page registers at offsets 0x040 and above. -/
def fldsASSAY : List Fld :=
  [ ASSAY_CFG_PBREACT, ASSAY_CFG_PBEN, ASSAY_CFG_EN, ASSAY_GAIN_GAIN1, ASSAY_GAIN_GAIN0,
   ASSAY_OFS_OFS1, ASSAY_OFS_OFS0, ASSAY_MAP_B_S2PB, ASSAY_MAP_B_S2PA, ASSAY_MAP_B_S1PB,
   ASSAY_MAP_B_S1PA, ASSAY_MAP_A_S2PB, ASSAY_MAP_A_S2PA, ASSAY_MAP_A_S1PB, ASSAY_MAP_A_S1PA,
   ASSAY_MACH_PP, ASSAY_MACH_SPP, ASSAY_MACH_PSI, ASSAY_LD_L, ASSAY_LQ_L,
   ASSAY_RS_R, ASSAY_TFS_T, ASSAY_TOL_TOL_ABS, ASSAY_TOL_TOL_REL, ASSAY_TOL_TT,
   ASSAY_TLIM_TLIM_M, ASSAY_TLIM_TLIM_G, ASSAY_PB_PB_REL, ASSAY_PB_PB_ABS, ASSAY_PB_PB_T,
   ASSAY_AOFS_OFS, ASSAY_TEST_T_B, ASSAY_TEST_T_A, ASSAY_PBAL_RESID, ASSAY_PBAL_PLINK,
   ASSAY_ASTAT_PCNT, ASSAY_ASTAT_VCNT]

/-- The fields of the SLAYER page registers at offsets 0x040 and above. -/
def fldsSLAYER : List Fld :=
  [ SLAYER_DEVID_ID, SLAYER_CFG_EN, SLAYER_STAT_RUN, SLAYER_STAT_BAD, SLAYER_REBIND_ID_ID,
   SLAYER_REBIND_KEY, SLAYER_REBIND_EPOCH, SLAYER_REBIND_IDX, SLAYER_REBSTAT_REFUSE, SLAYER_REBSTAT_PEND,
   SLAYER_REBSTAT_IDX, SLAYER_CLR_KEY, SLAYER_CLR_IDX, SLAYER_RXSEL_IDX, SLAYER_RXDATA_DATA,
   SLAYER_FIRSTERR_VALID, SLAYER_FIRSTERR_KIND, SLAYER_FIRSTERR_IDX, SLAYER_FIRSTERR_T_T]

/-- The fields of the HALLMARK page registers at offsets 0x040 and above. -/
def fldsHALLMARK : List Fld :=
  [ HALLMARK_FAILSUM_U, HALLMARK_ENSTAT_U, HALLMARK_CFG_EN, HALLMARK_CFG_CODE, HALLMARK_CFG_MODE,
   HALLMARK_CFG_AW, HALLMARK_CFG_GAP, HALLMARK_CFG_PAIREN, HALLMARK_CFG_PAIR, HALLMARK_CFG_RXSYNC,
   HALLMARK_CFG_ARX, HALLMARK_CFG_ATX, HALLMARK_VALUE_V, HALLMARK_DATA4_D, HALLMARK_DATA1_D,
   HALLMARK_CHECKIN_C, HALLMARK_CLOSE_OP, HALLMARK_CLOSE_ALIVEIN, HALLMARK_OUT_C, HALLMARK_STAT_RESULT,
   HALLMARK_STAT_DISCARDED, HALLMARK_STAT_FAILCNT, HALLMARK_STAT_BYTES]

/-- The fields of the LEDGER page registers at offsets 0x040 and above. -/
def fldsLEDGER : List Fld :=
  [ LEDGER_CFG_FAULTN_EN, LEDGER_FIRST_VALID, LEDGER_FIRST_TIE, LEDGER_FIRST_FINAL, LEDGER_FIRST_DETAIL,
   LEDGER_FIRST_SRC, LEDGER_FIRST_T_T, LEDGER_UNCLEARED_TOP, LEDGER_UNCLEARED_COUNT, LEDGER_CLRALL_KEY,
   LEDGER_LAST_SRC, LEDGER_LAST_T_T, LEDGER_STATUS_S, LEDGER_RAISED_R, LEDGER_SRC_STATUS,
   LEDGER_SRC_LIVE, LEDGER_SRC_FORCE, LEDGER_SRC_FORCED, LEDGER_SRC_PIN, LEDGER_SRC_CLASS,
   LEDGER_SRC_FLOOR, LEDGER_SRC_CNTCLR, LEDGER_SRC_CLRREF, LEDGER_SRC_COUNT]

/-- The fields of the TINKER page registers at offsets 0x040 and above. -/
def fldsTINKER : List Fld :=
  [ TINKER_CFG_GAP, TINKER_CMD_KEY, TINKER_CMD_OP, TINKER_STAT_BUSY, TINKER_STAT_DONE,
   TINKER_STAT_CUR, TINKER_SWEEPCNT_ONLINE, TINKER_SWEEPCNT_AGE, TINKER_FAIL_S, TINKER_EN0_S,
   TINKER_EN1_S, TINKER_SLICE_FAIL, TINKER_SLICE_LASTOK, TINKER_SLICE_ONLINE, TINKER_SLICE_FAILCNT,
   TINKER_SLICE_ABANDON, TINKER_SLICE_RUNS, TINKER_SLICEM_FAIL, TINKER_SLICEM_LASTOK, TINKER_SLICEM_ONLINE,
   TINKER_SLICEM_FAILCNT, TINKER_SLICEM_ABANDON, TINKER_SLICEM_RUNS]

/-- The fields of the TEMP page registers at offsets 0x040 and above. -/
def fldsTEMP : List Fld :=
  [ TEMP_CFG_WARN, TEMP_CFG_RETRY, TEMP_CLR_S, TEMP_THROT_TINKER, TEMP_THROT_ACCEL,
   TEMP_THROT_ETH, TEMP_THROT_LINK, TEMP_THROT_CAN, TEMP_SHUT_LATCH, TEMP_SHUT_COUNT,
   TEMP_REC_MODE, TEMP_REC_BLIND, TEMP_REC_SENSOR, TEMP_REC_TEMP, TEMP_REC_T_LO_T,
   TEMP_REC_T_HI_T, TEMP_MAX_SENSOR, TEMP_MAX_VALUE, TEMP_SENS_EXCL, TEMP_SENS_AVAIL,
   TEMP_SENS_VALUE]

/-- The fields of the NVM page registers at offsets 0x040 and above. -/
def fldsNVM : List Fld :=
  [ NVM_BANK_ERR1, NVM_BANK_ERR0, NVM_BANK_VALID1, NVM_BANK_VALID0, NVM_BANK_RUN_B,
   NVM_BANK_RUN_A, NVM_BANK_TRY_B, NVM_BANK_TRY_A, NVM_BANK_PREF, NVM_UPD_KEY,
   NVM_UPD_SCOPE, NVM_UPD_BANK, NVM_UPD_OP, NVM_UPDSTAT_REFUSE, NVM_UPDSTAT_STATE,
   NVM_UPDSTAT_RESULT, NVM_UPDSTAT_SKIPPED, NVM_WADDR_PAGE, NVM_VER_VERSION, NVM_SVN_SVN1,
   NVM_SVN_SVN0, NVM_SVN_OTP, NVM_UNLOCK_KEY, NVM_UNLOCK_RESULT, NVM_UNLOCK_DBG,
   NVM_UNLOCK_OP, NVM_QUOTE_KEY, NVM_QUOTE_RESULT, NVM_QUOTE_BUSY, NVM_QUOTE_DIE,
   NVM_QUOTE_GO, NVM_IDSTAT_ROOT, NVM_IDSTAT_UKEY, NVM_IDSTAT_SET, NVM_UPDCFG_TMO,
   NVM_UPDCFG_SETTLE, NVM_QNONCE_N, NVM_CHAL_C, NVM_OBJSEL_OBJ, NVM_OBJSEL_DIE] ++
  [ NVM_OBJSEL_IDX, NVM_OBJDATA_D, NVM_WBUF_D]

/-- The fields of the RES page registers at offsets 0x040 and above. -/
def fldsRES : List Fld :=
  [ RES_CLAIM_KEY, RES_CLAIM_OP, RES_CLAIM_R, RES_STAT_REFUSE, RES_STAT_R,
   RES_RSEL_R, RES_RINFO_PREEMPTED, RES_RINFO_WAIT, RES_RINFO_TAKER, RES_RINFO_OWNER,
   RES_TAKEN_R, RES_AUXCFG_F, RES_AUXVAL_V, RES_OWN_O]

/-- The fields of the CAN page registers at offsets 0x040 and above. -/
def fldsCAN : List Fld :=
  [ CAN_CFG_OPMODE, CAN_CFG_AUTORECOV, CAN_CFG_TXORD, CAN_CFG_TSPOINT, CAN_CFG_NOMATCH,
   CAN_CFG_QMODE1, CAN_CFG_QMODE0, CAN_CFG_OVF1, CAN_CFG_OVF0, CAN_CFG_XLEN,
   CAN_CFG_FDEN, CAN_BTN_BRP, CAN_BTN_TSEG1, CAN_BTN_TSEG2, CAN_BTN_SJW,
   CAN_BTD_BRP, CAN_BTD_TSEG1, CAN_BTD_TSEG2, CAN_BTD_SJW, CAN_BTD_TDC,
   CAN_BTD_TDCO, CAN_BTX_BRP, CAN_BTX_TSEG1, CAN_BTX_TSEG2, CAN_BTX_SJW,
   CAN_BTX_TDC, CAN_BTX_TDCO, CAN_STAT_TXBUSY, CAN_STAT_RXBUSY, CAN_STAT_STATE,
   CAN_ERR_TEC, CAN_ERR_REC, CAN_ERR_DLEC, CAN_ERR_LEC, CAN_RXCNT_NOMATCH,
   CAN_RXCNT_OVERSIZE, CAN_QSTAT0_HELD, CAN_QSTAT0_FULL, CAN_QSTAT0_HIDX, CAN_QSTAT1_HELD] ++
  [ CAN_QSTAT1_FULL, CAN_QSTAT1_HIDX, CAN_QCMD_QUEUE, CAN_QCMD_OP, CAN_TXSEL_BUF,
   CAN_TXPEND_BUF, CAN_TXDONE_BUF, CAN_TXCANCEL_BUF, CAN_RULCFG_EN, CAN_RULCFG_ROLE,
   CAN_RULCFG_TIMEIN, CAN_RULCFG_CYCX, CAN_RULCFG_REFBUF, CAN_RULCFG_REFFILT, CAN_RULCYC_T,
   CAN_RULBK_T, CAN_RULSTAT_MASTER, CAN_RULSTAT_REF_OK, CAN_RULSTAT_CYC]

/-- The fields of the LINK page registers at offsets 0x040 and above. -/
def fldsLINK : List Fld :=
  [ LINK_CFG_HEAD, LINK_CFG_RATE, LINK_CFG_NMAX, LINK_NODE_MISMATCH, LINK_NODE_EPOCH,
   LINK_NODE_ADDR, LINK_CYCLE_CYC, LINK_SLOT_START, LINK_SLOT_LEN, LINK_TIMING_PDLY,
   LINK_STAT_HEADADDR, LINK_STAT_HEADOK, LINK_STAT_ISHEAD, LINK_CYCCNT_N, LINK_NOTICE0_NODE,
   LINK_NOTICE1_NODE, LINK_LIVE0_NODE, LINK_LIVE1_NODE, LINK_SYNCTX_EVT, LINK_SYNCTX_T_T,
   LINK_SYNCRX_SRC, LINK_SYNCRX_LATE, LINK_SYNCRX_EVT, LINK_ERR_CRC, LINK_ERR_COLL,
   LINK_ERR_OVERRUN]

/-- The fields of the ETH page registers at offsets 0x040 and above. -/
def fldsETH : List Fld :=
  [ ETH_CFG_BCAST, ETH_CFG_MCEN, ETH_CFG_AN, ETH_CFG_PTP, ETH_STAT_PTPLOCK,
   ETH_STAT_AN_DONE, ETH_STAT_LINK, ETH_MAC_LO_ADDR, ETH_MAC_HI_ADDR, ETH_MC_LO_ADDR,
   ETH_MC_HI_ADDR, ETH_SLDA_LO_ADDR, ETH_SLDA_HI_ADDR, ETH_RXLEN_VALID, ETH_RXLEN_LEN,
   ETH_RXTS_T, ETH_RXDATA_DATA, ETH_TXLEN_LEN, ETH_TXDATA_DATA, ETH_MDIO_GO,
   ETH_MDIO_READ, ETH_MDIO_PHYAD, ETH_MDIO_REG, ETH_MDIO_DATA, ETH_CNT_RXDROP,
   ETH_CNT_RXERR]

/-- The fields of the TIME page registers at offsets 0x040 and above. -/
def fldsTIME : List Fld :=
  [ TIME_CFG_MAXSLEW, TIME_CFG_SRC, TIME_CFG_CANSEL, TIME_CFG_STEPEN, TIME_CFG_PPSPOL,
   TIME_TOL_T, TIME_EXPINT_T, TIME_STAT_STEPWAIT, TIME_STAT_AHEAD, TIME_STAT_SYNC,
   TIME_STAT_VALID, TIME_OFS_O, TIME_TRIM_R, TIME_NOW_LO_T, TIME_NOW_HI_T,
   TIME_STEPCNT_N, TIME_PPS_T_T]

/-- The fields of one CONN table entry. -/
def fldsCONN : List Fld :=
  [CONN_CONNID, CONN_PEERID, CONN_EPOCH, CONN_PERIOD, CONN_REPLY_EN,
   CONN_USE, CONN_AXES, CONN_REBIND_OK, CONN_DUAL, CONN_TSCHK,
   CONN_DIR, CONN_EN, CONN_PATH0_ID, CONN_PATH1_ID, CONN_P1PORT,
   CONN_P0PORT, CONN_GAP, CONN_REPLY, CONN_LEN, CONN_WMIN,
   CONN_WMAX, CONN_CMPW, CONN_AGEMAX, CONN_TOREACT, CONN_RECOV_N,
   CONN_ERRLIM, CONN_SKEW, CONN_BINDT, CONN_LASTSEQ, CONN_MISM,
   CONN_CSTATE, CONN_LAST_T, CONN_DMISS, CONN_REJECT, CONN_ECRC]

/-- The fields of one SEGT table entry. -/
def fldsSEGT : List Fld :=
  [SEGT_P1, SEGT_V1, SEGT_DUR, SEGT_CHECK, SEGT_END,
   SEGT_WAIT, SEGT_NEXT]

/-- The fields of one FILT table entry. -/
def fldsFILT : List Fld :=
  [FILT_ID_M, FILT_ID_K, FILT_XL_M, FILT_XL_K, FILT_AF_M,
   FILT_AF_K, FILT_D_M, FILT_D_K, FILT_EN, FILT_FMT,
   FILT_ACTION, FILT_EPOCH, FILT_GEN, FILT_HITS]

/-- The fields of one CELL table entry. -/
def fldsCELL : List Fld :=
  [CELL_MARK, CELL_WIN, CELL_OFFSET, CELL_REPX, CELL_EN,
   CELL_KIND, CELL_CTRL, CELL_FILT, CELL_BUF, CELL_MISS]

end Sys2Proof.Machine.R
end

