-- ==== Sys2Proof/Machine/Base.lean ====
section
/-! DEFINITION. The names the chapters use for modes, roles, identities and results, and the map of the register space
(R110, R111): page numbers, kinds, holding dies and resets. -/

namespace Sys2Proof.Machine

/-- A number whose bit i is the i-th flag. -/
def flagBits : List Bool → Nat
  | [] => 0
  | b :: r => b.toNat + 2 * flagBits r

/-- The device modes of R8, coded as SYS.MODE.MODE (R108). -/
inductive Mode where
  | dormant | watch | standby | ready | run | hold | discharge | maintenance
  deriving DecidableEq, Repr

/-- The code of a mode in SYS.MODE. -/
def Mode.code : Mode → Nat
  | .dormant => 0 | .watch => 1 | .standby => 2 | .ready => 3 | .run => 4 | .hold => 5 | .discharge => 6 | .maintenance => 7

/-- The mode a code of SYS.MODE stands for (three bits, every code is one). -/
def Mode.ofCode (n : Nat) : Mode :=
  match n % 8 with
  | 0 => .dormant | 1 => .watch | 2 => .standby | 3 => .ready | 4 => .run | 5 => .hold | 6 => .discharge | _ => .maintenance

@[simp] theorem Mode.ofCode_code (m : Mode) : Mode.ofCode m.code = m := by cases m <;> rfl

/-- The axis states of R9, coded as FIELD_n.STATE.AXSTATE (R284). -/
inductive AxState where
  | off | catching | align | run | step | hold
  deriving DecidableEq, Repr

/-- The code of an axis state. -/
def AxState.code : AxState → Nat
  | .off => 0 | .catching => 1 | .align => 2 | .run => 3 | .step => 4 | .hold => 5

/-- The axis state a code stands for; the codes 6 and 7 are never written and count as HOLD. -/
def AxState.ofCode : Nat → AxState
  | 0 => .off | 1 => .catching | 2 => .align | 3 => .run | 4 => .step | _ => .hold

/-- The lane roles of chapter 12. -/
inductive Role where
  | down | failed | standby | active
  deriving DecidableEq, Repr

/-- Safety states of an axis in the order of R478, coded as SAFE_x.ASTATE.STATE. -/
inductive SafeState where
  | normal | sos | ss2 | ss1 | sto
  deriving DecidableEq, Repr

/-- The code of a safety state. -/
def SafeState.code : SafeState → Nat
  | .normal => 0 | .sos => 1 | .ss2 => 2 | .ss1 => 3 | .sto => 4

/-- The safety state a request code stands for (codes above 4 are refused before they reach here). -/
def SafeState.ofCode : Nat → SafeState
  | 0 => .normal | 1 => .sos | 2 => .ss2 | 3 => .ss1 | _ => .sto

/-- Results of an access, numbered as R141 numbers them. -/
inductive Result where
  | ok | okSingle | unmapped | absent | cls | claimed | locked | staging | block | value | timeout | epoch
  deriving DecidableEq, Repr

/-- The RESULT code of R141. -/
def Result.code : Result → Nat
  | .ok => 0 | .okSingle => 1 | .unmapped => 2 | .absent => 3 | .cls => 4 | .claimed => 5 | .locked => 6 | .staging => 7
  | .block => 8 | .value => 9 | .timeout => 10 | .epoch => 11

/-- True for the two results of a completed access. -/
def Result.good : Result → Bool
  | .ok => true
  | .okSingle => true
  | _ => false

/-- Port classes in the order of chapter 04, coded as HOST.PORT_CLASS. -/
inductive PortClass where
  | sensor | safety | operator | owner
  deriving DecidableEq, Repr

/-- The code of a class. -/
def PortClass.code : PortClass → Nat
  | .sensor => 0 | .safety => 1 | .operator => 2 | .owner => 3

/-- The class of a code (two bits). -/
def PortClass.ofCode (n : Nat) : PortClass :=
  match n % 4 with
  | 0 => .sensor | 1 => .safety | 2 => .operator | _ => .owner

/-- Reaction classes of R574. -/
inductive Reaction where
  | log | call | holdAxis | stop | holdDevice | cut | lane
  deriving DecidableEq, Repr

/-- The code of a reaction class. -/
def Reaction.code : Reaction → Nat
  | .log => 0 | .call => 1 | .holdAxis => 2 | .stop => 3 | .holdDevice => 4 | .cut => 5 | .lane => 6

/-- The class of a code; code 7 is refused with VALUE and never stored. -/
def Reaction.ofCode : Nat → Reaction
  | 0 => .log | 1 => .call | 2 => .holdAxis | 3 => .stop | 4 => .holdDevice | 5 => .cut | _ => .lane

/-- The eight driver dies are HS1 to HS6 (0 to 5), LSA (6) and LSB (7), as driver links are numbered (R389). -/
abbrev DieIx := Fin 8

/-- The 14 gate outputs of R390: 0 to 5 1H to 6H, 6 to 8 1L to 3L, 9 to 11 4L to 6L, 12 CH, 13 DS. -/
abbrev OutIx := Fin 14

/-- The driver die of an output (R390). -/
def outDie (o : OutIx) : DieIx :=
  if h : o.val < 6 then ⟨o.val, by omega⟩
  else if o.val < 9 then 6 else if o.val < 12 then 7 else if o.val = 12 then 6 else 7

/-- The OUT number of an output in an edge message (R390). -/
def outNum (o : OutIx) : Nat :=
  if o.val < 6 then 0 else if o.val < 9 then o.val - 6 else if o.val < 12 then o.val - 9 else 3

/-- The output that OUT names on a die; none where the die has no such output. -/
def dieOut (d : DieIx) (n : Nat) : Option OutIx :=
  if h : d.val < 6 then (if n = 0 then some ⟨d.val, by omega⟩ else none)
  else if d.val = 6 then
    (match n with | 0 => some 6 | 1 => some 7 | 2 => some 8 | 3 => some 12 | _ => none)
  else
    (match n with | 0 => some 9 | 1 => some 10 | 2 => some 11 | 3 => some 13 | _ => none)

/-- The outputs a die carries. -/
def dieOuts (d : DieIx) : List OutIx := (List.range 4).filterMap (dieOut d)

/-- The high-side output of leg n (0 to 5). -/
def legHigh (n : Fin 6) : OutIx := ⟨n.val, by omega⟩

/-- The low-side output of leg n (0 to 5). -/
def legLow (n : Fin 6) : OutIx := ⟨n.val + 6, by omega⟩

/-- The leg of an output, none for CH and DS. -/
def outLeg (o : OutIx) : Option (Fin 6) :=
  if h : o.val < 6 then some ⟨o.val, h⟩ else if h2 : o.val < 12 then some ⟨o.val - 6, by omega⟩ else none

/-- True for a high-side output. -/
def outIsHigh (o : OutIx) : Bool := o.val < 6

/-! Page numbers (R110). -/

def pgSYS : Nat := 0x00
def pgPWR : Nat := 0x01
def pgCLK : Nat := 0x02
def pgHOST : Nat := 0x03
def pgIRQ : Nat := 0x04
def pgLEDGER : Nat := 0x05
def pgTINKER : Nat := 0x06
def pgHALLMARK : Nat := 0x07
def pgTEMP : Nat := 0x08
def pgTIME : Nat := 0x09
def pgNVM : Nat := 0x0A
def pgLANE : Nat := 0x0B
/-- CPU_A or CPU_B. -/
def pgCPU (l : Lane) : Nat := 0x0C + l.idx
/-- QUILL_A or QUILL_B. -/
def pgQUILL (l : Lane) : Nat := 0x0E + l.idx
/-- FIELD_1 or FIELD_2. -/
def pgFIELD (x : Fin 2) : Nat := 0x10 + x.val
/-- MOTION_1 or MOTION_2. -/
def pgMOTION (x : Fin 2) : Nat := 0x12 + x.val
/-- CONV_A0, CONV_A1, CONV_B0, CONV_B1. -/
def pgCONV (l : Lane) (c : Fin 2) : Nat := 0x14 + 2 * l.idx + c.val
/-- SEQ_A or SEQ_B. -/
def pgSEQ (l : Lane) : Nat := 0x18 + l.idx
/-- POS_A or POS_B. -/
def pgPOS (l : Lane) : Nat := 0x1A + l.idx
/-- MOD_A or MOD_B. -/
def pgMOD (l : Lane) : Nat := 0x1C + l.idx
def pgGATE : Nat := 0x1E
def pgPROT : Nat := 0x1F
/-- SAFE_A or SAFE_B. -/
def pgSAFE (l : Lane) : Nat := 0x20 + l.idx
def pgASSAY : Nat := 0x22
def pgSLAYER : Nat := 0x23
/-- CAN_0 to CAN_3. -/
def pgCAN (n : Fin 4) : Nat := 0x24 + n.val
/-- LINK_A or LINK_B. -/
def pgLINK (l : Lane) : Nat := 0x28 + l.idx
def pgETH : Nat := 0x2A
def pgSENSE : Nat := 0x2B
def pgRES : Nat := 0x2C

/-- The lane that alone holds a page, none for a mirrored page (R110, R113). -/
def pageHolder (p : Nat) : Option Lane :=
  match p with
  | 0x0C => some .a | 0x0D => some .b
  | 0x0E => some .a | 0x0F => some .b
  | 0x14 => some .a | 0x15 => some .a | 0x16 => some .b | 0x17 => some .b
  | 0x18 => some .a | 0x19 => some .b
  | 0x1A => some .a | 0x1B => some .b
  | 0x1C => some .a | 0x1D => some .b
  | 0x20 => some .a | 0x21 => some .b
  | 0x24 => some .a | 0x25 => some .a | 0x26 => some .b | 0x27 => some .b
  | 0x28 => some .a | 0x29 => some .b
  | 0x2A => some .a
  | _ => none

/-- True for a page held on the interface dies, false for one held on the control dies (R110). -/
def pageOnInterface (p : Nat) : Bool :=
  p ≤ 0x0A || p == 0x1A || p == 0x1B || (0x20 ≤ p && p ≤ 0x2C)

/-- The first page of the same kind and the instance number, as ID.TYPE and ID.INSTANCE give them (R115). -/
def pageKind (p : Nat) : Nat × Nat :=
  if p ≤ 0x0B then (p, 0)
  else if p ≤ 0x13 then (p / 2 * 2, p % 2)
  else if p ≤ 0x17 then (0x14, p - 0x14)
  else if p ≤ 0x1D then (p / 2 * 2, p % 2)
  else if p ≤ 0x1F then (p, 0)
  else if p ≤ 0x21 then (0x20, p - 0x20)
  else if p ≤ 0x23 then (p, 0)
  else if p ≤ 0x27 then (0x24, p - 0x24)
  else if p ≤ 0x29 then (0x28, p - 0x28)
  else (p, 0)

/-- The fields of a page's registers at offsets 0x040 and above. -/
def pageFlds (p : Nat) : List Fld :=
  match (pageKind p).1 with
  | 0x00 => R.fldsSYS | 0x01 => R.fldsPWR | 0x02 => R.fldsCLK | 0x03 => R.fldsHOST | 0x04 => R.fldsIRQ
  | 0x05 => R.fldsLEDGER | 0x06 => R.fldsTINKER | 0x07 => R.fldsHALLMARK | 0x08 => R.fldsTEMP | 0x09 => R.fldsTIME
  | 0x0A => R.fldsNVM | 0x0B => R.fldsLANE | 0x0C => R.fldsCPU | 0x0E => R.fldsQUILL | 0x10 => R.fldsFIELD
  | 0x12 => R.fldsMOTION | 0x14 => R.fldsCONV | 0x18 => R.fldsSEQ | 0x1A => R.fldsPOS | 0x1C => R.fldsMOD
  | 0x1E => R.fldsGATE | 0x1F => R.fldsPROT | 0x20 => R.fldsSAFE | 0x22 => R.fldsASSAY | 0x23 => R.fldsSLAYER
  | 0x24 => R.fldsCAN | 0x28 => R.fldsLINK | 0x2A => R.fldsETH | 0x2B => R.fldsSENSE | 0x2C => R.fldsRES
  | _ => []

/-- The number of registers of a page (R110), the header's sixteen included. -/
def pageRegs (p : Nat) : Nat :=
  match (pageKind p).1 with
  | 0x00 => 96 | 0x01 => 80 | 0x02 => 48 | 0x03 => 96 | 0x04 => 64 | 0x05 => 512 | 0x06 => 128 | 0x07 => 160 | 0x08 => 96
  | 0x09 => 64 | 0x0A => 128 | 0x0B => 96 | 0x0C => 96 | 0x0E => 320 | 0x10 => 224 | 0x12 => 128 | 0x14 => 128 | 0x18 => 192
  | 0x1A => 192 | 0x1C => 256 | 0x1E => 400 | 0x1F => 160 | 0x20 => 224 | 0x22 => 96 | 0x23 => 128 | 0x24 => 160 | 0x28 => 128
  | 0x2A => 128 | 0x2B => 96 | 0x2C => 96
  | _ => 0

/-! The common page header (R115). -/

namespace H
def ID : Fld := ⟨0x00, 4, 1, 31, 0, .ro, 0, .any, false⟩
def CTRL_COMMIT : Fld := ⟨0x04, 4, 1, 4, 4, .wo, 0, .any, false⟩
def CTRL_SOFTRST : Fld := ⟨0x04, 4, 1, 3, 3, .wo, 0, .any, false⟩
def CTRL_FREEZE : Fld := ⟨0x04, 4, 1, 2, 2, .rw, 0, .any, false⟩
def CTRL_CLKREQ : Fld := ⟨0x04, 4, 1, 1, 1, .rw, 0, .any, false⟩
def CTRL_ENABLE : Fld := ⟨0x04, 4, 1, 0, 0, .rw, 0, .any, false⟩
def STATUS_FORCED : Fld := ⟨0x08, 4, 1, 6, 6, .ro, 0, .any, false⟩
def STATUS_FAULT : Fld := ⟨0x08, 4, 1, 5, 5, .ro, 0, .any, false⟩
def STATUS_LOCKED : Fld := ⟨0x08, 4, 1, 4, 4, .ro, 0, .any, false⟩
def STATUS_STAGED : Fld := ⟨0x08, 4, 1, 3, 3, .ro, 0, .any, false⟩
def STATUS_CLKON : Fld := ⟨0x08, 4, 1, 2, 2, .ro, 0, .any, false⟩
def STATUS_BUSY : Fld := ⟨0x08, 4, 1, 1, 1, .ro, 0, .any, false⟩
def STATUS_READY : Fld := ⟨0x08, 4, 1, 0, 0, .ro, 0, .any, false⟩
def CAUSE : Fld := ⟨0x0C, 4, 1, 31, 0, .w1c, 0, .any, false⟩
def MASK : Fld := ⟨0x10, 4, 1, 31, 0, .rw, 0, .any, false⟩
def FORCE : Fld := ⟨0x14, 4, 1, 31, 0, .wo, 0, .any, false⟩
def LOCK_KEY : Fld := ⟨0x18, 4, 1, 31, 24, .wo, 0, .any, false⟩
def LOCK_HARD : Fld := ⟨0x18, 4, 1, 1, 1, .ro, 0, .any, false⟩
def LOCK_LOCKED : Fld := ⟨0x18, 4, 1, 0, 0, .ro, 0, .any, false⟩
def CLASSES_OPER : Fld := ⟨0x1C, 4, 1, 1, 1, .rwl, 0, .any, false⟩
def CLASSES_OWNER : Fld := ⟨0x1C, 4, 1, 0, 0, .ro, 1, .any, false⟩
def SEAL : Fld := ⟨0x20, 4, 1, 31, 0, .ro, 0, .any, false⟩
def SEAL_REF : Fld := ⟨0x24, 4, 1, 31, 0, .rwl, 0, .any, false⟩
def OWNER : Fld := ⟨0x28, 4, 1, 5, 0, .rw, 63, .any, false⟩
def EVENT_ISLAND : Fld := ⟨0x2C, 4, 1, 2, 2, .rw, 0, .any, false⟩
def EVENT_LANE : Fld := ⟨0x2C, 4, 1, 1, 1, .rw, 0, .any, false⟩
def EVENT_SUMMARY : Fld := ⟨0x2C, 4, 1, 0, 0, .rw, 1, .any, false⟩
def GEN : Fld := ⟨0x30, 4, 1, 31, 0, .ro, 0, .any, false⟩
end H

/-- The fields of the common header. ID, CTRL's ENABLE and CLKREQ have a reset value per page. -/
def fldsHdr : List Fld :=
  [H.ID, H.CTRL_COMMIT, H.CTRL_SOFTRST, H.CTRL_FREEZE, H.CTRL_CLKREQ, H.CTRL_ENABLE, H.CAUSE, H.MASK, H.FORCE,
   H.LOCK_KEY, H.LOCK_HARD, H.LOCK_LOCKED, H.CLASSES_OPER, H.CLASSES_OWNER, H.SEAL, H.SEAL_REF, H.OWNER,
   H.EVENT_ISLAND, H.EVENT_LANE, H.EVENT_SUMMARY, H.GEN]

/-- True for a page whose CTRL.ENABLE resets to 1 (R115). -/
def pageEnabledAtReset (p : Nat) : Bool :=
  p ≤ 0x05 || p == 0x08 || p == 0x09 || p == 0x0A || p == 0x0B || p == 0x0C || p == 0x0D || p == 0x1E || p == 0x1F ||
  p == 0x20 || p == 0x21

/-- CAUSE bits of a page that its chapter defines, without the common bits 31 and 30. -/
def pageCauseBits (p : Nat) : Nat :=
  match (pageKind p).1 with
  | 0x00 => 4 | 0x01 => 3 | 0x02 => 4 | 0x03 => 11 | 0x04 => 1 | 0x05 => 3 | 0x06 => 3 | 0x07 => 1 | 0x08 => 3
  | 0x09 => 5 | 0x0A => 5 | 0x0B => 8 | 0x0C => 2 | 0x0E => 10 | 0x10 => 13 | 0x12 => 7 | 0x14 => 7 | 0x18 => 5
  | 0x1A => 25 | 0x1C => 14 | 0x1E => 11 | 0x1F => 9 | 0x20 => 6 | 0x22 => 4 | 0x23 => 8 | 0x24 => 9 | 0x28 => 8
  | 0x2A => 5 | 0x2B => 4 | 0x2C => 3
  | _ => 0

/-- Default class of a Ledger source (R228, R283, R323, R388, R430, R461, R502, R524, R556, R582, R602, R629, R644);
none for a reserved source. -/
def srcDefault (n : Nat) : Option Reaction :=
  if n < 32 then
    match n % 16 with
    | 0 => some .lane | 1 => some .lane | 2 => some .log
    | 3 => some .call | 4 => some .log | 5 => some .log | 6 => some .call | _ => none
  else if n < 64 then
    match n % 16 with
    | 0 => some .lane | 1 => some .lane | 2 => some .log | 3 => some .call | 4 => some .lane | 5 => some .lane
    | 6 => some .log | 7 => some .lane | 8 => some .call | 9 => some .log | 10 => some .log | 11 => some .log
    | 12 => some .call | _ => none
  else if n < 96 then
    match n % 16 with
    | 0 => some .lane | 1 => some .lane | 2 => some .log | 3 => some .holdDevice | 4 => some .holdDevice
    | 5 => some .call | 6 => some .call | 7 => some .call | 8 => some .log | _ => none
  else if n < 128 then
    match n % 8 with
    | 0 => some .log | 1 => some .log | 2 => if (n - 96) / 8 % 2 = 0 then some .log else none | 3 => some .call | _ => none
  else if n < 136 then some .log
  else if n < 144 then some .call
  else if n < 158 then some .log
  else if n < 160 then none
  else if n < 192 then
    match n % 16 with
    | 0 => some .call | 1 => some .log | 2 => some .log | 3 => some .holdAxis | 4 => some .log | 5 => some .holdAxis
    | 6 => some .log | 7 => some .call | 8 => some .call | 9 => some .call | 10 => some .log | 11 => some .call
    | 12 => some .log | _ => none
  else if n < 224 then
    match n % 16 with
    | 0 => some .call | 1 => some .call | 2 => some .log | 3 => some .log | 4 => some .log | 5 => some .log
    | 6 => some .call | 7 => some .call | 8 => some .call | 9 => some .log | 10 => some .call | _ => none
  else if n < 288 then
    match n % 8 with
    | 0 => some .holdAxis | 1 => some .holdAxis | 2 => some .holdAxis | 3 => some .call | 4 => some .holdAxis
    | 5 => some .call
    | 6 => if n = 278 then some .holdDevice else if n = 286 then some .call else some .log
    | _ => some .log
  else if n < 320 then
    match n % 16 with
    | 1 => some .log | 3 => some .holdDevice | _ => some .call
  else if n < 336 then
    match n % 4 with
    | 0 => some .call | 1 => some .log | 2 => some .log | _ => some .call
  else if n < 346 then
    match (n - 336) % 5 with
    | 0 => some .call | 1 => some .call | 2 => some .call | _ => some .log
  else if n = 346 then some .call
  else if n = 347 then some .log
  else if n = 348 then some .call
  else if n = 349 then some .log
  else if n < 352 then none
  else if n = 352 then some .log
  else if n < 356 then some .call
  else if n = 356 then some .log
  else if n < 360 then none
  else if n < 363 then some .log
  else if n = 363 then none
  else if n < 366 then some .log
  else if n < 368 then none
  else if n < 372 then some .call
  else if n = 372 then some .log
  else if n = 373 then some .call
  else if n < 376 then none
  else if n = 376 then some .log
  else if n = 377 then some .call
  else if n = 378 then some .log
  else none

/-- SRCn.FLOOR of a source (R575). -/
def srcFloor (n : Nat) : Nat :=
  match srcDefault n with
  | some .holdAxis => 2
  | some .holdDevice => 4
  | some .lane => 6
  | _ => 0

/-- Reset value of SRCn: default class, floor, and PIN = 1 from HOLD_AXIS upwards (R575, R580); 0 for a reserved source. -/
def srcReset (n : Nat) : Word :=
  match srcDefault n with
  | none => 0
  | some c => BitVec.ofNat 32 ((if 2 ≤ c.code then 2 ^ 27 else 0) + c.code * 2 ^ 24 + srcFloor n * 2 ^ 21)

/-- The sum of the reset values of the fields that lie in the register at byte offset `o`. -/
def fldsReset (l : List Fld) (o : Nat) : Word :=
  BitVec.ofNat 32 ((l.filter (·.holds o)).foldl (fun acc f => acc + f.reset * 2 ^ f.lo) 0)

/-- Reset value of the register of page `p` at byte offset `o` (R115, and the field tables of the chapters). -/
def pageReset (p o : Nat) : Word :=
  if o < 0x40 then
    (if o = 0 then BitVec.ofNat 32 ((pageKind p).1 * 2 ^ 16 + (pageKind p).2 * 2 ^ 8 + 1)
     else if o = 4 then (if pageEnabledAtReset p then 3 else 0)
     else fldsReset fldsHdr o)
  else if p = pgLEDGER ∧ 0x200 ≤ o then srcReset ((o - 0x200) / 4)
  else fldsReset (pageFlds p) o

/-! Table regions (R110). -/

def rgSEG : Nat := 0x100000
def rgMAP : Nat := 0x120000
def rgCONN : Nat := 0x130000
def rgQUILL : Nat := 0x140000
def rgRULING : Nat := 0x150000
def rgFILTER : Nat := 0x158000
def rgEnd : Nat := 0x160000

/-- The page that governs a region address (R110); QUILL_A governs the Quill memories while lane A stands. -/
def regionPage (a : Nat) : Option Nat :=
  if rgSEG ≤ a ∧ a < 0x110000 then some (pgMOTION 0)
  else if rgMAP ≤ a ∧ a < 0x128000 then some (pgFIELD 0)
  else if 0x128000 ≤ a ∧ a < rgCONN then some (pgFIELD 1)
  else if rgCONN ≤ a ∧ a < rgQUILL then some pgSLAYER
  else if rgQUILL ≤ a ∧ a < rgRULING then some (pgQUILL .a)
  else if rgRULING ≤ a ∧ a < rgFILTER then some (pgCAN 0)
  else if rgFILTER ≤ a ∧ a < rgEnd then some (0x24 + (a - rgFILTER) / 0x2000)
  else none

/-- The lane that alone holds a region address; the filter banks are the regions of single controllers (R110). -/
def regionHolder (a : Nat) : Option Lane :=
  if rgFILTER ≤ a ∧ a < rgEnd then (if a < rgFILTER + 0x4000 then some .a else some .b) else none

/-- The fields of one entry of a table region, with the entry's size. -/
def regionFlds (a : Nat) : List Fld × Nat × Nat :=
  if rgSEG ≤ a ∧ a < 0x110000 then (R.fldsSEGT, 16, rgSEG)
  else if rgCONN ≤ a ∧ a < rgQUILL then (R.fldsCONN, 64, rgCONN)
  else if rgRULING ≤ a ∧ a < rgFILTER then (R.fldsCELL, 32, rgRULING)
  else if rgFILTER ≤ a ∧ a < rgEnd then (R.fldsFILT, 64, rgFILTER)
  else ([], 4, a)

/-- What an address of the register space holds at reset. -/
def addrReset (a : Nat) : Word :=
  if a < 0x2D000 then pageReset (a / 0x1000) (a % 0x1000)
  else
    let r := regionFlds a
    fldsReset (r.1.map fun f => { f with count := 1 }) ((a - r.2.2) % r.2.1)

end Sys2Proof.Machine
end

