-- ==== Sys2Proof/Machine/State.lean ====
section
/-! DEFINITION. Everything the spec gives the device, as plain data, and the state after reset. Registers live in `Dev.regs`
under their address; the structures below hold what the chapters name beside the registers. Each field's comment gives the
rule that names it; a field's default is its value at reset. -/

namespace Sys2Proof.Machine

/-! ## Internal links (R29 to R31) -/

/-- One receiver of an internal link. -/
structure LinkRxState where
  /-- a start-up has completed since the receiver's die last left reset (R30) -/
  started : Bool := false
  /-- started and not declared lost (R30) -/
  live : Bool := false
  /-- counter of the last accepted frame; none before the first one after a start-up (R29) -/
  lastSeq : Option Nat := none
  /-- device-time tick of the last accepted frame, or of the start-up (R30) -/
  lastAccept : Nat := 0
  /-- the link's error counter: discarded frames (R29) -/
  errors : Nat := 0
  /-- missing frames (R29) -/
  missing : Nat := 0
  deriving DecidableEq, Repr

/-! ## Driver dies and outputs (chapters 01, 10, 11) -/

/-- What a standing fallback state asks of one output (R35). -/
inductive Fallback where
  | off | asc | holdLastSafe
  deriving DecidableEq, Repr

/-- What the control die of a lane puts into every driver-link frame (R35, R40, R453): the role designation, the fallback
state of the die's outputs in OUT order, the STO-ASC flag, the STO channels it reports active, the handover tick where one is
fixed, the present force state of each output (R380), and the tick from which a forcing is over, where its end is fixed (R383). -/
structure DieFrame where
  active : Bool
  fall : List Fallback
  stoAsc : Bool
  stoA : Bool
  stoB : Bool
  handover : Option Nat
  force : List (Option Bool)
  ends : List (Option Nat)
  deriving DecidableEq, Repr

/-- One edge message a port holds until its due instant (R373, R375). -/
structure HeldEdge where
  out : OutIx
  level : Bool
  pset : Bool
  seq : Nat
  due : Nat
  dueF : Nat
  deriving DecidableEq, Repr

/-- What a driver die holds for one of its two ports. -/
structure DiePort where
  /-- the designation the port carries: true ACTIVE (R35) -/
  active : Bool := false
  /-- a designation change that applies from the handover tick (R453) -/
  handover : Option Nat := none
  /-- STO channels the port reports active (R40) -/
  stoA : Bool := false
  stoB : Bool := false
  /-- latency calibration has completed (R377) -/
  calOk : Bool := false
  /-- edge messages held until their due tick (R36, R375), earliest first -/
  held : List HeldEdge := []
  /-- SEQ of the last edge message of each output in OUT order; none before the first (R375) -/
  lastSeq : List (Option Nat) := [none, none, none, none]
  /-- priority symbols counted without being executed (R380) -/
  standbySymbols : Nat := 0
  /-- the port's copy of device time, as it stands ahead of device time, in fine steps (R34, R376) -/
  ahead : Int := 0
  /-- outputs that a STO symbol of this port names, by OUT number (R473) -/
  stoSym : List Bool := [false, false, false, false]
  /-- staged configuration block (R426), as the die's output registers in offset order -/
  staged : Option (List Word) := none
  /-- tick at which the block was staged -/
  stagedAt : Nat := 0
  deriving DecidableEq, Repr

/-- A configuration block as it goes over its link: its words, sealed with their CRC-32C (R426). -/
structure SealedBlock where
  words : List Word
  check : Nat
  deriving DecidableEq, Repr

/-- A standing fallback state as a die holds it (R35, R39). -/
structure FallbackState where
  fall : List Fallback
  stoAsc : Bool
  deriving DecidableEq, Repr

/-- One driver die. -/
structure DieState where
  /-- out of reset (R77) -/
  powered : Bool := false
  /-- the active port (R37 to R39) -/
  activePort : Option Lane := none
  /-- some port has been active since the die's reset (R37) -/
  everActive : Bool := false
  ports : PerLane DiePort := { a := {}, b := {} }
  /-- last fallback state from an ACTIVE port, or from a port made active under R38 (R39) -/
  fallback : Option FallbackState := none
  /-- the die applies its fallback state (R39) -/
  inFallback : Bool := false
  /-- the applied configuration block, in offset order; none before the first (R427, R428) -/
  applied : Option (List Word) := none
  /-- DSTAT.ROLE_CONFLICT, TIME_SKEW, CFG_MISMATCH (R37, R34, R427) -/
  roleConflict : Bool := false
  timeSkew : Bool := false
  cfgMismatch : Bool := false
  /-- DERR.CFGREJ and DERR.DISCARD (R428) -/
  cfgRej : Nat := 0
  discard : Nat := 0
  deriving DecidableEq, Repr

/-- Stages of a soft turn-off (R404): discharging to V_SOFT and holding; discharging to the off level. -/
inductive SoftStage where
  | none | first | second
  deriving DecidableEq, Repr

/-- Phases of an edge (R395). -/
inductive EdgePhase where
  | idle | p1 | p2 | p3
  deriving DecidableEq, Repr

/-- One gate output at its driver die. -/
structure OutState where
  /-- commanded level: true on -/
  on : Bool := false
  /-- the gate is at the on level (OSTAT.LEVEL) -/
  gateOn : Bool := false
  /-- phase of the running edge (R395) -/
  phase : EdgePhase := .idle
  /-- the running edge is a turn-on -/
  phaseOn : Bool := false
  /-- profile set of the running edge -/
  pset : Bool := false
  /-- the running edge was forced or protective (R400) -/
  forcedEdge : Bool := false
  /-- due tick of the latest edge; its due instant in fine steps of device time, as the delay line places it (R376) -/
  edgeAt : Nat := 0
  edgeFine : Int := 0
  /-- tick at which phase 2 of the running edge began (R395) -/
  p2At : Nat := 0
  /-- soft turn-off stage and the tick at which it began (R404, R405) -/
  soft : SoftStage := .none
  softAt : Nat := 0
  /-- tick at which the gate last reached the off level after a soft turn-off (R415, R416) -/
  offAt : Nat := 0
  /-- a priority symbol holds the output: none not forced, some true forced on, some false forced off (R379) -/
  force : Option Bool := none
  /-- tick from which that forcing is over, once its end is known (R383) -/
  forceEnd : Option Nat := none
  /-- level of the last force state executed from an ACTIVE port (R35) -/
  lastForce : Option Bool := none
  /-- latched short with its kind: 1 DESAT, 2 PLATEAU_SHORT (R406) -/
  shortKind : Option Nat := none
  /-- latched GATE_MON, supply fault, bootstrap undervoltage (R408 to R410) -/
  gmon : Bool := false
  supFault : Bool := false
  bootUv : Bool := false
  /-- the monitored level stands below VPOS_WARN, or below its fault threshold (R409, R410) -/
  warn : Bool := false
  uv : Bool := false
  /-- the die has reported the bootstrap at or above VPOS_WARN, and not below it since (R386, R410) -/
  bootOk : Bool := false
  /-- halves cut off (R392) -/
  cutA : Bool := false
  cutB : Bool := false
  /-- Miller clamp engaged (R407) -/
  clamp : Bool := false
  /-- this output's registers of the applied block, in offset order (R427) -/
  cfg : Option (List Word) := none
  /-- a block that waits for the output's next turn-on (R427) -/
  cfgNext : Option (List Word) := none
  /-- adaptation states of ON0, OFF0, ON1, OFF1 in 1/64 A (R400) -/
  adapt : List Nat := [128, 128, 128, 128]
  /-- ON0, OFF0, ON1, OFF1 written since the output last took a block (R400) -/
  wrote : List Bool := [false, false, false, false]
  /-- consecutive updating edges with a clamped state and a large error, per state (R401) -/
  adaptBad : List Nat := [0, 0, 0, 0]
  /-- last measured plateau time and dv/dt of a turn-on and of a turn-off (R399) -/
  tpl : Nat := 0
  dvOn : Nat := 0
  dvOff : Nat := 0
  /-- DESAT and plateau-watch detections (OCNT) -/
  cntDesat : Nat := 0
  cntPw : Nat := 0
  deriving DecidableEq, Repr

/-! ## Supplies, clocks and modes (chapter 03) -/

/-- Supplies and domains. -/
structure PowerState where
  /-- supplies that stand valid under R75, each with the tick at which it became valid; none where no device time ran then (R77) -/
  valid : List (Supply × Option Nat) := []
  /-- the present level of VIO in millivolts, while it stands valid (R78) -/
  vioMv : Nat := 0
  /-- dies out of reset (R77) -/
  running : List Die := []
  /-- logic levels selected by VIO: 1 for 1.8 V, 2 for 3.3 V; none while high-impedance (R78) -/
  vioLevel : Option Nat := none
  /-- always-on supply has been valid since both were last off, per interface die (R87) -/
  aonRunning : PerLane Bool := { a := false, b := false }
  /-- the interface die has been lost beside another one since the device last started: it returns (R129) -/
  returned : PerLane Bool := { a := false, b := false }
  deriving DecidableEq, Repr

/-- Clocks of one lane. -/
structure ClockState where
  /-- the main clock runs (R84, R86) -/
  main : Bool := false
  /-- the 71-bit accumulator of the always-on domain, in 1/128 tick (R84) -/
  acc : Nat := 0
  /-- the reference choice has been made since the fast domain last powered up, and is the crystal (R81) -/
  refMade : Bool := false
  refXtal : Bool := false
  /-- the always-on domain runs from its crystal (R81) -/
  aonXtal : Bool := false
  /-- PLL of the interface die and of the control die locked (R80) -/
  pllI : Bool := false
  pllC : Bool := false
  /-- the control die runs from its own RC (R95, R459) -/
  ctlOnRc : Bool := false
  /-- lane B runs at the trim limit (R82); never set on lane A -/
  trimLimit : Bool := false
  deriving DecidableEq, Repr

/-- Device-mode state beside the SYS page (R88 to R97). -/
structure ModeState where
  /-- the device mode and the one before the last transition (SYS.MODE, R8, R88) -/
  cur : Mode := .standby
  prev : Mode := .standby
  /-- a requested transition in progress: target, tick of the request, judged as an OWNER (R89, R90) -/
  pendingReq : Option (Nat × Nat × Bool) := none
  /-- the HVIL loop is open (R92) -/
  hvilOpen : Bool := false
  /-- tick at which DISCHARGE was entered (R425), and the DISCH.METHOD taken there, 3 for none (R422) -/
  dischargeAt : Nat := 0
  method : Nat := 3
  /-- READY has been reached since the blank supervisor behaviour started (R105) -/
  superArmed : Bool := false
  /-- the start-up now running follows a wake of R95, so that it ends in HOLD (R95) -/
  towWake : Bool := false
  /-- alive counter of the supervisor's answers (R106) -/
  superAlive : Nat := 0
  /-- tick of the blank supervisor's last READY request (R104) -/
  superReqAt : Nat := 0
  /-- always-on cycles counted towards the wake timer (R108) -/
  wakeCycles : Nat := 0
  /-- last frame the supervisor sent on CAN0: identifier and data (R106) -/
  superAnswer : Option (Nat × List Byte) := none
  deriving DecidableEq, Repr

/-! ## Lanes (chapter 12) -/

/-- One edge of the edge-stream comparison: output and due instant in fine steps (R448). -/
structure StreamEdge where
  out : OutIx
  /-- start tick of the period of its timebase that produced it -/
  start : Nat
  due : Nat
  deriving DecidableEq, Repr

/-- What an input of a lockstep pair has brought while the pair's copies disagree on it (R436): a level, a debug action, or a frame of an
isolated lane or a cross-link with what it carries. -/
inductive HeldChange where
  | sto (ch : Lane) (active : Bool)
  | sdi (n ch : Fin 2) (high : Bool)
  | hvil (opened : Bool)
  | halt (quill on : Bool)
  | debug (quill : Bool) (a : DebugAct)
  | frame (k : LinkRx) (seq : Nat) (crcOk : Bool) (skew : Int)
  | shadow (good : Nat)
  | decision (w : DecisionWord)
  | relay (failed : BitVec 22)
  | laneDown
  deriving DecidableEq, Repr

/-- Lane-manager state of one lane. -/
structure LaneState where
  role : Role := .down
  /-- the lane's start-up has completed since its latest reset (LANE.STAT UP) -/
  up : Bool := false
  /-- comparator self-test passed since the lane's latest reset (R438, R439) -/
  stOk : Bool := false
  /-- eligible under R443 -/
  eligible : Bool := false
  /-- the lane has fallen silent and stays so until it is reset (R451) -/
  silent : Bool := false
  /-- tick of the failure, for HOLDOFF (R456) -/
  failedAt : Nat := 0
  /-- control cores, and Quill, halted through DEBUG (R441) -/
  halted : Bool := false
  haltedQuill : Bool := false
  /-- a LANE cause of this lane is known and its silent withdrawal is not made yet: kind of FAILREC and tick (R450, R451) -/
  withdrawAt : Option Nat := none
  /-- a source of class LANE has been raised since the lane's latest reset: its number (R443) -/
  laneSrc : Option Nat := none
  /-- the state exchange of the present period has completed (R45) -/
  exchanged : Bool := false
  /-- mirrored pages match the live copies (R114, R443) -/
  pagesMatch : Bool := false
  /-- consecutive periods with a current shadow and a matching edge stream since the restart (R456) -/
  rejoinCnt : Nat := 0
  /-- the lane restarted and has not rejoined (R456) -/
  rejoining : Bool := false
  /-- the lane keeps its role on its own RC after ISO_LOST and accepts no commands (R459) -/
  isoKept : Bool := false
  /-- driver dies to which the ACTIVE lane still designates itself STANDBY, since they have not reported its port active (R452) -/
  standbyTo : List (Fin 8) := []
  /-- tick at which the lane fell silent, and the links on which it left its LANE_DOWN notice (R451) -/
  silentAt : Nat := 0
  downNotice : List LinkRx := []
  /-- edge messages emitted in the present period (R448) -/
  stream : List StreamEdge := []
  /-- consecutive mismatching periods per output (R449) -/
  diverge : List Nat := []
  /-- shadow of the other lane has been current in every period since ... and its blocks arrived (R447) -/
  shadowOk : Bool := false
  /-- tick of the last watchdog kick or of the enable, and the key expected next is the second one (R463) -/
  kickAt : Nat := 0
  kickFirst : Bool := true
  kickSecond : Bool := false
  /-- inputs on which the copies of the core pair, or of the safety-core pair of the lane's island, disagree, which keep their previous
  values: the pair is the island's, the input, and the cycles since the first disagreement (R436, R437) -/
  disagree : List ((Bool × PairInput) × Nat) := []
  /-- what has come over such an input meanwhile, in order, for the first cycle in which the copies agree (R436) -/
  heldIn : List ((Bool × PairInput) × HeldChange) := []
  /-- the control-core pair has mismatched: its later accesses are stopped until the lane's reset (R434) -/
  mismatch : Bool := false
  /-- what a debugger knows of the halted control cores (R440): registers by number, memory words by 64 plus their address -/
  core : List (Nat × Word) := []
  deriving DecidableEq, Repr

/-- A fixed handover: the tick H and the new lane (R453). -/
structure Handover where
  tick : Nat
  lane : Lane
  /-- fixed by LANE.CMD SWITCH or an update, not by a lost driver link (R450) -/
  cmd : Bool
  deriving DecidableEq, Repr

/-! ## Register access (chapter 04) -/

/-- An accepted host request (R139, R141). -/
structure HostReq where
  port : HostPort
  frame : HostFrame
  /-- tick of acceptance -/
  at' : Nat
  deriving DecidableEq, Repr

/-- A held result (R141). -/
structure HostRes where
  port : HostPort
  code : Nat
  reqAlive : Nat
  rdata : List Word
  /-- a FETCH has answered with it -/
  fetched : Bool := false
  deriving DecidableEq, Repr

/-- A response frame as it leaves the device (R138): RSTAT, RDATA, RALIVE. -/
structure HostResp where
  rstat : Word
  rdata : List Word
  ralive : Nat
  rcrc : Word
  deriving DecidableEq, Repr

/-- Host-frame engine (R138 to R142) and the record of the latest access. -/
structure HostState where
  /-- last accepted ALIVE; none after the holding die's reset (R140) -/
  lastAlive : Option Nat := none
  ralive : Nat := 0
  request : Option HostReq := none
  result : Option HostRes := none
  /-- last response sent -/
  response : Option HostResp := none
  /-- result of the latest register access (R116, R141) -/
  access : Result := .ok
  /-- value returned by the latest read -/
  readData : List Word := []
  /-- a core took a load or store access-fault exception at the latest access (R111, R119) -/
  coreFault : Bool := false
  /-- DEBUG port class is OWNER (R134) -/
  debugOwner : Bool := false
  /-- a start-up has applied the image's lowerings and opened the ports of each interface die (R136) -/
  opened : PerLane Bool := { a := false, b := false }
  /-- port as which a lane core's accesses are checked, and those of the handlers that a higher one has interrupted, innermost first
  (R137) -/
  proxy : PerLane (Option Nat) := { a := none, b := none }
  proxyHeld : PerLane (List (Option Nat)) := { a := [], b := [] }
  deriving DecidableEq, Repr

/-! ## Ledger (chapter 16) -/

/-- Ledger state beside its page: the full stamp of the first-fault record. -/
structure LedgerState where
  /-- stamp of FIRST as a full device time (R579) -/
  firstStamp : Nat := 0
  /-- class that each uncleared source had at its latest raise (R575): source number and class -/
  classAt : List (Nat × Reaction) := []
  /-- tick of the latest raise of each source (R577) -/
  raisedAt : List (Nat × Nat) := []
  deriving DecidableEq, Repr

/-! ## Modulator (chapter 10) -/

/-- One edge message that waits at a link master (R374): output, level, profile set, due tick and fine fraction. -/
structure QueuedEdge where
  out : OutIx
  level : Bool
  pset : Bool
  due : Nat
  dueF : Nat
  /-- start tick of the period that produced it; none for a protective edge, which the edge stream leaves out (R448) -/
  start : Option Nat := none
  deriving DecidableEq, Repr

/-- One timebase (R357 to R360). -/
structure TimebaseState where
  /-- counting -/
  running : Bool := false
  /-- it has counted a period since its reset -/
  ran : Bool := false
  /-- tick at which it starts, once both enables are set (R358) -/
  startAt : Option Nat := none
  /-- tick of the present period start -/
  t0 : Nat := 0
  /-- active period of the present period -/
  per : Nat := 31250
  /-- values taken at the latch point for the next period start: register address and value (R43, R366) -/
  taken : List (Nat × Word) := []
  /-- commit groups taken at the latch point -/
  takenGroups : List Nat := []
  /-- adjustment of the present period by SYNC_IN that is still to be made, in ticks (R360) -/
  syncRest : Int := 0
  /-- ticks by which SYNC_IN lengthens or shortens the present period (R360) -/
  syncAdj : Int := 0
  /-- tick of the last SYNC_IN edge (R360) -/
  syncAt : Nat := 0
  /-- TB0 runs free for want of edges (R360) -/
  syncLost : Bool := false
  /-- the latch point of the next period start has passed: its values are taken and its edges are produced (R43, R374) -/
  latched : Bool := false
  deriving DecidableEq, Repr

/-- What waits on a stopped timebase for the tick of R665: values that a latch point had taken before the timebase stopped, a member
staged in auto or ratio mode by its address, a commit group, the end of a leg's forcing; of an axis the start of its pulses, the start
and the end of ASC, the map swap. -/
inductive Waiting where
  | taken
  | member (a : Nat)
  | group (g : Nat)
  | leg (n : Fin 6)
  | pulses (x : Fin 2)
  | ascOn (x : Fin 2)
  | ascEnd (x : Fin 2)
  | map (x : Fin 2)
  deriving DecidableEq, Repr

/-- An action that became due on a stopped timebase, with the tick at which it did (R665). -/
structure Deferred where
  at' : Nat
  tb : Fin 2
  what : Waiting
  deriving DecidableEq, Repr

/-- What a leg's next period was planned to be at its latch point, for the registers that change at the period start. -/
structure NextPeriod where
  /-- compare after every clamp and rule -/
  c : Nat := 0
  stretch : Bool := false
  dropH : Bool := false
  dropL : Bool := false
  /-- refresh period, and a low-side pulse of RFW in it (R384) -/
  refresh : Bool := false
  served : Bool := false
  /-- the clamp of an interim (R369) -/
  clamped : Bool := false
  /-- tick of that period start; the leg's forcing ends there; ASC of its bridge ends there (R383, R416) -/
  opens : Nat := 0
  release : Bool := false
  ascEnd : Bool := false
  /-- the pulses of the leg's axis start at the period start (R281) -/
  start : Bool := false
  /-- the leg is in CHOP mode in that period (R384, R387) -/
  chop : Bool := false
  deriving DecidableEq, Repr

/-- One leg of a modulator. -/
structure LegState where
  /-- effective compare of the present period in fine steps (LEGn_ACMP) -/
  acmp : Nat := 0
  /-- commanded levels at the end of what has been placed so far -/
  hs : Bool := false
  ls : Bool := false
  /-- commanded levels before the placed edges; the placed edges: high side, on, fine-step time -/
  hs0 : Bool := false
  ls0 : Bool := false
  placed : List (Bool × Bool × Int) := []
  /-- what the next period start begins -/
  next : NextPeriod := {}
  /-- fine-step time of the partner's last turn-off, for R364 -/
  hsOffAt : Int := -1000000
  lsOffAt : Int := -1000000
  /-- the low side was on at the period start; the low-side edges of the period with their ticks, a turn-on's rounded up; tick
  at which a forcing took the low side off (R171 to R173) -/
  lsStart : Bool := false
  lowEdges : List (Bool × Nat) := []
  lowCut : Option Nat := none
  /-- interim of R369, and COMPARE_CLAMPED already raised in it -/
  interim : Bool := false
  interimRaised : Bool := false
  /-- forced by the bootstrap undervoltage; its source is cleared, so that the forcing ends at the next period start (R385) -/
  bootForced : Bool := false
  bootEnds : Bool := false
  /-- tick at which the present period began where the leg is in CHOP mode: NOLS counts that period once it is over (R384) -/
  chopFrom : Option Nat := none
  /-- forcing whose end is due at the next period start (R383) -/
  ending : Bool := false
  /-- last change of a CHOP leg, and its scheduled change (R351, R387) -/
  chopHigh : Bool := false
  chopChangeAt : Nat := 0
  chopDue : Option (Nat × Bool) := none
  deriving DecidableEq, Repr

/-- One of the eight link masters of a modulator. -/
structure MasterState where
  /-- messages that wait, earliest due first (R374) -/
  queue : List QueuedEdge := []
  /-- the last message that left (R373) -/
  lastMsg : Option Word := none
  /-- a priority symbol on its way: its word, and the copies of it still to arrive (R379) -/
  symbol : Option (Word × Nat) := none
  /-- tick at which the last message left (R374) -/
  lastSend : Nat := 0
  /-- SEQ of the next message of each OUT (R373) -/
  seq : List Nat := [0, 0, 0, 0]
  /-- estimates that were not applied, latest first (R377) -/
  odd : List Int := []
  /-- tick at which the control die started the link start-up, while it has not completed (R411) -/
  startAt : Option Nat := none
  /-- the die reports this lane's port active (R452) -/
  active : Bool := false
  /-- LAT with the fraction that tracking keeps, in 1/16 fine step (R377) -/
  lat16 : Int := 0
  deriving DecidableEq, Repr

/-- One modulator. -/
structure ModUnit where
  tb0 : TimebaseState := {}
  tb1 : TimebaseState := {}
  legs : Vector LegState 6 := Vector.replicate 6 {}
  masters : Vector MasterState 8 := Vector.replicate 8 {}
  /-- commit groups with a commit that no latch point has taken yet (R366) -/
  groups : List Nat := []
  /-- latest valid window mean of each leg since the page was enabled (R397) -/
  lastMean : List (Option Int) := [none, none, none, none, none, none]
  /-- legs that the protection logic forces through source PROT, bit n for leg n+1 (R414) -/
  protLegs : Nat := 0
  /-- actions that became due on a stopped timebase (R665) -/
  deferred : List Deferred := []
  deriving DecidableEq, Repr


/-! ## Protection logic (chapter 11) -/

/-- Protection logic of one control die. -/
structure ProtUnit where
  /-- last reading of the lane's DC-link input in volts; none before the first (R419) -/
  volt : Option Nat := none
  /-- chopper decision: CH commanded on, tick of its last change, a decision held back by the 2 us rule (R419) -/
  chOn : Bool := false
  chAt : Nat := 0
  chHeld : Option Bool := none
  /-- tick at which CH last went off; ticks CH was on in the present 10 us, and the tick at which these began (R420) -/
  chOffAt : Nat := 0
  chTicks : Nat := 0
  chFrom : Nat := 0
  /-- the control die sends LSA and LSB the ASC fallback of R95 -/
  towAsc : Bool := false
  /-- the standing fallback state that the lane computed last (R35): per output, and the STO-ASC flag -/
  fall : Vector Fallback 14 := Vector.replicate 14 .off
  stoAsc : Bool := false
  /-- energy estimate in nanojoules and stopped at EMAX (R420) -/
  energy : Nat := 0
  limit : Bool := false
  /-- stamp of the detection that SCFIRST holds, in full (R418) -/
  scAt : Nat := 0
  /-- what the lane's protection logic knows of the outputs, by the frames of its driver links and as it took it from the other lane: a
  latched short, and the adaptation states of R400 (R446) -/
  shorts : Vector Bool 14 := Vector.replicate 14 false
  adapt : Vector (List Nat) 14 := Vector.replicate 14 [128, 128, 128, 128]
  deriving DecidableEq, Repr

/-- Protection state of one bridge (R413 to R417). -/
structure BridgeState where
  /-- ASC is applied through the low sides, through the high sides -/
  ascL : Bool := false
  ascH : Bool := false
  /-- ASC waits for DLY after a soft turn-off, to be applied at the low sides, or at the high sides (R415, R416) -/
  waitHigh : Option Bool := none
  /-- tick at which the last soft turn-off in the bridge reached the off level -/
  offAt : Nat := 0
  /-- ASC waits for DLY, since it moves away from a side that is not permitted any more (R416) -/
  moved : Bool := false
  /-- held off under R417 -/
  uncontrolled : Bool := false
  deriving DecidableEq, Repr


/-! ## Axes (chapters 07, 09, 13) -/

/-- Why an axis is in HOLD (R273, R474): each cause ends as its rule gives. -/
structure HoldCauses where
  /-- Ledger sources of class HOLD_AXIS that acted on the axis -/
  sources : List Nat := []
  /-- the device mode left RUN, or a HOLD_DEVICE reaction acted -/
  device : Bool := false
  /-- STO reached the axis (R474) -/
  sto : Bool := false
  /-- the OFF command met a speed rule of ASC (row 3) -/
  speed : Bool := false
  /-- the command timeout's action 2 (R274) -/
  cmdTimeout : Bool := false
  deriving DecidableEq, Repr

/-- One axis beside its FIELD page. -/
structure AxisState where
  causes : HoldCauses := {}
  /-- an axis STOP ramps towards OFF (row 4 of R273); the STOP came from SS1 (R479) -/
  stopping : Bool := false
  /-- tick at which the ramp began -/
  stopAt : Nat := 0
  /-- ramp time in ms (CMDTO.TRAMP, or SS.RAMP for SS1) -/
  ramp : Nat := 0
  /-- STO ended for the axis, so that it waits for CLR whatever RECATCH holds (R475) -/
  afterSto : Bool := false
  /-- START is refused while a safe stop request of SS1 stands, per island (R479) -/
  ss1Req : PerLane Bool := { a := false, b := false }
  /-- tick of the last TCMD write or RUN entry, and the stage of R274: 0 watching, 1 holding, 2 acted -/
  tcmdAt : Nat := 0
  cmdStage : Nat := 0
  /-- synchronised: pulses start at a period start, where the axis enters RUN or STEP; the present period is the first one that
  switches after it (R281, R296) -/
  starts : Bool := false
  sync : Bool := false
  /-- position channels whose offset ALIGN has set, as ANGSRC codes (R258) -/
  aligned : List Nat := []
  /-- ALIGN: tick of entry, sensor position at the start of its last quarter (R275) -/
  alignAt : Nat := 0
  alignPos : Option Int := none
  /-- the sensor has moved by more than CPR / 64 in that quarter -/
  alignMoved : Bool := false
  /-- locked rotor: tick since which the conditions hold, and the position then (R276) -/
  lrAt : Option Nat := none
  lrPos : Option (Nat × Int) := none
  /-- catch: tick of entry, start of the window, samples as stamp with line-derived alpha and beta times 3 in value LSB, an
  early end, failed fits, E of the last measurement, standstill awaiting injection, tick of the last ASC release (R278 to R282) -/
  catchAt : Nat := 0
  catchWin : Option Nat := none
  samples : List (Nat × Int × Int) := []
  early : Bool := false
  /-- tick at which the next sample of the open window is due (R278) -/
  catchNext : Nat := 0
  tries : Nat := 0
  catchE : Option Int := none
  standstill : Bool := false
  ascSince : Nat := 0
  /-- the open window came from a release of ASC (R271) -/
  released : Bool := false
  /-- ASC ends at a period start, and a catch window opens there (R271, R416) -/
  ascEnds : Bool := false
  ascCatch : Bool := false
  /-- a bank swap is armed (R253) -/
  mapSwap : Bool := false
  deriving DecidableEq, Repr

/-! ## Safety islands (chapter 13) -/

/-- One axis as one island sees it. -/
structure SafeAxis where
  /-- requests from safety PDUs, as a state code, per entry number (R478, R517) -/
  pduReq : List (Nat × Nat) := []
  /-- tick of entry, safety speed at entry (R480) -/
  t0 : Nat := 0
  v0 : Int := 0
  /-- consecutive cycles with |v| at or below VZERO (R481) -/
  slow : Nat := 0
  /-- the state was reached through a violation (R478) -/
  byViol : Bool := false
  /-- an acknowledgement arrived after the last cause went (R475) -/
  acked : Bool := false
  /-- the STO needs an acknowledgement because a violation or discrepancy led to it (R475) -/
  needAck : Bool := false
  /-- internal STO requests that stand: Ledger sources of class CUT, discrepancy (R472, R574) -/
  cut : List Nat := []
  /-- most advanced position in the allowed direction (R486) -/
  dirRef : Option Int := none
  /-- SLS set in use, the former set and the tick of the change (R485) -/
  slsSet : Nat := 0
  slsOld : Option (Nat × Nat) := none
  /-- set selected by a safety PDU (R485, R517) -/
  slsPdu : Option Nat := none
  /-- violations of the last cycle, as ASTATE.VIOL codes; one of them asks for STO (R475, R480 to R490) -/
  viol : List Nat := []
  stoViol : Bool := false
  /-- a safe stop request is on its way to the lanes (R479) -/
  stopReq : Bool := false
  /-- the greatest REQ request that stood in the cycle (R464) -/
  reqSeen : Nat := 0
  /-- the state was taken over from the partner's decision; the state the island itself decides on (R466) -/
  followed : Bool := false
  own : Nat := 0
  /-- the SS2 request that stands has led to SOS already (R478) -/
  ss2Done : Bool := false
  deriving DecidableEq, Repr

/-- The relayed values of one axis (R468): torque command, axis state code, rate and angle in use. Each is judged by its own
check; `none`: its check failed (R42). -/
structure RelayAxis where
  tcmd : Option Word
  axstate : Option (Fin 8)
  rate : Option Word
  angle : Option Word
  deriving DecidableEq, Repr

/-- The values that reach an island in a period: both control dies' DC-link readings in volts over 32,768 (R42), and of the ACTIVE lane
both axes and each leg's active compare in fine steps and period in 1/32 tick (R468). Each is judged by its own check; `none`: its check
failed, or there is none. -/
structure RelayValues where
  vdcA : Option Int
  vdcB : Option Int
  ax1 : RelayAxis
  ax2 : RelayAxis
  compares : List (Option Nat)
  periods : List (Option Nat)
  deriving DecidableEq, Repr

/-- One safety island. -/
structure Island where
  /-- in service (R48, R465) -/
  inService : Bool := false
  /-- started, and kept out of service until the seals of R129 agree -/
  waits : Bool := false
  /-- the partner is in service and the words are compared (R466, R467) -/
  partner : Bool := false
  /-- filtered STO channels as the island reads them (R469) -/
  stoA : Bool := false
  stoB : Bool := false
  /-- tick at which the two channels began to differ (R472) -/
  stoDiffAt : Option Nat := none
  /-- the discrepancy request stands (R472) -/
  stoDisc : Bool := false
  /-- filtered levels of SDI0_1, SDI0_2, SDI1_1, SDI1_2: true high -/
  sdi : List Bool := [true, true, true, true]
  /-- per SDI input: tick at which an invalid combination began, discrepancy latched, demanding (R476) -/
  sdiBadAt : List (Option Nat) := [none, none]
  sdiFault : List Bool := [false, false]
  sdiDemand : List Bool := [false, false]
  /-- an STO channel was active, and which inputs demanded, at some time of the cycle (R464) -/
  stoSeen : Bool := false
  sdiSeen : List Bool := [false, false]
  ax1 : SafeAxis := {}
  ax2 : SafeAxis := {}
  /-- consecutive cycles with differing decisions (R466) -/
  differ : Nat := 0
  /-- tick since which SAFETY_DEGRADED stands (R467) -/
  degradedAt : Option Nat := none
  degradedReact : Bool := false
  /-- the other island's last decision word -/
  received : Option DecisionWord := none
  /-- last relayed values, and their tick (R468) -/
  relay : Option RelayValues := none
  relayAt : Nat := 0
  /-- own decision word of the last cycle with the tick at which that ended, and the brake command last received (R466) -/
  decided : Option DecisionWord := none
  decidedAt : Nat := 0
  brakeAsked : Bool := false
  /-- a safety PDU asks for the brake (R520) -/
  pduBrake : Bool := false
  /-- brake: test side (true high), tick of the last test, or of the release (R492, R493) -/
  sbcTestHigh : Bool := true
  sbcTestAt : Nat := 0
  /-- a test has its switch open (R493) -/
  sbcTesting : Bool := false
  /-- tick since which the coil current has read below IMIN while the output is released (R493) -/
  sbcLowAt : Option Nat := none
  /-- the cycle's samples per axis: torque in uNm, power from the link in uW, squares of the currents in uA² (R488, R490) -/
  samples1 : List (Int × Option Int × Int) := []
  samples2 : List (Int × Option Int × Int) := []
  /-- torque commands relayed in the cycle (R488) -/
  tcmds1 : List Int := []
  tcmds2 : List Int := []
  deriving DecidableEq, Repr


/-! ## Motion units (chapter 09) -/

/-- One chopped leg of the STEP axis (R351, R352). -/
structure ChopLeg where
  /-- HIGH or LOW, with the due tick of the change into it -/
  high : Bool := false
  due : Nat := 0
  /-- length of the next, or of the present, HIGH, and of the HIGH that opened the cycle -/
  tH : Nat := 0
  tHprev : Nat := 0
  /-- the sample that ended the last LOW, and the one before -/
  iHs : Option Int := none
  iHsPrev : Option Int := none
  /-- first valid sample of the present LOW, and the sum and count of its valid samples -/
  iHe : Option Int := none
  sum : Int := 0
  n : Nat := 0
  /-- OFS of the leg in converter LSB -/
  ofs : Int := 0
  deriving DecidableEq, Repr

/-- One motion unit beside its page (R329 to R354). Position is Q32.32 counts, velocity Q32.16 counts/s, acceleration Q32.16
counts/s². -/
structure MotionState where
  p : Int := 0
  v : Int := 0
  a : Int := 0
  /-- servo tick 0 has come since the enable or the last write of SDIV or TB (R325) -/
  started : Bool := false
  /-- period starts since the last servo tick, and its tick -/
  count : Nat := 0
  lastServo : Nat := 0
  /-- a servo tick has fallen and is not computed yet -/
  due : Bool := false
  /-- the set-point of the coming servo tick is computed already (R327); the words of the set-point before it (R328) -/
  ahead : Bool := false
  spWas : List Word := []
  /-- former words of registers written lately: offset, word, tick of the write (R327) -/
  former : List (Nat × Word × Nat) := []
  /-- executing segment (R334): entry, k, N, start, end, flags, next -/
  entry : Nat := 0
  k : Nat := 0
  segN : Nat := 0
  segP0 : Int := 0
  segV0 : Int := 0
  segP1 : Int := 0
  segV1 : Int := 0
  segEnd : Bool := false
  segWait : Bool := false
  segNext : Nat := 0
  /-- the check of entry NEXT has failed (R332) -/
  nextBad : Bool := false
  /-- mode of the motion that runs or ran last: 1 TABLE, 2 POSITION, 3 VELOCITY -/
  runMode : Nat := 0
  /-- mode of the interrupted motion and its resume data: 1 TABLE with the entry and RK, 2 POSITION, 3 VELOCITY (R344) -/
  rMode : Nat := 0
  ridx : Nat := 0
  rk : Nat := 0
  rTarget : Int := 0
  /-- the generator drives towards the resume data and not towards the register (R346), and the tick of the write that ends this
  (R340) -/
  useResume : Bool := false
  resumeEnds : Option Nat := none
  /-- a command that waits for its servo tick with the tick of its write, and one held while TRACKING (R342, R343) -/
  pendingCmd : Option (Nat × Nat) := none
  heldCmd : Option Nat := none
  /-- while WAITING: a GO has come; stamp of the first fire of the compare that WAITSRC names (R335) -/
  waitGo : Bool := false
  waitFire : Option Nat := none
  /-- an axis STOP is carried out as a motion STOP (R343) -/
  axisStop : Bool := false
  /-- pending microstep level, floor(pos/256) at the last update (R348) -/
  levelPend : Option Nat := none
  fullStep : Int := 0
  /-- tick since which the set-point velocity has been 0 (R347) -/
  zeroSince : Option Nat := none
  /-- microstep angle and coil references of the last update (R347) -/
  theta : Nat := 0
  refs : List Int := [0, 0, 0]
  /-- choppers of legs 4 to 6 in each lane -/
  chop : PerLane (Vector ChopLeg 3) := { a := Vector.replicate 3 {}, b := Vector.replicate 3 {} }
  /-- consecutive servo ticks beyond the stall angle, and a servo tick whose angle is still to be judged (R354) -/
  stall : Nat := 0
  stallDue : Bool := false
  deriving DecidableEq, Repr



/-! ## Measurement (chapter 05) -/

/-- Sums of a window, or of an averaged conversion (R174, R175): number, sum, index-weighted sum, stamp of the first value. -/
structure WinAcc where
  n : Nat := 0
  s0 : Int := 0
  s1 : Int := 0
  first : Nat := 0
  /-- a sample was excluded as unsettled (R167) -/
  uns : Bool := false
  sat : Bool := false
  deriving DecidableEq, Repr

/-- A rotation set of slices (R157, R158): all nine in gang mode, three in split mode. -/
structure RotState where
  /-- slices in the interleave positions 0, 1, … -/
  slots : List Nat := []
  spare : Nat := 0
  /-- spare conversions made in the present turn -/
  n : Nat := 0
  sumZero : Int := 0
  sumRef : Int := 0
  /-- sum of d times the neighbours' difference, and of that difference squared (R158) -/
  sumDD : Int := 0
  sumSq : Int := 0
  /-- the spare's live conversion that waits for the active one: stamp and value -/
  live : Option (Nat × Int) := none
  /-- live conversions made beside each interleave position in the present turn (R158) -/
  shares : List Nat := []
  /-- spare minus active, with the active value before it, until the next active value comes -/
  mid : Option (Int × Int) := none
  /-- last two values of the active stream, newest first, and their stamps -/
  last : List (Nat × Int) := []
  /-- the turn has ended and the exchange waits for the follower's hold edge; tick of the end (R157) -/
  exch : Option Nat := none
  /-- rotation has stopped: AUTO was cleared (R160) -/
  stopped : Bool := false
  deriving DecidableEq, Repr

/-- A group of a converter: what its stream converts, and its windows. -/
structure GroupState where
  /-- ticks of changes of the group's input: its first own sample held after one is a settling sample (R164) -/
  settle : List Nat := []
  /-- changes of GRPn.INPUT that a sample or a window still in the converter may precede: tick, and input code before it (R169) -/
  codes : List (Nat × Nat) := []
  /-- running conversion: urgent channel 0 to 3, or 4 for the sequencer; its start tick; its settling slot is still to come -/
  job : Option Nat := none
  jobFrom : Nat := 0
  jobSettle : Bool := false
  /-- the slots before it converted the group's own input -/
  jobOwn : Bool := true
  jobAcc : WinAcc := {}
  /-- the present period's window has closed; its sums -/
  closed : Bool := false
  acc : WinAcc := {}
  /-- the window of the period before, until it closes: start, end and sums -/
  prev : Option (Option Nat × Nat × WinAcc) := none
  /-- start and length of that period -/
  prevAt : Nat × Nat := (0, 0)
  deriving DecidableEq, Repr

/-- One converter (R151 to R167). -/
structure ConvState where
  /-- one rotation set per group, or the first alone in gang mode -/
  rots : List RotState := [{ slots := [0, 1], spare := 2 }, { slots := [3, 4], spare := 5 }, { slots := [6, 7], spare := 8 }]
  groups : Vector GroupState 3 := Vector.replicate 3 {}
  /-- tick at which REF.EN was set (R166) -/
  refAt : Nat := 0
  deriving DecidableEq, Repr

/-- The words a window close hands to Quill (R176), of one leg. -/
structure WinWord where
  mean : Word := 0
  slope : Word := 0
  first : Nat := 0
  n : Nat := 0
  /-- its check failed at Quill's input stage (R170, R295) -/
  bad : Bool := false
  /-- end tick of the window; start and length of its period -/
  fin : Nat := 0
  pstart : Nat := 0
  per : Nat := 0
  /-- tick of the close; none before the first -/
  at' : Option Nat := none
  deriving DecidableEq, Repr

/-- Measurement of one lane. -/
structure MeasUnit where
  convs : Vector ConvState 2 := Vector.replicate 2 {}
  /-- sequencer: the trigger of the waiting entry has come (R178) -/
  seqTrig : Bool := false
  /-- sums of a finished sequencer entry, and of finished urgent conversions, until they are written -/
  seqDone : Option WinAcc := none
  urgDone : List (Option WinAcc) := [none, none, none, none]
  /-- the urgent channel whose conversions hold the group of the preempted entry, with its converter and group (R182) -/
  seqBy : Option (Nat × Fin 2 × Fin 3) := none
  /-- stamp of each channel's request (R182) -/
  urgAt : List Nat := [0, 0, 0, 0]
  words : Vector WinWord 6 := Vector.replicate 6 {}
  /-- means that wait for their comparison, each with its period's start: own, and the other lane's; runs of disagreements, and
  whether each has been reported (R185) -/
  own : List (Option (Nat × Word)) := [none, none, none, none, none, none]
  peer : List (Option (Nat × Word)) := [none, none, none, none, none, none]
  run : List Nat := [0, 0, 0, 0, 0, 0]
  runUp : List Bool := [false, false, false, false, false, false]
  /-- latest DC-link value, the run of disagreements, and whether it has been reported (R187) -/
  dcl : Option Int := none
  dclRun : Nat := 0
  dclUp : Bool := false
  /-- phase voltages that channel 2 still converts for catches, the one in the channel first, as axis and phase; the hold ticks and values
  of the present set, with no value where a word's check failed (R170, R181, R278) -/
  catchQ : List (Fin 2 × Nat) := []
  catchVal : List (Nat × Option Int) := []
  deriving DecidableEq, Repr



/-! ## Field units (chapter 07) -/

/-- One field unit: one lane and one axis. Angles are binary angles, rates Q16.16 LSB per tick, currents, voltages and fluxes
Q2.30. -/
structure FieldUnit where
  /-- tick of the last period's evaluation, and start of the last period that was classified without a word (R242) -/
  lastAt : Nat := 0
  classed : Nat := 0
  /-- an angle source exists; angle in use with its instant, and rate in use (R258 to R267) -/
  hasAngle : Bool := false
  angle : Nat := 0
  angleAt : Nat := 0
  rate : Int := 0
  /-- the last non-zero rate was negative (R258) -/
  neg : Bool := false
  /-- references after R250 to R255, the lane's DC link per unit, and Vmax of R245 -/
  idRef : Int := 0
  iqRef : Int := 0
  vdc : Int := 0
  vmax : Int := 0
  /-- the sensor angle and the observer angle were available in the last period (R266, R267) -/
  sensor : Bool := false
  /-- consecutive periods beyond FUSE.TOL, and beyond PLIM raised in this run (R242, R266) -/
  disagree : Nat := 0
  predRaised : Bool := false
  /-- observer (R261, R262): fluxes, currents of the period before, angle, rate, mean error, runs, lock -/
  lamA : Int := 0
  lamB : Int := 0
  iaPrev : Int := 0
  ibPrev : Int := 0
  thO : Nat := 0
  rateO : Int := 0
  eAvg : Int := 0
  okRun : Nat := 0
  badRun : Nat := 0
  locked : Bool := false
  /-- injection (R263, R264): angle, rate, parity of the period, currents of the period before, last errors, run, convergence -/
  hfiOn : Bool := false
  thH : Nat := 0
  rateH : Int := 0
  odd : Bool := false
  idPrev : Int := 0
  iqPrev : Int := 0
  hfiErr : List Nat := []
  hfiRun : Nat := 0
  hfiOk : Bool := false
  /-- polarity test: step 1 to 3, periods in it, recorded peaks, inconclusive tests, finished (R264) -/
  polStep : Nat := 0
  polN : Nat := 0
  polP : Nat := 0
  polM : Nat := 0
  polTries : Nat := 0
  polDone : Bool := false
  /-- angles of the last run of Quill for the axis, without the offset of set 2: that of its currents and that of its voltages
  (R260, R296) -/
  runM : Nat := 0
  runX : Nat := 0
  /-- the voltage of the last run in stator coordinates, 0 where the axis did not switch (R261) -/
  vaNext : Int := 0
  vbNext : Int := 0
  /-- what the unit adds to the voltage of the next run along the estimated d-axis, in Q2.30; `true` puts it in the place of that
  run's voltage (R263, R264) -/
  vForm : Option (Bool × Int) := none
  /-- TRIM1 to TRIM3: consecutive periods at the clamp (R247) -/
  shareRun : List Nat := [0, 0, 0]
  /-- the axis takes part in the discharge through the windings, and the sign of its current without an angle (R424) -/
  winds : Bool := false
  windNeg : Bool := false
  deriving DecidableEq, Repr


/-! ## Position feedback (chapter 06) -/

/-- A published record (R229); SPEED is signed Q24.8. -/
structure PosRec where
  pos : Int := 0
  revpos : Nat := 0
  stamp : Nat := 0
  speed : Int := 0
  angle : Word := 0
  state : Word := 0
  fires : Nat := 0
  seq : Nat := 0
  deriving DecidableEq, Repr

/-- What a receiver holds of one channel: the latest record that passed its check, its arrival, and whether a later record failed
the check (R230, R42); an island keeps, per safety cycle, the sum and the number of the speeds that arrived in it, newest cycle first (R483). -/
structure RecSlot where
  last : Option PosRec := none
  at' : Nat := 0
  bad : Bool := false
  hist : List (Nat × Int × Nat) := []
  deriving DecidableEq, Repr

/-- One channel of a position unit beside its registers. -/
structure PosChan where
  /-- speed window of steps or frames: cumulative count and stamp, newest first (R214) -/
  steps : List (Int × Nat) := []
  cum : Int := 0
  /-- direction of the last counted step: true reverse; none since the channel started (R224) -/
  dir : Option Bool := none
  lastAt : Option Nat := none
  interval : Option Nat := none
  /-- last measured speed before a bound (R216) -/
  rate : Int := 0
  /-- teeth: last counted tooth, d_ref, counted intervals since the start or the last standstill, the last tooth was at a gap or
  after an extra tooth (R198, R199) -/
  toothAt : Option Nat := none
  toothRef : Option Nat := none
  toothRun : Nat := 0
  toothGap : Bool := false
  /-- counted counts at the recent decode errors (R226), and all counted counts -/
  errAt : List Nat := []
  counted : Nat := 0
  /-- consecutive bad frames; previous good field; tick of the last good frame, demodulation or start (R210, R226) -/
  badRun : Nat := 0
  field : Option Nat := none
  goodAt : Nat := 0
  /-- the cause of the standing declaration is gone (R227); a declaration for want of a good frame has been made since the last one -/
  causeGone : Bool := false
  silent : Bool := false
  /-- SSI frame being clocked: its stamp; end of the last frame's clock (R205) -/
  frameAt : Option Nat := none
  clockEnd : Option Nat := none
  /-- tick at which a frame is due (R205) -/
  ssiDue : Option Nat := none
  /-- SENT: length of the last sync pulse in ticks, bits of the serial message so far, oldest first (R207, R209) -/
  sync : Option Nat := none
  slow : List (Nat × Nat) := []
  /-- resolver: angle and speed of the tracking loop, the latter in 1/65,536 LSB per tick, at the last demodulation, its tick, remainder of
  the count (R203) -/
  resAngle : Option Nat := none
  resSpeed : Int := 0
  resAt : Nat := 0
  resRem : Int := 0
  /-- Hall: sector of the last valid state, stamp of its edge (R200, R201) -/
  sector : Option Nat := none
  hallAt : Option Nat := none
  /-- A edges since the last B edge (R104) -/
  edgesA : Nat := 0
  /-- something to publish; sequence number, tick and records of the last publications, newest first (R229) -/
  dirty : Bool := false
  seq : Nat := 0
  sentAt : Option Nat := none
  sent : List PosRec := []
  deriving DecidableEq, Repr

/-- The position unit of one interface die, and the records that die and its lane's control die have received: index 4 * unit +
channel. -/
structure PosUnit where
  chans : Vector PosChan 4 := Vector.replicate 4 {}
  /-- accepted levels of A, B and Z of the ENC port, true high; line faults (R193, R197); Hall state H3 H2 H1 -/
  lvA : Bool := false
  lvB : Bool := false
  lvZ : Bool := false
  faultA : Bool := false
  faultB : Bool := false
  faultZ : Bool := false
  hall : Nat := 0
  /-- always-on cycles at which the ENC port counted an edge in WATCH, newest first, of the last 1,024 (R96) -/
  watchAt : List Nat := []
  /-- channel that counts in the always-on domain in WATCH, and counts that it has lost since the last wake (R213) -/
  watchCh : Option (Fin 4) := none
  watchLost : Bool := false
  ctlRecs : Vector RecSlot 8 := Vector.replicate 8 {}
  ifRecs : Vector RecSlot 8 := Vector.replicate 8 {}
  /-- consecutive comparisons beyond the tolerance, per SENSE pair (R231) -/
  pairRun : List Nat := [0, 0, 0, 0]
  /-- the port drives excitation, or clocks SSI, as LISTEN after the other die's loss (R66, R232) -/
  resDrive : Bool := false
  ssiDrive : Bool := false
  deriving DecidableEq, Repr


/-! ## Quill (chapter 08) -/

/-- Quill's flags, as STAT.FLAGS numbers them. -/
structure QFlags where
  pred : Bool := false
  sumerr : Bool := false
  clamped : Bool := false
  dutyclamp : Bool := false
  eq : Bool := false
  lt : Bool := false
  standby : Bool := false
  first : Bool := false
  mathx : Bool := false
  deriving DecidableEq, Repr

/-- A trigger whose run has not started (R298): entry, tick and the tick of the entry's trigger before it, the words of the frames
it took, and the registers that SYNC clears. -/
structure HeldTrig where
  entry : Fin 2
  tick : Nat
  prev : Option Nat := none
  regs : List Word
  zero : Nat
  deriving DecidableEq, Repr

/-- An export on its way to the other lane (R320): entry, run count, register mask and registers, data words, tick of issue. -/
structure Shadow where
  entry : Fin 2
  run : Nat
  mask : Nat
  regs : List Word
  base : Nat
  words : List Word
  at' : Nat
  deriving DecidableEq, Repr

/-- One Quill. Instants are device-time ticks: one cycle is one tick (R294). -/
structure QuillUnit where
  q : Vector Word 32 := Vector.replicate 32 0
  /-- ticks at which the latest result of each register and flag lands (R309) -/
  qAt : Vector Nat 32 := Vector.replicate 32 0
  flags : QFlags := {}
  flagAt : List Nat := [0, 0, 0, 0, 0, 0, 0, 0, 0]
  /-- results of the run that have not landed, the newest first: the tick of landing, the register, or 32 and the flag's number,
  and its value before (R299) -/
  undo : List (Nat × Nat × Nat) := []
  /-- entry of the run in progress, its trigger tick, next word, earliest tick of the next issue, saturations of the run -/
  run : Option (Fin 2) := none
  t0 : Nat := 0
  pc : Nat := 0
  nextAt : Nat := 0
  sat : Nat := 0
  /-- final STAGE of the run: its cycle -/
  stageAt : Option Nat := none
  /-- an EXPORT has issued in the run (R320) -/
  exported : Bool := false
  runs : Nat := 0
  held : List HeldTrig := []
  /-- latest trigger tick of each entry, and whether its next run is the first one (R321, FIRST) -/
  trigAt : PerLane (Option Nat) := { a := none, b := none }
  firstRun : PerLane Bool := { a := true, b := true }
  /-- compares that wait for their release: leg, fine steps, release tick (R297) -/
  hold : List (Fin 6 × Nat × Nat) := []
  /-- both program banks: word 2n + half of bank b at 8192 b + 2 n + half, the words that are not 0 -/
  prog : List (Nat × Word) := []
  /-- bits 31:0 of window words that wait for bits 63:32 (R313) -/
  progLow : List (Nat × Word) := []
  /-- coefficient values in their pending latches; pairs that wait for a run, newest first: entry, value, shift, tick (R312) -/
  coefLatch : List (Nat × Word) := []
  coefPend : List (Nat × Word × Nat × Nat) := []
  /-- the armed swap: tick of the write, the check's outcome once made (R314) -/
  swapAt : Option Nat := none
  swapCheck : Option Bool := none
  /-- exports on their way to the other lane, the oldest first, and the latest shadow received of each entry with its tick -/
  sent : List Shadow := []
  shadow : List (Shadow × Nat) := []
  /-- port writes to data memory during the run, newest first: word, tick, and the word before it as the run sees it (R311) -/
  portW : List (Nat × Nat × Word) := []
  /-- memory and MON words that the run wrote in its latest cycle, newest first: cycle's tick, address, word before (R316) -/
  memUndo : List (Nat × Nat × Word) := []
  /-- phase currents of the last frame of each set as measured or completed, by 3 × frame + phase, none where there was no frame; and
  whether the last frame's period was predicted (R239, R263) -/
  lastI : List (Option Int) := [none, none, none, none, none, none]
  lastPred : List Bool := [false, false]
  /-- the copies have differed: nothing leaves Quill until a reset (R316) -/
  cut : Bool := false
  deriving DecidableEq, Repr


/-! ## Safety layer (chapter 14) -/

/-- The accepted copy of a sequence number that waits for its second copy (R513): sequence, TIME, payload, path, arrival. -/
structure SlCopy where
  seq : Nat
  time : Nat
  payload : List Byte
  path : Fin 2
  at' : Nat
  /-- neither compared nor counted as missing yet -/
  waits : Bool
  deriving DecidableEq, Repr

/-- One connection entry as an island runs it, beside the running state in the connection table. -/
structure SlEntry where
  idx : Nat
  /-- bind tick (R514, R519), and safety cycles since it -/
  bindAt : Nat := 0
  /-- arrival of the last accepted PDU as a full device time, and its TIME (R510, R511) -/
  lastAt : Nat := 0
  lastTime : Option Nat := none
  /-- consecutive rejections other than EPOCH, and consecutive accepted PDUs in TIMEOUT or FAULT (R515, R516) -/
  bad : Nat := 0
  good : Nat := 0
  /-- a PDU has set LASTSEQ and LAST_T since the entry went to TIMEOUT or FAULT (R516) -/
  resync : Bool := false
  /-- the FAULT is of kind ENTRY_CHECK (R506) -/
  entryCheck : Bool := false
  /-- last accepted CYCLIC payload (R520, R525) -/
  payload : Option (List Byte) := none
  copy : Option SlCopy := none
  /-- the sequence numbers accepted since the bind, a timeout or a fault, newest first, each with its path (R513) -/
  taken : List (Nat × Fin 2) := []
  /-- received epoch of a role mismatch whose notice is due, and the tick of the last notice (R512) -/
  notice : Option Nat := none
  noticeAt : Option Nat := none
  /-- produced: SEQ of the next PDU, the CRCs of the two islands differed, last PDU sent on PATH0 and PATH1 (R519) -/
  seq : Nat := 0
  differ : Bool := false
  out0 : Option (List Byte) := none
  out1 : Option (List Byte) := none
  deriving DecidableEq, Repr

/-- The safety layer of one island: its entries that have run, in rising order, and the re-bind that waits: entry, peer, epoch
(R522). -/
structure SlUnit where
  entries : List SlEntry := []
  rebind : Option (Nat × Word × Nat) := none
  deriving DecidableEq, Repr



/-! ## CAN controllers (chapter 15) -/

/-- One receive queue: FREE entries, oldest first; FULL entries with their 22 words, oldest first; the HELD one; frames discarded
since the last entry was written (R532, R533). -/
structure CanQueue where
  free : List Nat := List.range 64
  full : List (Nat × List Word) := []
  held : Option (Nat × List Word) := none
  lost : Nat := 0
  deriving DecidableEq, Repr

/-- One transmit buffer (R536, R537): words w0 to w20, what its w21 asks, ATTEMPTS, STATE, its place in the order of arming, and a
cancel that waits for the end of the attempt on the bus. -/
structure CanBuf where
  words : List Word := []
  keep : Bool := false
  ruling : Bool := false
  oneshot : Bool := false
  attempts : Nat := 0
  state : Nat := 0
  order : Nat := 0
  cancel : Bool := false
  deriving DecidableEq, Repr

/-- What a writer identity holds at a controller: its TXSEL, and the held words by 32 times the buffer plus the word (R536). -/
structure CanHold where
  ident : Nat
  sel : Nat
  words : List (Nat × Word)
  deriving DecidableEq, Repr

/-- One CAN controller beside its page. -/
structure CanUnit where
  q0 : CanQueue := {}
  q1 : CanQueue := {}
  bufs : Vector CanBuf 32 := Vector.replicate 32 {}
  holds : List CanHold := []
  arms : Nat := 0
  /-- the buffer on the bus; the cycle number of the reference that is on the bus (R538) -/
  bus : Option (Fin 32) := none
  refOut : Option Nat := none
  /-- frames of safety PDUs that wait for the bus, oldest first (R509, R519); the oldest is on the bus -/
  pdus : List CanFrame := []
  busPdu : Bool := false
  /-- held filter words: offset in the bank and word (R531); the words a filter had before a write, with that write's tick, oldest
  first -/
  filtHeld : List (Nat × Word) := []
  filtOld : List (Nat × List Word × Nat) := []
  /-- Ruling: start-of-frame sample point of the last reference, and of the one before; cells that acted, and that missed or
  finished, in the present cycle; an exclusive action waits for the bus (R538 to R541) -/
  refAt : Option Nat := none
  refBefore : Option Nat := none
  /-- that point of the last reference since RULCFG was written: `refAt` also counts from that write (R538, R539) -/
  lastRef : Option Nat := none
  /-- REF_LOST has been reported since the last reference (R539) -/
  refGone : Bool := false
  acted : List Nat := []
  ended : List Nat := []
  deriving DecidableEq, Repr

/-- Ruling cells (R540): held words by offset in the region, and cells that wait for a reference. -/
structure RulingState where
  held : List (Nat × Word) := []
  wait : List (Nat × List Word) := []
  deriving DecidableEq, Repr

/-! ## Rigraong link, Ethernet lane, time (chapter 15) -/

/-- A frame a link node queues or has sent (R543): type, destination, epoch, payload, tick from which it may go. -/
structure RigFrame where
  typ : Nat
  dst : Nat
  epoch : Nat
  payload : List Byte
  at' : Nat
  deriving DecidableEq, Repr

/-- One link port (R542 to R548). -/
structure RigUnit where
  /-- tick of the present cycle start; of the last CYCLE_START received, or of the enable -/
  cycAt : Option Nat := none
  headAt : Option Nat := none
  /-- frames that wait, in the order queued, and the frames of the latest slot -/
  queue : List RigFrame := []
  sent : List RigFrame := []
  /-- those frames as they go over the line, header and frame check included (R543); the tick at which the last of them ends; a collision
  stopped the node for the rest of its slot (R545) -/
  line : List (List Byte) := []
  lineEnd : Nat := 0
  stopped : Bool := false
  /-- events received before their due tick: source, event number, due tick (R548) -/
  events : List (Nat × Nat × Word) := []
  /-- nodes heard in the present cycle (LIVE) -/
  heard : List Nat := []
  /-- tag of the head's next request -/
  tag : Nat := 0
  deriving DecidableEq, Repr

/-- A peer-delay message that ETH sends (R552): its own request at a stamp, or its answer to the partner's with the stamp of that request. -/
inductive PtpSent where
  | request (t1 : Nat)
  | answer (t2 : Nat)
  deriving DecidableEq, Repr

/-- The Ethernet lane (R549 to R552). -/
structure EthUnit where
  /-- held frames without FCS, oldest first, each with its stamp; bytes read of the oldest -/
  rx : List (Nat × List Byte) := []
  pos : Nat := 0
  /-- frame under construction: the identity that holds it, and its bytes; the last frame sent; a frame is on its way -/
  tx : Option (Nat × List Byte) := none
  sent : Option (List Byte) := none
  sending : Bool := false
  /-- frames of safety PDUs that wait for the end of the frame on its way, oldest first (R551) -/
  pdus : List (List Byte) := []
  /-- peer-delay messages sent, oldest first (R552) -/
  ptpSent : List PtpSent := []
  /-- 802.1AS: stamp of the last Sync, the link delay in ns, the last synchronised time: gPTP ns and stamp -/
  syncAt : Option Nat := none
  delay : Option Int := none
  gptp : Option (Nat × Nat) := none
  deriving DecidableEq, Repr

/-- The TIME page's state beside its registers (R553 to R555). -/
structure TimeState where
  lastEvent : Option Nat := none
  /-- consecutive events within, and beyond, TOL -/
  good : Nat := 0
  bad : Nat := 0
  /-- NOW_HI as latched for each reader identity (R559) -/
  hi : List (Nat × Word) := []
  deriving DecidableEq, Repr



/-! ## Tinker (chapter 16), temperature (chapter 17) -/

/-- Tinker (R584 to R589). -/
structure TinkerState where
  /-- online tests in progress: die, slice, end tick; start ticks of the previous online test per die; slice after which the turn
  goes on per die -/
  tests : List (Die × Nat × Nat) := []
  starts : List (Die × Nat) := []
  turn : List (Die × Nat) := []
  /-- slices tested since the last complete online sweep -/
  seen : List Nat := []
  /-- tick of the last complete online sweep (SWEEPCNT.AGE) -/
  sweptAt : Nat := 0
  /-- a MAINTENANCE sweep: what is still to be tested; ABORT was written -/
  sweep : Option (List (Die × Nat)) := none
  abort : Bool := false
  deriving DecidableEq, Repr

/-- One temperature sensor (R592 to R595). -/
structure TempSensor where
  value : Option Int := none
  /-- consecutive readings beyond 12 K, and within 12 K -/
  off : Nat := 0
  near : Nat := 0
  deriving DecidableEq, Repr

/-- A thermal record in NVM (R600): device time, sensor, reading, mode, blind. -/
structure ThermalRec where
  time : Nat
  sensor : Nat
  temp : Int
  mode : Nat
  blind : Bool
  deriving DecidableEq, Repr

/-- The shutdown in progress (R600), and its retry (R601). -/
structure ThermalState where
  active : Bool := false
  /-- the record that each interface die writes, and the dies that have written it -/
  pend : Option ThermalRec := none
  written : List Lane := []
  /-- axes that have taken their outcome -/
  done : List (Fin 2) := []
  /-- tick of the entry to DORMANT with the latch set, and the retry time in ticks that then holds -/
  since : Nat := 0
  retry : Nat := 5000000000
  deriving DecidableEq, Repr

/-! ## Boot, update, attestation (chapter 18) -/

/-- NVM and OTP of one interface die (R604). They keep their contents without supply. -/
structure NvmDie where
  /-- the two banks: words that differ from an erased one, by word address -/
  words : List (Nat × Word) := []
  /-- a bank holds a finished install (R610, R618) -/
  full : List Bool := [false, false]
  /-- boot state: preferred bank, one-shot bank of this lane (R612) -/
  pref : Nat := 0
  try' : Option Nat := none
  /-- thermal records, newest first -/
  recs : List ThermalRec := []
  /-- OTP: SVN counter, IDENT_SET; serial number of the key generation (R622, R627) -/
  svn : Nat := 0
  identSet : Bool := false
  key : Nat := 0
  deriving DecidableEq, Repr

/-- What the world outside the digital logic answers to a command: comparator self-tests of both lanes (R439), the half test of each
output (R394), the health test of an entropy source (R627), and 32 bytes of it (R623). -/
structure Facts where
  passA : Bool
  passB : Bool
  halves : Nat
  healthy : Bool
  entropy : Option (List Word)
  deriving DecidableEq, Repr

/-- Boot and update state of the device beside the NVM page. -/
structure BootState where
  /-- banks the two lanes run; none while a lane does not run one -/
  run : PerLane (Option Nat) := { a := none, b := none }
  /-- the install: its bank -/
  bank : Nat := 0
  /-- the activation of scope LANE: bank, the lane being replaced, the first step, tick of its reset or of the handover -/
  act : Option (Nat × Lane × Bool × Nat) := none
  /-- the challenge: its words and its tick (R623) -/
  chal : Option (List Word × Nat) := none
  /-- the token's words that were written, by index (R624) -/
  token : List (Nat × Word) := []
  /-- the quote: die and QNONCE it was started with; its list and its signature once complete, per die (R628) -/
  quote : Option (Lane × List Word) := none
  lists : PerLane (List Word) := { a := [], b := [] }
  sigs : PerLane (List Word) := { a := [], b := [] }
  /-- a CONFIG record was refused (R614) -/
  refused : Bool := false
  /-- an accepted UPD ACTIVATE that this step still carries out: bank, scope, identity of its writer (R619) -/
  actReq : Option (Nat × Nat × Nat) := none
  /-- outside facts that the command in progress carries -/
  given : Option Facts := none
  /-- the transition to DEFAULT_MODE is due (R107) -/
  defaultDue : Bool := false
  deriving DecidableEq, Repr

/-! ## Resources (chapter 19) -/

/-- A take (R638 to R640): resource, function code, whether it applies or waits. -/
structure Take where
  res : Nat
  fn : Nat
  on : Bool
  deriving DecidableEq, Repr

/-- Resource state beside the RES page. -/
structure ResState where
  takes : List Take := []
  preempted : List Nat := []
  deriving DecidableEq, Repr


/-- Calibration records of kind 2 and 3 (R609), by sensor and by driver link. -/
structure CalState where
  sensors : List (Nat × Word × Word) := []
  drv : List (Nat × Word × Word) := []
  deriving DecidableEq, Repr


/-! ## State shadows (R41, R446) -/

/-- The field unit's block of an axis: AXSTATE, MON.DID, PRED_RUN and TRIM1 to TRIM3, and the unit's own state. -/
structure FieldShadow where
  axstate : Nat := 0
  did : Nat := 0
  predRun : Nat := 0
  trims : List Nat := []
  unit : FieldUnit := {}
  /-- the sender's catch progress -/
  axis : AxisState := {}
  deriving DecidableEq, Repr

/-- The motion unit's block of an axis: the words of its page that it carries, by address, the unit, and the choppers of its legs. -/
structure MotionShadow where
  words : List (Nat × Word) := []
  unit : MotionState := {}
  chop : Vector ChopLeg 3 := Vector.replicate 3 {}
  deriving DecidableEq, Repr

/-- The blocks of R446 beside Quill's, as their sender held them: field and motion units, protection, and the tick of the last TCMD write of
each axis. -/
structure StateShadow where
  field : Vector FieldShadow 2 := Vector.replicate 2 {}
  motion : Vector MotionShadow 2 := Vector.replicate 2 {}
  energy : Nat := 0
  limit : Bool := false
  shorts : Vector Bool 14 := Vector.replicate 14 false
  adapt : Vector (List Nat) 14 := Vector.replicate 14 [128, 128, 128, 128]
  tcmdAt : Vector Nat 2 := Vector.replicate 2 0
  deriving DecidableEq, Repr

/-- A lane's shadow registers (R41): the blocks on their way to it; the blocks it received last, and which of them wait to be taken; the
last complete shadow, and which of its blocks have not been taken (R45). -/
structure ShadowRegs where
  way : Option StateShadow := none
  got : Option (StateShadow × Nat) := none
  full : Option (StateShadow × Nat) := none
  /-- the lane's own catch progress, as it took it and went on from it while it was not ACTIVE -/
  axes : Vector (Option AxisState) 2 := Vector.replicate 2 none
  /-- the lane's own motion units while it is not the one that `Dev.motion` shows, which is the ACTIVE lane (R41, R446) -/
  units : Vector MotionState 2 := Vector.replicate 2 {}
  /-- the tick of the last TCMD write of each axis, as the lane has it while it is not that one (R274, R446) -/
  tcmdAt : Vector Nat 2 := Vector.replicate 2 0
  deriving DecidableEq, Repr

/-! ## Lands (chapter 02) -/

/-- What stands on lands that both interface dies share, where it follows from no other state. -/
structure LandState where
  /-- the level of IRQ_N that something outside holds against the dies' own drives: low, or high (R147) -/
  irqHeld : Option Bool := none
  /-- the die that drives SYNC_OUT (R61) -/
  syncBy : Option Lane := none
  /-- the level at which IB holds SYNC_OUT after a handover, until its next period start (R61) -/
  syncHeld : Option Bool := none
  deriving DecidableEq, Repr

/-! ## The device -/

/-- The index of a link receiver in `Dev.links`. -/
def linkIx : LinkRx → Fin 44
  | .ifaceCross l => match l with | .a => 0 | .b => 1
  | .ctlCross l => match l with | .a => 2 | .b => 3
  | .isoData l c => match l, c with | .a, false => 4 | .a, true => 5 | .b, false => 6 | .b, true => 7
  | .isoTime l c => match l, c with | .a, false => 8 | .a, true => 9 | .b, false => 10 | .b, true => 11
  | .drvDie l d => match l with | .a => ⟨12 + d.val, by omega⟩ | .b => ⟨20 + d.val, by omega⟩
  | .drvMaster l d => match l with | .a => ⟨28 + d.val, by omega⟩ | .b => ⟨36 + d.val, by omega⟩

/-- Everything the device holds but the queue of waiting commands. -/
structure Dev where
  /-- device time in ticks of 2 ns, 64 bits (R10) -/
  now : Nat
  /-- every register and table-region word, both copies of a mirrored page: the entries that differ from their reset value -/
  regs : List (Nat × Word)
  /-- staged copies of RWS registers that have not moved to active (R123) -/
  staged : List (Nat × Word)
  /-- pages with a commit pending, with the tick of the COMMIT write (R122, R124) -/
  commitPending : List (Nat × Nat)
  /-- commits of the GATE page whose values are active, and whose block some live driver die has not applied yet (R427) -/
  gateSent : Nat
  /-- serial number of the next free value (what the spec leaves open) -/
  freeCtr : Nat
  links : Vector LinkRxState 44
  dies : Vector DieState 8
  outs : Vector OutState 14
  power : PowerState
  clocks : PerLane ClockState
  mode : ModeState
  lanes : PerLane LaneState
  handover : Option Handover
  host : HostState
  ledger : LedgerState
  mods : PerLane ModUnit
  prot : PerLane ProtUnit
  bridges : Vector BridgeState 2
  axes : Vector AxisState 2
  islands : PerLane Island
  motion : Vector MotionState 2
  meas : PerLane MeasUnit
  /-- field units of axis 1, then of axis 2 -/
  field1 : PerLane FieldUnit
  field2 : PerLane FieldUnit
  quill : PerLane QuillUnit
  pos : PerLane PosUnit
  /-- safety layer of the two islands -/
  slay : PerLane SlUnit
  can : Vector CanUnit 4
  ruling : RulingState
  rig : PerLane RigUnit
  eth : EthUnit
  time : TimeState
  tinker : TinkerState
  sensors : Vector TempSensor 20
  thermal : ThermalState
  nvm : PerLane NvmDie
  boot : BootState
  res : ResState
  /-- calibration that the start-up loaded and no register holds (R609): trim counts of a sensor, asymmetry trims of a driver link -/
  cal : CalState
  /-- words that a page with CTRL.FREEZE = 1 shows (R115), by register key -/
  frozen : List (Nat × Word)
  lands : LandState
  shadows : PerLane ShadowRegs
  deriving DecidableEq, Repr


/-- The state: the device, and the commands that wait, first in, first out. -/
structure State where
  dev : Dev
  pending : List Instr
  deriving DecidableEq, Repr

/-- What ends a run with a fault: nothing in this model does. The constructor stands for the contract of Host.Core only. -/
inductive Fault where
  /-- raised by no meaning; safe -/
  | none
  deriving DecidableEq, Repr

/-- Why a command has no meaning. -/
inductive Refusal where
  /-- raised by the dispatcher for a command whose meaning is not written yet; safe, since nothing is then proved of it -/
  | notModelled (mnemonic : String)
  deriving DecidableEq, Repr

/-- The device after reset: no supply has risen yet, every register holds its reset value, nothing is in progress. -/
def Dev.reset : Dev :=
  { now := 0, regs := [], staged := [], commitPending := [], gateSent := 0, freeCtr := 0
    links := Vector.replicate 44 {}, dies := Vector.replicate 8 {}, outs := Vector.replicate 14 {}
    power := {}, clocks := { a := {}, b := {} }, mode := {}, lanes := { a := {}, b := {} }, handover := none
    host := {}, ledger := {}, mods := { a := {}, b := {} }, prot := { a := {}, b := {} }
    bridges := Vector.replicate 2 {}, axes := Vector.replicate 2 {}, islands := { a := {}, b := {} }, motion := Vector.replicate 2 {}
    meas := { a := {}, b := {} }, field1 := { a := {}, b := {} }, field2 := { a := {}, b := {} }, quill := { a := {}, b := {} }
    pos := { a := {}, b := {} }, slay := { a := {}, b := {} }, can := Vector.replicate 4 {}, ruling := {}
    rig := { a := {}, b := {} }, eth := {}, time := {}, tinker := {}, sensors := Vector.replicate 20 {}, thermal := {}
    nvm := { a := {}, b := {} }, boot := {}, res := {}, cal := {}, frozen := [], lands := {}, shadows := { a := {}, b := {} } }

/-- The state after reset: the device at reset and an empty queue. -/
def State.reset : State := { dev := Dev.reset, pending := [] }

/-- The state with its device changed. -/
def State.upd (s : State) (f : Dev → Dev) : State := { s with dev := f s.dev }

end Sys2Proof.Machine
end

