-- ==== Sys2Proof/Machine/Operands.lean ====
section
/-! DEFINITION. Numbers and check codes: saturation, rounding and fixed-point products (R22, R25 of the conventions), binary
angles (R18), 32-bit stamps (R12, R13, R16), and the codes of R560. -/

namespace Sys2Proof.Machine

/-- The signed number of a 32-bit word. -/
def sint (w : Word) : Int := w.toInt

/-- The word of an integer, modulo 2 to the 32. -/
def ofInt (x : Int) : Word := BitVec.ofInt 32 x

/-- Clamp an integer to [lo, hi]. -/
def clampInt (lo hi x : Int) : Int := if x < lo then lo else if hi < x then hi else x

/-- Clamp a natural number to [lo, hi]. -/
def clampNat (lo hi x : Nat) : Nat := if x < lo then lo else if hi < x then hi else x

/-- Saturate to a signed number of `w` bits. -/
def satS (w : Nat) (x : Int) : Int := clampInt (-(2 ^ (w - 1) : Nat)) ((2 ^ (w - 1) : Nat) - 1) x

/-- Saturate to 32 bits (R22, R291). -/
def sat32 (x : Int) : Int := satS 32 x

/-- Increment a count that saturates at `top`. -/
def satInc (top n : Nat) : Nat := if n < top then n + 1 else top

/-- num / den rounded to the nearest integer, a half away from zero (R400). -/
def divRoundAway (num : Int) (den : Nat) : Int :=
  if den = 0 then 0
  else if num < 0 then -(((2 * num.natAbs + den) / (2 * den) : Nat) : Int)
  else (((2 * num.natAbs + den) / (2 * den) : Nat) : Int)

/-- num / den rounded to an integer where the spec gives no rule: a neighbour of the quotient, exact where it is one. -/
def divOpen (num : Int) (den : Nat) : Int :=
  let q := num / den
  if num % den = 0 then q else if Config.roundUp num den then q + 1 else q

/-- num / den rounded to the nearest integer, a tie as the spec leaves it. -/
def divNearest (num : Int) (den : Nat) : Int :=
  let q := num / den
  let r := 2 * (num % den)
  if r < den then q else if (den : Int) < r then q + 1 else if Config.roundUp num den then q + 1 else q

/-- num / den truncated toward zero. -/
def divTrunc (num : Int) (den : Nat) : Int :=
  if num < 0 then -((num.natAbs / den : Nat) : Int) else ((num.natAbs / den : Nat) : Int)

/-- x / 2^n rounded to the nearest integer, a half away from zero. -/
def shiftRound (x : Int) (n : Nat) : Int := divRoundAway x (2 ^ n)

/-- The product of R22: round(x * c >> shift), saturated to 32 bits. -/
def coefMul (x c : Int) (shift : Nat) : Int := sat32 (shiftRound (x * c) shift)

/-- The largest natural number whose square is at most n: binary search from 2^k downwards. -/
def isqrtAux (n : Nat) : Nat → Nat → Nat
  | 0, r => r
  | k + 1, r => if (r + 2 ^ k) * (r + 2 ^ k) ≤ n then isqrtAux n k (r + 2 ^ k) else isqrtAux n k r

/-- Integer square root, for numbers below 2 to the 256. -/
def isqrt (n : Nat) : Nat := isqrtAux n 128 0

/-- Angles wrap modulo 2 to the 32 (R18). -/
def angWrap (x : Int) : Nat := (x % 4294967296).toNat

/-- An angle difference read as a signed 32-bit number (R18). -/
def angDiff (a b : Int) : Int :=
  let d := (a - b) % 4294967296
  if d < 2147483648 then d else d - 4294967296

/-- The low 32 bits of a device time (R12). -/
def stamp32 (t : Nat) : Word := BitVec.ofNat 32 t

/-- The signed difference of two 32-bit stamps (R13). -/
def stampDiff (a b : Nat) : Int := angDiff (a : Int) (b : Int)

/-- Reverse the low `w` bits of a number. -/
def reflectBits : Nat → Nat → Nat
  | 0, _ => 0
  | w + 1, n => (n % 2) * 2 ^ w + reflectBits w (n / 2)

/-- A check code of R560: width, polynomial, initial value, reflected, final XOR. -/
structure CheckCode where
  width : Nat
  poly : Nat
  init : Nat
  refl : Bool
  xorOut : Nat
  deriving DecidableEq, Repr

/-- Code n of R560; only the codes 0 to 3 exist. -/
def checkCode (n : Nat) : CheckCode :=
  match n % 4 with
  | 0 => ⟨8, 0x2F, 0xFF, false, 0xFF⟩
  | 1 => ⟨16, 0x1021, 0xFFFF, false, 0⟩
  | 2 => ⟨32, 0x04C11DB7, 0xFFFFFFFF, true, 0xFFFFFFFF⟩
  | _ => ⟨32, 0x1EDC6F41, 0xFFFFFFFF, true, 0xFFFFFFFF⟩

/-- One bit of a reflected code: the register shifts right. -/
def crcStepR (rpoly r : Nat) : Nat := if r % 2 = 1 then Nat.xor (r / 2) rpoly else r / 2

/-- One bit of an unreflected code: the register shifts left. -/
def crcStepL (w poly r : Nat) : Nat :=
  if 2 ^ (w - 1) ≤ r then Nat.xor (2 * r % 2 ^ w) poly else 2 * r

/-- Repeat a step eight times. -/
def eight (f : Nat → Nat) (x : Nat) : Nat := f (f (f (f (f (f (f (f x)))))))

/-- Feed one byte into the running value of a code, least significant bit first when it is reflected (R561). -/
def CheckCode.feed (c : CheckCode) (r : Nat) (b : Byte) : Nat :=
  if c.refl then eight (crcStepR (reflectBits c.width c.poly)) (Nat.xor r b.toNat)
  else eight (crcStepL c.width c.poly) (Nat.xor r (b.toNat * 2 ^ (c.width - 8)))

/-- The running value over bytes in transmission order (R561). -/
def CheckCode.feedAll (c : CheckCode) (r : Nat) (bs : List Byte) : Nat := bs.foldl c.feed r

/-- The finished check of a running value. -/
def CheckCode.finish (c : CheckCode) (r : Nat) : Nat := Nat.xor r c.xorOut

/-- The check of a code over bytes. -/
def CheckCode.over (c : CheckCode) (bs : List Byte) : Nat := c.finish (c.feedAll c.init bs)

/-- The four bytes of a word, least significant first (R127, R561). -/
def wordBytes (w : Word) : List Byte :=
  [BitVec.ofNat 8 w.toNat, BitVec.ofNat 8 (w.toNat / 256), BitVec.ofNat 8 (w.toNat / 65536), BitVec.ofNat 8 (w.toNat / 16777216)]

/-- The word of four bytes, least significant first. -/
def bytesWord (a b c e : Byte) : Word :=
  BitVec.ofNat 32 (a.toNat + 256 * b.toNat + 65536 * c.toNat + 16777216 * e.toNat)

/-- The words of a byte list, four bytes each, the last one filled with zeros. -/
def bytesWords : List Byte → List Word
  | a :: b :: c :: e :: r => bytesWord a b c e :: bytesWords r
  | [a, b, c] => [bytesWord a b c 0]
  | [a, b] => [bytesWord a b 0 0]
  | [a] => [bytesWord a 0 0 0]
  | [] => []

/-- CRC-32C of words (R127). -/
def crc32cWords (ws : List Word) : Nat := (checkCode 3).over (ws.flatMap wordBytes)

/-- A little-endian number of `n` bytes. -/
def leBytes : Nat → Nat → List Byte
  | 0, _ => []
  | n + 1, v => BitVec.ofNat 8 v :: leBytes n (v / 256)

/-- The number of a little-endian byte list. -/
def leNat : List Byte → Nat
  | [] => 0
  | b :: r => b.toNat + 256 * leNat r

end Sys2Proof.Machine
end

