-- ==== Sys2Proof/Machine/Image.lean ====
section
/-! DEFINITION. SHA3-256 (FIPS 202, which R604 to R628 name), the Bygeti image in a bank (R605 to R609), and its verification on one
die (R610). -/

namespace Sys2Proof.Machine

/-! ## SHA3-256 -/

/-- The state of Keccak-f[1600]: 25 lanes of 64 bits, lane (x, y) at x + 5 y. -/
abbrev Keccak := Vector (BitVec 64) 25

/-- One step of the generator of round constants: the 8-bit register with feedback 0x71. -/
def rcStep (r : Nat) : Nat := if 128 ≤ r then Nat.xor (2 * r) 0x171 else 2 * r

/-- The register of the generator after `n` steps. -/
def rcReg (n : Nat) : Nat := (List.range n).foldl (fun r _ => rcStep r) 1

/-- The constant of a round: bit 2^j - 1 is output 7 round + j of the generator. -/
def roundConst (round : Nat) : BitVec 64 :=
  BitVec.ofNat 64 ((List.range 7).foldl (fun c j => c + rcReg (7 * round + j) % 2 * 2 ^ (2 ^ j - 1)) 0)

/-- Rotation offsets of the lanes, in the order of `Keccak`. -/
def rotOffsets : List Nat := [0, 1, 62, 28, 27, 36, 44, 6, 55, 20, 3, 10, 43, 25, 39, 41, 45, 15, 21, 8, 18, 2, 61, 56, 14]

/-- One round of Keccak-f[1600]: theta, rho and pi, chi, iota. -/
def keccakRound (s : Keccak) (round : Nat) : Keccak :=
  let g := fun (x y : Nat) => s.toArray.getD (x % 5 + 5 * (y % 5)) 0
  let c := fun (x : Nat) => g x 0 ^^^ g x 1 ^^^ g x 2 ^^^ g x 3 ^^^ g x 4
  let dd : Vector (BitVec 64) 5 := Vector.ofFn fun x => c (x.val + 4) ^^^ (c (x.val + 1)).rotateLeft 1
  let th : Keccak := Vector.ofFn fun i => s[i] ^^^ dd[(⟨i.val % 5, Nat.mod_lt _ (by decide)⟩ : Fin 5)]
  let b : Keccak := Vector.ofFn fun i =>
    let x := i.val % 5
    let y := i.val / 5
    let k := (x + 3 * y) % 5 + 5 * x
    (th.toArray.getD k 0).rotateLeft (rotOffsets.getD k 0)
  Vector.ofFn fun i =>
    let x := i.val % 5
    let y := 5 * (i.val / 5)
    let v := b[i] ^^^ (~~~(b.toArray.getD ((x + 1) % 5 + y) 0) &&& b.toArray.getD ((x + 2) % 5 + y) 0)
    if i.val = 0 then v ^^^ roundConst round else v

/-- Keccak-f[1600]: 24 rounds. -/
def keccakF (s : Keccak) : Keccak := (List.range 24).foldl keccakRound s

/-- Absorb one block of 136 bytes. -/
def absorb (s : Keccak) (block : List Byte) : Keccak :=
  keccakF (Vector.ofFn fun i => s[i] ^^^ BitVec.ofNat 64 (leNat ((block.drop (8 * i.val)).take 8)))

/-- Absorb bytes whose number is a multiple of 136, `n` blocks of them. -/
def absorbAll : Nat → Keccak → List Byte → Keccak
  | 0, s, _ => s
  | n + 1, s, b => absorbAll n (absorb s (b.take 136)) (b.drop 136)

/-- SHA3-256: domain bits 01 and pad10*1 as the bytes 0x06 ... 0x80, then the first 32 bytes. -/
def sha3 (m : List Byte) : List Byte :=
  let n := m.length / 136 + 1
  let z := 136 * n - m.length
  let pad : List Byte := if z = 1 then [0x86] else 0x06 :: List.replicate (z - 2) 0 ++ [0x80]
  let s := absorbAll n (Vector.replicate 25 0) (m ++ pad)
  (s.toList.take 4).flatMap fun w => leBytes 8 w.toNat

/-! ## Bank contents -/

/-- Word `k` of the two banks of a die; an erased word reads ones. -/
def NvmDie.word (n : NvmDie) (k : Nat) : Word := ((n.words.find? (·.1 == k)).map (·.2)).getD 0xFFFFFFFF

/-- `len` bytes at a byte offset of a bank. -/
def NvmDie.bytes (n : NvmDie) (b off len : Nat) : List Byte :=
  (List.range len).map fun i =>
    BitVec.ofNat 8 ((n.word ((0x200000 * b + off + i) / 4)).toNat / 256 ^ ((off + i) % 4))

/-- A little-endian number in a bank. -/
def NvmDie.num (n : NvmDie) (b off len : Nat) : Nat := leNat (n.bytes b off len)

/-- A manifest entry (R607): type, instance, offset, length, and where its HASH lies. -/
structure Component where
  typ : Nat
  ix : Nat
  off : Nat
  len : Nat
  hashAt : Nat
  deriving DecidableEq, Repr

/-- The components a bank's manifest names. -/
def NvmDie.components (n : NvmDie) (b : Nat) : List Component :=
  (List.range (n.num b 6 2)).map fun i =>
    let e := 4096 + 64 * i
    { typ := n.num b e 1, ix := n.num b (e + 1) 1, off := n.num b (e + 8) 4, len := n.num b (e + 12) 4, hashAt := e + 32 }

/-- The component of a type and instance. -/
def NvmDie.component (n : NvmDie) (b typ ix : Nat) : Option Component :=
  (n.components b).find? fun c => c.typ == typ && c.ix == ix

/-- The words of a component. -/
def NvmDie.content (n : NvmDie) (b : Nat) (c : Component) : List Word := bytesWords (n.bytes b c.off c.len)

/-- The largest CLEN of a type and instance, and whether it must be exactly that (R608); none for what the table does not list. -/
def componentLimit (typ ix : Nat) : Option (Nat × Bool) :=
  match typ with
  | 1 => if ix = 0 then some (163840, false) else none
  | 2 => if ix = 0 then some (262144, false) else none
  | 3 => if ix = 0 then some (32768, true) else none
  | 4 => if ix = 0 then some (1536, true) else none
  | 5 => if ix = 0 then some (16384, false) else none
  | 6 =>
    if ix = 0 ∨ ix = 3 then some (65536, false)
    else if ix = 1 ∨ ix = 2 ∨ ix = 4 then some (32768, false)
    else if ix ≤ 8 then some (8192, false)
    else none
  | 7 => if ix = 0 then some (65536, false) else none
  | _ => none

/-- Cut words into records, each a record word and as many data words as `size` gives it (R609); none where a record runs past the end
or `size` knows it not. -/
def records (size : Word → Option Nat) : Nat → List Word → Option (List (Word × List Word))
  | _, [] => some []
  | 0, _ => none
  | fuel + 1, w :: r =>
    match size w with
    | none => none
    | some k => if r.length < k then none else (records size fuel (r.drop k)).map ((w, r.take k) :: ·)

/-- Data words of a CONFIG record: a HEADER with OPCODE WRITE and COUNT + 1 words. -/
def configSize (w : Word) : Option Nat := if w.toNat / 2 ^ 28 = 2 then some (w.toNat / 8 % 64 + 1) else none

/-- Data words of a CAL record by its KIND. -/
def calSize (w : Word) : Option Nat :=
  let k := w.toNat % 65536
  match w.toNat / 2 ^ 24 with
  | 1 => if k = 9 then some 9 else none
  | 2 => if k = 2 then some 2 else none
  | 3 => if k = 2 then some 2 else none
  | _ => none

/-- The records of a CONFIG or CAL component, none where R609 does not hold. -/
def NvmDie.recordsOf (n : NvmDie) (b : Nat) (c : Component) : Option (List (Word × List Word)) :=
  if c.len % 4 ≠ 0 then none
  else records (if c.typ = 5 then calSize else configSize) (c.len / 4) (n.content b c)

/-! ## Verification -/

/-- The message M that the signature covers (R606). -/
def NvmDie.message (n : NvmDie) (b : Nat) : List Byte := n.bytes b 0 64 ++ n.bytes b 4096 (64 * n.num b 6 2)

/-- The MESSAGE hash of a bank (R611, R615). -/
def NvmDie.messageHash (n : NvmDie) (b : Nat) : List Byte := sha3 (n.message b)

/-- Check LAYOUT of R610. -/
def NvmDie.layoutOk (n : NvmDie) (b : Nat) : Bool :=
  let cs := n.components b
  let total := n.num b 16 4
  let one := fun (t : Nat) => (cs.filter (·.typ == t)).length == 1
  let apart := fun (c e : Component) => c == e || c.off + c.len ≤ e.off || e.off + e.len ≤ c.off
  one 1 && one 2 &&
  cs.all (fun c =>
    (match componentLimit c.typ c.ix with
     | some (m, exact') => if exact' then c.len == m else decide (c.len ≤ m)
     | none => false) &&
    c.off % 4096 == 0 && decide (8192 ≤ c.off) && decide (c.off + c.len ≤ total) &&
    cs.all (apart c) && (cs.filter fun e => e.typ == c.typ && e.ix == c.ix).length == 1 &&
    (if c.typ = 5 ∨ c.typ = 7 then (n.recordsOf b c).isSome else true))

/-- All bytes of a range are 0. -/
def NvmDie.blank (n : NvmDie) (b off len : Nat) : Bool := (n.bytes b off len).all (· == 0)

/-- The first check of R610 that a bank fails on the die of lane `l`, as its code; 0 where it is valid. -/
def NvmDie.verify (n : NvmDie) (l : Lane) (b : Nat) : Nat :=
  if !(n.full.getD b false) then 8
  else if n.num b 0 4 ≠ 0x54475942 ∨ n.num b 4 2 ≠ 1 ∨ n.num b 14 2 ≠ 0x4812 then 1
  else if n.num b 6 2 < 1 ∨ 32 < n.num b 6 2 ∨ 2097152 < n.num b 16 4 ∨ !n.blank b 20 44 ∨ !n.blank b 3796 300 then 2
  else if n.num b 12 2 < n.svn then 3
  else
    let pk := n.bytes b 64 1312
    let root := (List.range 32).map (Config.rootHash l.idx)
    if sha3 pk ≠ root ∨ root.all (· == 0) then 4
    else if !Config.mldsaVerify pk (n.message b) (n.bytes b 1376 2420) then 5
    else if !n.layoutOk b then 6
    else if !((n.components b).all fun c => sha3 (n.bytes b c.off c.len) == n.bytes b c.hashAt 32) then 7
    else 0

end Sys2Proof.Machine
end

