-- ==== Sys2Proof/Machine/Ops.lean ====
section
/-! DEFINITION. The named operations over the device that more than one chapter uses: registers and their copies (R113, R114),
causes (R146), device modes (R88 to R94), Ledger raises with their reactions (R572 to R579), and an axis's entry into HOLD,
its stop and its ASC. -/

namespace Sys2Proof.Machine

/-! ## Registers -/

/-- The key of an address in the copy of lane `l`. -/
def regKey (l : Lane) (a : Nat) : Nat := l.idx * 0x1000000 + a

/-- Look a key up in a rising list of cells. -/
def cellsGet (c : List (Nat × Word)) (k : Nat) : Option Word :=
  match c with
  | [] => none
  | (i, w) :: r => if i = k then some w else if k < i then none else cellsGet r k

/-- Put a cell into a rising list of cells. -/
def cellsPut (c : List (Nat × Word)) (k : Nat) (w : Word) : List (Nat × Word) :=
  match c with
  | [] => [(k, w)]
  | (i, v) :: r => if k < i then (k, w) :: (i, v) :: r else if i = k then (k, w) :: r else (i, v) :: cellsPut r k w

/-- Take a cell out of a rising list of cells. -/
def cellsErase (c : List (Nat × Word)) (k : Nat) : List (Nat × Word) :=
  match c with
  | [] => []
  | (i, v) :: r => if k < i then (i, v) :: r else if i = k then r else (i, v) :: cellsErase r k

/-- The word at an address of the copy of lane `l`. -/
def Dev.word (d : Dev) (l : Lane) (a : Nat) : Word := (cellsGet d.regs (regKey l a)).getD (addrReset a)

/-- The device with the word at an address of the copy of lane `l` set; a reset value is not listed. -/
def Dev.setWord (d : Dev) (l : Lane) (a : Nat) (w : Word) : Dev :=
  { d with regs := if w = addrReset a then cellsErase d.regs (regKey l a) else cellsPut d.regs (regKey l a) w }

/-- The address of the register at offset `o` of page `p`. -/
def pageAddr (p o : Nat) : Nat := p * 0x1000 + o

/-- True while a die is out of reset. -/
def Dev.up (d : Dev) (x : Die) : Bool := d.power.running.contains x

/-- True while the copy of lane `l` of a page, or of a region governed by it, is available (R114): its die is out of reset,
and a control die is not the one of a lane declared failed. -/
def Dev.dieUp (d : Dev) (l : Lane) (onInterface : Bool) : Bool :=
  if onInterface then d.up (.iface l) else d.up (.ctl l) && (d.lanes.at l).role != .failed

/-- `Dev.dieUp` for a page. -/
def Dev.pageUp (d : Dev) (l : Lane) (p : Nat) : Bool := d.dieUp l (pageOnInterface p)

/-- An access reaches the copy of lane `l` of a page (R114, R459): the die is not of a lane declared failed, and a control die that keeps its
role after ISO_LOST accepts no command. DESIGN CHOICE (log 132): a die counts as declared failed while its lane is; what the device itself
keeps on an interface die goes on there. -/
def Dev.reaches (d : Dev) (l : Lane) (onInterface : Bool) : Bool :=
  d.dieUp l onInterface && (d.lanes.at l).role != .failed && (onInterface || !(d.lanes.at l).isoKept)

/-- The copies of a page that an access reaches. -/
def Dev.openCopies (d : Dev) (p : Nat) : List Lane :=
  (match pageHolder p with | some l => [l] | none => [Lane.a, Lane.b]).filter fun l => d.reaches l (pageOnInterface p)

/-- A commit of a page is pending (R124). -/
def Dev.commitWaits (d : Dev) (p : Nat) : Bool := d.commitPending.any (·.1 == p)

/-- The available copies of a page. -/
def Dev.copies (d : Dev) (p : Nat) : List Lane :=
  match pageHolder p with
  | some l => if d.pageUp l p then [l] else []
  | none => [Lane.a, Lane.b].filter (d.pageUp · p)

/-- The lane in the ACTIVE role. -/
def Dev.active (d : Dev) : Option Lane :=
  if d.lanes.a.role = .active then some .a else if d.lanes.b.role = .active then some .b else none

/-- The copy the device itself goes by: the holder, else the ACTIVE lane's copy where it is available, else the available
one, else one whose always-on domain stands (R666). -/
def Dev.prim (d : Dev) (p : Nat) : Lane :=
  match pageHolder p with
  | some l => l
  | none =>
    let l := (d.active).getD .a
    if d.pageUp l p then l else if d.pageUp l.other p then l.other
    else if !d.power.aonRunning.at l && d.power.aonRunning.at l.other then l.other else l

/-- A field of lane `l`'s copy of page `p`, in the i-th register that holds it. -/
def Dev.gl (d : Dev) (l : Lane) (p : Nat) (f : Fld) (i : Nat := 0) : Nat := f.get (d.word l (pageAddr p (f.at i)))

/-- `Dev.gl` read as a signed number. -/
def Dev.glS (d : Dev) (l : Lane) (p : Nat) (f : Fld) (i : Nat := 0) : Int := f.getS (d.word l (pageAddr p (f.at i)))

/-- A field in the copy the device goes by. -/
def Dev.g (d : Dev) (p : Nat) (f : Fld) (i : Nat := 0) : Nat := d.gl (d.prim p) p f i

/-- `Dev.g` read as a signed number. -/
def Dev.gS (d : Dev) (p : Nat) (f : Fld) (i : Nat := 0) : Int := d.glS (d.prim p) p f i

/-- The device with a field of lane `l`'s copy set. -/
def Dev.sl (d : Dev) (l : Lane) (p : Nat) (f : Fld) (v : Nat) (i : Nat := 0) : Dev :=
  let a := pageAddr p (f.at i)
  d.setWord l a (f.put (d.word l a) v)

/-- The device with a field set in every available copy (R113). -/
def Dev.s (d : Dev) (p : Nat) (f : Fld) (v : Nat) (i : Nat := 0) : Dev :=
  (d.copies p).foldl (fun d l => d.sl l p f v i) d

/-- Low bits of an integer for a field of `w` bits. -/
def intField (w : Nat) (v : Int) : Nat := (v % (2 ^ w : Nat)).toNat

/-- The device with a signed field set in every available copy. -/
def Dev.sS (d : Dev) (p : Nat) (f : Fld) (v : Int) (i : Nat := 0) : Dev := d.s p f (intField f.width v) i

/-- `Dev.sS` in lane `l`'s copy. -/
def Dev.slS (d : Dev) (l : Lane) (p : Nat) (f : Fld) (v : Int) (i : Nat := 0) : Dev := d.sl l p f (intField f.width v) i

/-- The device with a saturating count incremented in every available copy. -/
def Dev.inc (d : Dev) (p : Nat) (f : Fld) (i : Nat := 0) : Dev :=
  (d.copies p).foldl (fun d l => d.sl l p f (satInc (2 ^ f.width - 1) (d.gl l p f i)) i) d

/-- `Dev.inc` in lane `l`'s copy. -/
def Dev.incL (d : Dev) (l : Lane) (p : Nat) (f : Fld) (i : Nat := 0) : Dev :=
  d.sl l p f (satInc (2 ^ f.width - 1) (d.gl l p f i)) i

/-- Set CAUSE bits in lane `l`'s copy. -/
def Dev.causeL (d : Dev) (l : Lane) (p : Nat) (bits : Word) : Dev :=
  d.setWord l (pageAddr p 0x0C) (d.word l (pageAddr p 0x0C) ||| bits)

/-- Set one CAUSE bit in every available copy. -/
def Dev.cause (d : Dev) (p : Nat) (bit : Nat) : Dev :=
  (d.copies p).foldl (fun d l => d.causeL l p (BitVec.ofNat 32 (2 ^ bit))) d

/-- The keys of a die's register copies: the copies of lane `l` of every page and region held on its interface die, or on
its control die. -/
def keyOn (l : Lane) (onInterface : Bool) (k : Nat) : Bool :=
  k / 0x1000000 == l.idx &&
  (let a := k % 0x1000000
   if a < 0x2D000 then pageOnInterface (a / 0x1000) == onInterface
   else ((rgCONN ≤ a && a < rgQUILL) || (rgRULING ≤ a && a < rgEnd)) == onInterface)

/-- The next free value of the run: what the spec leaves open (see `Config.freeWord`). -/
def Dev.fresh (d : Dev) : Dev := { d with freeCtr := d.freeCtr + 1 }

/-! ## Parts of the device -/

/-- Change one lane's manager state. -/
def Dev.onLane (d : Dev) (l : Lane) (f : LaneState → LaneState) : Dev :=
  { d with lanes := d.lanes.put l (f (d.lanes.at l)) }

/-- Change one driver die. -/
def Dev.onDie (d : Dev) (k : DieIx) (f : DieState → DieState) : Dev := { d with dies := d.dies.set k (f d.dies[k]) }

/-- Change one output. -/
def Dev.onOut (d : Dev) (o : OutIx) (f : OutState → OutState) : Dev := { d with outs := d.outs.set o (f d.outs[o]) }

/-- Change one link receiver. -/
def Dev.onLink (d : Dev) (k : LinkRx) (f : LinkRxState → LinkRxState) : Dev :=
  { d with links := d.links.set (linkIx k) (f d.links[linkIx k]) }

/-- A link receiver. -/
def Dev.link (d : Dev) (k : LinkRx) : LinkRxState := d.links[linkIx k]

/-- Change one modulator. -/
def Dev.onMod (d : Dev) (l : Lane) (f : ModUnit → ModUnit) : Dev := { d with mods := d.mods.put l (f (d.mods.at l)) }

/-- Change one leg of a modulator. -/
def Dev.onLeg (d : Dev) (l : Lane) (n : Fin 6) (f : LegState → LegState) : Dev :=
  d.onMod l fun m => { m with legs := m.legs.set n (f m.legs[n]) }

/-- Change one link master. -/
def Dev.onMaster (d : Dev) (l : Lane) (k : DieIx) (f : MasterState → MasterState) : Dev :=
  d.onMod l fun m => { m with masters := m.masters.set k (f m.masters[k]) }

/-- Change one axis. -/
def Dev.onAxis (d : Dev) (x : Fin 2) (f : AxisState → AxisState) : Dev := { d with axes := d.axes.set x (f d.axes[x]) }

/-- Change one bridge. -/
def Dev.onBridge (d : Dev) (b : Fin 2) (f : BridgeState → BridgeState) : Dev :=
  { d with bridges := d.bridges.set b (f d.bridges[b]) }

/-- Change one lane's measurement. -/
def Dev.onMeas (d : Dev) (l : Lane) (f : MeasUnit → MeasUnit) : Dev := { d with meas := d.meas.put l (f (d.meas.at l)) }

/-- Change one converter. -/
def Dev.onConv (d : Dev) (l : Lane) (c : Fin 2) (f : ConvState → ConvState) : Dev :=
  d.onMeas l fun m => { m with convs := m.convs.set c (f m.convs[c]) }

/-- Change one converter group. -/
def Dev.onGroup (d : Dev) (l : Lane) (c : Fin 2) (g : Fin 3) (f : GroupState → GroupState) : Dev :=
  d.onConv l c fun v => { v with groups := v.groups.set g (f v.groups[g]) }

/-- The field unit of a lane and an axis. -/
def Dev.fieldU (d : Dev) (l : Lane) (x : Fin 2) : FieldUnit := if x = 0 then d.field1.at l else d.field2.at l

/-- Change one field unit. -/
def Dev.onFieldU (d : Dev) (l : Lane) (x : Fin 2) (f : FieldUnit → FieldUnit) : Dev :=
  if x = 0 then { d with field1 := d.field1.put l (f (d.field1.at l)) }
  else { d with field2 := d.field2.put l (f (d.field2.at l)) }

/-- Change one Quill. -/
def Dev.onQuill (d : Dev) (l : Lane) (f : QuillUnit → QuillUnit) : Dev := { d with quill := d.quill.put l (f (d.quill.at l)) }

/-- Change one position unit. -/
def Dev.onPos (d : Dev) (l : Lane) (f : PosUnit → PosUnit) : Dev := { d with pos := d.pos.put l (f (d.pos.at l)) }

/-- Change one position channel. -/
def Dev.onChan (d : Dev) (l : Lane) (c : Fin 4) (f : PosChan → PosChan) : Dev :=
  d.onPos l fun u => { u with chans := u.chans.set c (f u.chans[c]) }

/-- Change one motion unit. -/
def Dev.onMotion (d : Dev) (x : Fin 2) (f : MotionState → MotionState) : Dev :=
  { d with motion := d.motion.set x (f d.motion[x]) }

/-- Change one island. -/
def Dev.onIsland (d : Dev) (i : Lane) (f : Island → Island) : Dev := { d with islands := d.islands.put i (f (d.islands.at i)) }

/-- One axis of an island. -/
def Island.ax (s : Island) (x : Fin 2) : SafeAxis := if x = 0 then s.ax1 else s.ax2

/-- Change one axis of an island. -/
def Dev.onSafeAx (d : Dev) (i : Lane) (x : Fin 2) (f : SafeAxis → SafeAxis) : Dev :=
  d.onIsland i fun s => if x = 0 then { s with ax1 := f s.ax1 } else { s with ax2 := f s.ax2 }

/-- Apply an operation for each of the two lanes. -/
def Dev.eachLane (d : Dev) (f : Dev → Lane → Dev) : Dev := f (f d .a) .b

/-- Apply an operation for each axis. -/
def Dev.eachAxis (d : Dev) (f : Dev → Fin 2 → Dev) : Dev := f (f d 0) 1

/-- The timebase of a modulator. -/
def ModUnit.tb (m : ModUnit) (t : Fin 2) : TimebaseState := if t = 0 then m.tb0 else m.tb1

/-- Change a timebase of a modulator. -/
def Dev.onTb (d : Dev) (l : Lane) (t : Fin 2) (f : TimebaseState → TimebaseState) : Dev :=
  d.onMod l fun m => if t = 0 then { m with tb0 := f m.tb0 } else { m with tb1 := f m.tb1 }

/-! ## Axes, winding sets and bridges -/

/-- SYS.CONFIG.POWER (R235): 0 TWIN, 1 HEXA, 2 PARALLEL, 3 SPLIT. -/
def Dev.powerCfg (d : Dev) : Nat := d.g pgSYS R.SYS_CONFIG_POWER

/-- The axes that exist: HEXA and PARALLEL have axis 1 alone (R235). -/
def Dev.axisExists (d : Dev) (x : Fin 2) : Bool := x == 0 || d.powerCfg == 0 || d.powerCfg == 3

/-- The legs of an axis (R235). -/
def Dev.axisLegs (d : Dev) (x : Fin 2) : List (Fin 6) :=
  if d.powerCfg = 1 ∨ d.powerCfg = 2 then (if x = 0 then [0, 1, 2, 3, 4, 5] else [])
  else if x = 0 then [0, 1, 2] else [3, 4, 5]

/-- The axis of a leg. -/
def Dev.legAxis (d : Dev) (n : Fin 6) : Fin 2 :=
  if d.powerCfg = 1 ∨ d.powerCfg = 2 then 0 else if n.val < 3 then 0 else 1

/-- The bridge of a leg: legs 1 to 3 and 4 to 6, or all six in PARALLEL. -/
def Dev.legBridge (d : Dev) (n : Fin 6) : Fin 2 := if d.powerCfg = 2 then 0 else if n.val < 3 then 0 else 1

/-- The legs of a bridge. -/
def Dev.bridgeLegs (d : Dev) (b : Fin 2) : List (Fin 6) :=
  if d.powerCfg = 2 then (if b = 0 then [0, 1, 2, 3, 4, 5] else [])
  else if b = 0 then [0, 1, 2] else [3, 4, 5]

/-- The bridges of an axis. -/
def Dev.axisBridges (d : Dev) (x : Fin 2) : List (Fin 2) :=
  match d.powerCfg with
  | 1 => if x = 0 then [0, 1] else []
  | 2 => if x = 0 then [0] else []
  | _ => [x]

/-- The state of an axis. -/
def Dev.axState (d : Dev) (x : Fin 2) : AxState := AxState.ofCode (d.g (pgFIELD x) R.FIELD_STATE_AXSTATE)

/-- The blank supervisor behaviour runs (R104): it holds an internal request equivalent to both STO channels, and permits ASC. -/
def Dev.supervisor (d : Dev) : Bool := d.g pgSYS R.SYS_CONFIG_SUPERVISOR == 1

/-- The device mode. -/
def Dev.modeIs (d : Dev) (l : List Mode) : Bool := l.contains d.mode.cur

/-- Protective switching is armed (R94): the mode is one of its modes, and the blank supervisor has reached READY (R105). -/
def Dev.protLive (d : Dev) : Bool := d.modeIs [.ready, .run, .hold, .discharge] && (!d.supervisor || d.mode.superArmed)

/-- Set an axis's state; a change sets FIELD_n.CAUSE bit 12. -/
def Dev.setAx (d : Dev) (x : Fin 2) (st : AxState) : Dev :=
  if d.axState x = st then d
  else (d.s (pgFIELD x) R.FIELD_STATE_AXSTATE st.code).cause (pgFIELD x) 12

/-! ## Edges and legs -/

/-- Put an edge into a link master's queue, earliest due first and at equal due ticks in order of OUT (R374). -/
def insertEdge (e : QueuedEdge) : List QueuedEdge → List QueuedEdge
  | [] => [e]
  | f :: r =>
    if e.due < f.due ∨ (e.due = f.due ∧ outNum e.out < outNum f.out) then e :: f :: r else f :: insertEdge e r

/-- The profile set of an edge (R397) is chosen where it is queued; forced edges use set 0. Queue an edge of output `o` at the
link master of its die, in the modulator of lane `l`. -/
def Dev.queueEdge (d : Dev) (l : Lane) (e : QueuedEdge) : Dev :=
  d.onMaster l (outDie e.out) fun m => { m with queue := insertEdge e m.queue }

/-- The timebase of a leg (R357). -/
def Dev.legTb (d : Dev) (l : Lane) (n : Fin 6) : Fin 2 := if d.gl l (pgMOD l) R.MOD_LEG_CFG_TB n.val = 1 then 1 else 0

/-- The profile set of an edge that is not forced (R397). -/
def Dev.edgePset (d : Dev) (l : Lane) (o : OutIx) : Bool :=
  match d.gl l pgGATE R.GATE_PSEL_P / 4 ^ o.val % 4 with
  | 1 => true
  | 2 => (match outLeg o with
    | some n => (match (d.mods.at l).lastMean.getD n.val none with
      | some m => decide (m.natAbs < d.gl l pgGATE R.GATE_PSETI_I)
      | none => false)
    | none => false)
  | _ => false

/-- The edge stream of R448 takes a message that is emitted, in whose period `start` it is due. -/
def Dev.streamEdge (d : Dev) (l : Lane) (o : OutIx) (start due : Nat) : Dev :=
  d.onLane l fun s => { s with stream := s.stream ++ [{ out := o, start := start, due := due }] }

/-- The legs a latched source forces: its mask in TRIPMASK; PROT's are those the protection logic named. -/
def Dev.tripLegs (d : Dev) (l : Lane) (src : Nat) : Nat :=
  let p := pgMOD l
  match src with
  | 0 => d.gl l p R.MOD_TRIPMASK_T1
  | 1 => d.gl l p R.MOD_TRIPMASK_T2
  | 2 => d.gl l p R.MOD_TRIPMASK_SW
  | _ => (d.mods.at l).protLegs

/-- The legs forced by latched sources, bit n for leg n + 1 (R382). -/
def Dev.latchedLegs (d : Dev) (l : Lane) : Nat :=
  let latch := d.gl l (pgMOD l) R.MOD_TRIPSTAT_LATCH
  (List.range 4).foldl (fun b s => if latch / 2 ^ s % 2 = 1 then b ||| d.tripLegs l s else b) 0

/-- A leg is forced: by a latched source, by a bootstrap undervoltage, by ASC, or until the period start that ends its forcing
(R372, R383, R385). -/
def Dev.legForced (d : Dev) (l : Lane) (n : Fin 6) : Bool :=
  let s := (d.mods.at l).legs[n]
  let b := d.bridges[d.legBridge n]
  d.latchedLegs l / 2 ^ n.val % 2 == 1 || s.bootForced || s.ending || b.ascL || b.ascH

/-- A latched trip source forces a leg (R382). -/
def Dev.legTripped (d : Dev) (l : Lane) (n : Fin 6) : Bool := d.latchedLegs l / 2 ^ n.val % 2 == 1

/-- A leg is forced by a trip (LEGn_STAT.FORCED, R389): also until the period start that ends the forcing (R383). -/
def Dev.tripForced (d : Dev) (l : Lane) (n : Fin 6) : Bool := d.legTripped l n || ((d.mods.at l).legs[n]).ending

/-- The commanded level of a leg's side at a tick. -/
def legLevel (s : LegState) (high : Bool) (tick : Int) : Bool :=
  s.placed.foldl (fun v e => if e.1 = high ∧ e.2.2 / 32 ≤ tick then e.2.1 else v) (if high then s.hs0 else s.ls0)

/-- Drop the messages of an output that have not left. -/
def Dev.dropEdges (d : Dev) (l : Lane) (o : OutIx) : Dev :=
  d.onMaster l (outDie o) fun m => { m with queue := m.queue.filter (·.out != o) }

/-- The protection of chapter 11 or a trip sets a leg's levels at once (R372, R379, R415): messages that have not left are
dropped, and its regular edges wait for a period start. -/
def Dev.setLeg (d : Dev) (l : Lane) (n : Fin 6) (hs ls : Bool) : Dev :=
  ((d.dropEdges l (legHigh n)).dropEdges l (legLow n)).onLeg l n fun s => { s with
    hs := hs, ls := ls, hs0 := hs, ls0 := ls, placed := [], next := {}
    hsOffAt := if !hs && legLevel s true d.now then (d.now * 32 : Nat) else min s.hsOffAt (d.now * 32 : Nat)
    lsOffAt := if !ls && legLevel s false d.now then (d.now * 32 : Nat) else min s.lsOffAt (d.now * 32 : Nat)
    lowEdges := s.lowEdges.filter (·.2 < d.now) ++ (if ls && !legLevel s false d.now then [(true, d.now)] else [])
    lowCut := if ls then s.lowCut else some (s.lowCut.getD d.now) }

/-- The placed edges of a leg whose messages have left. -/
def Dev.sentEdges (d : Dev) (l : Lane) (n : Fin 6) : List (Bool × Bool × Int) :=
  (((d.mods.at l).legs[n]).placed).filter fun e =>
    let o := if e.1 then legHigh n else legLow n
    !((d.mods.at l).masters[outDie o].queue.any fun q => q.out == o && q.level == e.2.1 && (q.due : Int) == e.2.2 / 32)

/-- Turn a leg of modulator `l` off at once (R371): messages that have not left are dropped, and a switch that is left on gets a
turn-off due at the edge lead, after any turn-on already sent (R374), with the profile set that PSEL names (R397). A forced leg stays forced (R372). -/
def Dev.legOff (d : Dev) (l : Lane) (n : Fin 6) : Dev :=
  let s := (d.mods.at l).legs[n]
  let sent := d.sentEdges l n
  let d' := (d.dropEdges l (legHigh n)).dropEdges l (legLow n)
  if d.legForced l n then
    if s.next.release then d'.onLeg l n fun s => { s with hs := s.hs0, ls := s.ls0, placed := [], next := {} } else d
  else
    let last := fun (high : Bool) => sent.foldl (fun v e => if e.1 = high then e.2.1 else v) (if high then s.hs0 else s.ls0)
    let due := fun (high : Bool) =>
      (sent.foldl (fun (t : Int) e => if e.1 = high then max t ((e.2.2 + 31) / 32) else t) (d.now + 24 : Nat)).toNat
    let off := fun (d : Dev) (high : Bool) => if last high then
      let o := if high then legHigh n else legLow n
      d.queueEdge l { out := o, level := false, pset := d.edgePset l o, due := due high, dueF := 0, start := some ((d.mods.at l).tb (d.legTb l n)).t0 } else d
    let cut := fun (high : Bool) => if last high then [(high, false, ((due high * 32 : Nat) : Int))] else []
    (off (off d' true) false).onLeg l n fun s => { s with
      hs := false, ls := false, chopDue := none, next := {}, placed := sent ++ cut true ++ cut false
      lowEdges := s.lowEdges.filter (·.2 < due false) ++ (if last false then [(false, due false)] else [])
      hsOffAt := if last true then (due true * 32 : Nat) else min s.hsOffAt (due true * 32 : Nat)
      lsOffAt := if last false then (due false * 32 : Nat) else min s.lsOffAt (due false * 32 : Nat) }

/-- Pulses of an axis end: STATE.PULSES = 0, and its legs act as OFF (R371). -/
def Dev.pulsesOff (d : Dev) (x : Fin 2) : Dev :=
  let d := d.s (pgFIELD x) R.FIELD_STATE_PULSES 0
  (d.axisLegs x).foldl (fun d n => d.eachLane fun d l => d.legOff l n) d

/-- The legs of a bridge leave a forcing of the protection logic at once: one that a latched trip source still forces has both switches
off, any other one acts as OFF. -/
def Dev.bridgeOff (d : Dev) (b : Fin 2) : Dev :=
  (d.bridgeLegs b).foldl (fun d n => d.eachLane fun d l =>
    if d.legTripped l n then d.setLeg l n false false else d.legOff l n) d

/-- The mode holds the power stage off (R8, R94): every ASC that stands or waits ends at once. -/
def Dev.ascOff (d : Dev) : Dev :=
  let d := d.eachAxis fun d x => d.onAxis x fun s => { s with ascEnds := false, ascCatch := false }
  [(0 : Fin 2), 1].foldl (fun d b =>
    let s := d.bridges[b]
    let d := d.onBridge b fun s => { s with ascL := false, ascH := false, waitHigh := none, moved := false, uncontrolled := false }
    if s.ascL || s.ascH then
      let x : Fin 2 := if d.powerCfg = 1 ∨ d.powerCfg = 2 then 0 else b
      ((d.bridgeOff b).s (pgFIELD x) R.FIELD_STATE_ASC 0).cause pgPROT 1
    else d) d

/-! ## Motion: stop and hold -/

/-- An offset of a MOTION page that its block carries: ACT, and what R446 names of the rest. -/
def motionCarried (o : Nat) : Bool := o == 0x48 || (0x70 ≤ o && o ≤ 0x88) || o == 0xAC || o == 0xB0

/-- A register of lane `l`'s copy of a MOTION page that its block carries, by key. -/
def motionKey (l : Lane) (x : Fin 2) (kw : Nat × Word) : Bool :=
  kw.1 / 0x1000000 == l.idx && kw.1 % 0x1000000 / 0x1000 == pgMOTION x && motionCarried (kw.1 % 0x1000)

/-- The lane whose motion units `Dev.motion` holds: the ACTIVE one, lane A while none is. -/
def Dev.motionLane (d : Dev) : Lane := (d.active).getD .a

/-- The motion unit of a lane (R41): that of the lane that is not shown stands beside its shadow registers. -/
def Dev.unitOf (d : Dev) (l : Lane) (x : Fin 2) : MotionState := if l = d.motionLane then d.motion[x] else ((d.shadows.at l).units)[x]

/-- TCMD of an axis is written, or its pulses start: the time since then begins, in both lanes (R274, R446). -/
def Dev.tcmdTouch (d : Dev) (x : Fin 2) : Dev :=
  let l := (d.motionLane).other
  let d := d.onAxis x fun s => { s with tcmdAt := d.now, cmdStage := 0 }
  if d.up (.ctl l) then
    { d with shadows := d.shadows.put l { d.shadows.at l with tcmdAt := ((d.shadows.at l).tcmdAt).set x d.now } }
  else d

/-- The device as lane `l`'s motion unit of an axis sees it: its own state, and its own lane's copies and timebases. -/
def Dev.unitView (d : Dev) (l : Lane) (x : Fin 2) : Dev :=
  { d with
    lanes := (d.lanes.put l { d.lanes.at l with role := .active }).put l.other { d.lanes.at l.other with role := .standby }
    motion := d.motion.set x { ((d.shadows.at l).units)[x] with chop := d.motion[x].chop } }

/-- The registers of `r` that a MOTION block carries in lane `l`'s copy stand in place of `d`'s (R41, R446). -/
def Dev.unitWords (d : Dev) (l : Lane) (x : Fin 2) (r : List (Nat × Word)) : Dev :=
  (r.filter (motionKey l x)).foldl (fun d kw => d.setWord l (kw.1 % 0x1000000) kw.2)
    { d with regs := d.regs.filter fun kw => !motionKey l x kw }

/-- Lane `l`, which is not shown, does something with its own motion unit of an axis: nothing else changes. -/
def Dev.ownUnit (d : Dev) (l : Lane) (x : Fin 2) (f : Dev → Dev) : Dev :=
  let v := f (d.unitView l x)
  let d := d.unitWords l x v.regs
  { d with shadows := d.shadows.put l { d.shadows.at l with units := ((d.shadows.at l).units).set x v.motion[x] } }

/-- Both lanes' motion units of an axis do the same, each from its own state: no lane writes into that of the other (R41). -/
def Dev.eachUnit (d : Dev) (x : Fin 2) (f : Dev → Dev) : Dev :=
  let l := (d.motionLane).other
  let e := f d
  if !d.up (.ctl l) then e
  else
    let v := d.ownUnit l x f
    let e := e.unitWords l x v.regs
    { e with shadows := e.shadows.put l { e.shadows.at l with units := ((e.shadows.at l).units).set x ((v.shadows.at l).units)[x] } }

/-- Codes of MOTION_n.STAT.ACT (R356). -/
def actIDLE : Nat := 0
def actTABLE : Nat := 1
def actGENERATOR : Nat := 2
def actSTOPPING : Nat := 3
def actWAITING : Nat := 4
def actTRACKING : Nat := 5

/-- MOTION_n.STAT.ACT. -/
def Dev.act (d : Dev) (x : Fin 2) : Nat := d.g (pgMOTION x) R.MOTION_STAT_ACT

/-- Set MOTION_n.STAT.ACT. -/
def Dev.setAct (d : Dev) (x : Fin 2) (a : Nat) : Dev := d.s (pgMOTION x) R.MOTION_STAT_ACT a

/-- Record resume data and set RESUMABLE (R344), by the mode that runs: the interrupted entry with RK in TABLE mode, the TARGET or VTARGET
in use else. -/
def Dev.recordResume (d : Dev) (x : Fin 2) : Dev :=
  let m := d.motion[x]
  let mode := m.runMode
  let kept := m.useResume && m.resumeEnds.isNone
  let d := d.onMotion x fun m => { m with
    rMode := mode
    ridx := if mode = 1 then m.entry else m.ridx
    rk := if mode = 1 then m.segN - m.k else m.rk
    rTarget := if kept then m.rTarget else if mode = 2 then d.gS (pgMOTION x) R.MOTION_TARGET_P
               else if mode = 3 then d.gS (pgMOTION x) R.MOTION_VTARGET_V else m.rTarget }
  let d := d.s (pgMOTION x) R.MOTION_STAT_RESUMABLE 1
  if mode = 1 then
    let d := d.s (pgMOTION x) R.MOTION_SEG_RIDX m.entry
    d.s (pgMOTION x) R.MOTION_SEGK_K (m.segN - m.k)
  else d

/-- The effect of STOP on one lane's motion unit (R343, R344). -/
def Dev.unitStop (d : Dev) (x : Fin 2) : Dev :=
  let a := d.act x
  if a = actTABLE ∨ a = actGENERATOR then (d.recordResume x).setAct x actSTOPPING
  else if a = actWAITING then (d.recordResume x).setAct x actIDLE
  else if a = actTRACKING then
    (d.onMotion x fun m => { m with heldCmd := none }).s (pgMOTION x) R.MOTION_STAT_PENDING 0
  else d

/-- The effect of STOP on the motion units of an axis (R343, R344). -/
def Dev.motionStop (d : Dev) (x : Fin 2) : Dev := d.eachUnit x fun d => d.unitStop x

/-- A motion unit that moves discards a command that waits, with code BUSY (R345). -/
def Dev.motionDrop (d : Dev) (x : Fin 2) : Dev :=
  if d.motion[x].heldCmd.isSome ∨ d.motion[x].pendingCmd.isSome then
    (((d.s (pgMOTION x) R.MOTION_STAT_REFUSE 1).s (pgMOTION x) R.MOTION_STAT_PENDING 0).cause (pgMOTION x) 5).onMotion x fun m =>
      { m with heldCmd := none, pendingCmd := none }
  else d

/-- One lane's motion unit whose axis enters HOLD (R345): what runs leaves its resume data, once; a stop has left them already. -/
def Dev.unitHold (d : Dev) (x : Fin 2) : Dev :=
  let a := d.act x
  let runs : Bool := a == actTABLE || a == actGENERATOR || a == actWAITING
  let d := if runs ∨ (a = actSTOPPING ∧ d.g (pgMOTION x) R.MOTION_STAT_RESUMABLE = 0) then d.recordResume x else d
  let d := if runs ∨ a = actSTOPPING then d.motionDrop x else d
  (d.onMotion x fun m => { m with axisStop := false }).setAct x actTRACKING

/-- The motion units of an axis that enters HOLD (R345). -/
def Dev.motionHold (d : Dev) (x : Fin 2) : Dev := d.eachUnit x fun d => d.unitHold x

/-- The STOP command of an axis acts on one lane's motion unit (R343). -/
def Dev.unitAxisStop (d : Dev) (x : Fin 2) : Dev :=
  let a := d.act x
  let moving := a = actTABLE ∨ a = actGENERATOR ∨ a = actWAITING
  let d := if moving then d.unitStop x else d
  if moving ∨ a = actSTOPPING then d.onMotion x fun m => { m with axisStop := true } else d

/-- The STOP command of an axis (row 4 of R273, R479): torque or the motion unit ramps to zero, over `ramp` ms. -/
def Dev.axisStop (d : Dev) (x : Fin 2) (ramp : Nat) : Dev :=
  if d.axState x = .run ∨ d.axState x = .step then
    let d := if d.axes[x].stopping then d
      else d.onAxis x fun s => { s with stopping := true, stopAt := d.now, ramp := ramp }
    d.eachUnit x fun d => d.unitAxisStop x
  else d

/-! ## ASC (R412 to R417) -/

/-- The word at offset `off` of an output's applied configuration (R427); the page's reset value before the first block. -/
def Dev.outCfg (d : Dev) (o : OutIx) (f : Fld) : Nat :=
  match (d.outs[o]).cfg with
  | some ws => f.get (ws.getD ((f.off - 0x100) / 4) 0)
  | none => f.reset

/-- A control die has the live link of some lane to a driver die (R412). -/
def Dev.dieLive (d : Dev) (k : DieIx) : Bool := (d.link (.drvDie .a k)).live || (d.link (.drvDie .b k)).live

/-- Asymmetry trims of a driver die's links from CA and from CB: those of the calibration set (R609), and else what the rule leaves
open. -/
def Dev.linkTrim (d : Dev) (k : Nat) : Word × Word :=
  match d.cal.drv.find? (·.1 == k) with
  | some (_, a, b) => (a, b)
  | none => (Config.asymTrim k, Config.asymTrim (8 + k))

/-- SAFE_x.CFG.ASC_EN of the safety configuration: every available island permits ASC (R413, R471). -/
def Dev.ascEn (d : Dev) : Bool :=
  d.supervisor ||
  [Lane.a, Lane.b].all fun i => !d.up (.iface i) || d.gl i (pgSAFE i) R.SAFE_CFG_ASC_EN == 1

/-- SAFE_x.CFG.ASC_STO of the safety configuration (R471). -/
def Dev.ascSto (d : Dev) : Bool :=
  d.supervisor ||
  [Lane.a, Lane.b].all fun i => !d.up (.iface i) || d.gl i (pgSAFE i) R.SAFE_CFG_ASC_STO == 1

/-- An STO channel stands active at the filter of an available interface die (R469), or the supervisor's request stands (R104). -/
def Dev.stoLand (d : Dev) (ch : Lane) : Bool :=
  d.supervisor || [Lane.a, Lane.b].any fun i => d.up (.iface i) &&
    (match ch with | .a => (d.islands.at i).stoA | .b => (d.islands.at i).stoB)

/-- A live port of its die holds a STO symbol that names an output (R473). -/
def Dev.stoNamed (d : Dev) (o : OutIx) : Bool :=
  let s := d.dies[outDie o]
  ((d.link (.drvDie .a (outDie o))).live && s.ports.a.stoSym.getD (outNum o) false) ||
  ((d.link (.drvDie .b (outDie o))).live && s.ports.b.stoSym.getD (outNum o) false)

/-- True where a switch is available (R412) to the protection logic; a STO symbol names both channels (R473). -/
def Dev.available (d : Dev) (o : OutIx) : Bool :=
  let s := d.outs[o]
  let k := outDie o
  let sto := (outLeg o).isSome && d.stoNamed o
  d.outCfg o R.GATE_OCFG_EN == 1 && s.cfg.isSome && !(s.cutA && s.cutB) && !s.supFault && !s.uv && !s.bootUv &&
  s.shortKind.isNone && !s.gmon && d.dies[k].powered && d.dieLive k &&
  !(outIsHigh o && (d.stoLand .a || sto)) && !(!outIsHigh o && (d.stoLand .b || sto) && !d.ascSto)

/-- A leg's high side runs from a bootstrap, as lane `l`'s modulator has it: BOOT counts in a small configuration only (R7, R384). -/
def Dev.bootLeg (d : Dev) (l : Lane) (n : Fin 6) : Bool :=
  d.g pgSYS R.SYS_CONFIG_SIZE != 0 && d.gl l (pgMOD l) R.MOD_LEG_CFG_BOOT n == 1

/-- As `Dev.bootLeg`, in the ACTIVE lane's modulator (R412). -/
def Dev.legBoot (d : Dev) (n : Fin 6) : Bool := d.bootLeg ((d.active).getD .a) n

/-- A side of a bridge is tripped (R413). -/
def Dev.sideTripped (d : Dev) (b : Fin 2) (high : Bool) : Bool :=
  (d.bridgeLegs b).any fun n => (d.outs[if high then legHigh n else legLow n]).shortKind.isSome

/-- ASC through a side is permitted (R413); a high side in bootstrap mode never serves for it, nor any high side during STO
(R412, R471). -/
def Dev.sidePermitted (d : Dev) (b : Fin 2) (high : Bool) : Bool :=
  !(d.bridgeLegs b).isEmpty && !d.sideTripped b high && d.ascEn &&
  (d.bridgeLegs b).all fun n =>
    d.available (if high then legHigh n else legLow n) &&
    !(high && (d.legBoot n || d.stoLand .a || d.stoLand .b))

/-- The side of a bridge that ASC would use: the permitted one, PREF where both are (R415); true is the high side. -/
def Dev.ascSide (d : Dev) (b : Fin 2) : Option Bool :=
  match d.sidePermitted b false, d.sidePermitted b true with
  | true, true => some (d.g pgPROT R.PROT_ASCCFG_PREF == 1)
  | true, false => some false
  | false, true => some true
  | false, false => none

/-- An action waits for the tick of R665 on a timebase that does not run, from now on. -/
def Dev.tbDefer (d : Dev) (l : Lane) (t : Fin 2) (what : Waiting) : Dev :=
  if ((d.mods.at l).tb t).running then d
  else d.onMod l fun m => { m with
    deferred := { at' := d.now, tb := t, what := what } :: m.deferred.filter fun x => !(x.tb == t && x.what == what) }

/-- What an axis has due at a period start waits for the tick of R665 where its timebase does not run. -/
def Dev.axisDefer (d : Dev) (x : Fin 2) (what : Waiting) : Dev :=
  d.eachLane fun d l => d.tbDefer l (d.legTb l ((d.axisLegs x).headD 0)) what

/-- ASC is wanted on every bridge of an axis: where it is not applied it waits for its start (R415, R665). The bridges without a
permitted side are held off (R417); the second part says that one of them was not held off before. Nothing while protective switching
is not armed (R94, R105). -/
def Dev.wantAsc (d : Dev) (x : Fin 2) : Dev × Bool :=
  if !d.protLive then (d, false) else
  let waits := (d.axisBridges x).any fun b => d.bridges[b].waitHigh.isSome
  let d := d.onAxis x fun s => { s with ascEnds := false, ascCatch := false }
  let d := if waits then d else d.axisDefer x (.ascOn x)
  (d.axisBridges x).foldl (fun (d, bad) b =>
    if d.bridges[b].ascL ∨ d.bridges[b].ascH then (d, bad)
    else match d.ascSide b with
      | some h => (d.onBridge b fun s => { s with waitHigh := some h, uncontrolled := false }, bad)
      | none => (d.onBridge b fun s => { s with uncontrolled := true }, bad || !d.bridges[b].uncontrolled)) (d, false)

/-! ## Ledger and modes -/

/-- The condition sources of R572. -/
def conditionSource (n : Nat) : Bool :=
  n == 19 || [4, 20, 5, 21, 6, 22, 38, 54, 39, 55, 40, 56, 44, 60].contains n || (136 ≤ n && n ≤ 143) ||
  [192, 193, 194, 208, 209, 210, 202, 218].contains n ||
  (224 ≤ n && n < 288 && ([0, 1, 2, 4, 5].contains (n % 8) || (n % 8 == 3 && n < 272))) ||
  [278, 286].contains n ||
  [290, 306, 291, 307, 292, 308, 293, 309, 294, 310, 302, 318, 303, 319].contains n ||
  (320 ≤ n && n < 336 && n % 4 < 2) || [336, 341, 346, 352, 353, 354].contains n

/-- STATUS of a source. -/
def Dev.uncl (d : Dev) (n : Nat) : Bool := d.g pgLEDGER R.LEDGER_SRC_STATUS n == 1

/-- The cause of a source is present (SRCn.LIVE); a forced source keeps it while SRCn.FORCE = 1 (R577). -/
def Dev.srcLive (d : Dev) (n : Nat) : Bool :=
  d.g pgLEDGER R.LEDGER_SRC_LIVE n == 1 || d.g pgLEDGER R.LEDGER_SRC_FORCE n == 1

/-- The uncleared sources: their registers are listed, since STATUS resets to 0. -/
def Dev.uncleared (d : Dev) : List Nat :=
  let l := d.prim pgLEDGER
  let base := regKey l (pageAddr pgLEDGER 0x200)
  d.regs.filterMap fun (k, w) =>
    if base ≤ k ∧ k < base + 0x600 ∧ R.LEDGER_SRC_STATUS.get w = 1 then some ((k - base) / 4) else none

/-- The class a source had at its latest raise (R575). -/
def Dev.classAt (d : Dev) (n : Nat) : Reaction :=
  match d.ledger.classAt.find? (·.1 == n) with
  | some (_, c) => c
  | none => Reaction.ofCode (d.g pgLEDGER R.LEDGER_SRC_CLASS n)

/-- An uncleared source of a class (R90, R574). -/
def Dev.anyUncleared (d : Dev) (c : Reaction) : Bool := d.uncleared.any (d.classAt · == c)

/-- The lane of the die that raised a source (R435, R574); none for sources of the driver dies, which are tied to no lane. Sources 156,
157 and 160 to 191 do not tell their die by their number: `detail` does, 1 for lane A and 2 for lane B. A source of a mirrored block
counts as the ACTIVE lane's (DESIGN CHOICE, log 22). -/
def Dev.srcLane (d : Dev) (n detail : Nat) : Option Lane :=
  if 224 ≤ n ∧ n < 288 then none
  else if 128 ≤ n ∧ n < 152 then some (if (n - 128) / 4 % 2 = 0 then .a else .b)
  else if (n = 156 ∨ n = 157 ∨ (160 ≤ n ∧ n < 192)) ∧ (detail = 1 ∨ detail = 2) then some (if detail = 1 then .a else .b)
  else if n = 346 ∨ n = 347 ∨ n = 360 then some .a
  else if n = 361 then some .b
  else if n = 362 then none
  else if n < 96 then some (if n % 32 < 16 then .a else .b)
  else if n < 128 then some (if n < 112 then .a else .b)
  else if 192 ≤ n ∧ n < 224 then some (if n < 208 then .a else .b)
  else if 288 ≤ n ∧ n < 320 then some (if n < 304 then .a else .b)
  else if 320 ≤ n ∧ n < 336 then some (if n < 328 then .a else .b)
  else if 336 ≤ n ∧ n < 346 then some (if n < 341 then .a else .b)
  else some ((d.active).getD .a)

/-- The control die on which the event of a source arises: the sources of the cores, Quill, converters and modulators (R323, R388,
R461, R582), and those of a field unit, whose lane `detail` tells (R283). -/
def ctlSource (n detail : Nat) : Option Lane :=
  if (32 ≤ n ∧ n < 96) ∨ (192 ≤ n ∧ n < 224) then some (if n % 32 < 16 then .a else .b)
  else if 96 ≤ n ∧ n < 128 then some (if n < 112 then .a else .b)
  else if 160 ≤ n ∧ n < 192 then (match detail with | 1 => some .a | 2 => some .b | _ => none)
  else none

/-- The event of a source is one that a lane beside the ACTIVE one sees alone: it changes no axis state (R445). -/
def Dev.standbyEvent (d : Dev) (n detail : Nat) : Bool :=
  match ctlSource n detail with
  | some l => d.active == some l.other
  | none => false

/-- The axes a HOLD_AXIS source acts on: none means every enabled axis (R574, R430); UNCONTROLLED_GENERATION acts on the axes with a bridge
that is held off (R417). CH and DS act as CALL: `detail` 7 and 8. -/
def Dev.srcAxes (d : Dev) (n detail : Nat) : Option (List (Fin 2)) :=
  if 160 ≤ n ∧ n < 192 then some [if n < 176 then 0 else 1]
  else if 224 ≤ n ∧ n < 272 then some [d.legAxis ⟨(n - 224) / 8 % 6, by omega⟩]
  else if n = 286 then some ([(0 : Fin 2), 1].filter fun x => (d.axisBridges x).any fun b => d.bridges[b].uncontrolled)
  else if 272 ≤ n ∧ n < 288 then
    some [d.legAxis (if 1 ≤ detail ∧ detail ≤ 6 then ⟨(detail - 1) % 6, by omega⟩ else if n < 280 then 0 else 3)]
  else none

/-- DETAIL of a raise (R579, R583): a source of HS1 to HS6 stands for the one leg of its die; LSA's and LSB's name the leg of the output
that raised, 7 for CH, and 0 where none did. -/
def srcDetail (n detail : Nat) : Nat :=
  if 224 ≤ n ∧ n < 272 then (n - 224) / 8 + 1 else if 272 ≤ n ∧ n < 288 ∧ detail < 8 then detail else 0

/-- Write FIRST for a raise (R579). -/
def Dev.firstRecord (d : Dev) (n stamp detail : Nat) : Dev :=
  let det := srcDetail n detail
  let put := fun (d : Dev) (tie : Nat) =>
    let d := d.s pgLEDGER R.LEDGER_FIRST_VALID 1
    let d := d.s pgLEDGER R.LEDGER_FIRST_TIE tie
    let d := d.s pgLEDGER R.LEDGER_FIRST_DETAIL det
    let d := d.s pgLEDGER R.LEDGER_FIRST_SRC n
    let d := d.s pgLEDGER R.LEDGER_FIRST_T_T (stamp % 4294967296)
    { d with ledger := { d.ledger with firstStamp := stamp } }
  if d.g pgLEDGER R.LEDGER_FIRST_VALID = 0 then put d 0
  else if d.g pgLEDGER R.LEDGER_FIRST_FINAL = 1 ∨ d.ledger.firstStamp + 1000 < d.now then d
  else if stamp < d.ledger.firstStamp then put d 0
  else if stamp = d.ledger.firstStamp then
    let n0 := d.g pgLEDGER R.LEDGER_FIRST_SRC
    let both := 224 ≤ n ∧ n < 288 ∧ 224 ≤ n0 ∧ n0 < 288
    let wins := if both then det < d.g pgLEDGER R.LEDGER_FIRST_DETAIL else n < n0
    if wins then put d 1 else d.s pgLEDGER R.LEDGER_FIRST_TIE 1
  else d

/-- What every raise does before its reaction (R572, R579): STATUS, COUNT, LIVE of a condition source, FORCED, LAST, FIRST. -/
def Dev.recordRaise (d : Dev) (n stamp detail : Nat) (forced : Bool) : Dev :=
  let c := Reaction.ofCode (d.g pgLEDGER R.LEDGER_SRC_CLASS n)
  let d := d.s pgLEDGER R.LEDGER_SRC_STATUS 1 n
  let d := d.inc pgLEDGER R.LEDGER_SRC_COUNT n
  let d := d.s pgLEDGER R.LEDGER_SRC_FORCED (if forced then 1 else 0) n
  let d := if conditionSource n ∧ !forced then d.s pgLEDGER R.LEDGER_SRC_LIVE 1 n else d
  let d := (d.s pgLEDGER R.LEDGER_LAST_SRC n).s pgLEDGER R.LEDGER_LAST_T_T (stamp % 4294967296)
  let d := d.firstRecord n stamp detail
  { d with ledger := { d.ledger with classAt := (n, c) :: d.ledger.classAt.filter (·.1 != n)
                                     raisedAt := (n, d.now) :: d.ledger.raisedAt.filter (·.1 != n) } }

/-- The cause of a condition source has gone. -/
def Dev.endCause (d : Dev) (n : Nat) : Dev := d.s pgLEDGER R.LEDGER_SRC_LIVE 0 n

/-- The causes of several condition sources have gone. -/
def Dev.endCauses (d : Dev) (ns : List Nat) : Dev := { d with regs := (ns.foldl Dev.endCause d).regs }

/-- Every HOLD cause is cleared (R90): no HOLD_DEVICE source is uncleared, and no axis keeps one. -/
def Dev.causeOpen (d : Dev) (x : Fin 2) : Bool :=
  let c := d.axes[x].causes
  c.sources.any d.uncl || c.sto || (c.cmdTimeout && d.uncl (169 + 16 * x.val)) || d.anyUncleared .holdDevice

/-- As `Dev.causeOpen`, over the device. -/
def Dev.holdCauses (d : Dev) : Bool :=
  d.anyUncleared .holdDevice || [(0 : Fin 2), 1].any fun x => d.axState x == .hold && d.causeOpen x

/-- The DC-link readings of the available control dies, in volts. -/
def Dev.dcReadings (d : Dev) : List Nat :=
  [Lane.a, Lane.b].filterMap fun l => if d.up (.ctl l) then (d.prot.at l).volt else none

/-- Every available DC-link reading is below 60 V. -/
def Dev.dcDead (d : Dev) : Bool := d.dcReadings.all (· < 60)

/-- What an always-on domain keeps of a register word across DORMANT and WATCH (R666), 0 for nothing. Channels with SEL 1 or 2
count in WATCH while CFG.WATCH_CNT = 1; SPDQ wakes at standstill (R213). -/
def Dev.kept (d : Dev) (l : Lane) (a : Nat) (w : Word) : Option Word :=
  let p := a / 0x1000
  let o := a % 0x1000
  if p = pgSYS ∧ 0x50 ≤ o ∧ o ≤ 0x5C then some w
  else if p = pgPWR ∧ o = 0x44 then some w
  else if p = pgCLK ∧ (o = 0x40 ∨ o = 0x48 ∨ o = 0x4C) then some w
  else if p = pgTEMP ∧ 0x4C ≤ o ∧ o ≤ 0x58 then some w
  else if p = pgPOS l ∧ (d.mode.cur = .dormant ∨ d.mode.cur = .watch) then
    if d.gl l p R.POS_CFG_WATCH_CNT = 0 then none
    else if o = 0x40 then some w
    else if o < 0x50 ∨ 0x2F0 ≤ o then none
    else
      let c := (o - 0x50) / 0xA8
      let sel := R.POS_SRC0_SEL.get (d.word l (pageAddr p (0x50 + 0xA8 * c)))
      let q := (o - 0x50) % 0xA8
      if sel ≠ 1 ∧ sel ≠ 2 then none
      else if q ≤ 8 ∨ q = 0x14 ∨ q = 0x18 ∨ q = 0x2C ∨ q = 0x30 then some w
      else if q = 0x3C then some ((w &&& 0x000A0000#32) ||| 0x00800000#32)
      else none
  else none

/-- Reset a die of a lane: its register copies go, its links fall, and what its blocks hold starts anew. `aon` is true when
the always-on domain keeps what R666 names. -/
def Dev.dropRegs (d : Dev) (l : Lane) (onInterface : Bool) (aon : Bool) : Dev :=
  let keep := fun (kw : Nat × Word) =>
    if keyOn l onInterface kw.1 then
      if aon ∧ onInterface then (d.kept l (kw.1 % 0x1000000) kw.2).map fun w => (kw.1, w) else none
    else some kw
  { d with
    regs := d.regs.filterMap keep |>.filter fun kw => kw.2 != keyReset kw.1
    staged := d.staged.filter fun kw => !keyOn l onInterface kw.1
    frozen := d.frozen.filter fun kw => !keyOn l onInterface kw.1 }
where
  /-- Reset value of a cell. -/
  keyReset (k : Nat) : Word := addrReset (k % 0x1000000)

/-- The receivers that sit on a die of lane `l` (its interface die, or its control die). -/
def rxOn (l : Lane) (onInterface : Bool) : List LinkRx :=
  if onInterface then [.ifaceCross l, .isoData l false, .isoTime l false]
  else [.ctlCross l, .isoData l true, .isoTime l true] ++ (List.finRange 8).map fun k => .drvMaster l k

/-- Put receivers back to their state at reset. -/
def Dev.clearLinks (d : Dev) (l : List LinkRx) : Dev := l.foldl (fun d k => d.onLink k fun _ => {}) d

/-- What the mirrored blocks of the interface dies hold together falls with the last of them; `aon` is true when an always-on domain
stands, which keeps the retry of R601. -/
def Dev.dropShared (d : Dev) (aon : Bool) : Dev :=
  { d with ledger := {}, ruling := {}, time := {}, tinker := { sweptAt := d.now }, sensors := Vector.replicate 20 {}, res := {}
           thermal := if aon then { since := d.thermal.since, retry := d.thermal.retry } else {}
           boot := { (({} : BootState)) with run := d.boot.run } }

/-- An install in progress is cut short (R600, R618): its bank stays EMPTY. -/
def Dev.installCut (d : Dev) : Dev :=
  let st := d.g pgNVM R.NVM_UPDSTAT_STATE
  if 1 ≤ st ∧ st ≤ 4 then d.s pgNVM R.NVM_UPDSTAT_STATE 0 else d

/-- The identities whose holder sits on a die (R130, R131, R636): the ports of an interface die (R56) with its island firmware, DEBUG,
which is on both and falls to SENSOR with either (R134), or a lane's firmware. -/
def dieHolders (l : Lane) (onInterface : Bool) : List Nat :=
  match l, onInterface with
  | .a, true => [0, 1, 3, 4, 7, 9, 50]
  | .b, true => [1, 2, 5, 6, 8, 51]
  | .a, false => [48]
  | .b, false => [49]

/-- The page claims and resource claims of some identities end (R131, R636). -/
def Dev.releaseHolders (d : Dev) (gone : Nat → Bool) : Dev :=
  let own := fun (w : Word) (i : Nat) => w.toNat / 256 ^ i % 256
  { d with regs := d.regs.filterMap fun kw =>
      let a := kw.1 % 0x1000000
      if a < 0x2D000 ∧ a % 0x1000 = 0x28 then (if gone (kw.2.toNat % 64) then none else some kw)
      else if 0x2C080 ≤ a ∧ a < 0x2C120 then
        let b := fun (i : Nat) => if gone (own kw.2 i) then 255 else own kw.2 i
        let w := BitVec.ofNat 32 (b 0 + 256 * b 1 + 65536 * b 2 + 16777216 * b 3)
        if w = 0xFFFFFFFF#32 then none else some (kw.1, w)
      else some kw }

/-- The port classes of an interface die's ports, LINKA_RELAY with die A, and the DEBUG class return to their reset values when the
die resets (R134, R136). -/
def Dev.classesReset (d : Dev) (l : Lane) : Dev :=
  let d := { d with host := { d.host with debugOwner := false } }
  if !d.up (.iface l.other) then d
  else
    let a := pageAddr pgHOST 0x4C
    let m : Word := match l with | .a => 0x000CC3C3#32 | .b => 0x00033C30#32
    let d := d.setWord l.other a ((d.word l.other a &&& ~~~m) ||| (addrReset a &&& m))
    if l = .a then d.sl l.other pgHOST R.HOST_CFG_LINKA_RELAY 1 else d

/-- An input of a pair keeps its previous value, since its copies disagree (R436). -/
def Dev.inputHeld (d : Dev) (l : Lane) (island : Bool) (x : PairInput) : Bool := (d.lanes.at l).disagree.any (·.1 == (island, x))

/-- A held change that a later one of the same kind replaces: the level of one land. -/
def HeldChange.replaces : HeldChange → HeldChange → Bool
  | .sto c _, .sto e _ => c == e
  | .sdi n c _, .sdi m e _ => n == m && c == e
  | .hvil _, .hvil _ => true
  | _, _ => false

/-- What comes over an input on which a pair's copies disagree waits until they agree (R436). -/
def Dev.holdChange (d : Dev) (l : Lane) (island : Bool) (x : PairInput) (c : HeldChange) : Dev :=
  d.onLane l fun s => { s with heldIn := s.heldIn.filter (fun h => h.1 != (island, x) || !c.replaces h.2) ++ [((island, x), c)] }

/-- An event that reaches a pair over one of its inputs: it has its effect, or waits while the copies disagree on the input (R436, R437). -/
def Dev.viaInput (d : Dev) (l : Lane) (island : Bool) (x : PairInput) (c : HeldChange) (run : Dev → Dev) : Dev :=
  if d.inputHeld l island x then d.holdChange l island x c else run d

/-- A debug action reads a memory, which DEBUG can in every mode (R319, R441). -/
def readsMem : DebugAct → Bool
  | .readMem _ _ => true
  | _ => false

/-- An unlocked DEBUG port reaches the pairs of a control die (R440, R79): VIO holds the lands. -/
def Dev.debugReaches (d : Dev) (l : Lane) : Bool :=
  d.host.debugOwner && d.power.vioLevel.isSome && d.up (.ctl l)

/-- What a position unit keeps when its interface die resets: the levels of its lands, and the records at the control die. -/
def PosUnit.ofLands (p : PosUnit) : PosUnit :=
  { ctlRecs := p.ctlRecs, lvA := p.lvA, lvB := p.lvB, lvZ := p.lvZ, hall := p.hall, watchCh := p.watchCh, watchLost := p.watchLost }

/-- SEL of a position channel. -/
def Dev.chSel (d : Dev) (u : Lane) (c : Fin 4) : Nat := R.POS_SRC0_SEL.get (d.word u (pageAddr (pgPOS u) (0x50 + 0xA8 * c.val)))

/-- The channel of a unit that counts in WATCH (R213): with SEL 1 or 2, while CFG.WATCH_CNT is 1. -/
def Dev.watchChan (d : Dev) (l : Lane) : Option (Fin 4) :=
  if d.gl l (pgPOS l) R.POS_CFG_WATCH_CNT = 0 then none
  else (List.finRange 4).find? fun c => d.chSel l c == 1 || d.chSel l c == 2

/-- The condition sources whose condition is state of the blocks of a die (R572): channels, islands, CAN controllers, link node and Ethernet
of an interface die, trips and SYNC of a control die. Their causes go with the die's reset. -/
def dieConds (l : Lane) (onInterface : Bool) : List Nat :=
  if onInterface then
    [136, 137, 138, 139].map (· + 4 * l.idx) ++ [290, 292, 293, 294, 302, 303].map (· + 16 * l.idx) ++
      [320, 321, 324, 325].map (· + 8 * l.idx) ++ [336 + 5 * l.idx] ++ (if l = .a then [346] else [])
  else [192, 193, 194, 202].map (· + 16 * l.idx)

/-- Reset a lane's interface die's fast domain, or its control die (R77, R98): registers, links and what its blocks hold. -/
def Dev.resetDie (d : Dev) (l : Lane) (onInterface : Bool) (aon : Bool) : Dev :=
  let d := if onInterface then
      let d := d.installCut.classesReset l
      { d with power := { d.power with returned := d.power.returned.put l (d.power.returned.at l || d.up (.iface l.other)) } }
    else d
  let d := d.releaseHolders fun i => (dieHolders l onInterface).contains i
  let d := (d.dropRegs l onInterface aon).clearLinks (rxOn l onInterface)
  let d := { d with commitPending := d.commitPending.filter fun c => pageOnInterface c.1 != onInterface || (d.copies c.1).length > 1 }
  let d := if onInterface ∨ d.up (.ctl l.other) then d else { d with gateSent := 0 }
  let d := d.onLane l fun s => { s with disagree := s.disagree.filter (·.1.1 != onInterface), heldIn := s.heldIn.filter (·.1.1 != onInterface) }
  let d := d.endCauses (dieConds l onInterface)
  if onInterface then
    let d := { d with
      slay := d.slay.put l {}
      rig := d.rig.put l {}
      can := if l = Lane.a then (d.can.set 0 {}).set 1 {} else (d.can.set 2 {}).set 3 {}
      eth := if l = Lane.a then {} else d.eth
      boot := { d.boot with run := d.boot.run.put l none } }
    let d := if d.up (.iface l.other) then d else d.dropShared (aon || d.power.aonRunning.at l.other)
    { d with islands := d.islands.put l {}
             pos := d.pos.put l (d.pos.at l).ofLands
             host := { (if l = .a then { d.host with lastAlive := none, request := none, result := none, ralive := 0 } else d.host) with
                       opened := d.host.opened.put l false } }
  else
    let d := { d with mods := d.mods.put l {}, prot := d.prot.put l {}, meas := d.meas.put l {},
                      pos := d.pos.put l { d.pos.at l with ctlRecs := Vector.replicate 8 {} }
                      field1 := d.field1.put l {}, field2 := d.field2.put l {}, quill := d.quill.put l {},
                      shadows := d.shadows.put l {} }
    let d := { d with host := { d.host with proxy := d.host.proxy.put l none, proxyHeld := d.host.proxyHeld.put l [] } }
    d.onLane l fun s => { ({} : LaneState) with failedAt := s.failedAt, role := if s.role = .failed then .failed else .down }

/-- A lane's main clock stops (R84, R86): the accumulator takes device time with fraction 0, the PLLs lose their lock, and the
reference is chosen anew at the next power-up of the fast domain (R81). -/
def ClockState.stop (c : ClockState) (now : Nat) : ClockState :=
  { c with main := false, acc := if c.main then now * 128 else c.acc, pllI := false, pllC := false, refMade := false, refXtal := false
           ctlOnRc := false }

/-- The fast domains stop on the entry to DORMANT or WATCH (R666): every die but the driver dies loses its register contents
but for what the always-on domains keep, the main clocks stop, and the lanes go down. -/
def Dev.fastDown (d : Dev) : Dev :=
  let d := d.eachLane fun d l =>
    if d.up (.iface l) then { d with pos := d.pos.put l { d.pos.at l with watchCh := d.watchChan l, watchLost := false } } else d
  let d := d.eachLane fun d l => ((d.resetDie l true true).resetDie l false true).onLane l fun _ => {}
  let d := d.dropShared true
  { d with mode := { d.mode with superArmed := false }
           power := { d.power with running := d.power.running.filter (fun x => match x with | .drv _ => true | _ => false), returned := { a := false, b := false } }
           clocks := { a := d.clocks.a.stop d.now, b := d.clocks.b.stop d.now }
           handover := none
           axes := Vector.replicate 2 {}
           motion := Vector.replicate 2 {} }

/-- Turn an output of the protection logic on or off: CH or DS of a lane's modulator, as protective edges (R419, R423). CH takes the set
that PSEL names, where 2 acts as 0; DS, a discharge, takes set 0 (R397). -/
def Dev.protEdge (d : Dev) (l : Lane) (o : OutIx) (on : Bool) : Dev :=
  d.queueEdge l { out := o, level := on, pset := o == 12 && d.gl l pgGATE R.GATE_PSEL_P / 4 ^ 12 % 4 == 1, due := d.now + 24, dueF := 0 }

/-- An axis that is neither in OFF nor in HOLD enters HOLD (rows 1 and 2 of R273); the cause is added, in HOLD too. Motion
follows R345, the pulses end, and the speed rule's ASC waits for its start; the flag says that a bridge has no side for it. -/
def Dev.holdAxis (d : Dev) (x : Fin 2) (c : HoldCauses → HoldCauses) : Dev × Bool :=
  if d.axState x = .off then (d, false)
  else
    let d := d.onAxis x fun s => { s with causes := c s.causes }
    if d.axState x = .hold then (d, false)
    else
      let d := (d.motionHold x).pulsesOff x
      let d := d.onAxis x fun s => { s with stopping := false, cmdStage := 0, starts := false, released := s.released && s.catchWin.isSome }
      let d := d.setAx x .hold
      if d.g (pgFIELD x) R.FIELD_STATE_RULE ≠ 0 then d.wantAsc x else (d, false)

/-- The speed rule gives ASC for an axis in OFF (R93, R94): ASC is protective switching in READY, HOLD and DISCHARGE, once it is armed
(R105). -/
def Dev.offAsc (d : Dev) (x : Fin 2) : Bool :=
  d.axState x == .off && d.axisExists x && (d.g (pgFIELD x) R.FIELD_AXCFG_EN == 1 || d.supervisor) &&
  d.g (pgFIELD x) R.FIELD_STATE_RULE != 0 && d.modeIs [.ready, .hold, .discharge] && d.protLive

/-- Axes in OFF are placed in ASC where the speed rule gives it; the flag is that of `Dev.wantAsc`. -/
def Dev.offRule (d : Dev) : Dev × Bool :=
  let r := if d.offAsc 0 then d.wantAsc 0 else (d, false)
  let q := if r.1.offAsc 1 then r.1.wantAsc 1 else (r.1, false)
  (q.1, r.2 || q.2)

/-- The control die of a lane starts up its driver links that are down (R94, R411); a die without supply does not answer. -/
def Dev.linksPower (d : Dev) (l : Lane) (ks : List DieIx) : Dev :=
  if !d.up (.ctl l) ∨ (d.lanes.at l).silent then d
  else ks.foldl (fun d k =>
    if !(d.link (.drvMaster l k)).live then
      d.onMaster l k fun m => { m with startAt := some (m.startAt.getD d.now) } else d) d

/-! ## Chopper level (R419) -/

/-- Change one lane's protection logic. -/
def Dev.onProt (d : Dev) (l : Lane) (f : ProtUnit → ProtUnit) : Dev := { d with prot := d.prot.put l (f (d.prot.at l)) }

/-- CH goes off at a tick: its on interval counts for the energy estimate (R420). -/
def ProtUnit.chGoesOff (p : ProtUnit) (now : Nat) : ProtUnit :=
  { p with chOn := false, chAt := now, chHeld := none, chOffAt := now, chTicks := p.chTicks + (now - max p.chAt p.chFrom) }

/-- Switch the chopper of a lane's decision: an edge of CH, at most one each 2 µs; an earlier decision waits (R419). -/
def Dev.chSet (d : Dev) (l : Lane) (on : Bool) : Dev :=
  let p := d.prot.at l
  if p.chOn = on then d.onProt l fun p => { p with chHeld := none }
  else if d.now < p.chAt + 1000 then d.onProt l fun p => { p with chHeld := some on }
  else
    let d := d.onProt l fun p => if on then { p with chOn := true, chAt := d.now, chHeld := none } else p.chGoesOff d.now
    let d := d.protEdge l 12 on
    if on then d.cause pgPROT 2 else d

/-- CH turns off softly at its driver die (R405): no lane's protection logic drives it any more, and its decisions start anew. -/
def Dev.chopCut (d : Dev) : Dev := d.eachLane fun d l => if (d.prot.at l).chOn then d.onProt l (·.chGoesOff d.now) else d

/-- The axes at the entry to HOLD or DISCHARGE: in HOLD, or in ASC where an axis in OFF needs it (R93, R94, R273). -/
def Dev.holdEntry (d : Dev) : Dev × Bool :=
  let (d, b0) := d.holdAxis 0 fun c => { c with device := true }
  let (d, b1) := d.holdAxis 1 fun c => { c with device := true }
  let (d, b2) := d.offRule
  (d, b0 || b1 || b2)

/-- Take the device into a mode (R88): PREV, the cause bit, an abandoned request (R92), and what the entry does: the chopper and ASC off
outside their modes (R8, R94, R419), the fast domains of DORMANT and WATCH, the driver links and the axes in HOLD and in DISCHARGE
(R93, R94), ASC in READY, which arms the blank supervisor (R105), DS in the resistor method, which the entry takes (R422, R423). The
flag says that a bridge has no side for ASC. DESIGN CHOICE (log 114): on entry to DISCHARGE the axes that are not in OFF go to axis
state HOLD, which R93's "placed in ASC or off under the speed rule" leaves open and R273's table does not list. -/
def Dev.enterMode (d : Dev) (m : Mode) (automatic : Bool) : Dev × Bool :=
  if d.mode.cur = m then (d, false)
  else
    let old := d.mode.cur
    let preempt := automatic && d.mode.pendingReq.isSome
    let d := { d with mode := { d.mode with cur := m, prev := old, pendingReq := none, wakeCycles := 0 } }
    let d := d.cause pgSYS 0
    let d := if preempt then (d.s pgSYS R.SYS_MODE_REFUSE 13).cause pgSYS 1 else d
    let d := if old = .discharge ∧ (d.mode.method = 0 ∨ d.mode.method = 2) then
        d.eachLane fun d l => if d.up (.ctl l) then d.protEdge l 13 false else d
      else d
    let d := if old = .run ∨ old = .discharge then d.eachAxis Dev.pulsesOff else d
    let d := { d with mode := { d.mode with superArmed := d.mode.superArmed || m == .ready } }
    let d := if d.protLive then d else (d.eachLane fun d l => d.chSet l false).ascOff
    match m with
    | .hold => (d.eachLane fun d l => d.linksPower l (List.finRange 8)).holdEntry
    | .ready => d.offRule
    | .discharge =>
      let (d, b) := d.holdEntry
      let d := { d with mode := { d.mode with dischargeAt := d.now, method := if d.protLive then d.g pgPROT R.PROT_DISCH_METHOD else 3 } }
      let d := if d.mode.method = 0 ∨ d.mode.method = 2 then
          d.eachLane fun d l => if d.up (.ctl l) then d.protEdge l 13 true else d
        else d
      (d, b)
    | .dormant => (d.fastDown, false)
    | .watch => (d.fastDown, false)
    | _ => (d, false)

/-- HVIL demands DISCHARGE (row 3 of R92). -/
def Dev.hvilTrip (d : Dev) : Bool := d.mode.hvilOpen && d.g pgSYS R.SYS_CONFIG_DISCH_ON_HVIL == 1

/-- A DC-link reading stands above the towing protection level (row 4 of R92). -/
def Dev.towing (d : Dev) : Bool := d.dcReadings.any (d.g pgPROT R.PROT_OV2_TOW_V < ·)

/-- The automatic transition that stands open in the present mode (rows 3 to 5 of R92), taken once; rows 1, 2 and 6 act where
their triggers arise. While a thermal shutdown waits for DORMANT, row 1 comes before every other one. -/
def Dev.autoMode (d : Dev) : Dev × Bool :=
  if d.thermal.active ∨ !(d.lanes.a.up || d.lanes.b.up) then (d, false)
  else if d.hvilTrip ∧ d.modeIs [.standby, .ready, .run, .hold, .maintenance] then d.enterMode .discharge true
  else if d.towing ∧ d.modeIs [.standby, .maintenance] then d.enterMode .hold true
  else if d.modeIs [.discharge] ∧ d.dcDead ∧ !d.hvilTrip then
    let (d, b) := d.enterMode (if d.holdCauses then .hold else .standby) true
    (d.cause pgPROT 5, b)
  else (d, false)

/-- A lane fails (R435, R450, R456): FAILREC, the role, LANE_FAILED; its silent withdrawal is then due. Answers whether the
lane was not yet failed. -/
def Dev.failLane (d : Dev) (l : Lane) (src kind : Nat) : Dev :=
  if (d.lanes.at l).role = .failed ∨ ((d.lanes.at l).role = .down ∧ kind = 2) then
    d.onLane l fun s => { s with laneSrc := if kind = 2 then s.laneSrc else some src, eligible := false }
  else
    let d := ((d.s pgLANE R.LANE_FAILREC_SRC src l.idx).s pgLANE R.LANE_FAILREC_KIND kind l.idx).s pgLANE R.LANE_FAILREC_VALID 1 l.idx
    let d := d.cause pgLANE 1
    let d := { d with handover := none }
    d.onLane l fun s => { s with role := .failed, eligible := false, failedAt := d.now, withdrawAt := some d.now,
                                 laneSrc := if kind = 1 then some src else s.laneSrc }

/-- An island requests STO for an axis (R473, R478): the axis's safety state becomes STO. `viol` is true where the STO is reached through a
violation or a discrepancy and so needs an acknowledgement. -/
def Dev.islandRequest (d : Dev) (i : Lane) (x : Fin 2) (viol : Bool) : Dev :=
  let was := d.gl i (pgSAFE i) R.SAFE_ASTATE_STATE x
  let d := d.sl i (pgSAFE i) R.SAFE_ASTATE_STATE 4 x
  let d := if was = 4 then d else d.causeL i (pgSAFE i) 1
  let d := d.onSafeAx i x fun s => { s with needAck := s.needAck || viol, acked := if viol then false else s.acked,
                                            byViol := s.byViol || viol, t0 := if was = 4 then s.t0 else d.now }
  let d := if viol then d.sl i (pgSAFE i) R.SAFE_STATE_ACKPEND 1 else d
  let d := d.sl i (pgSAFE i) R.SAFE_STATE_INTSTO (d.gl i (pgSAFE i) R.SAFE_STATE_INTSTO ||| 2 ^ x.val)
  d.onAxis x fun s => { s with afterSto := true }

/-- A STO request of an island for an axis, which enters HOLD (R474). -/
def Dev.islandSto (d : Dev) (i : Lane) (x : Fin 2) (viol : Bool) : Dev × Bool :=
  (d.islandRequest i x viol).holdAxis x fun c => { c with sto := true }

/-- A raise of source `n` (R572): nothing for a source no chapter assigns. The reaction of its class (R574) may itself raise
sources (LANE_ALONE, UNCONTROLLED_GENERATION); `fuel` bounds that chain, which the sources' number bounds. An event that only the
standby lane sees changes no axis state itself (R445): HOLD_DEVICE then acts through the device mode alone, and CUT through the islands'
requests alone. -/
def Dev.raiseN : Nat → Dev → Nat → Nat → Nat → Bool → Dev
  | 0, d, _, _, _, _ => d
  | fuel + 1, d, n, stamp, detail, forced =>
    if (srcDefault n).isNone then d
    else
      let c := Reaction.ofCode (d.g pgLEDGER R.LEDGER_SRC_CLASS n)
      let d := d.recordRaise n stamp detail forced
      let d := if 1 ≤ c.code then d.s pgLEDGER R.LEDGER_RAISED_R
          ((d.g pgLEDGER R.LEDGER_RAISED_R (n / 32)) ||| 2 ^ (n % 32)) (n / 32) else d
      let unc := fun (r : Dev × Bool) => if r.2 then
        (if r.1.g pgLEDGER R.LEDGER_SRC_LIVE 286 = 1 then r.1.cause pgPROT 4 else raiseN fuel (r.1.cause pgPROT 4) 286 stamp 0 false) else r.1
      let mode := fun (d : Dev) => if d.modeIs [.ready, .run] ∧ !d.thermal.active then unc (d.enterMode .hold true) else d
      let device := fun (d : Dev) => mode (d.eachAxis fun d x => unc (d.holdAxis x fun k => { k with device := true }))
      let quiet := !forced && d.standbyEvent n detail
      match c with
      | .log => d
      | .call => d
      | .holdAxis =>
        if quiet ∨ (7 ≤ detail ∧ 272 ≤ n ∧ n < 288) then d
        else
          match d.srcAxes n detail with
          | some xs => xs.foldl (fun d x => unc (d.holdAxis x fun k => { k with sources := n :: k.sources.filter (· != n) })) d
          | none => d.eachAxis fun d x =>
              if d.g (pgFIELD x) R.FIELD_AXCFG_EN = 1 then
                unc (d.holdAxis x fun k => { k with sources := n :: k.sources.filter (· != n) })
              else d
      | .stop => if quiet then d else d.eachAxis fun d x => d.axisStop x (d.g (pgFIELD x) R.FIELD_CMDTO_TRAMP)
      | .holdDevice => if quiet then mode d else device d
      | .cut => d.eachLane fun d i => if d.up (.iface i) ∧ (d.islands.at i).inService then
            d.eachAxis fun d x =>
              let d := d.onSafeAx i x fun s => { s with cut := n :: s.cut.filter (· != n) }
              if quiet then d.islandRequest i x true else unc (d.islandSto i x true)
          else d
      | .lane =>
        match d.srcLane n detail with
        | none => device d
        | some l =>
          let isoLost := n = 39 ∨ n = 55
          let otherStands := (d.lanes.at l.other).role = .standby ∧
            ((d.link (.isoData l.other true)).live ∨ (d.link (.isoTime l.other true)).live)
          if isoLost ∧ !otherStands then d.onLane l fun s => { s with laneSrc := some n, eligible := false }
          else
            let was := (d.lanes.at l).role
            let d := d.failLane l n (if isoLost then 3 else 1)
            if was = .failed ∨ was = .down then d
            else if (d.lanes.at l.other).role = .active ∨ (d.lanes.at l.other).role = .standby then
              raiseN fuel d (44 + 16 * l.other.idx) stamp 0 false
            else d

/-- A raise now, or with an older stamp (R573). -/
def Dev.raiseAt (d : Dev) (n stamp detail : Nat) : Dev := d.raiseN 4 n stamp detail false

/-- A raise of a source whose number does not tell the die that raised it (R435). -/
def Dev.raiseBy (d : Dev) (l : Lane) (n : Nat) : Dev := d.raiseAt n d.now (l.idx + 1)

/-- A raise stamped with the present tick and without a leg. -/
def Dev.raise (d : Dev) (n : Nat) : Dev := d.raiseAt n d.now 0

/-- A change of a condition source's cause from absent to present is a raise; while the cause stands it is none (R572). -/
def Dev.raiseCond (d : Dev) (n : Nat) : Dev :=
  if d.g pgLEDGER R.LEDGER_SRC_LIVE n = 1 then d else d.raise n

/-- `Dev.raiseCond` with an older stamp (R573). -/
def Dev.raiseCondAt (d : Dev) (n stamp : Nat) : Dev :=
  if d.g pgLEDGER R.LEDGER_SRC_LIVE n = 1 then d else d.raiseAt n stamp 0

/-- UNCONTROLLED_GENERATION where an operation reports a bridge without a side for ASC (R417). -/
def Dev.noSide (r : Dev × Bool) : Dev := if r.2 then (r.1.cause pgPROT 4).raiseCond 286 else r.1

/-- `Dev.holdAxis` with R417. -/
def Dev.hold (d : Dev) (x : Fin 2) (c : HoldCauses → HoldCauses) : Dev := Dev.noSide (d.holdAxis x c)

/-- `Dev.enterMode` with R417, and the automatic transitions that the new mode meets (R92). -/
def Dev.goMode (d : Dev) (m : Mode) (automatic : Bool) : Dev :=
  Dev.noSide ((Dev.noSide (d.enterMode m automatic)).autoMode)

/-- The automatic transitions of R92 as the triggers stand now. -/
def Dev.auto (d : Dev) : Dev := Dev.noSide d.autoMode

/-- An interface die holds FAULT_N low (R59, R580): by its copy of Ledger, a source with PIN = 1 is uncleared. -/
def Dev.faultDrives (d : Dev) (l : Lane) : Bool :=
  d.up (.iface l) && d.gl l pgLEDGER R.LEDGER_CFG_FAULTN_EN == 1 &&
  (List.range 384).any fun n => d.gl l pgLEDGER R.LEDGER_SRC_STATUS n == 1 && d.gl l pgLEDGER R.LEDGER_SRC_PIN n == 1

/-- FAULT_N is low: some interface die holds it (R59). -/
def Dev.faultN (d : Dev) : Bool := d.faultDrives .a || d.faultDrives .b

end Sys2Proof.Machine
end

