-- ==== Sys2Proof/Machine/Links.lean ====
section
/-! DEFINITION. Internal links and driver dies (chapters 01 and 11): frames, loss and start-up of a link, roles and fallback
states at a driver die, edge messages, priority and STO symbols, gate edges, detections and monitors of an output. -/

namespace Sys2Proof.Machine

/-! ## Outputs -/

/-- The leg number a source of a driver die carries for an output: 1 to 6, 7 for CH (R418, R579). DS has none: 8 tells it apart (R430),
and DETAIL shows 0. -/
def outDetail (o : OutIx) : Nat :=
  if o.val < 6 then o.val + 1 else if o.val < 12 then o.val - 5 else if o.val = 12 then 7 else 8

/-- The Ledger source k of the driver die of an output (R430). -/
def outSrc (o : OutIx) (k : Nat) : Nat := 224 + 8 * (outDie o).val + k

/-- The profile word of an edge in an applied configuration: ON or OFF of its set. -/
def profileFld (on pset : Bool) (on0 on1 off0 off1 : Fld) : Fld :=
  match on, pset with
  | true, false => on0 | true, true => on1 | false, false => off0 | false, true => off1

/-- The index of the adaptation state of a direction and set: ON0, OFF0, ON1, OFF1 (R400). -/
def adaptIx (on pset : Bool) : Nat := (if pset then 2 else 0) + (if on then 0 else 1)

/-- A list with one entry replaced. -/
def setAt {α : Type} (l : List α) (i : Nat) (v : α) : List α := l.set i v

/-- An STO channel or symbol removes the drive of an output of die `k` (R40, R469, R473): any live port reports the channel,
or no port is live. CH and DS are never named. A low side that the last fallback state marks ASC with the STO-ASC flag may
stay on. -/
def Dev.stoRemoved (d : Dev) (o : OutIx) : Bool :=
  let k := outDie o
  let s := d.dies[k]
  let la := (d.link (.drvDie .a k)).live
  let lb := (d.link (.drvDie .b k)).live
  let n := outNum o
  let chan := fun (f : DiePort → Bool) => (la && f s.ports.a) || (lb && f s.ports.b) || (!la && !lb)
  let named := (la && s.ports.a.stoSym.getD n false) || (lb && s.ports.b.stoSym.getD n false)
  if (outLeg o).isNone then false
  else if outIsHigh o then chan (·.stoA) || named
  else
    let ascMarked := match s.fallback with
      | some f => f.stoAsc && f.fall.getD n .off == .asc
      | none => false
    (chan (·.stoB) || named) && !ascMarked

/-- STO stands at a die (R40, R473): a live port reports a channel or a symbol for the output, or no port is live. -/
def Dev.stoAtDie (d : Dev) (o : OutIx) : Bool :=
  let k := outDie o
  let s := d.dies[k]
  let la := (d.link (.drvDie .a k)).live
  let lb := (d.link (.drvDie .b k)).live
  (la && (s.ports.a.stoA || s.ports.a.stoB)) || (lb && (s.ports.b.stoA || s.ports.b.stoB)) || (!la && !lb) || d.stoNamed o

/-- The output is off (R394, R429): commanded off, with its gate at the off level and no turn-off running. -/
def OutState.isOff (s : OutState) : Bool := !s.on && !s.gateOn && s.phase == .idle && s.soft == .none

/-- Start a soft turn-off of an output (R404, R405) where its gate is not off yet; one that runs goes on unchanged (R406). Of CH, the
chopper's on interval ends. -/
def Dev.softOff (d : Dev) (o : OutIx) : Dev :=
  let s := d.outs[o]
  if s.soft != .none then d
  else if !s.on && s.phase == .idle then d
  else
    let d := if o.val = 12 then d.chopCut else d
    d.onOut o fun s => { s with on := false, gateOn := false, soft := .first, softAt := d.now, phase := .idle, forcedEdge := true }

/-- A turn-on is possible: no latched short, gate-monitor or supply fault, not both halves cut off, not held off by STO, a
configuration applied, and no soft turn-off running (R394, R405, R406, R408, R409, R428). -/
def Dev.mayTurnOn (d : Dev) (o : OutIx) : Bool :=
  let s := d.outs[o]
  s.shortKind.isNone && !s.gmon && !s.supFault && !s.uv && !s.bootUv && !(s.cutA && s.cutB) && !d.stoRemoved o &&
  (d.dies[outDie o]).applied.isSome && s.soft == .none && (d.dies[outDie o]).powered

/-- An output takes a configuration (R400, R407, R427): an adaptation state starts from IPL again where it is the output's first block,
where its ON or OFF register has been written since, and while ADAPT is 0; CLAMP_EN = 0 releases the clamp. -/
def OutState.takeNew (s : OutState) (mine : List Word) : OutState :=
  let adaptive := R.GATE_OCFG_ADAPT.get (mine.getD 0 0) = 1
  let x := fun (i : Nat) (f : Fld) =>
    if s.cfg.isNone ∨ s.wrote.getD i false ∨ !adaptive then 16 * (f.get (mine.getD (i + 1) 0) + 1) else s.adapt.getD i 128
  { s with cfg := some mine, cfgNext := none, wrote := [false, false, false, false]
           clamp := s.clamp && R.GATE_OCFG_CLAMP_EN.get (mine.getD 0 0) == 1
           adapt := [x 0 R.GATE_ON0_IPL, x 1 R.GATE_OFF0_IPL, x 2 R.GATE_ON1_IPL, x 3 R.GATE_OFF1_IPL] }

/-- Start an edge of an output at its instant in fine steps (R376, R395): a turn-on takes a waiting configuration block first (R427) and
releases the clamp (R407). -/
def Dev.startEdge (d : Dev) (o : OutIx) (on pset forced : Bool) (fine : Int) : Dev :=
  d.onOut o fun s =>
    let s := if on then (match s.cfgNext with
      | some c => s.takeNew c
      | none => s) else s
    { s with on := on, gateOn := s.gateOn && on, phase := .p1, phaseOn := on, pset := pset, forcedEdge := forced
             edgeAt := (fine / 32).toNat, edgeFine := fine, clamp := if on then false else s.clamp }

/-- Count a turn-on, force-on or ASC fallback that a die without an applied block discards (R428). -/
def Dev.countDiscard (d : Dev) (k : DieIx) : Dev :=
  if (d.dies[k]).applied.isNone then d.onDie k fun s => { s with discard := satInc 0xFFFF s.discard } else d

/-- Drive an output to a forced level (R379, R381): off is a soft turn-off; on runs a turn-on with set 0 where it may. -/
def Dev.forceOut (d : Dev) (o : OutIx) (on : Bool) : Dev :=
  let d := d.onOut o fun s => { s with force := some on, forceEnd := none, lastForce := some on }
  if on then
    if (d.outs[o]).on then d
    else if d.mayTurnOn o then d.startEdge o true false true (d.now * 32 : Nat)
    else (d.countDiscard (outDie o)).onOut o fun s => { s with force := some false }
  else d.softOff o

/-- A forcing of an output ends (R380, R383): HOLD_LAST_SAFE finds no force state any more (R35). -/
def Dev.forceEnds (d : Dev) (o : OutIx) : Dev := d.onOut o fun s => { s with force := none, forceEnd := none, lastForce := none }

/-- What a standing fallback state asks of an output of a die without an active port (R35, R39, R40, R428): at its start, where a turn-on
that the die discards is counted, and as long as it stands. No high side stays on for ASC during STO, whichever channel it is (R40). -/
def Dev.fallOut (d : Dev) (o : OutIx) (starts : Bool) : Dev :=
  let k := outDie o
  let s := d.outs[o]
  let ask := match (d.dies[k]).fallback with
    | some f => f.fall.getD (outNum o) .off
    | none => .off
  let removed := d.stoRemoved o
  let barred := removed || ((outLeg o).isSome && outIsHigh o && d.stoAtDie o)
  match ask with
  | .asc =>
    if barred then d.softOff o
    else if s.on then d
    else if d.mayTurnOn o then d.startEdge o true false true (d.now * 32 : Nat)
    else if starts then d.countDiscard k else d
  | .holdLastSafe =>
    if removed ∨ s.lastForce ≠ some true ∨ !s.on then d.softOff o else d
  | .off => d.softOff o

/-- A die without an active port applies its fallback state (R39). -/
def Dev.fallback (d : Dev) (k : DieIx) : Dev :=
  let d := d.onDie k fun s => { s with activePort := none, inFallback := true }
  (dieOuts k).foldl (fun d o => d.fallOut o true) d

/-- The fallback states that stand go on (R39): an output that could not take its level yet takes it once it may. -/
def Dev.fallbackStands (d : Dev) : Dev :=
  (List.finRange 8).foldl (fun d k =>
    if (d.dies[k]).inFallback then (dieOuts k).foldl (fun d o => d.fallOut o false) d else d) d

/-- Apply the STO removal to a die's outputs: every turn-off it causes is soft (R40, R405). -/
def Dev.applySto (d : Dev) (k : DieIx) : Dev :=
  (dieOuts k).foldl (fun d o => if d.stoRemoved o then d.softOff o else d) d

/-- Make a port of a die active (R37 to R39, R454). Its held edges that are due from now on count; the fallback state becomes that
port's with its next frame. -/
def Dev.makeActive (d : Dev) (k : DieIx) (l : Lane) : Dev :=
  let was := (d.dies[k]).activePort
  let d := d.onDie k fun s => { s with activePort := some l, everActive := true, inFallback := false }
  if was = some l then d
  else
    let d := d.onDie k fun s => { s with ports := s.ports.put l { s.ports.at l with
      held := (s.ports.at l).held.filter fun e => d.now ≤ e.due } }
    (d.onMaster l k fun m => { m with active := true }).onMaster l.other k fun m => { m with active := false }

/-- The live ports of a die that carry ACTIVE, judged under R37: exactly one makes that port active where none is; both raise
ROLE_CONFLICT, reported as PORT_FAULT (R428). -/
def Dev.judgeRoles (d : Dev) (k : DieIx) : Dev :=
  let s := d.dies[k]
  let a := (d.link (.drvDie .a k)).live && s.ports.a.active
  let b := (d.link (.drvDie .b k)).live && s.ports.b.active
  if a ∧ b then
    if s.roleConflict then d else (d.onDie k fun s => { s with roleConflict := true }).raise (231 + 8 * k.val)
  else
    let d := d.onDie k fun s => { s with roleConflict := false }
    match s.activePort with
    | some _ => d
    | none => if a then d.makeActive k .a else if b then d.makeActive k .b else d

/-- Lane `l` designates itself ACTIVE to a driver die (R442): after a silent withdrawal of the other lane only once that die has reported
the lane's port active (R452). -/
def Dev.designates (d : Dev) (l : Lane) (k : DieIx) : Bool := (d.lanes.at l).role == .active && !(d.lanes.at l).standbyTo.contains k

/-- A handover tick that a live port's frames carried is there (R453, R454): the lane that takes over designates ACTIVE from it on, the
other one STANDBY. Without a handover the port has the designation of its lane. -/
def Dev.roleDue (d : Dev) (k : DieIx) (l : Lane) : Dev :=
  match ((d.dies[k]).ports.at l).handover with
  | some h =>
    if h ≤ d.now ∧ (d.link (.drvDie l k)).live then
      let active := match d.handover with
        | some x => x.lane == l
        | none => d.designates l k
      d.onDie k fun s => { s with ports := s.ports.put l { s.ports.at l with active := active, handover := none } }
    else d
  | none => d

/-- A die judges the designations as they apply at this tick, those of both ports together (R454): where its active port stands designated
STANDBY and the other one is live and ACTIVE, the die changes port. -/
def Dev.judgePorts (d : Dev) (k : DieIx) : Dev :=
  let d := (d.roleDue k .a).roleDue k .b
  let s := d.dies[k]
  let d := match s.activePort with
    | some l => if !(s.ports.at l).active ∧ (d.link (.drvDie l.other k)).live ∧ (s.ports.at l.other).active then d.makeActive k l.other else d
    | none => d
  d.judgeRoles k

/-- A port takes the designation that a frame carries (R454). -/
def Dev.designate (d : Dev) (k : DieIx) (l : Lane) (active : Bool) : Dev :=
  (d.onDie k fun s => { s with ports := s.ports.put l { s.ports.at l with active := active } }).judgePorts k

/-- The number of words a driver die's configuration block gives each output: +0x00 to +0x2C (R426, R431). The trims of the die's two
links follow them. -/
def cfgWords : Nat := 12

/-- Seal a block (R426). -/
def sealBlock (ws : List Word) : SealedBlock := ⟨ws, crc32cWords ws⟩

/-- Stage a configuration block at a die's port (R426): one of another length, or whose seal does not fit its words, is discarded (R562).
The check over the words as staged is the one that R427 compares. -/
def Dev.stageBlock (d : Dev) (k : DieIx) (l : Lane) (b : SealedBlock) : Dev :=
  let ws := b.words
  if ws.length = cfgWords * (dieOuts k).length + 2 ∧ b.check = crc32cWords ws then
    d.onDie k fun s => { s with ports := s.ports.put l { s.ports.at l with staged := some ws, stagedAt := d.now } }
  else d.onDie k fun s => { s with cfgRej := satInc 0xFFFF s.cfgRej }

/-- An output takes its part of an applied block (R427): at once while it is not switching, else at its next turn-on. -/
def Dev.takeCfg (d : Dev) (o : OutIx) (ws : List Word) : Dev :=
  let mine := (ws.drop (cfgWords * outNum o)).take cfgWords
  let held := (d.dies[outDie o]).ports.a.held ++ (d.dies[outDie o]).ports.b.held
  d.onOut o fun s =>
    if s.cfg.isSome ∧ (s.on ∨ s.phase != .idle ∨ s.soft != .none ∨ held.any (·.out == o)) then { s with cfgNext := some mine }
    else s.takeNew mine

/-- The block that the control die of lane `l` builds for a driver die (R426): its output registers in offset order, then the link
asymmetry trim of the calibration set. -/
def Dev.buildBlock (d : Dev) (l : Lane) (k : DieIx) : List Word :=
  (dieOuts k).flatMap (fun o => (List.range cfgWords).map fun i => d.word l (pageAddr pgGATE (0x100 + 0x40 * o.val + 4 * i))) ++
    [(d.linkTrim k.val).1, (d.linkTrim k.val).2]

/-- GATE's commits are over once every live die has applied its block: GEN and CONFIG_APPLIED (R427). -/
def Dev.gateCommitDone (d : Dev) : Dev :=
  let waits := (List.finRange 8).any fun k =>
    d.dieLive k && ((d.dies[k]).ports.a.staged.isSome || (d.dies[k]).ports.b.staged.isSome)
  if d.gateSent ≠ 0 ∧ !waits then
    (({ d with gateSent := 0 }).s pgGATE H.GEN ((d.g pgGATE H.GEN + d.gateSent) % 4294967296)).cause pgGATE 8
  else d

/-- The staged block that a driver die may apply (R427): one on which the ports of its live links agree. -/
def Dev.agreedBlock (d : Dev) (k : DieIx) : Option (List Word) :=
  let s := d.dies[k]
  match (d.link (.drvDie .a k)).live, (d.link (.drvDie .b k)).live with
  | true, true => (match s.ports.a.staged, s.ports.b.staged with
      | some x, some y => if crc32cWords x = crc32cWords y then some x else none
      | _, _ => none)
  | true, false => s.ports.a.staged
  | false, true => s.ports.b.staged
  | false, false => none

/-- A driver die applies a block (R427, R428). -/
def Dev.applyBlock (d : Dev) (k : DieIx) (ws : List Word) : Dev :=
  let d := d.onDie k fun s => { s with
    applied := some ws, cfgMismatch := false
    ports := { a := { s.ports.a with staged := none }, b := { s.ports.b with staged := none } } }
  ((dieOuts k).foldl (fun d o => d.takeCfg o ws) d).gateCommitDone

/-- A die judges its staged blocks (R427): it applies one when the blocks of both live ports carry the same CRC, or when only
one port is live. -/
def Dev.judgeBlocks (d : Dev) (k : DieIx) : Dev :=
  match d.agreedBlock k with
  | none => d
  | some ws => d.applyBlock k ws

/-! ## Frames, loss and start-up (R29 to R31) -/

/-- The longest gap between frames of a link in ticks. The control cross-link's is one PWM period, and at most 10 us. -/
def Dev.linkGap (d : Dev) : LinkRx → Nat
  | .ifaceCross _ => 500
  | .ctlCross l => min 5000 (d.mods.at l).tb0.per
  | .isoData _ _ => 500
  | .isoTime _ _ => 500
  | .drvDie _ _ => 32
  | .drvMaster _ _ => 32

/-- The isolated connection of lane `l` stands at its control die (R31). -/
def Dev.isoUp (d : Dev) (l : Lane) : Bool := (d.link (.isoData l true)).live || (d.link (.isoTime l true)).live

/-- A control die that tows (R95): its lane has no role yet. -/
def Dev.towingLane (d : Dev) (l : Lane) : Bool := (d.prot.at l).towAsc && (d.lanes.at l).role == .down

/-- What a towing control die asks of an output (R95): ASC on the low sides where the ASC side rules permit it. -/
def Dev.towFall (d : Dev) (o : OutIx) : Fallback :=
  match outLeg o with
  | some n => if !outIsHigh o && d.sidePermitted (d.legBridge n) false then .asc else .off
  | none => .off

/-- The bootstrap pre-charge runs for a leg (R386): STANDBY is to turn into READY, and the die has not reported the bootstrap valid. A
bootstrap undervoltage does not stop it, a trip and ASC do. -/
def Dev.precharge (d : Dev) (l : Lane) (n : Fin 6) : Bool :=
  let b := d.bridges[d.legBridge n]
  d.bootLeg l n && d.mode.cur == .standby && (match d.mode.pendingReq with | some (3, _, _) => true | _ => false) &&
  !(d.outs[legHigh n]).bootOk && !d.tripForced l n && !b.ascL && !b.ascH

/-- The force state of an output that a lane's frames carry (R380): the commanded level of a forced leg, and a towing die's ASC. -/
def Dev.forceSent (d : Dev) (l : Lane) (o : OutIx) : Option Bool :=
  match outLeg o with
  | none => none
  | some n =>
    if d.towingLane l then some (d.towFall o == .asc)
    else if d.legForced l n && !d.precharge l n then some (legLevel ((d.mods.at l).legs[n]) (outIsHigh o) d.now) else none

/-- The tick at which the forcing of an output ends, once the latch point before it has passed (R383, R416). -/
def Dev.forceOver (d : Dev) (l : Lane) (o : OutIx) : Option Nat :=
  match outLeg o with
  | none => none
  | some n =>
    let x := ((d.mods.at l).legs[n]).next
    if x.release then some x.opens else none

/-- The STO channels that port `l` of a die is given over the path of R40: the levels at the filter of the lane's interface die, or the
blank supervisor's request (R104). Without an isolated connection the control die keeps what it last passed on. -/
def Dev.stoPassed (d : Dev) (k : DieIx) (l : Lane) : Bool × Bool :=
  let p := (d.dies[k]).ports.at l
  if d.isoUp l then (d.supervisor || (d.islands.at l).stoA, d.supervisor || (d.islands.at l).stoB) else (p.stoA, p.stoB)

/-- The island of lane `l` requests STO for an axis (R473, R478). -/
def Dev.axisSto (d : Dev) (l : Lane) (x : Fin 2) : Bool :=
  d.up (.iface l) && (d.islands.at l).inService && d.gl l (pgSAFE l) R.SAFE_ASTATE_STATE x.val == 4

/-- The STO symbol of lane `l`'s island names an output (R473): one of the bridges of an axis for which it requests STO. -/
def Dev.symbolFor (d : Dev) (l : Lane) (o : OutIx) : Bool :=
  match outLeg o with
  | some n => d.axisSto l (d.legAxis n)
  | none => false

/-- The hardware path of R40 acts at a die: a live port takes the STO channels that its lane passes on, and the STO symbol that enters the
path at the filter output (R473). -/
def Dev.stoPath (d : Dev) (k : DieIx) (l : Lane) : Dev :=
  if !(d.link (.drvDie l k)).live ∨ !d.up (.ctl l) ∨ (d.lanes.at l).silent then d
  else
    let c := d.stoPassed k l
    let sym := if d.isoUp l then (dieOuts k).map (d.symbolFor l) else ((d.dies[k]).ports.at l).stoSym
    (d.onDie k fun s => { s with ports := s.ports.put l { s.ports.at l with stoA := c.1, stoB := c.2, stoSym := sym } }).applySto k

/-- An island's internal request stands or ends since a state: its symbol reaches the dies over its own lane (R473). -/
def Dev.symbolsFollow (d0 d : Dev) : Dev :=
  d.eachLane fun d l =>
    if [(0 : Fin 2), 1].all fun x => d0.axisSto l x == d.axisSto l x then d
    else (List.finRange 8).foldl (fun d k => d.stoPath k l) d

/-- What lane `l` puts into a frame to a driver die now (R35, R40, R380, R442, R453). A towing control die designates its port ACTIVE
where the die does not follow the other one. -/
def Dev.frameOf (d : Dev) (l : Lane) (k : DieIx) : DieFrame :=
  let p := d.prot.at l
  let tow := d.towingLane l
  let c := d.stoPassed k l
  { active := d.designates l k || (tow && (d.dies[k]).activePort != some l.other)
    fall := (dieOuts k).map fun o => if tow then d.towFall o else p.fall[o]
    stoAsc := if tow then d.ascSto else p.stoAsc
    stoA := c.1, stoB := c.2
    handover := d.handover.map (·.tick)
    force := (dieOuts k).map (d.forceSent l), ends := (dieOuts k).map (d.forceOver l) }

/-- The copies of device time that a die keeps for its two live ports differ by more than one tick (R34, R376). -/
def Dev.timesApart (d : Dev) (k : DieIx) : Bool :=
  let s := d.dies[k]
  (d.link (.drvDie .a k)).live && (d.link (.drvDie .b k)).live && decide (32 < (s.ports.a.ahead - s.ports.b.ahead).natAbs)

/-- A die compares the times of its live ports (R34, R428). -/
def Dev.judgeTimes (d : Dev) (k : DieIx) : Dev :=
  if d.timesApart k then
    if (d.dies[k]).timeSkew then d else (d.onDie k fun s => { s with timeSkew := true }).raise (231 + 8 * k.val)
  else d.onDie k fun s => { s with timeSkew := false }

/-- What a driver die takes from an accepted frame of port `l` (R34, R35, R37, R39, R40, R376, R380, R383, R453): the frame's time plus
LAT stands `skew` fine steps ahead of device time. -/
def Dev.dieFrame (d : Dev) (k : DieIx) (l : Lane) (f : DieFrame) (skew : Int) : Dev :=
  let d := d.onDie k fun s => { s with ports := s.ports.put l { s.ports.at l with
    stoA := f.stoA, stoB := f.stoB, handover := f.handover, ahead := skew } }
  let d := d.designate k l f.active
  let s := d.dies[k]
  let d := if s.activePort = some l then
      let d := d.onDie k fun s => { s with fallback := some { fall := f.fall, stoAsc := f.stoAsc } }
      (dieOuts k).foldl (fun d o => match f.force.getD (outNum o) none with
        | some on => (if (d.outs[o]).force = some on then d else d.forceOut o on).onOut o fun s => { s with
            forceEnd := f.ends.getD (outNum o) none }
        | none => d.forceEnds o) d
    else d
  (d.applySto k).judgeTimes k

/-- How far a frame's counter lies ahead of the last accepted one, modulo 256 (R29); after a start-up every counter counts as the
next one. -/
def Dev.frameStep (d : Dev) (k : LinkRx) (seq : Nat) : Nat :=
  match (d.link k).lastSeq with
  | none => 1
  | some q => (seq + 256 - q % 256) % 256

/-- The protection logic of a lane learns what a driver die's frames say of its outputs (R412, R446). -/
def Dev.dieSeen (d : Dev) (l : Lane) (k : DieIx) : Dev :=
  d.onProt l fun p => (dieOuts k).foldl (fun (p : ProtUnit) (o : OutIx) => { p with
    shorts := p.shorts.set o (d.outs[o]).shortKind.isSome, adapt := p.adapt.set o (d.outs[o]).adapt }) p

/-- A receiver accepts a frame (R29); a driver die takes what it carries. -/
def Dev.takeFrame (d : Dev) (k : LinkRx) (seq : Nat) (skew : Int) : Dev :=
  let step := d.frameStep k seq
  let d := d.onLink k fun r => { r with lastSeq := some seq, lastAccept := d.now, missing := r.missing + (step - 1) }
  match k with
  | .drvDie l i => d.dieFrame i l (d.frameOf l i) skew
  | .drvMaster l i => d.dieSeen l i
  | _ => d

/-- The die that sends on a link stands and is not silent (R30, R451). -/
def Dev.senderOn (d : Dev) : LinkRx → Bool
  | .ifaceCross l => d.up (.iface l.other)
  | .ctlCross l => d.up (.ctl l.other) && !(d.lanes.at l.other).silent
  | .isoData l c => if c then d.up (.iface l) else d.up (.ctl l) && !(d.lanes.at l).silent
  | .isoTime l c => if c then d.up (.iface l) else d.up (.ctl l) && !(d.lanes.at l).silent
  | .drvDie l _ => d.up (.ctl l) && !(d.lanes.at l).silent
  | .drvMaster _ k => (d.dies[k]).powered

/-- A receiver discards a frame: it counts as an error and as missing (R29). DESIGN CHOICE: it counts as missing at once, and the
value that it leaves out counts again where the next accepted frame's counter skips it. -/
def Dev.dropFrame (d : Dev) (k : LinkRx) : Dev := d.onLink k fun r => { r with errors := r.errors + 1, missing := r.missing + 1 }

/-- A receiver of a live link accepts or discards a frame by its CRC and counter (R29). -/
def Dev.frameReceived (d : Dev) (k : LinkRx) (seq : Nat) (crcOk : Bool) (skew : Int) : Dev :=
  if !(d.link k).live ∨ !d.senderOn k then d
  else if !crcOk ∨ d.frameStep k seq = 0 ∨ 8 < d.frameStep k seq then d.dropFrame k
  else d.takeFrame k seq skew

/-- The pair that a link's frames enter, where they come from an isolated lane or a cross-link (R437): its lane, and whether it is the
island's. -/
def linkPair : LinkRx → Option (Lane × Bool)
  | .ifaceCross l => some (l, true)
  | .ctlCross l => some (l, false)
  | .isoData l c => some (l, !c)
  | .isoTime l c => some (l, !c)
  | .drvDie _ _ => none
  | .drvMaster _ _ => none

/-- LINK_FRAME_RECEIVE (R29, R436, R437): a frame of an isolated lane or a cross-link waits while the copies of its pair disagree on it. -/
def Dev.linkFrameReceive (d : Dev) (k : LinkRx) (seq : Nat) (crcOk : Bool) (skew : Int) : Dev :=
  match linkPair k with
  | some (l, island) => d.viaInput l island .frame (.frame k seq crcOk skew) fun d => d.frameReceived k seq crcOk skew
  | none => d.frameReceived k seq crcOk skew

/-- The link of lane `l`'s control die to a driver die is at fault (R411): declared lost, or not up within 1 ms of its start-up. -/
def Dev.masterFault (d : Dev) (l : Lane) (k : DieIx) : Bool :=
  d.up (.ctl l) && !(d.lanes.at l).silent && !(d.link (.drvMaster l k)).live &&
  ((d.link (.drvMaster l k)).started ||
    (match ((d.mods.at l).masters[k]).startAt with | some t => decide (t + 500000 ≤ d.now) | none => false))

/-- The cause of a die's GATE_SUPPLY source is over (R409, R411): no output keeps a supply fault, and no control die finds its link at
fault. -/
def Dev.supplyOver (d : Dev) (k : DieIx) : Dev :=
  if (dieOuts k).any (fun o => (d.outs[o]).supFault) || d.masterFault .a k || d.masterFault .b k then d else d.endCause (226 + 8 * k.val)

/-- TB0's period from its next period start on (R43, R370): the one that its latch point took, or will take as the commits stand, else the
present one. -/
def Dev.tb0Coming (d : Dev) (l : Lane) : Nat :=
  let p := pgMOD l
  let m := d.mods.at l
  let a := pageAddr p R.MOD_TB0_PER_PER.off
  let due := !m.tb0.latched && (d.gl l p R.MOD_TB0_CFG_UPD != 0 || m.groups.contains (d.gl l p R.MOD_TB0_CFG_CG))
  match m.tb0.taken.find? (·.1 == a), if due then cellsGet d.staged (regKey l a) else none with
  | _, some w => R.MOD_TB0_PER_PER.get w
  | some (_, w), none => R.MOD_TB0_PER_PER.get w
  | none, none => m.tb0.per

/-- The next period start of TB0, which runs, and the one after it (R357, R360). -/
def Dev.tb0Starts (d : Dev) (l : Lane) : Nat × Nat :=
  let t := (d.mods.at l).tb0
  let maxAdj : Int := d.gl l (pgMOD l) R.MOD_SYNC_MAXADJ
  let next : Int := (t.t0 + t.per : Nat) + t.syncAdj
  (next.toNat, (next + d.tb0Coming l + clampInt (-maxAdj) maxAdj (t.syncRest - t.syncAdj)).toNat)

/-- Fix a handover to lane `l` (R453): the first period start of TB0 at least 96 ticks ahead, or the first multiple of 4,096 at
least 4,096 ticks ahead while TB0 is not enabled. -/
def Dev.fixHandover (d : Dev) (l : Lane) (cmd : Bool) : Dev :=
  let n := d.tb0Starts l.other
  let h := if (d.mods.at l.other).tb0.running then (if d.now + 96 ≤ n.1 then n.1 else n.2)
    else (d.now + 4096 + 4095) / 4096 * 4096
  { d with handover := some { tick := h, lane := l, cmd := cmd } }

/-- A lane that loses its isolated connection without a withdrawal keeps its role, runs its control die from its own RC, and
takes each axis to HOLD where it is the ACTIVE lane (R445, R459). -/
def Dev.isoKeep (d : Dev) (l : Lane) : Dev :=
  let d := d.onLane l fun s => { s with isoKept := true }
  let d := { d with clocks := d.clocks.put l { d.clocks.at l with ctlOnRc := true } }
  if (d.lanes.at l).role = .active then d.eachAxis fun d x => d.hold x fun c => { c with device := true } else d

/-- A die's port learns whether its latency is calibrated (R377). -/
def Dev.calibrated (d : Dev) (l : Lane) (k : DieIx) (ok : Bool) : Dev :=
  d.onDie k fun s => { s with ports := s.ports.put l { s.ports.at l with calOk := ok } }

/-- The control cross-link stands in both directions. -/
def Dev.ctlCrossed (d : Dev) : Bool := (d.link (.ctlCross .a)).live && (d.link (.ctlCross .b)).live

/-- The loss of one receiver's link (R30, R31, R38, R39, R411, R458, R459, R467). -/
def Dev.loseLink (d : Dev) (k : LinkRx) : Dev :=
  let d := d.onLink k fun r => { r with live := false, lastSeq := none }
  match k with
  | .drvDie l i =>
    let d := d.onDie i fun s => { s with ports := s.ports.put l { s.ports.at l with
      active := false, handover := none, held := [], staged := none } }
    let d := if (d.dies[i]).activePort = some l then
        (if (d.link (.drvDie l.other i)).live then d.makeActive i l.other else d.fallback i)
      else d
    (d.judgeRoles i).applySto i
  | .drvMaster l i =>
    let d := d.sl l (pgMOD l) R.MOD_LINK_STAT_LIVE 0 i
    let d := (d.sl l (pgMOD l) R.MOD_LINK_STAT_CALOK 0 i).calibrated l i false
    let inUse := (dieOuts i).any fun o => d.g pgGATE R.GATE_OCFG_EN o == 1
    let d := (if inUse then d.raiseCond (226 + 8 * i.val) else d).linksPower l [i]
    if inUse ∧ (d.lanes.at l).role = .active ∧ (d.lanes.at l.other).role = .standby ∧ (d.lanes.at l.other).eligible ∧ d.handover.isNone ∧
        d.ctlCrossed then d.fixHandover l.other false else d
  | .isoData l c => lostIso d l c
  | .isoTime l c => lostIso d l c
  | .ifaceCross l =>
    let d := (d.raiseCond (40 + 16 * l.idx)).cause pgLANE 5
    if (d.islands.at l).inService then
      let d := d.onIsland l fun s => { s with partner := false, degradedAt := some (s.degradedAt.getD d.now) }
      (d.raiseCond (290 + 16 * l.idx)).causeL l (pgSAFE l) 16
    else d
  | .ctlCross l => (({ d with handover := none }).raiseCond (40 + 16 * l.idx)).cause pgLANE 5
where
  /-- One of the isolated lanes of lane `l` is lost at a die (R31). -/
  lostIso (d : Dev) (l : Lane) (c : Bool) : Dev :=
    if (d.link (.isoData l c)).live ∨ (d.link (.isoTime l c)).live then d.raiseCond (38 + 16 * l.idx)
    else
      let d := d.endCause (38 + 16 * l.idx)
      let d := d.raiseCond (39 + 16 * l.idx)
      if (d.lanes.at l).role = .failed ∨ !c then d else d.isoKeep l

/-- A live link has had no accepted frame for three of its longest gaps (R30). -/
def Dev.linkSilent (d : Dev) (k : LinkRx) : Bool := (d.link k).live && decide ((d.link k).lastAccept + 3 * d.linkGap k ≤ d.now)

/-- LINK_LOST (R30): declared once no frame has been accepted for three longest gaps. -/
def Dev.linkLost (d : Dev) (k : LinkRx) : Dev := if d.linkSilent k then d.loseLink k else d

/-- The dies at the two ends of a link stand out of reset. -/
def Dev.endsUp (d : Dev) : LinkRx → Bool
  | .ifaceCross _ => d.up (.iface .a) && d.up (.iface .b)
  | .ctlCross _ => d.up (.ctl .a) && d.up (.ctl .b)
  | .isoData l _ => d.up (.iface l) && d.up (.ctl l)
  | .isoTime l _ => d.up (.iface l) && d.up (.ctl l)
  | .drvDie l k => d.up (.ctl l) && (d.dies[k]).powered
  | .drvMaster l k => d.up (.ctl l) && (d.dies[k]).powered

/-- The latency that 1,024 echoes give, in 1/16 fine step (R377): the mean of their estimates from the sums of their round trips and
turnarounds, plus the asymmetry trim. -/
def Dev.latOf (d : Dev) (l : Lane) (k : DieIx) (trips turns : Nat) : Int :=
  ((trips : Int) - turns) / 128 + 16 * (match l with | .a => (d.linkTrim k.val).1 | .b => (d.linkTrim k.val).2).toInt

/-- A link has started up (R30, R377, R428): it is live. A link master takes the latency that the 1,024 echoes gave, whose round trips and
turnarounds sum to `trips` and `turns` and whose last round trip is `rtt`; a die's port starts without a previous SEQ, and the block of
its control die's GATE page is staged. -/
def Dev.linkBegins (d : Dev) (k : LinkRx) (trips turns rtt : Nat) : Dev :=
  let d := d.onLink k fun r => { r with started := true, live := true, lastSeq := none, lastAccept := d.now }
  match k with
  | .drvDie l i =>
    let d := d.onDie i fun s => { s with ports := s.ports.put l { s.ports.at l with
      active := false, handover := none, held := [], lastSeq := [none, none, none, none]
      calOk := d.gl l (pgMOD l) R.MOD_LINK_STAT_CALOK i == 1 } }
    let d := (d.stageBlock i l (sealBlock (d.buildBlock l i))).judgeBlocks i
    ((d.judgeRoles i).applySto i).stoPath i l
  | .drvMaster l i =>
    let lat16 := d.latOf l i trips turns
    let d := d.sl l (pgMOD l) R.MOD_LINK_LAT_LAT (intField 16 (shiftRound lat16 4)) i
    let d := d.sl l (pgMOD l) R.MOD_LINK_LAT_RTT (rtt % 65536) i
    let d := d.sl l (pgMOD l) R.MOD_LINK_STAT_LIVE 1 i
    let d := (d.sl l (pgMOD l) R.MOD_LINK_STAT_CALOK 1 i).calibrated l i true
    let d := d.onLane l fun s => { s with standbyTo := s.standbyTo.filter (· != i) }
    (d.onMaster l i fun m => { m with startAt := none, odd := [], lat16 := lat16 }).supplyOver i
  | .isoData l _ => isoBack d l
  | .isoTime l _ => isoBack d l
  | .ifaceCross l => if (d.link (.ctlCross l)).live then d.endCause (40 + 16 * l.idx) else d
  | .ctlCross l => if (d.link (.ifaceCross l)).live then d.endCause (40 + 16 * l.idx) else d
where
  /-- ISO_LOST ends as the isolated lanes of lane `l` come back, and so does ISO_LANE_DEGRADED, which stands while one of them is still lost
  (R572). -/
  isoBack (d : Dev) (l : Lane) : Dev :=
    let one := (d.link (.isoData l true)).live && (d.link (.isoTime l true)).live &&
               (d.link (.isoData l false)).live && (d.link (.isoTime l false)).live
    let d := d.endCause (39 + 16 * l.idx)
    if one then d.endCause (38 + 16 * l.idx)
    else if ((d.link (.isoData l true)).live || (d.link (.isoTime l true)).live) && ((d.link (.isoData l false)).live || (d.link (.isoTime l false)).live)
      then d.raiseCond (38 + 16 * l.idx) else d

/-- A silent lane's links do not start up again (R451). -/
def Dev.linkBarred (d : Dev) : LinkRx → Bool
  | .ctlCross l => (d.lanes.at l.other).silent
  | .isoData l c => (d.lanes.at l).silent && !c
  | .isoTime l c => (d.lanes.at l).silent && !c
  | .drvDie l _ => (d.lanes.at l).silent
  | .drvMaster l _ => (d.lanes.at l).silent
  | .ifaceCross _ => false

/-- LINK_START_UP (R30, R377, R428): the link is live, the next frame whose CRC passes is accepted whatever its counter. At a
link master the measured latency becomes LAT, and CALOK is set; at a driver die the port starts without a previous SEQ, and the block is
staged and applied. -/
def Dev.linkStartUp (d : Dev) (k : LinkRx) (trips turns rtt : Nat) : Dev :=
  if !d.endsUp k ∨ d.linkBarred k then d else d.linkBegins k trips turns rtt

/-- ROLE_DESIGNATION_APPLY (R453, R454): the handover tick that a live port's frames carried is there. Without such a tick no designation
changes. -/
def Dev.roleDesignationApply (d : Dev) (k : DieIx) (l : Lane) : Dev :=
  if !(d.link (.drvDie l k)).live then d
  else match ((d.dies[k]).ports.at l).handover with
    | some h => if h ≤ d.now then d.judgePorts k else d
    | none => d

/-! ## Edge messages and edges (R373 to R375, R395 to R401) -/

/-- The CRC-8 of an edge message over its bits 31:8, most significant byte first (R373). -/
def edgeCrc (w : Word) : Nat :=
  (checkCode 0).over [BitVec.ofNat 8 (w.toNat / 16777216), BitVec.ofNat 8 (w.toNat / 65536), BitVec.ofNat 8 (w.toNat / 256)]

/-- The due tick of R375: the one tick in [a − 1,024, a + 1,024) with the given low 11 bits. -/
def dueTick (a low : Nat) : Nat :=
  let base := a + 2048 - 1024
  (base + (low + 2048 - base % 2048) % 2048) - 2048

/-- An output is forced at a due tick (R372): a forcing whose end is known holds no edge due from that end on (R383). -/
def OutState.forcedAt (s : OutState) (due : Nat) : Bool :=
  s.force.isSome && (match s.forceEnd with | some t => decide (due < t) | none => true)

/-- Run the turn-off or turn-on that a message from the active port asks for, due at a tick, at its instant in fine steps (R36, R372,
R376, R383, R405, R406, R428). Every edge of CH and DS is protective (R94, R400). -/
def Dev.runEdge (d : Dev) (o : OutIx) (level pset : Bool) (due : Nat) (fine : Int) : Dev :=
  let s := d.outs[o]
  if s.soft != .none ∨ s.forcedAt due then d
  else
    let d := if s.force.isSome then d.forceEnds o else d
    let prot := (outLeg o).isNone
    if level then
      if s.on then d else if d.mayTurnOn o then d.startEdge o true pset prot fine else d.countDiscard (outDie o)
    else if s.on then d.startEdge o false pset prot fine else d

/-- The SEQ of an edge message is not the successor of the last one for the output (R375). -/
def Dev.edgeSeqBad (d : Dev) (k : DieIx) (l : Lane) (w : Word) : Bool :=
  match ((d.dies[k]).ports.at l).lastSeq.getD (w.toNat / 2 ^ 30) none with
  | none => false
  | some q => w.toNat / 2 ^ 24 % 16 != (q + 1) % 16

/-- The edge that a message spells for an output (R373). -/
def heldEdge (now : Nat) (o : OutIx) (w : Word) : HeldEdge :=
  { out := o, level := w.getLsbD 29, pset := w.getLsbD 28, seq := w.toNat / 2 ^ 24 % 16,
    due := dueTick now (w.toNat / 2 ^ 13 % 2048), dueF := w.toNat / 2 ^ 8 % 32 }

/-- A port remembers the SEQ of a message for the output it names. -/
def Dev.noteSeq (d : Dev) (k : DieIx) (l : Lane) (w : Word) : Dev :=
  d.onDie k fun s => { s with ports := s.ports.put l { s.ports.at l with
    lastSeq := setAt (s.ports.at l).lastSeq (w.toNat / 2 ^ 30) (some (w.toNat / 2 ^ 24 % 16)) } }

/-- A port holds an edge until its due instant. -/
def Dev.holdEdge (d : Dev) (k : DieIx) (l : Lane) (e : HeldEdge) : Dev :=
  d.onDie k fun s => { s with ports := s.ports.put l { s.ports.at l with held := (s.ports.at l).held ++ [e] } }

/-- A port's copy of device time, in whole ticks (R376). -/
def Dev.portTick (d : Dev) (k : DieIx) (l : Lane) : Nat := (((d.now * 32 : Nat) : Int) + ((d.dies[k]).ports.at l).ahead).toNat / 32

/-- The instant of device time, in fine steps, at which the delay line of a die places an edge of a port (R376). -/
def Dev.placeEdge (d : Dev) (k : DieIx) (l : Lane) (e : HeldEdge) : Int :=
  ((e.due * 32 + e.dueF : Nat) : Int) - ((d.dies[k]).ports.at l).ahead

/-- A port takes a message for one of its die's outputs (R375): a wrong SEQ is reported and changes nothing else; a late message is
reported, and executes at once only where it turns the output off. -/
def Dev.takeMessage (d : Dev) (k : DieIx) (l : Lane) (o : OutIx) (w : Word) : Dev :=
  let a := d.portTick k l
  let e := heldEdge a o w
  let bad := d.edgeSeqBad k l w
  let d := d.noteSeq k l w
  let d := if bad then report d 7 R.MOD_LINK_ERR_SEQ else d
  if e.due < a + 4 then
    let d := report d 6 R.MOD_LINK_ERR_LATE
    if !e.level ∧ (d.dies[k]).activePort = some l then d.runEdge o false e.pset d.now (d.now * 32 : Nat) else d
  else if (d.outs[o]).soft != .none then d
  else d.holdEdge k l e
where
  /-- The port's control die raises its own source and counts it in LINKd_ERR (R375, R388). -/
  report (d : Dev) (src : Nat) (f : Fld) : Dev :=
    let d := d.incL l (pgMOD l) f k
    (d.causeL l (pgMOD l) (BitVec.ofNat 32 (2 ^ src))).raise (192 + 16 * l.idx + src)

/-- Something that lane `l`'s control die sent may still reach a driver die: the lane is not silent, or what left it before it fell silent is
on its way, for at most the 16 ticks of a driver link (R451, R452). -/
def Dev.mayArrive (d : Dev) (l : Lane) : Bool := !(d.lanes.at l).silent || decide (d.now ≤ (d.lanes.at l).silentAt + 16)

/-- EDGE_MESSAGE_RECEIVE (R375): a message counts where its port is live and calibrated, its CRC passes, and the die has its output. -/
def Dev.edgeMessageReceive (d : Dev) (k : DieIx) (l : Lane) (w : Word) : Dev :=
  let p := (d.dies[k]).ports.at l
  if !(d.link (.drvDie l k)).live ∨ !d.mayArrive l ∨ !p.calOk ∨ edgeCrc w ≠ w.toNat % 256 then d
  else match dieOut k (w.toNat / 2 ^ 30) with
    | none => d
    | some o => d.takeMessage k l o w

/-- Take the earliest held edge of an output that is due from a list. -/
def takeDue (o : OutIx) (now : Nat) : List HeldEdge → Option HeldEdge × List HeldEdge
  | [] => (none, [])
  | e :: r => if e.out = o ∧ e.due ≤ now then (some e, r) else let (x, q) := takeDue o now r; (x, e :: q)

/-- The earliest due edge of an output leaves the list of each port. -/
def Dev.dropDue (d : Dev) (o : OutIx) : Dev :=
  d.onDie (outDie o) fun s => { s with ports := {
    a := { s.ports.a with held := (takeDue o (d.portTick (outDie o) .a) s.ports.a.held).2 }
    b := { s.ports.b with held := (takeDue o (d.portTick (outDie o) .b) s.ports.b.held).2 } } }

/-- EDGE_EXECUTE (R36, R375, R376, R395): the due edge of the ACTIVE port runs, placed by that port's copy of device time; that of the
other port is discarded. -/
def Dev.edgeExecute (d : Dev) (o : OutIx) : Dev :=
  match (d.dies[outDie o]).activePort with
  | some l => (match (takeDue o (d.portTick (outDie o) l) ((d.dies[outDie o]).ports.at l).held).1 with
      | some e => (d.dropDue o).runEdge o e.level e.pset e.due (d.placeEdge (outDie o) l e)
      | none => d.dropDue o)
  | none => d.dropDue o

/-- The adaptation of R400: the updated state, and whether the clamp changed it (R401). -/
def adaptStep (x t m gs imin imax : Nat) : Nat × Bool :=
  let y : Int := (x : Int) + divRoundAway ((x * t : Nat) - (x * m : Nat) : Int) (m * 2 ^ gs)
  let lo : Int := (16 * (imin + 1) : Nat)
  let hi : Int := (16 * (imax + 1) : Nat)
  let z := clampInt lo hi y
  (z.toNat, z != y)

/-- The measurement of an edge and its adaptation (R399 to R401). -/
def Dev.measureEdge (d : Dev) (o : OutIx) (tpl dv : Nat) : Dev :=
  let s := d.outs[o]
  let m := min dv 255
  let i := adaptIx s.phaseOn s.pset
  let t := d.outCfg o (profileFld s.phaseOn s.pset R.GATE_DVDT_ON0 R.GATE_DVDT_ON1 R.GATE_DVDT_OFF0 R.GATE_DVDT_OFF1)
  let det := d.outCfg o R.GATE_ADLIM_DET
  let d := d.onOut o fun s => if s.phaseOn then { s with tpl := min tpl 255, dvOn := m } else { s with dvOff := m }
  if d.outCfg o R.GATE_OCFG_ADAPT = 1 ∧ 1 ≤ tpl ∧ det ≤ m ∧ 0 < m ∧ !s.forcedEdge then
    let (x, cut) := adaptStep (s.adapt.getD i 128) t m (d.outCfg o R.GATE_ADLIM_GS) (d.outCfg o R.GATE_ADLIM_IMIN)
      (d.outCfg o R.GATE_ADLIM_IMAX)
    let off := 4 * (if m < t then t - m else m - t) > t
    let n := if cut ∧ off then s.adaptBad.getD i 0 + 1 else 0
    let d := d.onOut o fun s => { s with adapt := setAt s.adapt i x, adaptBad := setAt s.adaptBad i (if n = 64 then 0 else n) }
    if n = 64 then
      (if o.val < 6 then d.raiseAt (outSrc o 6) d.now (outDetail o)
       else d.cause pgGATE (if outDie o = 7 then 10 else 9))
    else d
  else d

/-- The clamp engages once a turn-off has brought the gate below CLAMP_V, by its level code (R407). -/
def Dev.clampAt (d : Dev) (o : OutIx) (gate : Nat) : Dev :=
  if d.outCfg o R.GATE_OCFG_CLAMP_EN = 1 ∧ gate < d.outCfg o R.GATE_GMON_CLAMP_V then d.onOut o fun s => { s with clamp := true } else d

/-- The gate has come to a level of the edge that runs: up to it in a turn-on, down to it in a turn-off (R395). -/
def OutState.reached (s : OutState) (gate level : Nat) : Bool := if s.phaseOn then decide (level ≤ gate) else decide (gate ≤ level)

/-- The profile level of a phase of the running edge (R395, R396): PRE_V or END_V of its set and direction. -/
def Dev.preLevel (d : Dev) (o : OutIx) : Nat :=
  d.outCfg o (profileFld (d.outs[o]).phaseOn (d.outs[o]).pset R.GATE_ON0_PRE_V R.GATE_ON1_PRE_V R.GATE_OFF0_PRE_V R.GATE_OFF1_PRE_V)
def Dev.endLevel (d : Dev) (o : OutIx) : Nat :=
  d.outCfg o (profileFld (d.outs[o]).phaseOn (d.outs[o]).pset R.GATE_ON0_END_V R.GATE_ON1_END_V R.GATE_OFF0_END_V R.GATE_OFF1_END_V)

/-- GATE_PHASE_END (R395, R399, R407): by the gate's level code, phase 1 ends at PRE_V, phase 2 at END_V or after PL_TMAX ticks, with the
edge's measurement, and phase 3 once the gate stands within 1.0 V of its supply (`settled`), where the level is held; a turn-off hands
over to the Miller clamp where it is enabled. -/
def Dev.gatePhaseEnd (d : Dev) (o : OutIx) (gate : Nat) (settled : Bool) (tpl dv : Nat) : Dev :=
  let s := d.outs[o]
  let d := if s.phase = .idle ∨ s.phaseOn then d else d.clampAt o gate
  match s.phase with
  | .idle => d
  | .p1 => if s.reached gate (d.preLevel o) then d.onOut o fun s => { s with phase := .p2, p2At := d.now } else d
  | .p2 =>
    if s.reached gate (d.endLevel o) ∨ s.p2At + d.outCfg o R.GATE_GMON_PL_TMAX ≤ d.now then
      (d.measureEdge o tpl dv).onOut o fun s => { s with phase := .p3 }
    else d
  | .p3 =>
    let en := d.outCfg o R.GATE_OCFG_CLAMP_EN = 1
    if settled then d.onOut o fun s => { s with phase := .idle, gateOn := s.phaseOn, clamp := !s.phaseOn && en } else d

/-! ### Drive currents (R391, R393, R395, R396, R404) -/

/-- The plateau code of an adaptation state (R400). -/
def adaptCode (x : Nat) : Nat := (divRoundAway x 16).toNat - 1

/-- What the profile programs the output to drive now, in 1/4 A (R395, R396, R404): PRE_I, the plateau current, which is IPL's while
adaptation is off, HOLD_I, or SOFT_I in a soft turn-off. A level held needs no current. -/
def Dev.driveCurrent (d : Dev) (o : OutIx) : Nat :=
  let s := d.outs[o]
  let of := fun (a b c e : Fld) => d.outCfg o (profileFld s.phaseOn s.pset a b c e)
  if s.soft ≠ .none then d.outCfg o R.GATE_SOFT_SOFT_I + 1
  else match s.phase with
    | .idle => 0
    | .p1 => 4 * of R.GATE_ON0_PRE_I R.GATE_ON1_PRE_I R.GATE_OFF0_PRE_I R.GATE_OFF1_PRE_I
    | .p2 => adaptCode (s.adapt.getD (adaptIx s.phaseOn s.pset) 128) + 1
    | .p3 => 4 * of R.GATE_ON0_HOLD_I R.GATE_ON1_HOLD_I R.GATE_OFF0_HOLD_I R.GATE_OFF1_HOLD_I

/-- The output drives a strong current (PRE_I, HOLD_I), not a plateau or soft turn-off current (R393). -/
def OutState.strong (s : OutState) : Bool := s.soft == .none && (s.phase == .p1 || s.phase == .p3)

/-- What one half of an output drives now, in 1/8 A (R391, R393): half of the programmed current while both halves are in service; alone,
all of it, a strong current at most 10 A as a source and 12.5 A as a sink; nothing once it is cut off. -/
def Dev.halfCurrent (d : Dev) (o : OutIx) (half : Lane) : Nat :=
  let s := d.outs[o]
  let cut := fun (h : Lane) => match h with | .a => s.cutA | .b => s.cutB
  let i := d.driveCurrent o
  if cut half then 0
  else if !cut half.other then i
  else if s.strong then min (2 * i) (if s.phaseOn then 80 else 100)
  else 2 * i

/-- The level code to which a running edge or a soft turn-off drives the gate, where the profile names one (R395, R404). -/
def Dev.gateGoal (d : Dev) (o : OutIx) : Option Nat :=
  let s := d.outs[o]
  match s.soft, s.phase with
  | .first, _ => some (d.outCfg o R.GATE_SOFT_V_SOFT)
  | .second, _ => none
  | .none, .p1 => some (d.preLevel o)
  | .none, .p2 => some (d.endLevel o)
  | .none, _ => none

/-! ### Priority symbols (R379, R380) -/

/-- The word of a priority symbol: for each OUT of the die two bits from bit 24 up, 0 no change, 1 force off, 2 force on, and the CRC-8 of
R331. DESIGN CHOICE (log 115): R379 gives the content and the code, and no places of the bits. -/
def symbolWord (acts : List (Option Bool)) : Word :=
  let w := BitVec.ofNat 32 ((List.range 4).foldl (fun v i => v + (match acts.getD i none with
    | none => 0 | some false => 2 ^ (24 + 2 * i) | some true => 2 ^ (25 + 2 * i))) 0)
  w ||| BitVec.ofNat 32 (edgeCrc w)

/-- What a priority symbol asks of each OUT. -/
def symbolActs (w : Word) : List (Option Bool) :=
  (List.range 4).map fun i => match w.toNat / 2 ^ (24 + 2 * i) % 4 with | 1 => some false | 2 => some true | _ => none

/-- The modulator of lane `l` sends a priority symbol on the driver links of the outputs of some legs, with the levels to which it forces
them, twice back to back; one that is still on its way goes on in it (R379). -/
def Dev.sendSymbol (d : Dev) (l : Lane) (legs : List (Fin 6)) : Dev :=
  if (d.lanes.at l).silent then d
  else (List.finRange 8).foldl (fun d k =>
    let mine := fun (o : OutIx) => match outLeg o with
      | some n => if legs.contains n then some (legLevel ((d.mods.at l).legs[n]) (outIsHigh o) d.now) else none
      | none => none
    let acts := (dieOuts k).map mine
    if acts.all (·.isNone) then d
    else d.onMaster l k fun m =>
      let old := match m.symbol with | some (w, _) => symbolActs w | none => []
      { m with symbol := some (symbolWord (acts.zipIdx.map fun (a, i) => a.orElse fun _ => old.getD i none), 2) }) d

/-- The OUTs of die `k` that the symbol on its way names. -/
def Dev.symbolOuts (d : Dev) (k : DieIx) (l : Lane) : List Nat :=
  match ((d.mods.at l).masters[k]).symbol with
  | none => []
  | some (w, _) => (List.range 4).filter fun i => ((symbolActs w).getD i none).isSome

/-- A driver die takes a priority symbol whose check passes: the active port's forces the named outputs; a standby port's is counted. -/
def Dev.symbolTaken (d : Dev) (k : DieIx) (l : Lane) (w : Word) : Dev :=
  if (d.dies[k]).activePort = some l then
    (symbolActs w).zipIdx.foldl (fun d (a, i) => match a, dieOut k i with
      | some on, some o => d.forceOut o on
      | _, _ => d) d
  else d.onDie k fun s => { s with ports := s.ports.put l { s.ports.at l with
    standbySymbols := (s.ports.at l).standbySymbols + 1 } }

/-- PRIORITY_SYMBOL_RECEIVE (R379, R380): a copy of the symbol on its way arrives with the bits of `err` disturbed. The first copy whose
check passes acts, and a later one means nothing more. -/
def Dev.prioritySymbolReceive (d : Dev) (k : DieIx) (l : Lane) (err : Word) : Dev :=
  match ((d.mods.at l).masters[k]).symbol with
  | none => d
  | some (w, n) =>
    let got := w ^^^ err
    if !(d.link (.drvDie l k)).live ∨ edgeCrc got ≠ got.toNat % 256 then
      d.onMaster l k fun m => { m with symbol := if n ≤ 1 then none else some (w, n - 1) }
    else (d.onMaster l k fun m => { m with symbol := none }).symbolTaken k l got

/-- A live port's STO symbol removes the drive of the outputs it names, or gives it back (R473): of those for whose axis its lane's island
requests STO, or does so no longer. -/
def Dev.stoSymbolTaken (d : Dev) (k : DieIx) (l : Lane) (outs : Nat) (active : Bool) : Dev :=
  let mine : Nat → Bool := fun i => match dieOut k i with | some o => d.symbolFor l o == active | none => false
  let upd := fun (b : List Bool) => b.zipIdx.map fun (v, i) => if outs / 2 ^ i % 2 = 1 ∧ mine i then active else v
  (d.onDie k fun s => { s with ports := s.ports.put l { s.ports.at l with stoSym := upd (s.ports.at l).stoSym } }).applySto k

/-- STO_SYMBOL_RECEIVE (R473): a symbol from any live port removes the drive of the outputs it names, as the lands would. -/
def Dev.stoSymbolReceive (d : Dev) (k : DieIx) (l : Lane) (outs : Nat) (active : Bool) : Dev :=
  if !(d.link (.drvDie l k)).live ∨ !d.mayArrive l then d else d.stoSymbolTaken k l outs active

/-! ## Detections and monitors (R392 to R410) -/

/-- Cut a half off (R392, R393): HALF_FAILED, and the other half carries on. -/
def Dev.cutHalf (d : Dev) (o : OutIx) (half : Lane) : Dev :=
  let was := match half with | .a => (d.outs[o]).cutA | .b => (d.outs[o]).cutB
  let d := d.onOut o fun s => match half with | .a => { s with cutA := true } | .b => { s with cutB := true }
  let d := if (d.outs[o]).cutA ∧ (d.outs[o]).cutB then
      (if o.val = 12 then d.chopCut else d).onOut o fun s => { s with on := false, gateOn := false, phase := .idle, soft := .none } else d
  if was then d else (d.raiseAt (outSrc o 5) d.now (outDetail o)).cause pgGATE (outDie o).val

/-- HALF_FAILED. -/
def Dev.halfFailed (d : Dev) (o : OutIx) (half : Lane) : Dev := if (d.dies[outDie o]).powered then d.cutHalf o half else d

/-- PROT.SCFIRST takes the first detection by its stamp; detections of one tick name the lower leg and set TIE (R418). It re-arms once
SCSTAT reads 0. -/
def Dev.scFirst (d : Dev) (o : OutIx) (kind stamp : Nat) : Dev :=
  let leg := outDetail o
  let side := if outIsHigh o then 1 else 0
  let first := (d.prot.at ((d.active).getD .a)).scAt
  let put := fun (d : Dev) (tie : Nat) =>
    let d := d.s pgPROT R.PROT_SCFIRST_TIE tie
    let d := d.s pgPROT R.PROT_SCFIRST_VALID 1
    let d := d.s pgPROT R.PROT_SCFIRST_LEG leg
    let d := d.s pgPROT R.PROT_SCFIRST_SIDE side
    let d := d.s pgPROT R.PROT_SCFIRST_KIND kind
    (d.s pgPROT R.PROT_SCFIRST_T_T (stamp % 4294967296)).eachLane fun d l => d.onProt l fun p => { p with scAt := stamp }
  if d.g pgPROT R.PROT_SCFIRST_VALID = 0 then put d 0
  else if first = stamp then
    if leg < d.g pgPROT R.PROT_SCFIRST_LEG then put d 1 else d.s pgPROT R.PROT_SCFIRST_TIE 1
  else if stamp < first then put d 0
  else d

/-- SCFIRST re-arms once no short is latched any more (R418, R432). -/
def Dev.scRearm (d : Dev) : Dev := if d.outs.toList.any (·.shortKind.isSome) then d else d.s pgPROT R.PROT_SCFIRST_VALID 0

/-- Latch trip source PROT in a modulator for legs of a bridge, within TRIPMASK.PROT, and hold them off (R378, R414). -/
def Dev.protTrip (d : Dev) (l : Lane) (legs : List (Fin 6)) : Dev :=
  if !d.pageUp l (pgMOD l) then d
  else
    let mask := d.gl l (pgMOD l) R.MOD_TRIPMASK_PROT
    let legs := legs.filter fun n => mask / 2 ^ n.val % 2 = 1
    let bits := legs.foldl (fun b n => b ||| 2 ^ n.val) (d.mods.at l).protLegs
    let d := d.onMod l fun m => { m with protLegs := bits }
    let d := d.sl l (pgMOD l) R.MOD_TRIPSTAT_LATCH (d.gl l (pgMOD l) R.MOD_TRIPSTAT_LATCH ||| 8)
    let d := d.causeL l (pgMOD l) (BitVec.ofNat 32 (2 ^ 11))
    (legs.foldl (fun d n => d.setLeg l n false false) d).sendSymbol l legs

/-- A short is detected on an output (R402, R403, R406, R414, R418): it is latched and counted, every lane's protection logic trips the
legs of the bridge, the output turns off softly, and the detection is a raise with its stamp. On an output in a soft turn-off the
detection is recorded and counted, and is no raise. -/
def Dev.detectShort (d : Dev) (o : OutIx) (kind stamp : Nat) : Dev :=
  let soft := (d.outs[o]).soft != .none
  let d := d.scFirst o kind stamp
  let d := d.onOut o fun s => { s with
    shortKind := some (s.shortKind.getD kind)
    cntDesat := if kind = 1 then satInc 255 s.cntDesat else s.cntDesat
    cntPw := if kind = 2 then satInc 255 s.cntPw else s.cntPw }
  let d := d.cause pgPROT 0
  let d := match outLeg o with
    | some n => d.eachLane fun d l => d.protTrip l (d.bridgeLegs (d.legBridge n))
    | none => d
  if soft then d
  else ((d.softOff o).cause pgGATE (outDie o).val).raiseAt (outSrc o (kind - 1)) stamp (outDetail o)

/-- The stamp t0 of an excess of the desaturation sense that has held for some ticks (R402): it counts from the end of the blank. -/
def Dev.desatFrom (d : Dev) (o : OutIx) (held : Nat) : Nat := max (d.now - held) ((d.outs[o]).edgeAt + d.outCfg o R.GATE_DESAT_BLANK)

/-- DESAT (R402): the desaturation sense has exceeded TH for `held` ticks; an excess after the blank of a turn-on that has held throughout
[t0, t0 + FLT) is a detection stamped t0. -/
def Dev.desat (d : Dev) (o : OutIx) (held : Nat) : Dev :=
  let s := d.outs[o]
  if o.val ≠ 13 ∧ d.outCfg o R.GATE_OCFG_DESAT_EN = 1 ∧ (s.on ∨ s.soft != .none) ∧
      d.desatFrom o held + d.outCfg o R.GATE_DESAT_FLT ≤ d.now then d.detectShort o 1 (d.desatFrom o held) else d

/-- PLATEAU_SHORT (R403): the gate of a turn-on crosses PW_V with t_pl below MIN and the sense voltage above TH. -/
def Dev.plateauShort (d : Dev) (o : OutIx) (tpl : Nat) (above : Bool) : Dev :=
  let s := d.outs[o]
  if o.val ≠ 13 ∧ d.outCfg o R.GATE_OCFG_PW_EN = 1 ∧ s.phaseOn ∧ (s.on ∨ s.soft != .none) ∧ above ∧
      tpl < d.outCfg o R.GATE_PWATCH_MIN then d.detectShort o 2 d.now else d

/-- The held edges of an output whose due instant fell into its soft turn-off are discarded (R405). -/
def Dev.dropSoft (d : Dev) (o : OutIx) : Dev :=
  let from' := (d.outs[o]).softAt
  let keep := fun (k : DieIx) (l : Lane) (e : HeldEdge) =>
    e.out != o || !(decide (((from' * 32 : Nat) : Int) ≤ d.placeEdge k l e) && decide (d.placeEdge k l e < (d.now * 32 : Nat)))
  d.onDie (outDie o) fun s => { s with ports := {
    a := { s.ports.a with held := s.ports.a.held.filter (keep (outDie o) .a) }
    b := { s.ports.b with held := s.ports.b.held.filter (keep (outDie o) .b) } } }

/-- The soft turn-off of an output has reached the off level (R404, R405). -/
def Dev.softEnds (d : Dev) (o : OutIx) : Dev :=
  let en := d.outCfg o R.GATE_OCFG_CLAMP_EN = 1
  let d := (d.dropSoft o).onOut o fun s => { s with soft := .none, gateOn := false, on := false, clamp := en, offAt := d.now }
  match outLeg o with
  | some n => d.onBridge (d.legBridge n) fun b => { b with offAt := d.now }
  | none => d

/-- SOFT_TURN_OFF_STEP (R404, R407): by the gate's level code, SOFT_T after the soft turn-off began the gate leaves V_SOFT, the clamp
engages below CLAMP_V, and the soft turn-off ends where the gate stands at the off level (`settled`). -/
def Dev.softTurnOffStep (d : Dev) (o : OutIx) (gate : Nat) (settled : Bool) : Dev :=
  let s := d.outs[o]
  match s.soft with
  | .none => d
  | .first =>
    let d := d.clampAt o gate
    if s.softAt + d.outCfg o R.GATE_SOFT_SOFT_T ≤ d.now then d.onOut o fun s => { s with soft := .second } else d
  | .second => if settled then d.softEnds o else d.clampAt o gate

/-- GATE_MON of an output (R408): it is turned off softly; a first one raises its source. -/
def Dev.gmonFault (d : Dev) (o : OutIx) : Dev :=
  let was := (d.outs[o]).gmon
  let d := (d.onOut o fun s => { s with gmon := true }).softOff o
  if was then d else (d.raiseAt (outSrc o 4) d.now (outDetail o)).cause pgGATE (outDie o).val

/-- GATE_MON (R408): the gate has not come to its level by GMON_T. A half at fault leads to HALF_FAILED, else the output is
turned off softly and stays unavailable. -/
def Dev.gateMon (d : Dev) (o : OutIx) (badA badB : Bool) : Dev :=
  let s := d.outs[o]
  if s.phase = .idle ∨ d.now < s.edgeAt + d.outCfg o R.GATE_GMON_GMON_T then d
  else if badA ∨ badB then
    let d := if badA then d.cutHalf o .a else d
    if badB then d.cutHalf o .b else d
  else d.gmonFault o

/-- The high side of a leg runs from its bootstrap (R410). -/
def Dev.bootOut (d : Dev) (o : OutIx) : Bool :=
  match outLeg o with
  | some n => outIsHigh o && d.legBoot n
  | none => false

/-- Turn-on of a leg's side is forbidden at this moment (R381): the side is tripped, or its switch is not available (R412). -/
def Dev.sideBanned (d : Dev) (n : Fin 6) (high : Bool) : Bool :=
  d.sideTripped (d.legBridge n) high || !d.available (if high then legHigh n else legLow n)

/-- The protection logic forces a leg itself (R372, R415): its bridge is in ASC, or source PROT holds it. -/
def Dev.protHolds (d : Dev) (l : Lane) (n : Fin 6) : Bool :=
  let b := d.bridges[d.legBridge n]
  b.ascL || b.ascH ||
  (d.gl l (pgMOD l) R.MOD_TRIPSTAT_LATCH / 8 % 2 == 1 && (d.mods.at l).protLegs / 2 ^ n.val % 2 == 1)

/-- Force a leg to its safe level (R379, R381): a side whose turn-on the protection logic forbids is forced off. What the protection logic
forces itself stands above it (R372, R415). -/
def Dev.forceLeg (d : Dev) (l : Lane) (n : Fin 6) : Dev :=
  if d.protHolds l n then d.onLeg l n fun s => { s with ending := false }
  else
    let safe := d.gl l (pgMOD l) R.MOD_LEG_SAFE_LEVEL n.val
    (d.setLeg l n (safe == 1 && !d.sideBanned n true) (safe == 2 && !d.sideBanned n false)).onLeg l n fun s => { s with ending := false }

/-- A leg's level under a bootstrap undervoltage (R372, R381, R385): its safe level, with a high-side safe level taken as both off; a trip
and the protection logic stand above it. -/
def Dev.bootLevel (d : Dev) (l : Lane) (n : Fin 6) : Dev :=
  if d.protHolds l n then d
  else if d.legTripped l n then d.forceLeg l n
  else d.setLeg l n false (d.gl l (pgMOD l) R.MOD_LEG_SAFE_LEVEL n == 2 && !d.sideBanned n false)

/-- The leg goes to its safe level under a bootstrap undervoltage, in both modulators (R385). -/
def Dev.bootUvLeg (d : Dev) (n : Fin 6) : Dev :=
  d.eachLane fun d l =>
    if !d.pageUp l (pgMOD l) then d
    else (d.bootLevel l n).onLeg l n fun s => { s with bootForced := true, bootEnds := false, ending := false }

/-- The leg's bootstrap undervoltage is latched, the output turns off softly and the leg goes to its safe level (R385, R410). -/
def Dev.bootUvFalls (d : Dev) (n : Fin 6) : Dev :=
  let o := legHigh n
  let was := (d.outs[o]).bootUv
  let d := (d.onOut o fun s => { s with bootUv := true, uv := true, warn := true, bootOk := false }).softOff o
  let d := d.bootUvLeg n
  if was then d else (d.raiseAt (outSrc o 3) d.now (outDetail o)).cause pgGATE (outDie o).val

/-- BOOT_UV (R385, R410): an undervoltage report of a leg with BOOT = 1; the source names its driver die. -/
def Dev.bootUv (d : Dev) (n : Fin 6) : Dev :=
  let o := legHigh n
  if !d.bootOut o then d
  else d.bootUvFalls n

/-- GATE_SUPPLY of an output (R409): it is turned off softly and made unavailable; a first one raises its source. -/
def Dev.supplyFault (d : Dev) (o : OutIx) : Dev :=
  let was := (d.outs[o]).supFault
  let d := (d.onOut o fun s => { s with supFault := true, uv := true }).softOff o
  if was then d else (d.raiseAt (outSrc o 2) d.now (outDetail o)).cause pgGATE (outDie o).val

/-- GATE_SUPPLY (R409, R410): the levels are compared with VPOS_WARN, VPOS_UV and VNEG_MIN of the applied configuration. -/
def Dev.gateSupply (d : Dev) (o : OutIx) (vpos vneg : Nat) : Dev :=
  let warn := vpos < d.outCfg o R.GATE_SUPMON_VPOS_WARN
  let low := vpos < d.outCfg o R.GATE_SUPMON_VPOS_UV
  let min := d.outCfg o R.GATE_SUPMON_VNEG_MIN
  let neg := 0 < min ∧ vneg < min
  let d := d.onOut o fun s => if warn then { s with warn := true, bootOk := false } else { s with bootOk := s.bootOk || !s.warn }
  if d.bootOut o then
    (match outLeg o with
     | some n => if low then d.bootUv n else d
     | none => d)
  else if low ∨ neg then d.supplyFault o
  else d

/-- GATE_SUPPLY_RECOVERED (R409, R410): a level counts as recovered once it is 0.5 V, four steps, beyond its threshold. -/
def Dev.gateSupplyRecovered (d : Dev) (o : OutIx) (vpos vneg : Nat) : Dev :=
  let min := d.outCfg o R.GATE_SUPMON_VNEG_MIN
  let okWarn := d.outCfg o R.GATE_SUPMON_VPOS_WARN + 4 ≤ vpos
  let okUv := d.outCfg o R.GATE_SUPMON_VPOS_UV + 4 ≤ vpos ∧ (min = 0 ∨ min + 4 ≤ vneg)
  d.onOut o fun s => { s with warn := s.warn && !okWarn, uv := s.uv && !okUv, bootOk := s.bootOk || okWarn }

end Sys2Proof.Machine
end

