-- ==== Sys2Proof/Machine/Power.lean ====
section
/-! DEFINITION. Supplies, clocks, device time, device modes and resets (chapter 03). -/

namespace Sys2Proof.Machine

/-! ## Supplies (R75 to R79) -/

/-- The threshold above which a supply is valid, in millivolts (R75); a VNEG is valid within its range, given as a magnitude. -/
def supplyAbove : Supply → Nat → Bool
  | .vsup _, v => 5700 < v
  | .vio, v => 1550 < v
  | .vctl _, v => 9500 < v
  | .vposL, v => 11500 < v
  | .vpos _, v => 11500 < v
  | .vnegL, v => 2000 ≤ v && v ≤ 8000
  | .vneg _, v => v ≤ 8000

/-- A level below which a supply is invalid, in millivolts (R75); a VNEG outside its range is. -/
def supplyBelow : Supply → Nat → Bool
  | .vsup _, v => v < 5400
  | .vio, v => v < 1450
  | .vctl _, v => v < 9000
  | .vposL, v => v < 11000
  | .vpos _, v => v < 11000
  | .vnegL, v => v < 2000 || 8000 < v
  | .vneg _, v => 8000 < v

/-- The validity of a supply has a bit in PWR.SUPPLY (R108). -/
def supplyShown : Supply → Bool
  | .vneg _ => false
  | _ => true

/-- A supply stands valid. -/
def Dev.supplyOk (d : Dev) (u : Supply) : Bool := d.power.valid.any (·.1 == u)

/-- The logic levels that VIO selects at a power-up (R78). -/
def vioSelect (mv : Nat) : Option Nat :=
  if 1620 ≤ mv ∧ mv ≤ 1980 then some 1 else if 2970 ≤ mv ∧ mv ≤ 3630 then some 2 else none

/-- Raise a source of each available interface die: `n` for lane A and `n + 16` for lane B. -/
def Dev.raiseIface (d : Dev) (n : Nat) : Dev := d.eachLane fun d l => if d.up (.iface l) then d.raiseCond (n + 16 * l.idx) else d

/-- End those causes. -/
def Dev.endIface (d : Dev) (n : Nat) : Dev := d.eachLane fun d l => d.endCause (n + 16 * l.idx)

/-- Device time runs: some always-on domain stands. -/
def Dev.timeRuns (d : Dev) : Bool := d.power.aonRunning.a || d.power.aonRunning.b

/-- Something counts time: an always-on domain, or a control die on its own RC or a driver die while none stands (R79, R459). -/
def Dev.timeCounts (d : Dev) : Bool := d.timeRuns || !d.power.running.isEmpty

/-- The level of VIO is read (R78): a selection holds until VIO becomes invalid; a level outside both ranges selects none. -/
def Dev.vioJudge (d : Dev) : Dev :=
  if !d.supplyOk .vio then d
  else if d.power.vioLevel.isSome then d.endIface 4
  else match vioSelect d.power.vioMv with
    | some x =>
      let d := ({ d with power := { d.power with vioLevel := some x } }).endIface 4
      if x = 2 then d.cause pgPWR 0 else d
    | none => (d.raiseIface 4).cause pgPWR 1

/-- A supply rises above its threshold (R75, R77). VIO is read where an interface die runs, else at the power-up of the first one
(R78). -/
def Dev.supplyRises (d : Dev) (u : Supply) (mv : Nat) : Dev :=
  let d := { d with power := { d.power with
    valid := (u, if d.timeCounts then some d.now else none) :: d.power.valid
    vioMv := if u = .vio then mv else d.power.vioMv } }
  let d := if supplyShown u then d.cause pgPWR 0 else d
  match u with
  | .vio => if d.up (.iface .a) ∨ d.up (.iface .b) then (d.endIface 5).vioJudge else d
  | _ => d

/-- SUPPLY_VALID (R75, R77, R78): the supply counts as valid, and its domain's reset timer starts. VIO that stands valid takes a new
level, which the next power-up reads. -/
def Dev.supplyValid (d : Dev) (u : Supply) (mv : Nat) : Dev :=
  if !supplyAbove u mv then d
  else if d.supplyOk u then (if u = .vio then { d with power := { d.power with vioMv := mv } } else d)
  else d.supplyRises u mv

/-- A supply has stood valid for 100 µs (R77); one that became valid while no device time ran is not timed. -/
def Dev.supplyStood (d : Dev) (u : Supply) : Bool :=
  match d.power.valid.find? (·.1 == u) with
  | some (_, some t) => t + 50000 ≤ d.now
  | some (_, none) => true
  | none => false

/-- The supply of a die (R75). -/
def dieSupply : Die → Supply
  | .iface l => .vsup l
  | .ctl l => .vctl l
  | .drv k => if h : k.val < 6 then .vpos ⟨k.val, h⟩ else .vposL

/-- A lane takes the contents of mirrored pages and regions held on its die from the live copy, staged values with them (R114). -/
def Dev.takeMirror (d : Dev) (l : Lane) (onInterface : Bool) : Dev :=
  if !d.dieUp l.other onInterface then d
  else
    let mirrored := fun (k : Nat) =>
      let a := k % 0x1000000
      if a < 0x2D000 then (pageHolder (a / 0x1000)).isNone else (regionHolder a).isNone
    let base := d.regs.filter fun kw => !(keyOn l onInterface kw.1 && mirrored kw.1)
    let src := d.regs.filter fun kw => keyOn l.other onInterface kw.1 && mirrored kw.1
    let waits := d.staged.filter fun kw => keyOn l.other onInterface kw.1 && mirrored kw.1
    let d := { d with regs := base, staged := d.staged.filter fun kw => !(keyOn l onInterface kw.1 && mirrored kw.1) }
    let d := src.foldl (fun d kw => d.setWord l (kw.1 % 0x1000000) kw.2) d
    waits.foldl (fun d kw => { d with staged := cellsPut d.staged (regKey l (kw.1 % 0x1000000)) kw.2 }) d

/-- Set a bit of SYS.RESET_CAUSE in every always-on domain that stands (R101). -/
def Dev.resetCause (d : Dev) (f : Fld) : Dev := d.eachLane fun d l => if d.power.aonRunning.at l then d.sl l pgSYS f 1 else d

/-- A lane runs: its start-up has completed, and it is neither declared failed nor silent. -/
def Dev.laneRuns (d : Dev) (l : Lane) : Bool := (d.lanes.at l).up && (d.lanes.at l).role != .failed && !(d.lanes.at l).silent

/-- Lane `l` is gone; where no other lane runs, what the lanes hold together goes with it: axes, motion, ASC and the transition in
progress. The mode becomes STANDBY with the next start-up (R102), but for DORMANT and WATCH, which a wake ends. -/
def Dev.lanesGone (d : Dev) (l : Lane) : Dev :=
  if d.laneRuns l.other then d
  else
    let mode : ModeState := if d.modeIs [.dormant, .watch] then { d.mode with pendingReq := none, superArmed := false }
      else { hvilOpen := d.mode.hvilOpen }
    { d with
      axes := d.axes.map fun s => { ({} : AxisState) with ss1Req := s.ss1Req }
      motion := Vector.replicate 2 {}, bridges := Vector.replicate 2 {}, handover := none, mode := mode }

/-- The stamps that an output of a driver die holds begin anew. -/
def OutState.restart (s : OutState) : OutState :=
  { s with softAt := 0, edgeAt := 0, edgeFine := 0, p2At := 0, forceEnd := s.forceEnd.map fun _ => 0 }

/-- Device time starts at 0, after both always-on domains have been off (R87): what a driver die counts with begins anew, and the control
dies, which have lost their interface dies, restart (R459). DESIGN CHOICE (log 118): both of them do with the first interface die that
returns. -/
def Dev.timeRestart (d : Dev) : Dev :=
  let d := d.eachLane fun d l => if d.up (.ctl l) then d.resetDie l false false else d
  { d with
    now := 0
    mode := { hvilOpen := d.mode.hvilOpen }
    power := { d.power with valid := d.power.valid.map (fun v => (v.1, none)), returned := { a := false, b := false } }
    links := d.links.map fun r => { r with lastAccept := 0 }
    outs := d.outs.map OutState.restart
    dies := d.dies.map fun s => { s with ports := { a := { s.ports.a with held := [], handover := none }, b := { s.ports.b with held := [], handover := none } } }
    handover := none
    axes := Vector.replicate 2 {}, motion := Vector.replicate 2 {}, bridges := Vector.replicate 2 {}
    lanes := { a := { d.lanes.a with failedAt := 0 }, b := { d.lanes.b with failedAt := 0 } } }

/-- The device sleeps, and no interface die is awake (R95, R666). -/
def Dev.asleep (d : Dev) : Bool := d.timeRuns && d.modeIs [.dormant, .watch] && !d.up (.iface .a) && !d.up (.iface .b)

/-- An always-on domain leaves reset while the device sleeps (R77, R87, R88): it adopts device time and the mode, so that its fast domain
stays off until a wake, and takes what the other domain keeps of the mirrored pages (R114, R666; log 133). -/
def Dev.aonJoins (d : Dev) (l : Lane) : Dev :=
  let kept := d.regs.filterMap fun kw =>
    if keyOn l.other true kw.1 && (pageHolder (kw.1 % 0x1000000 / 0x1000)).isNone then
      (d.kept l.other (kw.1 % 0x1000000) kw.2).map fun w => (kw.1 % 0x1000000, w)
    else none
  let d := { d with
    power := { d.power with aonRunning := d.power.aonRunning.put l true }
    clocks := d.clocks.put l { d.clocks.at l with refMade := false, refXtal := false, pllI := false, aonXtal := false, acc := d.now * 128 } }
  let d := ((kept.foldl (fun d aw => d.setWord l aw.1 aw.2) d).onLane l fun _ => {}).sl l pgCLK R.CLK_SRC_REF_SEL 0
  d.resetCause (match l with | .a => R.SYS_RESET_CAUSE_POR_A | .b => R.SYS_RESET_CAUSE_POR_B)

/-- An interface die returns to a lane that has kept its role without an isolated connection: the lane restarts, its control die with it
(R456, R459). -/
def Dev.isoReturns (d : Dev) (l : Lane) : Dev :=
  if !(d.lanes.at l).isoKept ∨ !d.up (.ctl l) then d
  else
    let d := { d with clocks := d.clocks.put l { d.clocks.at l with pllC := false, ctlOnRc := false } }
    let d := ((d.resetDie l false true).takeMirror l false).onLane l fun s => { s with isoKept := false, role := .down, rejoining := true }
    let d := d.lanesGone l
    let other := (d.lanes.at l.other).role
    if other = .active ∨ other = .standby then d.raiseCond (44 + 16 * l.other.idx) else d

/-- A die leaves reset (R77, R87, R98). An interface die's accumulator starts from the device time it starts or adopts; REF_SEL has
its reset value (R102), and the die reads VIO (R78). Control dies start up their link to a driver die. -/
def Dev.leavesReset (d : Dev) (x : Die) : Dev :=
  let d := { d with power := { d.power with running := x :: d.power.running } }
  match x with
  | .iface l =>
    let d := if d.timeRuns then d else d.timeRestart
    let d := { d with
      power := { d.power with aonRunning := d.power.aonRunning.put l true }
      clocks := d.clocks.put l { d.clocks.at l with refMade := false, refXtal := false, pllI := false, aonXtal := false
                                                    acc := d.now * 128 } }
    let d := (d.isoReturns l).onLane l fun s => { ({} : LaneState) with
      failedAt := s.failedAt, role := s.role, rejoining := s.rejoining || s.role == .failed }
    let d := (d.takeMirror l true).sl l pgCLK R.CLK_SRC_REF_SEL 0
    (d.resetCause (match l with | .a => R.SYS_RESET_CAUSE_POR_A | .b => R.SYS_RESET_CAUSE_POR_B)).vioJudge
  | .ctl l =>
    let d := { d with clocks := d.clocks.put l { d.clocks.at l with pllC := false, ctlOnRc := false } }
    d.takeMirror l false
  | .drv k =>
    let d := d.onDie k fun _ => { powered := true }
    let d := (dieOuts k).foldl (fun d o => d.onOut o fun _ => {}) d
    d.eachLane fun d l => if (d.lanes.at l).up then d.linksPower l [k] else d

/-- A die that does not run stands in reset, and does not sleep: in DORMANT and WATCH an interface die whose always-on domain stands and the
control dies wait for a wake (R666), which has come where an interface die runs. -/
def Dev.inReset (d : Dev) (x : Die) : Bool :=
  !d.up x && match x with
    | .iface l => !d.power.aonRunning.at l
    | .ctl _ => !d.asleep
    | .drv _ => true

/-- DOMAIN_RESET_RELEASE (R77, R87, R98): a die whose supply has stood valid for 100 µs leaves reset. An interface die's always-on domain
starts device time at 0, or adopts the one that runs. -/
def Dev.domainResetRelease (d : Dev) (x : Die) : Dev :=
  if !d.inReset x || !d.supplyStood (dieSupply x) then d
  else match x, d.asleep with
    | .iface l, true => d.aonJoins l
    | _, _ => d.leavesReset x

/-- The condition sources of a driver die (R572). -/
def dieLatches (k : DieIx) : List Nat := ([224, 225, 226, 227, 228, 229].map (· + 8 * k.val)).filter conditionSource

/-- What a driver die's outputs had latched is gone, and with it the causes of its condition sources (R418, R572). -/
def Dev.dieForgets (d : Dev) (k : DieIx) : Dev :=
  let d := (dieOuts k).foldl (fun d o => d.onOut o fun _ => {}) d
  d.endCauses (dieLatches k)

/-- A driver die loses its supply: its outputs fall to the passive hold, and what it had latched is gone with it (R71, R79, R411,
R418). -/
def Dev.dropDie (d : Dev) (k : DieIx) : Dev :=
  let inUse := (dieOuts k).any fun o => d.g pgGATE R.GATE_OCFG_EN o == 1
  let d := (if k = 6 then d.chopCut else d).onDie k fun _ => {}
  let d := (d.dieForgets k).scRearm
  let d := d.clearLinks [.drvDie .a k, .drvDie .b k]
  let d := { d with power := { d.power with running := d.power.running.filter (· != .drv k) } }
  if inUse then d.raiseCond (226 + 8 * k.val) else d

/-- A supply falls below its threshold (R77, R79). -/
def Dev.supplyFalls (d : Dev) (u : Supply) : Dev :=
  let d := { d with power := { d.power with valid := d.power.valid.filter (·.1 != u) } }
  let d := if supplyShown u then d.cause pgPWR 0 else d
  match u with
  | .vsup l =>
    let d := d.resetDie l true false
    let d := { d with
      power := { d.power with running := d.power.running.filter (· != Die.iface l), aonRunning := d.power.aonRunning.put l false }
      clocks := d.clocks.put l { d.clocks.at l with main := false, pllI := false, refMade := false, refXtal := false } }
    let d := if l = .a ∧ !d.clocks.b.main then { d with clocks := d.clocks.put .b { d.clocks.b with acc := d.now * 128 } } else d
    let d := d.onLane l fun s => { s with up := false }
    d.resetCause (match l with | .a => R.SYS_RESET_CAUSE_UV_A | .b => R.SYS_RESET_CAUSE_UV_B)
  | .vctl l =>
    let d := d.failLane l 0xFFFF 2
    let d := d.resetDie l false false
    let d := { d with
      power := { d.power with running := d.power.running.filter (· != Die.ctl l) }
      clocks := d.clocks.put l { d.clocks.at l with pllC := false } }
    let d := (d.onLane l fun s => { s with up := false, role := .down, withdrawAt := none, rejoining := true }).lanesGone l
    let d := if (d.lanes.at l.other).role = .active ∨ (d.lanes.at l.other).role = .standby then
        d.raiseCond (44 + 16 * l.other.idx) else d
    d.resetCause (match l with | .a => R.SYS_RESET_CAUSE_UV_A | .b => R.SYS_RESET_CAUSE_UV_B)
  | .vio =>
    let d := { d with power := { d.power with vioLevel := none, vioMv := 0 } }
    (d.raiseIface 5).cause pgPWR 2
  | .vposL => (d.dropDie 6).dropDie 7
  | .vpos n => d.dropDie ⟨n.val, by omega⟩
  | .vnegL => d
  | .vneg _ => d

/-- SUPPLY_INVALID (R75, R77, R79): a valid supply has fallen below its threshold; the die that it feeds enters reset, and nothing
else changes but what R79 gives. -/
def Dev.supplyInvalid (d : Dev) (u : Supply) (mv : Nat) : Dev :=
  if !d.supplyOk u ∨ !supplyBelow u mv then d else d.supplyFalls u

/-! ## Clocks and device time (R80 to R87) -/

/-- Change one lane's clocks. -/
def Dev.onClk (d : Dev) (l : Lane) (f : ClockState → ClockState) : Dev := { d with clocks := d.clocks.put l (f (d.clocks.at l)) }

/-- XTAL_READY (R81). -/
def Dev.xtalReady (d : Dev) (l : Lane) : Dev :=
  if d.up (.iface l) ∧ !(d.clocks.at l).refMade ∧ d.gl l pgCLK R.CLK_SRC_REF_SEL = 0 then
    d.onClk l fun c => { c with refMade := true, refXtal := true, pllI := true, main := true }
  else d

/-- XTAL_ABSENT (R81): the PLL locks to the RC. -/
def Dev.xtalAbsent (d : Dev) (l : Lane) : Dev :=
  if d.up (.iface l) ∧ !(d.clocks.at l).refMade ∧ d.gl l pgCLK R.CLK_SRC_REF_SEL = 0 then
    let d := d.onClk l fun c => { c with refMade := true, refXtal := false, pllI := true, main := true }
    (d.raise (2 + 16 * l.idx)).cause pgCLK 0
  else d

/-- PLL_LOCK (R80): the interface die's PLL locks to its reference once that is chosen (R81), the control die's to the one that its
isolated lanes forward, of which one carries the traffic of both (R31). -/
def Dev.pllLock (d : Dev) (l : Lane) (ctl : Bool) : Dev :=
  if ctl then
    if d.up (.ctl l) ∧ (d.clocks.at l).pllI ∧ d.isoUp l then d.onClk l fun c => { c with pllC := true, ctlOnRc := false } else d
  else if d.up (.iface l) ∧ ((d.clocks.at l).refMade ∨ d.gl l pgCLK R.CLK_SRC_REF_SEL = 1) then
    d.onClk l fun c => { c with pllI := true, main := true, refMade := true }
  else d

/-- CLK_FAIL (R83): PLL_UNLOCK where the lock is lost, handled as CLK_FAIL; CLK_FAIL else. -/
def Dev.clkFail (d : Dev) (l : Lane) (ctl lostLock : Bool) : Dev :=
  let d := if lostLock then
      (d.onClk l fun c => if ctl then { c with pllC := false } else { c with pllI := false }).cause pgCLK 3
    else d.cause pgCLK 2
  d.raise ((if lostLock then 1 else 0) + 16 * l.idx)

/-- CLK_TRIM_UPDATE (R82): lane B follows lane A within the trim range while lane A is healthy. -/
def Dev.clkTrimUpdate (d : Dev) (ppm : Int) : Dev :=
  if (d.lanes.a.role = .failed ∨ d.lanes.a.role = .down) ∨ !(d.link (.ifaceCross .b)).live then d
  else
    let t := clampInt (-25000) 25000 ppm
    let d := d.sS pgCLK R.CLK_STATUS_TRIM_B t
    if t = ppm then (d.onClk .b fun c => { c with trimLimit := false }).endCause 19
    else ((d.onClk .b fun c => { c with trimLimit := true }).raiseCond 19).cause pgCLK 1

/-- AON_CALIBRATION (R85): the rounded increment goes to AON_INC while the main clock runs. -/
def Dev.aonCalibration (d : Dev) (l : Lane) (inc : Nat) : Dev :=
  if (d.clocks.at l).main then
    d.s pgCLK (match l with | .a => R.CLK_AON_INC_A_INC | .b => R.CLK_AON_INC_B_INC) (min inc 0xFFFFFF)
  else d

/-- MAIN_CLOCK_STOP (R86): the accumulator takes device time with fraction 0. -/
def Dev.mainClockStop (d : Dev) (l : Lane) : Dev :=
  if (d.clocks.at l).main then d.onClk l fun c => { c with main := false, acc := d.now * 128, pllI := false, pllC := false } else d

/-- MAIN_CLOCK_START (R86): the tick counter takes the accumulator's integer part; device time never decreases, and the other
lane's running clock already holds it. -/
def Dev.mainClockStart (d : Dev) (l : Lane) : Dev :=
  if (d.clocks.at l).main then d
  else
    let t := if (d.clocks.at l.other).main then d.now else max d.now ((d.clocks.at l).acc / 128)
    ({ d with now := t }).onClk l fun c => { c with main := true }

/-- AON_XTAL_READY (R81). -/
def Dev.aonXtalReady (d : Dev) (l : Lane) : Dev :=
  if d.power.aonRunning.at l ∧ d.gl l pgCLK R.CLK_SRC_AON_SEL = 0 then d.onClk l fun c => { c with aonXtal := true } else d

/-- One always-on cycle of a lane whose main clock is stopped (R84). -/
def Dev.aonCycle (d : Dev) (l : Lane) : Dev :=
  let f := match l with | .a => R.CLK_AON_INC_A_INC | .b => R.CLK_AON_INC_B_INC
  d.onClk l fun c => { c with acc := (c.acc + d.gl l pgCLK f) % 2 ^ 71 }

/-- FIRST_FINAL (R579): 1,000 ticks after the record's stamp. -/
def Dev.firstFinal (d : Dev) : Dev :=
  if d.g pgLEDGER R.LEDGER_FIRST_VALID = 1 ∧ d.g pgLEDGER R.LEDGER_FIRST_FINAL = 0 ∧ d.ledger.firstStamp + 1000 ≤ d.now then
    (d.s pgLEDGER R.LEDGER_FIRST_FINAL 1).cause pgLEDGER 1
  else d

/-- A stopped lane's always-on domain follows the device time that the other lane's main clock counts (R33, R84). -/
def Dev.aonFollow (d : Dev) (l : Lane) : Dev :=
  if d.power.aonRunning.at l ∧ !(d.clocks.at l).main then d.onClk l fun c => { c with acc := d.now * 128 } else d

/-- What time does where no command waits: one main-clock cycle while a main clock runs, else one always-on cycle (R84), where IA's
domain is the master while it stands (R33). With no always-on domain a control die counts by its own RC (R459), and a driver die's time
goes on too. -/
def Dev.tick (d : Dev) : Dev :=
  if d.clocks.a.main ∨ d.clocks.b.main then ({ d with now := d.now + 1 }).eachLane Dev.aonFollow
  else if d.timeRuns then
    let d := d.eachLane fun d l => if d.power.aonRunning.at l then d.aonCycle l else d
    let acc := if d.power.aonRunning.a then d.clocks.a.acc else d.clocks.b.acc
    { d with now := max d.now (acc / 128), mode := { d.mode with wakeCycles := d.mode.wakeCycles + 1 } }
  else if d.timeCounts then { d with now := d.now + 1 }
  else d

/-! ## Mode requests (R89 to R91) -/

/-- A page is sealed (R129), in the copy of lane `l`. -/
def Dev.sealedL (d : Dev) (l : Lane) (p : Nat) : Bool :=
  d.gl l p H.LOCK_LOCKED == 1 && d.gl l p H.SEAL == d.gl l p H.SEAL_REF

/-- A locked page held on a lane's dies has a latest SEAL that differs from SEAL_REF, the cause of SEAL_MISMATCH (R576). -/
def Dev.sealBad (d : Dev) (l : Lane) : Bool :=
  (List.range 45).any fun p => (d.copies p).contains l && d.gl l p H.LOCK_LOCKED == 1 && d.gl l p H.SEAL != d.gl l p H.SEAL_REF

/-- SEAL_MISMATCH's cause is gone where no such page is left. -/
def Dev.sealEnds (d : Dev) : Dev := d.eachLane fun d l => if d.sealBad l then d else d.endCause (6 + 16 * l.idx)

/-- An interface die's part of the safety configuration is sealed. -/
def Dev.sealedOn (d : Dev) (l : Lane) : Bool := d.sealedL l (pgSAFE l) && d.sealedL l pgASSAY && d.sealedL l pgSLAYER

/-- The safety configuration is sealed (R129); the SAFE page of an interface die that is not available, or declared failed, is left
out. -/
def Dev.safetySealed (d : Dev) : Bool :=
  let ups := [Lane.a, Lane.b].filter fun l => d.reaches l true
  !ups.isEmpty && ups.all d.sealedOn

/-- A returning interface die's SAFE page is sealed, and its SEAL equals that of the other island's page, where that one is there to be
compared with (R129, log 28). The first die that starts returns to nothing. -/
def Dev.sealBack (d : Dev) (l : Lane) : Bool :=
  let other := d.up (.iface l.other)
  (!other && !d.power.returned.at l) ||
    (d.sealedL l (pgSAFE l) && (!other || d.gl l (pgSAFE l) H.SEAL == d.gl l.other (pgSAFE l.other) H.SEAL))

/-- The outputs in use (OCFG.EN). -/
def Dev.inUse (d : Dev) : List OutIx := (List.finRange 14).filter fun o => d.g pgGATE R.GATE_OCFG_EN o == 1

/-- The first failing condition of STANDBY to READY, as its refusal code (R90, R105). Conditions LINKS and REFERENCE ask the lanes
that have started; the blank supervisor's LINKS asks for the links to LSA and LSB too (R104). -/
def Dev.readyFails (d : Dev) : Option Nat :=
  let lanes := [Lane.a, Lane.b].filter fun l => d.up (.ctl l) && d.laneRuns l
  let live := fun (k : DieIx) => !lanes.isEmpty && lanes.all fun l => (d.link (.drvMaster l k)).live
  let links := (d.inUse.all fun o => live (outDie o)) && (!d.supervisor || live 6 && live 7)
  let supply := d.inUse.all fun o =>
    let s := d.outs[o]
    (d.dies[outDie o]).powered && !s.supFault && !s.uv && !s.bootUv && !(d.bootOut o && !s.bootOk)
  let refs := lanes.all fun l => [(0 : Fin 2), 1].all fun c => d.gl l (pgCONV l c) R.CONV_REF_SETTLED == 1
  if !links then some 4
  else if !supply then some 5
  else if d.anyUncleared .holdDevice then some 6
  else if !refs then some 10
  else if !d.supervisor && !d.safetySealed then some 11
  else none

/-- An axis needs ASC under the speed rule (R90, R269): an enabled one, and every one under the blank supervisor, which gives ASC to all
(R104, R105). -/
def Dev.needsAsc (d : Dev) : Bool :=
  [(0 : Fin 2), 1].any fun x => d.axisExists x && d.g (pgFIELD x) R.FIELD_STATE_RULE != 0 &&
    (d.g (pgFIELD x) R.FIELD_AXCFG_EN == 1 || d.supervisor)

/-- A driver link calibrates: its start-up is in progress (R32, R377), within the 1 ms of R411. -/
def Dev.calibrating (d : Dev) : Bool :=
  [Lane.a, Lane.b].any fun l => d.up (.ctl l) && (List.finRange 8).any fun k =>
    (d.dies[k]).powered && (match ((d.mods.at l).masters[k]).startAt with | some t => decide (d.now < t + 500000) | none => false)

/-- An update, a calibration or a Tinker sweep is in progress (R90). -/
def Dev.maintBusy (d : Dev) : Bool :=
  d.g pgTINKER R.TINKER_STAT_BUSY == 1 || d.g pgNVM R.NVM_UPDSTAT_STATE != 0 || d.calibrating

/-- The conditions of a listed pair of R90: none where they hold, else the first failing one's code; the outer none where the
pair is not listed. -/
def Dev.modeConds (d : Dev) (target : Mode) (owner : Bool) : Option (Option Nat) :=
  match d.mode.cur, target with
  | .standby, .ready => some d.readyFails
  | .standby, .watch => some (if d.supplyOk (.vctl .a) ∨ d.supplyOk (.vctl .b) then none else some 5)
  | .standby, .dormant => some (if d.dcDead then none else some 12)
  | .standby, .maintenance => some (if !owner then some 2 else if d.dcDead then none else some 12)
  | .standby, .discharge => some none
  | .ready, .discharge => some none
  | .run, .discharge => some none
  | .hold, .discharge => some none
  | .ready, .run => some (if d.stoLand .a ∨ d.stoLand .b then some 7 else none)
  | .ready, .standby => some none
  | .run, .ready => some (if [(0 : Fin 2), 1].all fun x => d.axState x == .off then none else some 8)
  | .hold, .ready => some (if d.holdCauses then some 6 else if d.needsAsc then some 9 else none)
  | .hold, .standby => some (if d.holdCauses then some 6 else if d.needsAsc then some 9 else none)
  | .discharge, .standby => some (if d.hvilTrip then some 14 else none)
  | .maintenance, .standby => some (if d.maintBusy then some 1 else none)
  | _, _ => none

/-- Refuse a mode request with a code (R91). -/
def Dev.refuseMode (d : Dev) (code : Nat) : Dev := (d.s pgSYS R.SYS_MODE_REFUSE code).cause pgSYS 1

/-- Process a mode request judged as a port class (R89 to R91). READY waits up to 100 ms for its conditions. DESIGN CHOICE (log 119):
R91 gives the codes no order. BUSY is judged before the class that MAINTENANCE asks for, so an OPERATOR port's MAINTENANCE request in a
transition gets BUSY. From a thermal shutdown's trigger to DORMANT a request is refused with PREEMPTED. -/
def Dev.modeReq (d : Dev) (c : PortClass) (target : Nat) : Dev :=
  if d.modeIs [.dormant, .watch] then d
  else if d.thermal.active then d.refuseMode 13
  else if c = .sensor ∨ c = .safety then d.refuseMode 2
  else if d.mode.pendingReq.isSome then d.refuseMode 1
  else
    let t := Mode.ofCode target
    if t = .maintenance ∧ c ≠ .owner then d.refuseMode 2
    else match d.modeConds t (c == .owner) with
      | none => d.refuseMode 3
      | some cond =>
        if t = .ready ∧ d.mode.cur = .standby then
          { d with mode := { d.mode with pendingReq := some (target, d.now, c == .owner) } }
        else match cond with
          | some code => d.refuseMode code
          | none => { d with mode := { d.mode with pendingReq := some (target, d.now, c == .owner) } }

/-- READY_REQUEST_TIMEOUT (R90): 100 ms after the request the first failing condition's code refuses it. -/
def Dev.readyTimeout (d : Dev) : Dev :=
  match d.mode.pendingReq with
  | some (3, t, _) =>
    if d.mode.cur = .standby ∧ t + 50000000 ≤ d.now then
      match d.readyFails with
      | some code => ({ d with mode := { d.mode with pendingReq := none } }).refuseMode code
      | none => d
    else d
  | _ => d

/-- The tick at which READY goes to RUN: a period start of axis 1's timebase, or the tick of R665 while it does not run. -/
def Dev.runTick (d : Dev) : Bool :=
  let l := (d.active).getD .a
  let tb : Fin 2 := if d.gl l (pgMOD l) R.MOD_LEG_CFG_TB 0 = 1 then 1 else 0
  let t := (d.mods.at l).tb tb
  if t.running then t.t0 == d.now
  else match d.mode.pendingReq with
    | some (_, at', _) => d.now % 4096 == 0 && at' + 128 ≤ d.now
    | none => false

/-- MODE_TRANSITION_COMPLETE (R88, R90): the agreed transition takes effect once its conditions hold. -/
def Dev.modeComplete (d : Dev) : Dev :=
  match d.mode.pendingReq with
  | none => d
  | some (t, _, owner) =>
    let m := Mode.ofCode t
    if d.thermal.active then ({ d with mode := { d.mode with pendingReq := none } }).refuseMode 13
    else match d.modeConds m owner with
    | none => ({ d with mode := { d.mode with pendingReq := none } }).refuseMode 3
    | some (some code) =>
      if m = .ready ∧ d.mode.cur = .standby then d
      else ({ d with mode := { d.mode with pendingReq := none } }).refuseMode code
    | some none =>
      if m = .run ∧ !d.runTick then d else d.goMode m false

/-- DEFAULT_MODE_ENTRY (R107): after STANDBY the configured default mode is requested; codes above 3 act as STANDBY. -/
def Dev.defaultMode (d : Dev) : Dev :=
  if !d.boot.defaultDue ∨ d.mode.cur ≠ .standby ∨ d.supervisor ∨ d.boot.refused ∨ d.thermal.active then d
  else
    let d := { d with boot := { d.boot with defaultDue := false } }
    let m := d.g pgSYS R.SYS_CONFIG_DEFAULT_MODE
    if m = 0 ∨ m = 1 ∨ m = 3 then d.modeReq .owner m else d

/-- SUPERVISOR_READY_RETRY (R104, R105). -/
def Dev.supervisorRetry (d : Dev) : Dev :=
  if d.supervisor ∧ d.mode.cur = .standby ∧ d.mode.pendingReq.isNone ∧
      (d.mode.superReqAt + 50000000 ≤ d.now ∨ d.mode.superReqAt = 0) then
    ({ d with mode := { d.mode with superReqAt := d.now } }).modeReq .owner 3
  else d

/-! ## HVIL, watch and wakes (R92 to R97) -/

/-- The loss of counts in WATCH is reported when the die runs again (R213). -/
def Dev.watchLost (d : Dev) (u : Lane) : Dev :=
  if (d.pos.at u).watchLost then
    ((d.onPos u fun s => { s with watchLost := false }).causeL u (pgPOS u) (BitVec.ofNat 32 (2 ^ 24))).raiseBy u 156
  else d

/-- The dies out of their supply's reset whose fast domain is off start again in a wake (R77, R102, R666): an interface die whose always-on
domain stands, and a control die whose supply has stood valid for 100 µs. An interface die reads VIO as its fast domain powers up
(R78). -/
def Dev.wakeDies (d : Dev) : Dev :=
  let ifs := ([Lane.a, Lane.b].filter fun l => d.supplyOk (.vsup l) && d.power.aonRunning.at l).map Die.iface
  let cts := ([Lane.a, Lane.b].filter fun l => d.supplyStood (.vctl l)).map Die.ctl
  let more := (ifs ++ cts).filter fun x => !d.power.running.contains x
  let d := { d with power := { d.power with running := more ++ d.power.running } }
  (d.eachLane fun d u => if more.contains (.iface u) then d.watchLost u else d).vioJudge

/-- Wake the device (R97, R102, R666): its dies start again; the start-up itself is START_UP. -/
def Dev.wake (d : Dev) (f : Fld) (i : Nat := 0) : Dev :=
  let d := d.wakeDies
  let d := d.s pgSYS f (d.g pgSYS f ||| 2 ^ i)
  (d.resetCause R.SYS_RESET_CAUSE_WAKE).cause pgSYS 3

/-- The HVIL loop has a level (R92): an open loop leads to DISCHARGE where it is configured. -/
def Dev.hvilTurns (d : Dev) (opened : Bool) : Dev := ({ d with mode := { d.mode with hvilOpen := opened } }).auto

/-- HVIL_CHANGE (R92): in DORMANT and WATCH the change wakes (R97). A level that every running island's pair still disagrees on waits for
the first of them that agrees (R436, R437). -/
def Dev.hvilChange (d : Dev) (opened : Bool) : Dev :=
  let reads := [Lane.a, Lane.b].filter fun i => d.up (.iface i)
  if !reads.isEmpty && reads.all (d.inputHeld · true .hvil) then
    reads.foldl (fun d i => d.holdChange i true .hvil (.hvil opened)) d
  else d.hvilTurns opened

/-- DISCHARGE_COMPLETE (row 5 of R92). -/
def Dev.dischargeComplete (d : Dev) : Dev := if d.mode.cur = .discharge then d.auto else d

/-- A DC link above DCL_LEVEL in WATCH wakes the device towards HOLD (R95): the control die starts from its RC, starts up the links to
LSA and LSB, and sends them an ASC fallback state (`Dev.towFall`). -/
def Dev.towingWake (d : Dev) (l : Lane) (volt : Nat) : Dev :=
  let d := d.wake R.SYS_WAKE_CAUSE_DCL_WATCH
  let d := { d with mode := { d.mode with towWake := true } }
  let d := (d.onClk l fun c => { c with ctlOnRc := true }).linksPower l [6, 7]
  d.onProt l fun p => { p with volt := some volt, towAsc := true }

/-- DCL_WATCH_SAMPLE (R95): a sample above DCL_LEVEL starts the control die from its RC with an ASC fallback for LSA and LSB
and wakes the device towards HOLD. -/
def Dev.dclWatchSample (d : Dev) (l : Lane) (volt : Nat) : Dev :=
  if d.mode.cur ≠ .watch ∨ !d.supplyOk (.vctl l) ∨ volt ≤ d.g pgPWR R.PWR_WATCH_DCL_LEVEL then d else d.towingWake l volt

/-- The counts of a lane's ENC port in the last 1,024 always-on cycles of WATCH (R96). -/
def Dev.watchCounts (d : Dev) (l : Lane) : Nat := ((d.pos.at l).watchAt.filter fun c => d.mode.wakeCycles < c + 1024).length

/-- An interface die counts an edge of its ENC port in WATCH (R96). -/
def Dev.speedEdge (d : Dev) (l : Lane) : Dev :=
  if d.mode.cur = .watch ∧ d.power.aonRunning.at l then
    d.onPos l fun u => { u with watchAt := d.mode.wakeCycles :: u.watchAt.filter fun c => d.mode.wakeCycles < c + 1024 }
  else d

/-- SPEED_WATCH (R96). -/
def Dev.speedWatch (d : Dev) (l : Lane) : Dev :=
  if d.mode.cur = .watch ∧ d.power.aonRunning.at l ∧ d.gl l pgPWR R.PWR_WATCH_SPEED_LEVEL < d.watchCounts l ∧
      d.gl l pgSYS R.SYS_WAKE_EN_SPEED_WATCH = 1 then
    d.wake R.SYS_WAKE_CAUSE_SPEED_WATCH
  else d

/-- The enable and the record field of a wake source, with the bit in it. -/
def wakeFlds : WakeSource → Fld × Fld × Nat
  | .wake => (R.SYS_WAKE_EN_WAKE, R.SYS_WAKE_CAUSE_WAKE, 0)
  | .sto => (R.SYS_WAKE_EN_STO, R.SYS_WAKE_CAUSE_STO, 0)
  | .hvil => (R.SYS_WAKE_EN_HVIL, R.SYS_WAKE_CAUSE_HVIL, 0)
  | .can n => (R.SYS_WAKE_EN_CAN, R.SYS_WAKE_CAUSE_CAN, n.val)
  | .link .a => (R.SYS_WAKE_EN_LINKA, R.SYS_WAKE_CAUSE_LINKA, 0)
  | .link .b => (R.SYS_WAKE_EN_LINKB, R.SYS_WAKE_CAUSE_LINKB, 0)

/-- The lanes whose interface die carries the land of a wake source (R56, R97). -/
def wakeLanes : WakeSource → List Lane
  | .can n => [if n.val < 2 then .a else .b]
  | .link l => [l]
  | _ => [.a, .b]

/-- The always-on domain of lane `l` takes a wake source (R97): it is enabled, and held for the filter time; STO and HVIL count at any
change. -/
def Dev.wakeTaken (d : Dev) (l : Lane) (src : WakeSource) (held : Nat) : Bool :=
  d.power.aonRunning.at l && d.gl l pgSYS (wakeFlds src).1 / 2 ^ (wakeFlds src).2.2 % 2 == 1 &&
  (match src with | .sto => true | .hvil => true | _ => decide (d.gl l pgSYS R.SYS_WAKE_CFG_FILT + 1 ≤ held))

/-- WAKE_EVENT (R97). -/
def Dev.wakeEvent (d : Dev) (src : WakeSource) (held : Nat) : Dev :=
  if d.modeIs [.dormant, .watch] ∧ (wakeLanes src).any (d.wakeTaken · src held) then d.wake (wakeFlds src).2.1 (wakeFlds src).2.2 else d

/-- WAKE_TIMER (R108). -/
def Dev.wakeTimer (d : Dev) : Dev :=
  let t := d.g pgSYS R.SYS_WAKE_CFG_TIMER
  if d.modeIs [.dormant, .watch] ∧ 0 < t ∧ d.g pgSYS R.SYS_WAKE_EN_TIMER = 1 ∧ t ≤ d.mode.wakeCycles then
    d.wake R.SYS_WAKE_CAUSE_TIMER
  else d

/-! ## Resets (R98 to R101) -/

/-- Reset a lane with its always-on domain kept (R98, R99, R102): both dies of the lane; never a driver die. The lane is DOWN
until it has started and become eligible. With the only lane that runs, the axes and the mode start anew. -/
def Dev.resetLane (d : Dev) (l : Lane) (f : Fld) : Dev :=
  let d := (d.resetDie l true true).resetDie l false true
  let back := d.laneRuns l.other
  let d := d.onLane l fun s => { ({} : LaneState) with failedAt := s.failedAt, rejoining := back }
  let d := (d.lanesGone l).resetCause f
  let other := (d.lanes.at l.other).role
  if other = .active ∨ other = .standby then d.raiseCond (44 + 16 * l.other.idx) else d

/-- Reset both lanes (R98): the axes start anew. -/
def Dev.resetModule (d : Dev) (f : Fld) : Dev :=
  let d := (d.eachLane fun d l => ((d.resetDie l true true).resetDie l false true).onLane l fun _ => {}).dropShared true
  let d := { d with handover := none, axes := Vector.replicate 2 {}, motion := Vector.replicate 2 {}
                    bridges := Vector.replicate 2 {}, mode := { hvilOpen := d.mode.hvilOpen }
                    power := { d.power with returned := { a := false, b := false } } }
  d.resetCause f

/-- The effect of SYS.RESET_REQ (R98, R100). -/
def Dev.resetReq (d : Dev) (w : Word) : Dev :=
  if R.SYS_RESET_REQ_KEY.get w ≠ 0xC3 then d
  else
    let live := d.modeIs [.ready, .run, .hold, .discharge]
    let refuse := d.cause pgSYS 2
    let stays := fun (l : Lane) => (d.lanes.at l).eligible && d.laneRuns l
    match R.SYS_RESET_REQ_SCOPE.get w with
    | 0 => if live ∧ !stays .b then refuse else d.resetLane .a R.SYS_RESET_CAUSE_SWRST_LANE
    | 1 => if live ∧ !stays .a then refuse else d.resetLane .b R.SYS_RESET_CAUSE_SWRST_LANE
    | 2 => if live then refuse else d.resetModule R.SYS_RESET_CAUSE_SWRST_MODULE
    | _ => d

/-- DEBUG_RESET (R98): an unlocked DEBUG port's reset of the scope it names; no VIO, no port (R79). -/
def Dev.debugReset (d : Dev) (scope : Nat) : Dev :=
  if !d.host.debugOwner ∨ d.power.vioLevel.isNone then d
  else match scope with
    | 0 => d.resetLane .a R.SYS_RESET_CAUSE_DEBUG
    | 1 => d.resetLane .b R.SYS_RESET_CAUSE_DEBUG
    | 2 => d.resetModule R.SYS_RESET_CAUSE_DEBUG
    | _ => d

/-- The watchdog expires (R463): WATCHDOG, and the lane is reset. -/
def Dev.wdogExpire (d : Dev) (l : Lane) : Dev :=
  (d.raise (37 + 16 * l.idx)).resetLane l (match l with | .a => R.SYS_RESET_CAUSE_WDOG_A | .b => R.SYS_RESET_CAUSE_WDOG_B)

/-- The effect of a kick (R463): the key alternates, 0xA5C3 first after an enable; a wrong key or an early kick expires the
watchdog. The first kick after an enable has no closed window. -/
def Dev.wdogKick (d : Dev) (l : Lane) (key : Nat) : Dev :=
  if d.gl l (pgCPU l) R.CPU_WDOG_CFG_EN = 0 then d
  else
    let s := d.lanes.at l
    let period := d.gl l (pgCPU l) R.CPU_WDOG_CFG_PERIOD * 500
    let win := d.gl l (pgCPU l) R.CPU_WDOG_CFG_WIN
    let early := !s.kickFirst && (d.now - s.kickAt) * 256 < win * period
    if key ≠ (if s.kickSecond then 0x3C5A else 0xA5C3) ∨ early ∨ s.kickAt + period ≤ d.now then d.wdogExpire l
    else d.onLane l fun s => { s with kickAt := d.now, kickFirst := false, kickSecond := !s.kickSecond }

/-- WATCHDOG_EXPIRY (R463): PERIOD has passed without a kick. -/
def Dev.wdogTimeout (d : Dev) (l : Lane) : Dev :=
  if d.gl l (pgCPU l) R.CPU_WDOG_CFG_EN = 1 ∧ d.up (.ctl l) ∧
      (d.lanes.at l).kickAt + d.gl l (pgCPU l) R.CPU_WDOG_CFG_PERIOD * 500 ≤ d.now then d.wdogExpire l
  else d

end Sys2Proof.Machine
end

