-- ==== Sys2Proof/Machine/Lanes.lean ====
section
/-! DEFINITION. Lockstep pairs, roles, switchover, shadowing, edge streams and rejoin (chapter 12). -/

namespace Sys2Proof.Machine

/-- LOCKSTEP_CPU (R434): the compared group is recorded, no access leaves the pair any more, and the LANE source fails the lane (R435). -/
def Dev.lockstepCpu (d : Dev) (l : Lane) (group : Nat) : Dev :=
  if d.up (.ctl l) then
    ((d.sl l (pgCPU l) R.CPU_LSSTAT_GROUP group).onLane l fun s => { s with mismatch := true }).raise (32 + 16 * l.idx)
  else d

/-- CPU_ECC_FATAL (R434). -/
def Dev.cpuEccFatal (d : Dev) (l : Lane) : Dev := if d.up (.ctl l) then d.raise (33 + 16 * l.idx) else d

/-- CPU_ECC_CORR (R434): corrected and counted. -/
def Dev.cpuEccCorr (d : Dev) (l : Lane) : Dev :=
  if d.up (.ctl l) then ((d.incL l (pgCPU l) R.CPU_ECCCNT_CORR).causeL l (pgCPU l) 2).raise (34 + 16 * l.idx) else d

/-- An input has disagreed in the second cycle after the first disagreement: INPUT_DISAGREE, counted where the pair is the control
cores'. -/
def Dev.disagreeRaised (d : Dev) (l : Lane) (island : Bool) : Dev :=
  (if island then d else (d.incL l (pgCPU l) R.CPU_LSSTAT_AGREE_ERR).causeL l (pgCPU l) 1).raise (35 + 16 * l.idx)

/-- In this cycle the copies of a pair agree on an input, or they disagree, and the input keeps its previous value (R436). -/
def Dev.inputCompared (d : Dev) (l : Lane) (island : Bool) (x : PairInput) (agree : Bool) : Dev :=
  let rest := (d.lanes.at l).disagree.filter (·.1 != (island, x))
  if agree then d.onLane l fun s => { s with disagree := rest, heldIn := s.heldIn.filter (·.1 != (island, x)) }
  else
    let n := match (d.lanes.at l).disagree.find? (·.1 == (island, x)) with | some e => e.2 + 1 | none => 0
    let d := d.onLane l fun s => { s with disagree := ((island, x), n) :: rest }
    if n = 2 then d.disagreeRaised l island else d

/-- Refuse an operation of LANE.CMD with a code (R455). -/
def Dev.refuseLane (d : Dev) (code : Nat) : Dev := (d.s pgLANE R.LANE_STAT_REFUSE code).cause pgLANE 6

/-- The timebases of a lane run in step with the other lane's (R358, R443). -/
def Dev.inStep (d : Dev) : Bool :=
  let same := fun (s t : TimebaseState) => s.running == t.running && (!s.running || (s.t0 == t.t0 && s.per == t.per))
  same d.mods.a.tb0 d.mods.b.tb0 && same d.mods.a.tb1 d.mods.b.tb1

/-- The Quill banks of the two lanes carry the same CRC (R443). -/
def Dev.quillSame (d : Dev) : Bool :=
  let crc := fun (l : Lane) => d.gl l (pgQUILL l) R.QUILL_PROG_CRC_CRC (d.gl l (pgQUILL l) R.QUILL_PROG_BANK)
  crc .a == crc .b

/-- A lane that is not ACTIVE runs the image of the ACTIVE lane, by its MESSAGE hash; a lane activation suspends that (R615). -/
def Dev.sameImage (d : Dev) (l : Lane) : Bool :=
  match d.active, d.boot.run.at l with
  | some k, some x =>
    k == l || d.boot.act.isSome ||
    (match d.boot.run.at k with
     | some y => (d.nvm.at l).messageHash x == (d.nvm.at k).messageHash y
     | none => true)
  | _, _ => true

/-- The conditions of R443 for a lane, in the present period; those that compare it with the other lane count while that one is up: for the
ACTIVE lane once that one carries a role (R358), and the state exchange where one of them is ACTIVE. R129 adds that its island has
entered service. -/
def Dev.eligOk (d : Dev) (l : Lane) : Bool :=
  let s := d.lanes.at l
  let o := d.lanes.at l.other
  let alone := !o.up || o.role == .failed
  let sole := alone || (s.role == .active && o.role == .down)
  let links := d.inUse.all fun x => (d.link (.drvMaster l (outDie x))).live &&
    d.gl l (pgMOD l) R.MOD_LINK_STAT_CALOK (outDie x).val == 1
  s.up && s.stOk && !s.silent && s.role != .failed &&
  (match s.laneSrc with | some n => !d.uncl n | none => true) &&
  !s.halted && !s.haltedQuill && s.pagesMatch && (sole || d.inStep) && (sole || d.quillSame) && links &&
  (alone || o.role == .down || s.exchanged) && (d.islands.at l).inService && (alone || d.sameImage l)

/-- Put a lane into the ACTIVE role as a switchover (R450 to R453): SWTIME, SWCNT, SWITCHOVER. -/
def Dev.switchTo (d : Dev) (l : Lane) (cmd : Bool) : Dev :=
  let d := if (d.lanes.at l.other).role = .active then d.onLane l.other fun s => { s with role := .standby } else d
  let d := d.onLane l fun s => { s with role := .active, standbyTo := [] }
  let d := d.s pgLANE R.LANE_SWTIME_T (d.now % 4294967296)
  let d := d.inc pgLANE (if cmd then R.LANE_SWCNT_CMD else R.LANE_SWCNT_DIAG)
  (d.cause pgLANE 0).raise (43 + 16 * l.idx)

/-- A lane that rejoins becomes eligible through LANE_REJOINED, where a lane stands whose shadow and edge stream it can match (log 127). -/
def Dev.rejoinsLater (d : Dev) (l : Lane) : Bool :=
  (d.lanes.at l).rejoining && ((d.lanes.at l.other).role == .active || (d.lanes.at l.other).role == .standby)

/-- Lane `l` carries a role again: a port of the other die that took over its sensor's drive returns to LISTEN (R66, R232, R456). -/
def Dev.listenAgain (d : Dev) (l : Lane) : Dev := d.onPos l.other fun s => { s with resDrive := false, ssiDrive := false }

/-- ROLE_ASSIGN (R442 to R444): eligibility of the period, and the roles of lanes that have become eligible. -/
def Dev.roleAssign (d : Dev) : Dev :=
  let ea := d.eligOk .a && !d.rejoinsLater .a
  let eb := d.eligOk .b && !d.rejoinsLater .b
  let d := d.onLane .a fun s => { s with eligible := ea }
  let d := d.onLane .b fun s => { s with eligible := eb }
  let pref : Lane := if d.g pgLANE R.LANE_CFG_PREF = 1 then .b else .a
  let ok : Lane → Bool := fun l => match l with | .a => ea | .b => eb
  let d : Dev := match d.active with
    | some _ => d
    | none =>
      let pick : Option Lane := if ok pref then some pref else if ok pref.other then some pref.other else none
      match pick with
      | some l => if (d.lanes.at l).role = .down then
          (d.onLane l fun s => { s with role := .active, rejoining := false }).listenAgain l else d
      | none => d
  let d := d.eachLane fun d l =>
    if ok l ∧ (d.lanes.at l).role = .down ∧ (d.lanes.at l.other).role = .active ∧ !(d.lanes.at l).rejoining then
      (d.onLane l fun s => { s with role := .standby }).listenAgain l else d
  d.eachLane fun d l =>
    let o := (d.lanes.at l.other).role
    let s := (d.lanes.at l).role
    if o = .active ∨ o = .standby then d.endCause (44 + 16 * l.idx)
    else if s = .active ∨ s = .standby then d.raiseCond (44 + 16 * l.idx) else d

/-- LANE.CMD SWITCH (R453, R455). -/
def Dev.laneSwitch (d : Dev) : Dev :=
  if d.handover.isSome then d.refuseLane 2
  else match d.active with
    | none => d.refuseLane 1
    | some l =>
      let s := d.lanes.at l.other
      if s.role = .standby ∧ s.eligible ∧ d.ctlCrossed then d.fixHandover l.other true else d.refuseLane 1

/-- A lane's comparator self-test fails (R439): LOCKSTEP_SELFTEST, a source of class LANE, fails the lane (R435, R457), with kind 4. -/
def Dev.selftestFails (d : Dev) (l : Lane) : Dev :=
  ((d.onLane l fun s => { s with stOk := false }).raise (36 + 16 * l.idx)).s pgLANE R.LANE_FAILREC_KIND 4 l.idx

/-- LANE.CMD SELFTEST (R439), with the outcome of each lane's test, which needs both of its dies; a lane that failed a test stays so until
a reset of it passes the test. -/
def Dev.laneSelftest (d : Dev) (passA passB : Bool) : Dev :=
  if d.mode.cur ≠ .maintenance then d.refuseLane 3
  else
    let one := fun (d : Dev) (l : Lane) (pass : Bool) =>
      if pass || !(d.up (.ctl l) && d.up (.iface l)) then d
      else d.selftestFails l
    one (one d .a passA) .b passB

/-- A PEER request reaches a lane (R27, R456): its own supervisor resets it in FAILED or DOWN, and ignores it else. -/
def Dev.peerRequest (d : Dev) (l : Lane) : Dev :=
  if (d.lanes.at l).role = .failed ∨ (d.lanes.at l).role = .down then
    (d.resetLane l R.SYS_RESET_CAUSE_PEER).onLane l fun s => { s with rejoining := true }
  else d.cause pgLANE 7

/-- A lane has failed and not rejoined (R456): it is FAILED, or DOWN, as a lost VCTL leaves it, while FAILREC holds its failure. -/
def Dev.laneFailed (d : Dev) (l : Lane) : Bool :=
  (d.lanes.at l).role == .failed || ((d.lanes.at l).role == .down && d.g pgLANE R.LANE_FAILREC_VALID l.idx == 1)

/-- LANE.CMD REJOIN (R456). -/
def Dev.laneRejoin (d : Dev) : Dev :=
  if d.laneFailed .a then d.peerRequest .a
  else if d.laneFailed .b then d.peerRequest .b
  else d.refuseLane 4

/-- PEER_RESET (R456): with AUTORESET = 1, the manager of the other lane, which runs, requests it HOLDOFF ms after the failure. -/
def Dev.peerReset (d : Dev) (l : Lane) : Dev :=
  if d.laneFailed l ∧ d.laneRuns l.other ∧ d.g pgLANE R.LANE_CFG_AUTORESET = 1 ∧ (d.lanes.at l).failedAt + d.g pgLANE R.LANE_CFG_HOLDOFF * 500000 ≤ d.now then
    d.peerRequest l
  else d

/-- HANDOVER (R453): at H the old lane designates STANDBY and the new one ACTIVE. -/
def Dev.handoverAt (d : Dev) : Dev :=
  match d.handover with
  | none => d
  | some h =>
    if d.now < h.tick then d
    else
      let d := { d with handover := none }
      if (d.lanes.at h.lane).role = .standby then d.switchTo h.lane h.cmd else d

/-- The withdrawal of R451: within 4 ticks every frame on the eight driver links stops, LANE_DOWN goes out on the control cross-link and the
isolated lanes that stand, and the lane falls silent until it is reset. Its queued messages never leave. -/
def Dev.withdraw (d : Dev) (l : Lane) : Dev :=
  let notice := [LinkRx.ctlCross l.other, .isoData l false, .isoTime l false].filter fun k => (d.link k).live
  let d := d.onLane l fun s => { s with
    silent := true, silentAt := d.now, downNotice := notice, withdrawAt := none, eligible := false }
  d.onMod l fun m => { m with masters := m.masters.map fun x => { x with queue := [], symbol := none } }

/-- SILENT_WITHDRAWAL (R451): the control die has learnt of its lane's cause. -/
def Dev.silentWithdrawal (d : Dev) (l : Lane) : Dev :=
  if (d.lanes.at l).role = .failed ∧ (d.lanes.at l).withdrawAt.isSome then d.withdraw l else d

/-- A cause on the interface die reaches the control die over an isolated lane (R450, R451). -/
def Dev.laneDownTaken (d : Dev) (l : Lane) : Dev :=
  if (d.lanes.at l).role = .failed ∧ !(d.lanes.at l).silent ∧ d.isoUp l then d.withdraw l else d

/-- LANE_DOWN_SYMBOL (R437, R450, R451). -/
def Dev.laneDownSymbol (d : Dev) (l : Lane) : Dev := d.viaInput l false .frame .laneDown fun d => d.laneDownTaken l

/-- SURVIVOR_ACTIVE (R452): a die reports the surviving lane's port active. With the first such report the lane takes the ACTIVE role, and
it designates itself ACTIVE to each die from the next frame after that die's report. -/
def Dev.survivorActive (d : Dev) (l : Lane) (k : DieIx) : Dev :=
  let o := (d.lanes.at l.other).role
  if (d.dies[k]).activePort ≠ some l then d
  else if (d.lanes.at l).role = .standby ∧ (o = .failed ∨ o = .down) then
    (d.switchTo l false).onLane l fun s => { s with standbyTo := (List.finRange 8).filter (· != k) }
  else d.onLane l fun s => { s with standbyTo := s.standbyTo.filter (· != k) }

/-- A reset lane rejoins: it has matched for REJOIN_N periods and may carry a role (R456). -/
def Dev.rejoins (d : Dev) (l : Lane) : Bool :=
  (d.lanes.at l).rejoining && decide (d.g pgLANE R.LANE_CFG_REJOIN_N ≤ (d.lanes.at l).rejoinCnt) && d.eligOk l

/-- LANE_REJOINED (R456). -/
def Dev.laneRejoined (d : Dev) (l : Lane) : Dev :=
  let d := d.onLane l fun s => { s with rejoining := false, eligible := true,
                                        role := if s.role = .down then .standby else s.role }
  let d := d.s pgLANE R.LANE_FAILREC_VALID 0 l.idx
  ((d.cause pgLANE 2).endCause (44 + 16 * l.other.idx)).listenAgain l

/-! ## State shadows (R41, R45, R446, R447) -/

/-- Change a lane's shadow registers. -/
def Dev.onShadow (d : Dev) (l : Lane) (f : ShadowRegs → ShadowRegs) : Dev := { d with shadows := d.shadows.put l (f (d.shadows.at l)) }

/-- The block of a lane's field unit. -/
def Dev.fieldShadow (d : Dev) (l : Lane) (x : Fin 2) : FieldShadow :=
  let g := fun (f : Fld) (i : Nat) => d.gl l (pgFIELD x) f i
  { axstate := g R.FIELD_STATE_AXSTATE 0, did := g R.FIELD_DID_VALUE 0, predRun := g R.FIELD_PRED_RUN_VALUE 0
    trims := (List.range 3).map (g R.FIELD_TRIM_VALUE), unit := d.fieldU l x, axis := d.axes[x] }

/-- The block of a lane's motion unit. -/
def Dev.motionShadow (d : Dev) (l : Lane) (x : Fin 2) : MotionShadow :=
  { words := (d.regs.filter (motionKey l x)).map fun kw => (kw.1 % 0x1000000, kw.2)
    unit := d.unitOf l x, chop := d.motion[x].chop.at l }

/-- The ticks of the last TCMD writes as a lane has them (R274, R446). -/
def Dev.tcmdOf (d : Dev) (l : Lane) : Vector Nat 2 :=
  if l = d.motionLane then Vector.ofFn fun x => d.axes[x].tcmdAt else (d.shadows.at l).tcmdAt

/-- The blocks of a lane as they stand. -/
def Dev.stateShadow (d : Dev) (l : Lane) : StateShadow :=
  { field := Vector.ofFn (d.fieldShadow l), motion := Vector.ofFn (d.motionShadow l)
    energy := (d.prot.at l).energy, limit := (d.prot.at l).limit
    shorts := (d.prot.at l).shorts, adapt := (d.prot.at l).adapt, tcmdAt := d.tcmdOf l }

/-- STATE_SHADOW_SEND (R446): the blocks of the ACTIVE lane leave over the control cross-link, as they stand. -/
def Dev.shadowSend (d : Dev) (l : Lane) : Dev :=
  if (d.lanes.at l).role = .active ∧ (d.link (.ctlCross l.other)).live then
    (d.onLane l fun s => { s with exchanged := true }).onShadow l.other fun s => { s with way := some (d.stateShadow l) }
  else d

/-- The state of the other lane's field unit that the standby lane takes (R446): observer, injection loop, polarity result. -/
def FieldUnit.shadow (own u : FieldUnit) : FieldUnit :=
  { own with
    lamA := u.lamA, lamB := u.lamB, thO := u.thO, rateO := u.rateO, eAvg := u.eAvg, okRun := u.okRun, badRun := u.badRun
    locked := u.locked, thH := u.thH, rateH := u.rateH, hfiErr := u.hfiErr, hfiRun := u.hfiRun, hfiOk := u.hfiOk, polDone := u.polDone }

/-- The catch progress that a block carries (R446); an axis that is synchronised already goes on. -/
def AxisState.shadow (own u : AxisState) : AxisState :=
  if own.starts then own
  else { own with
    catchAt := u.catchAt, catchWin := u.catchWin, samples := u.samples, early := u.early, catchNext := u.catchNext, tries := u.tries
    catchE := u.catchE, standstill := u.standstill, ascSince := u.ascSince, released := u.released }

/-- What the block of a motion unit carries (R446): the state of the set-point, of its segment, its resume data and commands. A command
that reached the receiver too waits there. -/
def MotionState.shadow (own u : MotionState) : MotionState :=
  { own with
    p := u.p, v := u.v, a := u.a, entry := u.entry, k := u.k, segN := u.segN, segP0 := u.segP0, segV0 := u.segV0, segP1 := u.segP1
    segV1 := u.segV1, segEnd := u.segEnd, segWait := u.segWait, segNext := u.segNext, nextBad := u.nextBad, runMode := u.runMode
    rMode := u.rMode, ridx := u.ridx, rk := u.rk, rTarget := u.rTarget, useResume := u.useResume, resumeEnds := u.resumeEnds
    pendingCmd := (own.pendingCmd).or u.pendingCmd, heldCmd := (own.heldCmd).or u.heldCmd, waitGo := u.waitGo, waitFire := u.waitFire
    levelPend := u.levelPend }

/-- T_H and OFS of a chopped leg as the standby lane takes them (R446). -/
def ChopLeg.shadow (own u : ChopLeg) : ChopLeg := { own with tH := u.tH, ofs := u.ofs }

/-- A lane's field unit of an axis takes a block; its catch progress is the lane's own until the lane is ACTIVE. -/
def Dev.takeField (d : Dev) (l : Lane) (x : Fin 2) (s : FieldShadow) : Dev :=
  let p := pgFIELD x
  let d := ((d.sl l p R.FIELD_STATE_AXSTATE s.axstate).sl l p R.FIELD_DID_VALUE s.did).sl l p R.FIELD_PRED_RUN_VALUE s.predRun
  let d := (List.range 3).foldl (fun d i => d.sl l p R.FIELD_TRIM_VALUE (s.trims.getD i 0) i) d
  (d.onFieldU l x fun u => u.shadow s.unit).onShadow l fun r => { r with axes := r.axes.set x (some s.axis) }

/-- A lane's motion unit becomes what `f` makes of it. -/
def Dev.onUnit (d : Dev) (l : Lane) (x : Fin 2) (f : MotionState → MotionState) : Dev :=
  if l = d.motionLane then d.onMotion x f
  else d.onShadow l fun r => { r with units := r.units.set x (f r.units[x]) }

/-- A lane's motion unit of an axis takes a block (R446). -/
def Dev.takeMotion (d : Dev) (l : Lane) (x : Fin 2) (s : MotionShadow) : Dev :=
  let d := { d with regs := d.regs.filter fun kw => !motionKey l x kw }
  let d := s.words.foldl (fun d kw => d.setWord l kw.1 kw.2) d
  (d.onMotion x fun m => { m with chop := m.chop.put l (Vector.zipWith ChopLeg.shadow (m.chop.at l) s.chop) }).onUnit l x (·.shadow s.unit)

/-- A lane has the ticks of the last TCMD writes from a block (R446). -/
def Dev.takeTcmd (d : Dev) (l : Lane) (t : Vector Nat 2) : Dev :=
  if l = d.motionLane then d.eachAxis fun d x => d.onAxis x fun s => { s with tcmdAt := t[x] }
  else d.onShadow l fun r => { r with tcmdAt := t }

/-- A lane takes blocks of a shadow: bit 0 the field units, bits 1 and 2 the motion unit of axis 1 and 2, bit 3 protection, bit 4 the
command timeouts. -/
def Dev.takeBlocks (d : Dev) (l : Lane) (s : StateShadow) (blocks : Nat) : Dev :=
  let d := if blocks.testBit 0 then d.eachAxis fun d x => d.takeField l x s.field[x] else d
  let d := d.eachAxis fun d x => if blocks.testBit (1 + x.val) then d.takeMotion l x s.motion[x] else d
  let d := if blocks.testBit 3 then
      d.onProt l fun p => { p with energy := s.energy, limit := s.limit, shorts := s.shorts, adapt := s.adapt }
    else d
  if blocks.testBit 4 then d.takeTcmd l s.tcmdAt else d

/-- The registers without some blocks: a block that has been taken waits no longer. -/
def ShadowRegs.without (r : ShadowRegs) (blocks : Nat) : ShadowRegs :=
  let rest := fun (s : StateShadow × Nat) => (s.1, s.2 &&& (31 ^^^ (blocks &&& 31)))
  { r with got := r.got.map rest, full := r.full.map rest }

/-- A lane follows the ACTIVE one: it is STANDBY, it rejoins (R446, R456), or it has started beside the ACTIVE lane and carries no role
yet (R443). -/
def Dev.follows (d : Dev) (l : Lane) : Bool :=
  let s := d.lanes.at l
  s.role == .standby || s.rejoining || (s.up && s.role == .down && (d.lanes.at l.other).role == .active)

/-- A tracking lane takes those of some blocks that it received last and that verified (R447). -/
def Dev.shadowTrack (d : Dev) (l : Lane) (blocks : Nat) : Dev :=
  match (d.shadows.at l).got with
  | none => d
  | some (s, mine) =>
    if d.follows l ∧ d.g pgLANE R.LANE_CFG_TRACK = 1 then
      (d.takeBlocks l s (mine &&& blocks)).onShadow l fun r => r.without (mine &&& blocks)
    else d

/-- STATE_SHADOW_RECEIVE (R41, R446, R447): the blocks on their way are held in the lane's shadow registers; `good` marks those whose CRC
verifies, a bit per block in the order of R446. A period without all of them raises STATE_MISS; one with all of them is the last
complete shadow. Quill's block is taken by SHADOW_RECEIVE. -/
def Dev.shadowBlocks (d : Dev) (l : Lane) (good : Nat) : Dev :=
  let way := (d.shadows.at l).way
  let all := way.isSome && good == 31
  let bits := (good.testBit 1).toNat + 2 * (good.testBit 2).toNat + 4 * (good.testBit 2).toNat + 8 * (good.testBit 3).toNat +
    16 * (good.testBit 4).toNat
  let d := d.onShadow l fun r =>
    { r with way := none, got := way.map fun s => (s, bits), full := if all then way.map fun s => (s, 31) else r.full }
  let d := d.onLane l fun s => { s with exchanged := all, shadowOk := all, rejoinCnt := if all then s.rejoinCnt else 0 }
  if all then d else (d.cause pgLANE 4).raise (42 + 16 * l.idx)

/-- A lane that follows takes the shadow's frame of its control cross-link. -/
def Dev.blocksArrive (d : Dev) (l : Lane) (good : Nat) : Dev :=
  if !d.follows l ∨ !(d.link (.ctlCross l)).live then d
  else d.shadowBlocks l good

/-- STATE_SHADOW_RECEIVE (R437, R447). -/
def Dev.shadowReceive (d : Dev) (l : Lane) (good : Nat) : Dev := d.viaInput l false .frame (.shadow good) fun d => d.blocksArrive l good

/-- A lane's own catch progress becomes the one in force (R41). -/
def Dev.shadowInForce (d : Dev) (l : Lane) : Dev :=
  d.eachAxis fun d x =>
    match ((d.shadows.at l).axes)[x] with | some s => d.onAxis x (·.shadow s) | none => d

/-- The lane whose motion units are shown has changed: the new one's own units, and its own ticks of the last TCMD writes, stand in their
place, and a lane that still runs keeps its own beside its shadow registers (R41). -/
def Dev.unitsFollow (d0 d : Dev) : Dev :=
  let l := d0.motionLane
  if l = d.motionLane then d
  else
   let new := (d.shadows.at l.other).tcmdAt
   let d := d.onShadow l fun r => { r with tcmdAt := Vector.ofFn fun x => d.axes[x].tcmdAt }
   (d.eachAxis fun d x => d.onAxis x fun s => { s with tcmdAt := new[x] }).eachAxis fun d x =>
    let m := d.motion[x]
    let kept : MotionState := if (d.lanes.at l).up then m else {}
    let new := { ((d.shadows.at l.other).units)[x] with chop := m.chop }
    (d.onShadow l fun r => { r with units := r.units.set x kept }).onMotion x fun _ => new

/-- A lane that becomes ACTIVE starts from its last complete shadow (R41, R45): from those of its blocks that it has not taken yet, and from
what it made of those it took. -/
def Dev.shadowStart (d : Dev) (l : Lane) : Dev :=
  let d := match (d.shadows.at l).full with
    | none => d
    | some (s, blocks) => d.takeBlocks l s blocks
  (d.shadowInForce l).onShadow l fun r => { units := r.units, tcmdAt := r.tcmdAt }

/-- The edges of one output in a stream. -/
def streamOf (o : OutIx) (l : List StreamEdge) : List Nat := (l.filter (·.out == o)).map (·.due)

/-- The timebase of an output's edges (R357): that of its leg. -/
def Dev.outTb (d : Dev) (l : Lane) (o : OutIx) : Fin 2 := match outLeg o with | some n => d.legTb l n | none => 0

/-- The period that produced an edge is over in both lanes. -/
def Dev.periodOver (d : Dev) (e : StreamEdge) : Bool :=
  [Lane.a, Lane.b].all fun l => let t := (d.mods.at l).tb (d.outTb l e.out); !t.running || decide (e.start < t.t0)

/-- Put a period of a timebase into a list without repeats, earliest first. -/
def insertPeriod (x : Fin 2 × Nat) : List (Fin 2 × Nat) → List (Fin 2 × Nat)
  | [] => [x]
  | y :: r => if x = y then y :: r else if x.2 < y.2 then x :: y :: r else y :: insertPeriod x r

/-- The largest deviation of paired due instants, in fine steps. -/
def maxDev (a b : List Nat) : Nat := (a.zip b).foldl (fun m (x, y) => max m (if x < y then y - x else x - y)) 0

/-- The streams of one period of a timebase are compared over its outputs (R448): a deviation beyond TOL or a missing edge counts, and CNT
periods of it in a row on one output raise DIVERGED. The flag says that no output has mismatched. -/
def Dev.streamsJudged (d : Dev) (mine : OutIx → Bool) (sa sb : List StreamEdge) : Dev × Bool :=
  let tol := d.g pgLANE R.LANE_ECMP_TOL * 32
  let res := (List.finRange 14).map fun o => if !mine o then (false, 0) else
    let a := streamOf o sa
    let b := streamOf o sb
    (a.length != b.length || tol < maxDev a b, maxDev a b)
  let dev := res.foldl (fun m r => max m r.2) 0
  let bad := res.any (·.1)
  let counts := (res.zip (List.finRange 14)).map fun (r, o) =>
    if r.1 then d.lanes.a.diverge.getD o.val 0 + 1 else if mine o then 0 else d.lanes.a.diverge.getD o.val 0
  let cnt := d.g pgLANE R.LANE_ECMP_CNT
  let many := counts.any (cnt ≤ ·)
  let counts := counts.map fun c => if cnt ≤ c then 0 else c
  let d := if d.g pgLANE R.LANE_ECMP_STAT_MAXDEV < dev then d.s pgLANE R.LANE_ECMP_STAT_MAXDEV (min dev 0xFFFF) else d
  let d := if bad then d.inc pgLANE R.LANE_ECMP_STAT_MISMATCH else d
  let d := d.eachLane fun d l => d.onLane l fun s => { s with diverge := counts }
  (if many then (d.cause pgLANE 3).eachLane fun d l => d.raise (41 + 16 * l.idx) else d, !bad)

/-- The periods that a list of edges names, each once, by timebase and start. -/
def Dev.periodsOf (d : Dev) (es : List StreamEdge) : List (Fin 2 × Nat) :=
  es.foldl (fun ps e => insertPeriod (d.outTb .a e.out, e.start) ps) []

/-- Judge one period of a timebase with the streams of both lanes as they stand in `d` (R448). -/
def Dev.periodJudged (d : Dev) (r : Dev × Bool) (p : Fin 2 × Nat) : Dev × Bool :=
  let of := fun (s : List StreamEdge) => s.filter fun e => e.start == p.2 && d.outTb .a e.out == p.1
  let q := r.1.streamsJudged (fun o => d.outTb .a o == p.1) (of d.lanes.a.stream) (of d.lanes.b.stream)
  (q.1, r.2 && q.2)

/-- EDGE_STREAM_COMPARE (R448, R449): both lane managers pair the streams per output and per period, of the periods that are over. A lane
that rejoins counts them (R456). -/
def Dev.streamCompare (d : Dev) : Dev :=
  if !d.ctlCrossed ∨ d.g pgLANE R.LANE_ECMP_EN = 0 then d.eachLane fun d l => d.onLane l fun s => { s with stream := [] }
  else
    let ended := (d.lanes.a.stream ++ d.lanes.b.stream).filter d.periodOver
    let (d, good) := (d.periodsOf ended).foldl d.periodJudged (d, true)
    d.eachLane fun d l => d.onLane l fun s => { s with
      stream := s.stream.filter fun e => !ended.contains e
      rejoinCnt := if s.rejoining then (if good ∧ s.shadowOk then s.rejoinCnt + 1 else 0) else s.rejoinCnt }

/-- A halt or its end (R441): accepted in STANDBY and MAINTENANCE only; no VIO, no port (R79). -/
def Dev.haltTaken (d : Dev) (l : Lane) (quill on : Bool) : Dev :=
  if !d.debugReaches l ∨ (on ∧ !d.modeIs [.standby, .maintenance]) then d
  else if quill then d.onLane l fun s => { s with haltedQuill := on }
  else (d.onLane l fun s => { s with halted := on, core := [] }).sl l (pgCPU l) R.CPU_DBG_HALTED (if on then 1 else 0)

/-- DEBUG_HALT (R437, R441). -/
def Dev.debugHalt (d : Dev) (l : Lane) (quill on : Bool) : Dev := d.viaInput l false .debug (.halt quill on) fun d => d.haltTaken l quill on

/-- Set what a debugger knows of a halted core. -/
def Dev.coreSet (d : Dev) (l : Lane) (k : Nat) (v : Word) : Dev := d.onLane l fun s => { s with core := (k, v) :: s.core.filter (·.1 != k) }

/-- A debugger reads a value of the control cores: of halted ones the one that it has written or read before, else a free one, since the
spec describes neither the firmware nor the cores' state. Integer register 0 reads 0, as in every RV32 (PRESUMED, log 122). -/
def Dev.coreRead (d : Dev) (l : Lane) (k : Nat) : Dev :=
  let v := if k = 0 then 0 else match (d.lanes.at l).core.find? (·.1 == k) with | some e => e.2 | none => Config.freeWord d.freeCtr
  let d := if k = 0 ∨ !(d.lanes.at l).halted then d.fresh else d.fresh.coreSet l k v
  { d with host := { d.host with readData := [v] } }

/-- DEBUG_ACTION on control cores (R440, R441): on halted ones, in both copies; a memory read in every mode. A single step leaves nothing
known of what it changes. -/
def Dev.debugCore (d : Dev) (l : Lane) (a : DebugAct) : Dev :=
  if !d.debugReaches l ∨ !((d.lanes.at l).halted || readsMem a) then d
  else match a with
    | .resume => d.haltTaken l false false
    | .step => d.onLane l fun s => { s with core := [] }
    | .writeReg r v => if r = 0 then d else d.coreSet l r.val v
    | .writeMem _ n v => d.coreSet l (64 + n) v
    | .readReg r => d.coreRead l r.val
    | .readMem _ n => d.coreRead l (64 + n)

end Sys2Proof.Machine
end

