-- ==== Sys2Proof/Machine/Measure.lean ====
section
/-! DEFINITION. Chapter 05: converters, background calibration, result words, window integration, the sequencer, urgent
conversions and the comparison of the two lanes. -/

namespace Sys2Proof.Machine

/-! ## Result words (R169, R170) -/

/-- One bit of the CRC-4 of R170. -/
def crc4Bit (crc : Nat) (b : Bool) : Nat :=
  let fb := (8 ≤ crc) != b
  let c := 2 * crc % 16
  if fb then Nat.xor c 3 else c

/-- The check nibble over bits 31:16 and 11:0 of a word. -/
def crc4 (w : Word) : Nat :=
  let bits := (List.range 16).map (fun i => w.getLsbD (31 - i)) ++ (List.range 12).map fun i => w.getLsbD (11 - i)
  bits.foldl crc4Bit 15

/-- The result word of a value (R169). -/
def resultWord (value : Int) (uns sat skip : Bool) (kind : Nat) (l : Lane) (source : Nat) : Word :=
  let w := intField 16 value * 65536 + (if uns then 2048 else 0) + (if sat then 1024 else 0) + (if skip then 512 else 0) +
    kind * 128 + l.idx * 64 + source % 64
  BitVec.ofNat 32 (w + 4096 * crc4 (BitVec.ofNat 32 w))

/-- VALUE of a result word. -/
def resValue (w : Word) : Int := (w.extractLsb' 16 16).toInt

/-- CHECK of a result word holds. -/
def resCheck (w : Word) : Bool := crc4 w == w.toNat / 4096 % 16

/-- UNSETTLED, SAT and SKIP of a result word. -/
def resUns (w : Word) : Bool := w.getLsbD 11
def resSat (w : Word) : Bool := w.getLsbD 10
def resSkip (w : Word) : Bool := w.getLsbD 9

/-! ## Grid and inputs -/

/-- Gang mode of a converter (R153). -/
def Dev.gang (d : Dev) (l : Lane) (c : Fin 2) : Bool := d.gl l (pgCONV l c) R.CONV_MODE_GANG == 1

/-- The sample distance Ts (R155). -/
def Dev.sampleTs (d : Dev) (l : Lane) (c : Fin 2) : Nat := if d.gang l c then 5 else 20

/-- Ticks of the interleave position of a stamp, none off the grid: t − PHASE − 5j in gang mode, t − PHASE − 20j in split mode,
modulo 40 (R153, R154). -/
def Dev.gridPos (d : Dev) (l : Lane) (c : Fin 2) (t : Nat) : Option Nat :=
  let ts := d.sampleTs l c
  let ph := d.gl l (pgCONV l c) R.CONV_MODE_PHASE % (if d.gang l c then 5 else 20)
  let x := (t + 40 - ph) % 40
  if x % ts = 0 then some (x / ts) else none

/-- GRPn's input code, and whether its window integration is enabled. -/
def Dev.grpInput (d : Dev) (l : Lane) (c : Fin 2) (g : Fin 3) : Nat :=
  d.gl l (pgCONV l c) (match g with | 0 => R.CONV_GRP0_INPUT | 1 => R.CONV_GRP1_INPUT | 2 => R.CONV_GRP2_INPUT)

/-- GRPn.WEN; in gang mode group 0 alone has windows (R153). -/
def Dev.grpWen (d : Dev) (l : Lane) (c : Fin 2) (g : Fin 3) : Bool :=
  d.gl l (pgCONV l c) (match g with | 0 => R.CONV_GRP0_WEN | 1 => R.CONV_GRP1_WEN | 2 => R.CONV_GRP2_WEN) == 1 &&
  (!d.gang l c || g == 0)

/-- The input code that a group's stream converted at a tick of the near past: what the first change from then on replaced, else the
present one (R164, R169). -/
def Dev.codeAt (d : Dev) (l : Lane) (c : Fin 2) (g : Fin 3) (t : Nat) : Nat :=
  match (d.meas.at l).convs[c].groups[g].codes.find? fun e => decide (t ≤ e.1) with
  | some e => e.2
  | none => d.grpInput l c g

/-- The input codes of R162 that exist on converter x0, or on x1. -/
def inputCode (c : Fin 2) (code : Nat) : Bool :=
  code ≤ 2 || (8 ≤ code && code ≤ 10) || code == 0x10 || (code == 0x11 && c == 0) || (0x18 ≤ code && code ≤ 0x1C)

/-- The leg a group serves (R163). -/
def groupLeg (c : Fin 2) (g : Fin 3) : Fin 6 := ⟨3 * c.val + g.val, by omega⟩

/-! ## Windows (R171 to R177) -/

/-- The window of a group in the present period, as start and end ticks (R171 to R173): the start is absent while no low-side
turn-on is due and the low side was off. DESIGN CHOICE: a turn-off due exactly at the start counts as one after it, so that the
window is empty. -/
def Dev.windowOf (d : Dev) (l : Lane) (c : Fin 2) (g : Fin 3) : Option Nat × Nat :=
  let tb : Fin 2 := if d.gl l (pgCONV l c) R.CONV_MODE_TB = 1 then 1 else 0
  let t := (d.mods.at l).tb tb
  let s := (d.mods.at l).legs[groupLeg c g]
  let stop := ((t.t0 + t.per : Int) + t.syncAdj).toNat
  let top := min stop (t.t0 + d.gl l (pgCONV l c) R.CONV_WEND_WEND g.val)
  let edges := s.lowEdges.filter (t.t0 ≤ ·.2)
  let on := if s.lsStart then some t.t0 else (edges.find? (·.1)).map (·.2)
  let start := if s.lsStart then some t.t0 else on.map (· + d.gl l (pgCONV l c) R.CONV_WIN_BLANK g.val)
  let off := match start with
    | some a => (edges.find? fun e => !e.1 && a ≤ e.2).map (·.2)
    | none => none
  let fin := match off with | some o => min top o | none => top
  let fin := match s.lowCut with | some k => min fin k | none => fin
  match s.lowCut, start with
  | some k, some a => if k ≤ a then (none, k) else (some a, fin)
  | _, _ => (start, fin)

/-- The window of a group is open at a tick. -/
def Dev.windowOpen (d : Dev) (l : Lane) (c : Fin 2) (g : Fin 3) (t : Nat) : Bool :=
  d.grpWen l c g &&
  (match d.windowOf l c g with
   | (some a, e) => decide (a ≤ t ∧ t < e)
   | (none, _) => false)

/-- A window of a group, of this period or of the one before, holds a tick. -/
def Dev.windowHeld (d : Dev) (l : Lane) (c : Fin 2) (g : Fin 3) (t : Nat) : Bool :=
  d.windowOpen l c g t ||
  (match (d.meas.at l).convs[c].groups[g].prev with
   | some (some a, e, _) => decide (a ≤ t ∧ t < e)
   | _ => false)

/-- Start and length of the present period of a converter's timebase. -/
def Dev.convPeriod (d : Dev) (l : Lane) (c : Fin 2) : Nat × Nat :=
  let t := (d.mods.at l).tb (if d.gl l (pgCONV l c) R.CONV_MODE_TB = 1 then 1 else 0)
  (t.t0, ((t.per : Int) + t.syncAdj).toNat)

/-- The period of a timebase ends: the windows taken on it wait for their close. -/
def Dev.endWindows (d : Dev) (l : Lane) (tb : Fin 2) (next : Nat) : Dev :=
  [(0 : Fin 2), 1].foldl (fun d c =>
    if d.gl l (pgCONV l c) R.CONV_MODE_TB ≠ tb.val then d
    else [(0 : Fin 3), 1, 2].foldl (fun d g =>
      let w := d.windowOf l c g
      let wen := d.grpWen l c g
      d.onGroup l c g fun s => { s with
        prev := if wen ∧ !s.closed then some (w.1, min w.2 next, s.acc) else s.prev
        prevAt := if wen ∧ !s.closed then d.convPeriod l c else s.prevAt, closed := false, acc := {} }) d) d

/-- A timebase begins to count: no window of its converters' groups is taken yet, and the last one before its stop, where it has run
and that window has not closed, waits for its close (R171, R176). -/
def Dev.beginWindows (d : Dev) (l : Lane) (tb : Fin 2) (s0 : Nat) : Dev :=
  let d := if ((d.mods.at l).tb tb).ran then d.endWindows l tb s0 else d
  [(0 : Fin 2), 1].foldl (fun d c =>
    if d.gl l (pgCONV l c) R.CONV_MODE_TB ≠ tb.val then d
    else [(0 : Fin 3), 1, 2].foldl (fun d g => d.onGroup l c g fun s => { s with closed := false, acc := {} }) d) d

/-- Count a value into sums. -/
def WinAcc.add (a : WinAcc) (t : Nat) (v : Int) (sat : Bool) : WinAcc :=
  { a with n := a.n + 1, s0 := a.s0 + v, s1 := a.s1 + a.n * v, first := if a.n = 0 then t else a.first, sat := a.sat || sat }

/-- Count a sample of a group's own input into the window that holds its stamp (R174). -/
def Dev.windowSample (d : Dev) (l : Lane) (c : Fin 2) (g : Fin 3) (t : Nat) (v : Int) (uns sat : Bool) : Dev :=
  if !d.grpWen l c g then d
  else
    let inside := fun (w : Option Nat × Nat) => (match w.1 with | some a => decide (a ≤ t ∧ t < w.2) | none => false : Bool)
    let put := fun (a : WinAcc) => if uns then { a with uns := true } else a.add t v sat
    match (d.meas.at l).convs[c].groups[g].prev with
    | some (s, e, a) =>
      if inside (s, e) then d.onGroup l c g fun x => { x with prev := some (s, e, put a) }
      else if inside (d.windowOf l c g) then d.onGroup l c g fun x => { x with acc := put x.acc } else d
    | none => if inside (d.windowOf l c g) then d.onGroup l c g fun x => { x with acc := put x.acc } else d

/-- Mean and slope of R175, with whether either was limited to 16 bits. -/
def winMean (a : WinAcc) : Int × Bool :=
  let m := divRoundAway a.s0 a.n
  (satS 16 m, satS 16 m != m)

/-- Slope of R175 in 1/16 LSB per microsecond. -/
def winSlope (a : WinAcc) (ts : Nat) : Int × Bool :=
  let num : Int := (12 * a.s1 - 6 * (a.n - 1) * a.s0) * 8000
  let s := divRoundAway num (a.n * (a.n * a.n - 1) * ts)
  (satS 16 s, satS 16 s != s)

/-- A run of disagreements is reported (R185, R187). -/
def Dev.disagreeRaise (d : Dev) (l : Lane) (c : Fin 2) (k : Nat) : Dev :=
  (d.causeL l (pgCONV l c) (BitVec.ofNat 32 (2 ^ k))).raise (96 + 8 * (2 * l.idx + c.val) + k)

/-- The two lanes' means of a leg are compared at lane `l` once both of one period have come (R185): a mean whose partner never
came is left out, a skipped window is not compared, and a run of CNT disagreements is reported once. -/
def Dev.compareMeans (d : Dev) (l : Lane) (c : Fin 2) (n : Fin 6) : Dev :=
  let m := d.meas.at l
  match m.own.getD n.val none, m.peer.getD n.val none with
  | some (ta, a), some (tb, b) =>
    if ta < tb then d.onMeas l fun m => { m with own := m.own.set n.val none }
    else if tb < ta then d.onMeas l fun m => { m with peer := m.peer.set n.val none }
    else
      let d := d.onMeas l fun m => { m with own := m.own.set n.val none, peer := m.peer.set n.val none }
      if resSkip a ∨ resSkip b then d
      else if d.gl l (pgCONV l c) R.CONV_XCHK_ILIM < (resValue a - resValue b).natAbs then
        let run := m.run.getD n.val 0 + 1
        let due := d.gl l (pgCONV l c) R.CONV_XCHK_CNT ≤ run ∧ !m.runUp.getD n.val false
        let d := d.onMeas l fun m => { m with run := m.run.set n.val run, runUp := if due then m.runUp.set n.val true else m.runUp }
        if due then d.disagreeRaise l c 1 else d
      else d.onMeas l fun m => { m with run := m.run.set n.val 0, runUp := m.runUp.set n.val false }
  | _, _ => d

/-- Deliver the words of a window, whose period `pp` gives as start and length: registers, cause, Quill's words, the exchange (R176,
R177, R185, R397). DESIGN CHOICE: FIRST of a window without a counted sample is 0. -/
def Dev.deliverWindow (d : Dev) (l : Lane) (c : Fin 2) (g : Fin 3) (fin : Nat) (a : WinAcc) (pp : Nat × Nat) : Dev :=
  let p := pgCONV l c
  let n := groupLeg c g
  let skip := a.n < d.gl l p R.CONV_WIN_NMIN g.val
  let code := d.codeAt l c g fin
  let (mean, msat) := winMean a
  let (slope, ssat) := winSlope a (d.sampleTs l c)
  let wm := if skip then resultWord 0 a.uns false true 1 l code else resultWord mean a.uns (a.sat || msat) false 1 l code
  let ws := if skip then resultWord 0 a.uns false true 2 l code else resultWord slope a.uns (a.sat || ssat) false 2 l code
  let d := d.sl l p R.CONV_MEAN_VALUE wm.toNat g.val
  let d := d.sl l p R.CONV_SLOPE_VALUE ws.toNat g.val
  let d := d.sl l p R.CONV_INFO_N (min a.n 0x3FFFF) g.val
  let d := d.sl l p R.CONV_FIRST_VALUE (a.first % 4294967296) g.val
  let bits := d.gl l p R.CONV_STAT_SKIPPED
  let bits := bits - (if bits / 2 ^ g.val % 2 = 1 then 2 ^ g.val else 0)
  let d := d.sl l p R.CONV_STAT_SKIPPED (bits + if skip then 2 ^ g.val else 0)
  let d := if skip then d.causeL l p (BitVec.ofNat 32 (2 ^ (4 + g.val))) else d
  let d := d.onMeas l fun m => { m with
    words := m.words.set n { mean := wm, slope := ws, first := a.first, n := a.n, fin := fin, pstart := pp.1, per := pp.2, at' := some d.now }
    own := m.own.set n.val (some (pp.1, wm)) }
  let d := if !skip ∧ !resUns wm then
      d.onMod l fun m => { m with lastMean := m.lastMean.set n.val (some mean) } else d
  let o := l.other
  let d := if (d.link (.ctlCross o)).live ∧ d.up (.ctl o) then
      (d.onMeas o fun m => { m with peer := m.peer.set n.val (some (pp.1, wm)) }).compareMeans o c n else d
  d.compareMeans l c n

/-- WINDOW_CLOSE (R176): 32 ticks after the window's end tick. A timebase that has never counted gives no window (R171). -/
def Dev.windowClose (d : Dev) (l : Lane) (c : Fin 2) (g : Fin 3) : Dev :=
  let s := (d.meas.at l).convs[c].groups[g]
  if !d.grpWen l c g ∨ !d.up (.ctl l) then d
  else
    match s.prev with
    | some (_, e, acc) =>
      if e + 32 ≤ d.now then (d.onGroup l c g fun x => { x with prev := none }).deliverWindow l c g e acc s.prevAt else d
    | none =>
      let w := d.windowOf l c g
      let tb : Fin 2 := if d.gl l (pgCONV l c) R.CONV_MODE_TB = 1 then 1 else 0
      if s.closed ∨ d.now < w.2 + 32 ∨ !((d.mods.at l).tb tb).ran then d
      else (d.onGroup l c g fun x => { x with closed := true }).deliverWindow l c g w.2 s.acc (d.convPeriod l c)

/-! ## Conversions and background calibration (R152, R157 to R161, R164, R166, R167) -/

/-- The corrected value of a raw code with a slice's CORRn (R159), and whether it was limited. -/
def Dev.corrected (d : Dev) (l : Lane) (c : Fin 2) (s : Nat) (raw : Int) : Int × Bool :=
  let p := pgCONV l c
  let off := d.glS l p R.CONV_CORR_OFFSET s
  let gain := d.glS l p R.CONV_CORR_GAIN s
  let v := divRoundAway ((32 * raw - off) * (65536 + gain)) 524288
  (satS 16 v, satS 16 v != v)

/-- The stamp precedes SETTLED = 1 (R167). -/
def Dev.unsettled (d : Dev) (l : Lane) (c : Fin 2) (t : Nat) : Bool :=
  d.gl l (pgCONV l c) R.CONV_REF_EN == 0 || t < (d.meas.at l).convs[c].refAt + 1000000

/-- The register of a job: an urgent channel's request word, or the sequencer's present entry. DESIGN CHOICE (log 101): it is read as it
stands at each conversion and at the completion, so that a write of ENTRYn_CFG while the entry runs acts on the rest of it. -/
def Dev.jobCfg (d : Dev) (l : Lane) (job : Nat) : Word :=
  if job < 4 then d.word l (pageAddr (pgSEQ l) (0x48 + 4 * job))
  else d.word l (pageAddr (pgSEQ l) (0x100 + 8 * d.gl l (pgSEQ l) R.SEQ_STAT_CUR))

/-- CONV, GROUP, INPUT and AVG of a job word. -/
def jobConv (w : Word) : Nat := w.toNat / 2 ^ 29 % 4
def jobGroup (w : Word) : Nat := w.toNat / 2 ^ 27 % 4
def jobInput (w : Word) : Nat := w.toNat / 2 ^ 21 % 64
def jobAvg (w : Word) : Nat := w.toNat / 2 ^ 16 % 8

/-- RESULT_CHECK of a converter (R170): a word's CHECK fails at its consumer. -/
def Dev.resultCheck (d : Dev) (l : Lane) (c : Fin 2) : Dev := (d.causeL l (pgCONV l c) 8).raise (96 + 8 * (2 * l.idx + c.val) + 3)

/-- Take a word of the DC-link input as the lane's latest DC-link value (R170, R186). -/
def Dev.keepDcl (d : Dev) (l : Lane) (c : Fin 2) (code : Nat) (res : Word) : Dev :=
  if code ≠ 0x10 then d
  else if resCheck res then d.onMeas l fun m => { m with dcl := some (resValue res) } else d.resultCheck l c

/-- A sample of a group's stream at stamp t: for a running job its settling sample or a conversion, else the group's own input,
with its settling sample (R164, R182). Its SOURCE is the code that the stream converted at its stamp (R169). DESIGN CHOICE (log 101):
LASTn shows the group's own samples alone, and no settling sample. -/
def Dev.streamSample (d : Dev) (l : Lane) (c : Fin 2) (g : Fin 3) (t : Nat) (v : Int) (sat : Bool) : Dev :=
  let s := (d.meas.at l).convs[c].groups[g]
  let uns := d.unsettled l c t
  let own := fun (d : Dev) =>
    let code := d.codeAt l c g t
    if s.settle.any (· < t) then d.onGroup l c g fun x => { x with settle := x.settle.filter fun k => decide (t ≤ k) }
    else
      let res := resultWord v uns sat false 0 l code
      let d := d.sl l (pgCONV l c) R.CONV_LAST_VALUE res.toNat g.val
      (d.keepDcl l c code res).windowSample l c g t v uns sat
  match s.job with
  | none => own d
  | some j =>
    if t ≤ s.jobFrom then (if s.jobOwn then own d else d)
    else if s.jobSettle then d.onGroup l c g fun x => { x with jobSettle := false }
    else
      let acc := { s.jobAcc.add t v sat with uns := s.jobAcc.uns || uns }
      if acc.n < 2 ^ jobAvg (d.jobCfg l j) then d.onGroup l c g fun x => { x with jobAcc := acc }
      else
        let d := d.onGroup l c g fun x => { x with job := none, jobFrom := t, jobAcc := {}, settle := t :: x.settle }
        d.onMeas l fun m =>
          if j < 4 then { m with urgDone := m.urgDone.set j (some acc) } else { m with seqDone := some acc }

/-- The rotation set of a slice: the one of gang mode, or that of its group. -/
def Dev.rotOf (d : Dev) (l : Lane) (c : Fin 2) (slice : Nat) : Nat := if d.gang l c then 0 else slice / 3

/-- Change a rotation set. -/
def Dev.onRot (d : Dev) (l : Lane) (c : Fin 2) (r : Nat) (f : RotState → RotState) : Dev :=
  d.onConv l c fun v => { v with rots := v.rots.modify r f }

/-- The active slice that the spare exchanges places with: the next one in ascending order within the set (R157). -/
def RotState.follower (r : RotState) : Nat :=
  match (r.slots.filter (r.spare < ·)).min? with
  | some s => s
  | none => (r.slots.min?).getD 0

/-- The exchange of R157: the former spare takes the follower's position. -/
def RotState.exchange (r : RotState) : RotState :=
  let f := r.follower
  { slots := r.slots.map fun s => if s = f then r.spare else s, spare := f }

/-- The group a stamp's window judgement uses for a rotation set. -/
def rotGroup (r : Nat) : Fin 3 := ⟨r % 3, by omega⟩

/-- Show the spares in CAL (R189). -/
def Dev.showSpares (d : Dev) (l : Lane) (c : Fin 2) : Dev :=
  let rs := (d.meas.at l).convs[c].rots
  let sp := fun i => ((rs[i]?).map (·.spare)).getD 0
  let d := d.sl l (pgCONV l c) R.CONV_CAL_SPARE (sp 0)
  d.sl l (pgCONV l c) R.CONV_CAL_SPARE_SPLIT (if d.gang l c then 0 else 16 * sp 2 + sp 1)

/-- A value of the active stream for the skew estimate (R158): it completes the pair begun before it, and meets the spare's live
conversion of the same stamp. -/
def RotState.skewActive (r : RotState) (t ts : Nat) (v : Int) : RotState :=
  let r := match r.mid, r.last with
    | some (dv, before), (tl, _) :: _ =>
      if t = tl + ts then { r with sumDD := r.sumDD + dv * (v - before), sumSq := r.sumSq + (v - before) * (v - before), mid := none }
      else { r with mid := none }
    | _, _ => { r with mid := none }
  let r := match r.live, r.last with
    | some (tsp, w), (tl, before) :: _ =>
      if tsp = t ∧ t = tl + ts then { r with mid := some (w - v, before), live := none }
      else if tsp ≤ t then { r with live := none } else r
    | some (tsp, _), [] => if tsp ≤ t then { r with live := none } else r
    | none, _ => r
  { r with last := (t, v) :: r.last.take 1 }

/-- A live conversion of the spare beside the active slice of position j (R158): each active slice has an equal share of the 2,048,
and a conversion beyond it is none of the turn. One whose active partner came first is paired at once. -/
def RotState.spareLive (r : RotState) (t ts j : Nat) (v : Int) : RotState :=
  if 2048 / max 1 r.slots.length ≤ r.shares.getD j 0 then r
  else
    let r := { r with n := r.n + 1, shares := (List.range r.slots.length).map fun i => r.shares.getD i 0 + if i = j then 1 else 0 }
    match r.last with
    | (tl, w) :: (tb, before) :: _ =>
      if tl = t ∧ t = tb + ts then { r with mid := some (v - w, before), live := none } else { r with live := some (t, v) }
    | _ => { r with live := some (t, v) }

/-- A conversion of the spare (R158): zero, reference, or live at a hold edge of the active slice of a position. -/
def RotState.spareConv (r : RotState) (t ts : Nat) (pos : Option Nat) (raw v : Int) : RotState :=
  if r.stopped ∨ r.exch.isSome ∨ 4096 ≤ r.n then r
  else if r.n < 1024 then { r with n := r.n + 1, sumZero := r.sumZero + raw }
  else if r.n < 2048 then { r with n := r.n + 1, sumRef := r.sumRef + raw }
  else match pos with
    | some j => r.spareLive t ts j v
    | none => r

/-- A converted value is ready (R152). -/
def Dev.conversionReady (d : Dev) (l : Lane) (c : Fin 2) (slice : Fin 9) (raw0 : Int) : Dev :=
  let raw := clampInt (-8192) 8191 raw0
  let t := d.now - 30
  let ri := d.rotOf l c slice.val
  match ((d.meas.at l).convs[c].rots[ri]?) with
  | none => d
  | some r =>
    let pos := d.gridPos l c t
    let free := !d.windowHeld l c (rotGroup ri) t
    let due : Bool := match r.exch, pos with
      | some e, some j => decide (e ≤ t) && free && r.slots[j]? == some r.follower
      | _, _ => false
    let d := if due then (d.onRot l c ri RotState.exchange).showSpares l c else d
    let r := if due then r.exchange else r
    let (v, lim) := d.corrected l c slice.val raw
    let sat := lim || raw == -8192 || raw == 8191
    if slice.val = r.spare then d.onRot l c ri fun r => r.spareConv t (d.sampleTs l c) pos raw v
    else
      match pos with
      | none => d
      | some j =>
        if r.slots[j]? = some slice.val then
          (d.onRot l c ri fun r => r.skewActive t (d.sampleTs l c) v).streamSample l c (rotGroup ri) t v sat
        else d

/-- CONVERSION_COMPLETE (R152): the corrected value is ready 30 ticks after the hold edge. The slice is the active one of the
stamp's position, or the spare of its set; a raw code of another slice is no conversion of the stream. -/
def Dev.conversionComplete (d : Dev) (l : Lane) (c : Fin 2) (slice : Fin 9) (raw0 : Int) : Dev :=
  if !d.up (.ctl l) ∨ d.now < 30 then d else d.conversionReady l c slice raw0

/-- A correction moved by its estimate: new = old + (estimate − old) / 2^MU, held at its limit, with whether it was (R158,
R161). -/
def correctionStep (old est : Int) (mu : Nat) (lim : Int) : Int × Bool :=
  let x := old + divOpen (est - old) (2 ^ mu)
  (clampInt (-lim) lim x, clampInt (-lim) lim x != x)

/-- The slices of a rotation set. -/
def RotState.slices (r : RotState) : List Nat := r.spare :: r.slots

/-- The mean of the set's SKEW fields is subtracted from each (R158). -/
def Dev.centreSkew (d : Dev) (l : Lane) (c : Fin 2) (r : RotState) : Dev × Bool :=
  let p := pgCONV l c
  let ss := r.slices
  let mean := divOpen ((ss.map fun s => d.glS l p R.CONV_CORR_SKEW s).sum) ss.length
  ss.foldl (fun (d, lim) s =>
    let x := d.glS l p R.CONV_CORR_SKEW s - mean
    (d.slS l p R.CONV_CORR_SKEW (clampInt (-127) 127 x) s, lim || clampInt (-127) 127 x != x)) (d, false)

/-- The end of a spare's turn (R157, R158, R161): its corrections follow their estimates, and the exchange waits for the follower's
next hold edge; with AUTO = 0 rotation stops (R160). DESIGN CHOICE: AUTO cleared between the end of a turn and its pending exchange
still lets the exchange take place, and rotation stops at the end of the turn that then begins. -/
def Dev.turnEnds (d : Dev) (l : Lane) (c : Fin 2) (g : Fin 3) (r : RotState) : Dev :=
  let p := pgCONV l c
  let s := r.spare
  let mu := d.gl l p R.CONV_CAL_MU
  let skew := if r.sumSq = 0 then Config.skewEstimate r.sumDD
    else divOpen (256 * 2 * (d.sampleTs l c : Int) * r.sumDD) r.sumSq.toNat
  let (o, lo) := correctionStep (d.glS l p R.CONV_CORR_OFFSET s) (Config.offsetEstimate r.sumZero) mu 2047
  let (k, lk) := correctionStep (d.glS l p R.CONV_CORR_GAIN s) (Config.gainEstimate r.sumZero r.sumRef) mu 2047
  let (w, lw) := correctionStep (d.glS l p R.CONV_CORR_SKEW s) skew mu 127
  let d := ((d.slS l p R.CONV_CORR_OFFSET o s).slS l p R.CONV_CORR_GAIN k s).slS l p R.CONV_CORR_SKEW w s
  let (d, lc) := d.centreSkew l c r
  let d := if d.gl l p R.CONV_CAL_AUTO = 1 then d.onRot l c g.val fun r => { r with exch := some d.now }
    else d.onRot l c g.val fun r => { r with stopped := true }
  if lo || lk || lw || lc then (d.causeL l p 1).raise (96 + 8 * (2 * l.idx + c.val)) else d

/-- SPARE_TURN_END (R157): after 4,096 spare conversions. -/
def Dev.spareTurnEnd (d : Dev) (l : Lane) (c : Fin 2) (g : Fin 3) : Dev :=
  match (d.meas.at l).convs[c].rots[g.val]? with
  | none => d
  | some r => if r.n < 4096 ∨ r.exch.isSome ∨ r.stopped then d else d.turnEnds l c g r

/-- The jobs of a converter lose their groups: a sequencer entry and an urgent request start again from their beginning, and each group's
own input returns with a settling sample (R164). -/
def Dev.requeueJobs (d : Dev) (l : Lane) (c : Fin 2) : Dev :=
  let seqHere := (d.meas.at l).convs[c].groups.toList.any (·.job == some 4)
  let d := if seqHere then d.onMeas l fun m => { m with seqTrig := true } else d
  d.onConv l c fun v => { v with groups := v.groups.map fun g =>
    { g with job := none, jobSettle := false, jobAcc := {}, settle := d.now :: g.settle } }

/-- A write of MODE.GANG that changes it: rotation restarts with the spares of R189. DESIGN CHOICE: a conversion of the sequencer or of an
urgent channel that runs there starts again on the groups of the new mode. -/
def Dev.restartRotation (d : Dev) (l : Lane) (c : Fin 2) : Dev :=
  let rots : List RotState := if d.gang l c then [{ slots := [0, 1, 2, 3, 4, 5, 6, 7], spare := 8 }]
    else [{ slots := [0, 1], spare := 2 }, { slots := [3, 4], spare := 5 }, { slots := [6, 7], spare := 8 }]
  ((d.onConv l c fun v => { v with rots := rots }).requeueJobs l c).showSpares l c

/-- A change of MODE.GANG that comes with a soft reset or with an adopted page restarts rotation like a write (R189). -/
def Dev.gangFollow (d : Dev) (l : Lane) (c : Fin 2) : Dev :=
  if d.gang l c = ((d.meas.at l).convs[c].rots.length == 1) then d else d.restartRotation l c

/-- Setting AUTO starts a new turn with the present spare (R160); one that has ended waits for its exchange first. -/
def Dev.restartTurn (d : Dev) (l : Lane) (c : Fin 2) : Dev :=
  d.onConv l c fun v => { v with rots := v.rots.map fun r =>
    if r.exch.isSome then { r with stopped := false } else { slots := r.slots, spare := r.spare, last := r.last } }

/-- A group's input code has changed from `old` (R164): its first sample held after the change is a settling sample. The code before
stays known for the samples and the window that are still to be delivered. -/
def Dev.inputChanged (d : Dev) (l : Lane) (c : Fin 2) (g : Fin 3) (old : Nat) : Dev :=
  d.onGroup l c g fun s => { s with
    settle := d.now :: s.settle, codes := (s.codes.filter fun e => decide (d.now ≤ e.1 + 64)) ++ [(d.now, old)] }

/-- A write of REF.EN (R166): its count starts at the set, and SETTLED falls at the clear. -/
def Dev.refEnable (d : Dev) (l : Lane) (c : Fin 2) (on : Bool) : Dev :=
  if on then d.onConv l c fun v => { v with refAt := d.now }
  else d.sl l (pgCONV l c) R.CONV_REF_SETTLED 0

/-- REFERENCE_SETTLED (R166): exactly 1,000,000 ticks after EN was set. -/
def Dev.referenceSettled (d : Dev) (l : Lane) (c : Fin 2) : Dev :=
  if d.gl l (pgCONV l c) R.CONV_REF_EN = 1 ∧ (d.meas.at l).convs[c].refAt + 1000000 ≤ d.now then
    d.sl l (pgCONV l c) R.CONV_REF_SETTLED 1
  else d

/-! ## Sequencer and urgent conversions (R178 to R184) -/

/-- A group takes no new conversion at this tick: its window is open, or an urgent conversion runs on it. -/
def Dev.groupTaken (d : Dev) (l : Lane) (c : Fin 2) (g : Fin 3) : Bool :=
  d.windowOpen l c g d.now || ((d.meas.at l).convs[c].groups[g].job.any (· < 4)) || (d.gang l c && g != 0)

/-- The level a leg's low side has when the period from `t0` on for `per` ticks ends. -/
def Dev.lowAtEnd (d : Dev) (l : Lane) (leg : Fin 6) (t0 per : Nat) : Bool :=
  let s := (d.mods.at l).legs[leg]
  match (s.lowEdges.filter fun e => decide (e.2 < t0 + per)).getLast? with
  | some e => e.1
  | none => s.lsStart && s.lowCut.isNone

/-- The start of a group's next window (R179, R183): this period's while it lies ahead, else the next period's. DESIGN CHOICE: the
next period's window starts where this period's does, and at the period start where the leg's low side will be on there. -/
def Dev.nextWindow (d : Dev) (l : Lane) (c : Fin 2) (g : Fin 3) : Option Nat :=
  let (t0, per) := d.convPeriod l c
  let running := ((d.mods.at l).tb (if d.gl l (pgCONV l c) R.CONV_MODE_TB = 1 then 1 else 0)).running
  let onNext := d.lowAtEnd l (groupLeg c g) t0 per
  match d.windowOf l c g with
  | (some a, e) =>
    if d.now < a ∧ a < e then some a else if !running then none else if onNext = true then some (t0 + per) else some (a + per)
  | (none, _) => if running && onNext then some (t0 + per) else none

/-- The first hold tick of a converter's grid after a tick. -/
def Dev.holdAfter (d : Dev) (l : Lane) (c : Fin 2) (after : Nat) : Nat :=
  ((List.range 21).map (after + 1 + ·)).find? (fun t => (d.gridPos l c t).isSome) |>.getD (after + 1)

/-- A conversion of `slots` slots, the first held after a tick, ends before the group's next window start (R179, R183): its last hold lies
before it. -/
def Dev.groupFits (d : Dev) (l : Lane) (c : Fin 2) (g : Fin 3) (after slots : Nat) : Bool :=
  if !d.grpWen l c g then true
  else match d.nextWindow l c g with
    | some a => decide (d.holdAfter l c after + (slots - 1) * d.sampleTs l c < a)
    | none => true

/-- The end of a group's last window up to now, 0 where none is known: an urgent request that waited for it takes the slots after it
(R183). -/
def Dev.lastWindowEnd (d : Dev) (l : Lane) (c : Fin 2) (g : Fin 3) : Nat :=
  if !d.grpWen l c g then 0
  else match d.windowOf l c g, (d.meas.at l).convs[c].groups[g].prev with
    | (some a, e), p => if a < e ∧ e ≤ d.now then e else match p with | some (some _, e, _) => e | _ => 0
    | (none, _), some (some _, e, _) => e
    | _, _ => 0

/-- The group may run a job word in the slots held after a tick of its own: it is free and the slots fit. DESIGN CHOICE: the settling slot
of the group's own input belongs to an urgent request's conversions too, and they are complete with the last hold (R183). -/
def Dev.jobMayRun (d : Dev) (l : Lane) (w : Word) (after : Fin 3 → Nat) (g : Fin 3) : Bool :=
  let c : Fin 2 := if jobConv w = 1 then 1 else 0
  !d.groupTaken l c g && d.groupFits l c g (after g) (2 + 2 ^ jobAvg w)

/-- The group `g` is where a job word runs: the group it names, or with 3 the lowest that can; in gang mode the single stream serves
every group number (R179). -/
def Dev.jobGroupOk (d : Dev) (l : Lane) (w : Word) (after : Fin 3 → Nat) (g : Fin 3) : Bool :=
  d.jobMayRun l w after g &&
  (d.gang l (if jobConv w = 1 then 1 else 0) || jobGroup w == g.val ||
   (jobGroup w == 3 && [(0 : Fin 3), 1].all fun k => !(k < g) || !d.jobMayRun l w after k))

/-- The first enabled entry from `k` on in the cycle of `len` entries (R178). -/
def Dev.seqEnabled (d : Dev) (l : Lane) (k len : Nat) : Option Nat :=
  ((List.range len).map fun i => (k + i) % len).find? fun i => d.gl l (pgSEQ l) R.SEQ_ENTRY_CFG_EN i == 1

/-- An entry's conversions run, or have finished and are not written yet. -/
def Dev.seqBusy (d : Dev) (l : Lane) : Bool :=
  (d.meas.at l).seqDone.isSome || (d.meas.at l).convs.toList.any fun v => v.groups.toList.any (·.job == some 4)

/-- A trigger event: 1 and 2 are period starts of the timebases, 3 is SEQCFG.START; it counts for the entry that waits for it, and for
none while an entry is in progress (R178). -/
def Dev.seqTrigger (d : Dev) (l : Lane) (k : Nat) : Dev :=
  let p := pgSEQ l
  let len := d.gl l p R.SEQ_SEQCFG_LEN + 1
  if d.gl l p R.SEQ_SEQCFG_RUN = 0 then d
  else match d.seqEnabled l (d.gl l p R.SEQ_STAT_CUR % len) len with
    | none => d
    | some i =>
      let running := d.seqBusy l || d.gl l p R.SEQ_STAT_PREEMPTED == 1
      if d.gl l p R.SEQ_ENTRY_CFG_TRIG i = k ∧ !running then d.onMeas l fun m => { m with seqTrig := true } else d

/-- SEQ_START (R190): a write of SEQCFG.START. -/
def Dev.seqStart (d : Dev) (l : Lane) : Dev := d.seqTrigger l 3

/-- Begin a job on a group: its first slot is the first hold after a tick. -/
def Dev.startJob (d : Dev) (l : Lane) (c : Fin 2) (g : Fin 3) (j after : Nat) : Dev :=
  d.onGroup l c g fun s => { s with job := some j, jobFrom := after, jobSettle := true, jobOwn := s.job.isNone, jobAcc := {} }

/-- The tick after which the sequencer's slots on a group lie: those from now on. -/
def Dev.seqAfter (d : Dev) : Fin 3 → Nat := fun _ => d.now - 1

/-- Entry `i` is reached (R178, R179): it waits for its trigger or for a free group, else it starts on group `g`. -/
def Dev.reachEntry (d : Dev) (l : Lane) (g : Fin 3) (i : Nat) : Dev :=
  let p := pgSEQ l
  let w := d.word l (pageAddr p (0x100 + 8 * i))
  let c : Fin 2 := if jobConv w = 1 then 1 else 0
  let d := d.sl l p R.SEQ_STAT_CUR i
  if d.gl l p R.SEQ_ENTRY_CFG_TRIG i ≠ 0 ∧ !(d.meas.at l).seqTrig then d.sl l p R.SEQ_STAT_WAITING 1
  else if !d.jobGroupOk l w d.seqAfter g then d.sl l p R.SEQ_STAT_WAITING 1
  else
    let d := d.onMeas l fun m => { m with seqTrig := false }
    let d := (d.sl l p R.SEQ_STAT_WAITING 0).sl l p R.SEQ_STAT_PREEMPTED 0
    d.startJob l c g 4 (d.seqAfter g)

/-- SEQ_ENTRY_START (R178, R179): the entry reached starts on group `g`. DESIGN CHOICE: a cleared RUN lets the entry in progress finish
and starts no other, and a RUN set again goes on at CUR. A preempted entry waits for the end of the urgent conversion (R182). -/
def Dev.seqEntryStart (d : Dev) (l : Lane) (g : Fin 3) : Dev :=
  let len := d.gl l (pgSEQ l) R.SEQ_SEQCFG_LEN + 1
  if d.gl l (pgSEQ l) R.SEQ_SEQCFG_RUN = 0 ∨ !d.up (.ctl l) ∨ d.seqBusy l ∨ d.gl l (pgSEQ l) R.SEQ_STAT_PREEMPTED = 1 then d
  else match d.seqEnabled l (d.gl l (pgSEQ l) R.SEQ_STAT_CUR % len) len with
    | none => d
    | some i => d.reachEntry l g i

/-- The result word of a finished job: the rounded mean of its conversions (R180), KIND 3. -/
def Dev.jobResult (l : Lane) (w : Word) (a : WinAcc) : Word :=
  let m := divNearest a.s0 a.n
  resultWord (satS 16 m) a.uns a.sat false 3 l (jobInput w)

/-- The finished entry's mean goes to ENTRYn_RES, and the cycle moves on (R180). -/
def Dev.seqEntryDone (d : Dev) (l : Lane) (a : WinAcc) : Dev :=
  let p := pgSEQ l
  let i := d.gl l p R.SEQ_STAT_CUR
  let w := d.jobCfg l 4
  let res := Dev.jobResult l w a
  let d := d.sl l p R.SEQ_ENTRY_RES_VALUE res.toNat i
  let d := (d.onMeas l fun m => { m with seqDone := none, seqTrig := false }).causeL l p 1
  let len := d.gl l p R.SEQ_SEQCFG_LEN + 1
  (d.sl l p R.SEQ_STAT_CUR ((i + 1) % len)).keepDcl l (if jobConv w = 1 then 1 else 0) (jobInput w) res

/-- SEQ_ENTRY_COMPLETE (R180): the mean goes to ENTRYn_RES, and the cycle moves on. -/
def Dev.seqEntryComplete (d : Dev) (l : Lane) : Dev :=
  match (d.meas.at l).seqDone with
  | none => d
  | some a => d.seqEntryDone l a

/-- Make a request in an urgent channel: its word with REQ, and its stamp (R181, R182). -/
def Dev.urgentAsk (d : Dev) (l : Lane) (ch : Fin 4) (w : Word) : Dev :=
  (d.setWord l (pageAddr (pgSEQ l) (0x48 + 4 * ch.val)) (w ||| 0x80000000#32)).onMeas l fun m =>
    { m with urgAt := m.urgAt.set ch.val d.now }

/-- A channel holds a request that has not started. -/
def Dev.urgentWaits (d : Dev) (l : Lane) (ch : Nat) : Bool :=
  (d.jobCfg l ch).getLsbD 31 && ((d.meas.at l).urgDone.getD ch none).isNone &&
  !((d.meas.at l).convs.toList.any fun v => v.groups.toList.any (·.job == some ch))

/-- The tick after which an urgent request's slots on a group lie (R182, R183): its stamp, the last tick of the window it waited for, or the
last hold of another job there. -/
def Dev.urgentAfter (d : Dev) (l : Lane) (ch : Fin 4) (g : Fin 3) : Nat :=
  let c : Fin 2 := if jobConv (d.jobCfg l ch.val) = 1 then 1 else 0
  let s := (d.meas.at l).convs[c].groups[g]
  max ((d.meas.at l).urgAt.getD ch.val 0) (max (d.lastWindowEnd l c g - 1) s.jobFrom)

/-- An urgent request's conversions start on a group (R182, R183). -/
def Dev.urgentBegins (d : Dev) (l : Lane) (ch : Fin 4) (g : Fin 3) : Dev :=
  let w := d.jobCfg l ch.val
  let c : Fin 2 := if jobConv w = 1 then 1 else 0
  let seqHere := (d.meas.at l).convs[c].groups[g].job = some 4
  let d := if seqHere then (d.sl l (pgSEQ l) R.SEQ_STAT_PREEMPTED 1).onMeas l fun m => { m with seqBy := some (ch.val, c, g) } else d
  d.startJob l c g ch.val (d.urgentAfter l ch g)

/-- A lower channel waits for the same group, in gang mode for the single stream (R153, R181). -/
def Dev.urgentYields (d : Dev) (l : Lane) (ch : Fin 4) (g : Fin 3) : Bool :=
  let c : Fin 2 := if jobConv (d.jobCfg l ch.val) = 1 then 1 else 0
  (List.range ch.val).any fun k =>
    d.urgentWaits l k && jobConv (d.jobCfg l k) == c.val &&
      (d.gang l c || jobGroup (d.jobCfg l k) == g.val || jobGroup (d.jobCfg l k) == 3)

/-- URGENT_START (R181 to R183): the lowest waiting channel takes its group, preempting the sequencer's entry there. -/
def Dev.urgentStart (d : Dev) (l : Lane) (ch : Fin 4) (g : Fin 3) : Dev :=
  if !d.up (.ctl l) ∨ !d.urgentWaits l ch.val ∨ d.urgentYields l ch g ∨
      !d.jobGroupOk l (d.jobCfg l ch.val) (d.urgentAfter l ch) g then d
  else d.urgentBegins l ch g

/-- The sequencer restarts a preempted entry on the group that an urgent conversion leaves, from the slot after its last hold
(R182). -/
def Dev.seqResume (d : Dev) (l : Lane) : Dev :=
  let p := pgSEQ l
  if d.gl l p R.SEQ_STAT_PREEMPTED = 0 then d
  else
    let w := d.jobCfg l 4
    let c : Fin 2 := if jobConv w = 1 then 1 else 0
    let after := fun (g : Fin 3) => let t := (d.meas.at l).convs[c].groups[g].jobFrom; if d.now ≤ t + 30 then t else d.now - 1
    match [(0 : Fin 3), 1, 2].find? (d.jobGroupOk l w after) with
    | some g => ((d.sl l p R.SEQ_STAT_PREEMPTED 0).sl l p R.SEQ_STAT_WAITING 0).startJob l c g 4 (after g)
    | none => (d.sl l p R.SEQ_STAT_PREEMPTED 0).sl l p R.SEQ_STAT_WAITING 1 |>.onMeas l fun m => { m with seqTrig := true }

/-- An urgent channel's conversions are complete (R182): where it held the preempted entry's group, the entry restarts, unless another
channel has taken the group meanwhile and holds it now. -/
def Dev.seqFreed (d : Dev) (l : Lane) (ch : Nat) : Dev :=
  match (d.meas.at l).seqBy with
  | none => d
  | some (k, c, g) =>
    if k ≠ ch then d
    else match (d.meas.at l).convs[c].groups[g].job with
      | some j => d.onMeas l fun m => { m with seqBy := some (j, c, g) }
      | none => (d.onMeas l fun m => { m with seqBy := none }).seqResume l

/-- The finished request's result goes to URESn, REQ falls, and the sequencer restarts its entry (R182). -/
def Dev.urgentDone (d : Dev) (l : Lane) (ch : Fin 4) (a : WinAcc) : Dev :=
  let p := pgSEQ l
  let w := d.jobCfg l ch.val
  let res := Dev.jobResult l w a
  let d := d.sl l p R.SEQ_URES_VALUE res.toNat ch.val
  let d := d.setWord l (pageAddr p (0x48 + 4 * ch.val)) (w &&& 0x7FFFFFFF#32)
  let d := d.onMeas l fun m => { m with urgDone := m.urgDone.set ch.val none }
  let d := d.causeL l p (BitVec.ofNat 32 (2 ^ (1 + ch.val)))
  (d.keepDcl l (if jobConv w = 1 then 1 else 0) (jobInput w) res).seqFreed l ch.val

/-- The word of a request of a device function (R181): converter, group, input code, one conversion on the widest range. -/
def urgentWord (conv group input : Nat) : Word := BitVec.ofNat 32 (conv * 2 ^ 29 + group * 2 ^ 27 + input * 2 ^ 21 + 2 * 2 ^ 19)

/-- URGENT_REQUEST: a write to URGENT3; one with REQ = 1 while REQ stands is refused with BLOCK by the access checks (R184). DESIGN
CHOICE: a write with REQ = 0 meanwhile keeps REQ and changes the other fields of the request that waits. -/
def Dev.urgentWrite (d : Dev) (l : Lane) (w : Word) : Dev :=
  if w.getLsbD 31 then d.urgentAsk l 3 (w &&& 0xFFFF0000#32)
  else
    let busy := (d.jobCfg l 3).getLsbD 31
    d.setWord l (pageAddr (pgSEQ l) 0x54) ((w &&& 0x7FFF0000#32) ||| (if busy then 0x80000000#32 else 0))

/-! ## DC link of both lanes (R186, R187) -/

/-- A DC-link value in volts of a lane, as a numerator over 32,768. -/
def Dev.dclVolt (d : Dev) (l : Lane) : Option Int :=
  (d.meas.at l).dcl.map fun v => v * d.gl l (pgCONV l 0) R.CONV_DCL_FS

/-- Each lane compares the two DC-link values, given as numerators over 32,768, and counts a run of disagreements (R187). -/
def Dev.dclCompared (d : Dev) (x y : Int) : Dev :=
  d.eachLane fun d l =>
    if !d.up (.ctl l) ∨ !(d.link (.ctlCross l)).live then d
    else if 32768 * d.gl l (pgCONV l 0) R.CONV_XCHK_VLIM < (x - y).natAbs then
      let run := (d.meas.at l).dclRun + 1
      let due := d.gl l (pgCONV l 0) R.CONV_XCHK_CNT ≤ run ∧ !(d.meas.at l).dclUp
      let d := d.onMeas l fun m => { m with dclRun := run, dclUp := m.dclUp || decide due }
      if due then d.disagreeRaise l 0 2 else d
    else d.onMeas l fun m => { m with dclRun := 0, dclUp := false }

/-- DCL_EXCHANGE (R187): once per period each lane compares the other's latest value with its own. -/
def Dev.dclExchange (d : Dev) : Dev :=
  match d.dclVolt .a, d.dclVolt .b with
  | some x, some y => d.dclCompared x y
  | _, _ => d

end Sys2Proof.Machine
end

