-- ==== Sys2Proof/Machine/Protect.lean ====
section
/-! DEFINITION. Protection logic of the control dies (chapter 11): ASC, brake chopper, discharge, configuration blocks, and the
clears of PROT.CLR. -/

namespace Sys2Proof.Machine

/-! ## ASC (R412 to R417) -/

/-- ASC takes a leg in a modulator (R364, R415): the other side's switch is off from now on, and the ASC side's switch, where it is not on
yet, turns on no earlier than the dead time after its partner's last turn-off. -/
def Dev.ascLeg (d : Dev) (l : Lane) (n : Fin 6) (high : Bool) : Dev :=
  let was := legLevel ((d.mods.at l).legs[n]) high d.now
  let d := d.setLeg l n (high && was) (!high && was)
  if was then d
  else
    let s := (d.mods.at l).legs[n]
    let off := if high then s.lsOffAt else s.hsOffAt
    let t : Int := max (d.now * 32 : Nat) (off + d.gl l (pgMOD l) R.MOD_LEG_DT_DT n.val)
    d.onLeg l n fun s => { s with
      hs := high, ls := !high, placed := [(high, true, t)]
      lowEdges := if high then s.lowEdges else s.lowEdges ++ [(true, ((t + 31) / 32).toNat)] }

/-- Apply ASC to a bridge through a side (R415): every switch of the other side is commanded off, and D later every switch of the side
on, in both modulators; STATE.ASC of the axis and ASC_CHANGE follow. Nothing while protective switching is not armed (R94). -/
def Dev.applyAsc (d : Dev) (b : Fin 2) (high : Bool) : Dev :=
  if !d.protLive then d else
  let d := d.onBridge b fun s => { s with ascL := !high, ascH := high, waitHigh := none, moved := false, uncontrolled := false }
  let d := (d.bridgeLegs b).foldl (fun d n => d.eachLane fun d l => d.ascLeg l n high) d
  let x : Fin 2 := if d.powerCfg = 1 ∨ d.powerCfg = 2 then 0 else b
  ((d.onAxis x fun s => { s with ascSince := d.now }).s (pgFIELD x) R.FIELD_STATE_ASC 1).cause pgPROT 1

/-- End ASC on a bridge (R271, R416). Its legs have the edges that their latch point produced; without one (`now`) they turn off. -/
def Dev.endAsc (d : Dev) (b : Fin 2) (now : Bool) : Dev :=
  if !(d.bridges[b].ascL ∨ d.bridges[b].ascH) then d
  else
    let d := d.onBridge b fun s => { s with ascL := false, ascH := false, waitHigh := none, moved := false }
    let d := if now then d.bridgeOff b else d
    let x : Fin 2 := if d.powerCfg = 1 ∨ d.powerCfg = 2 then 0 else b
    let other := [(0 : Fin 2), 1].any fun c => c != b && (d.axisBridges x).contains c && (d.bridges[c].ascL || d.bridges[c].ascH)
    (d.s (pgFIELD x) R.FIELD_STATE_ASC (if other then 1 else 0)).cause pgPROT 1

/-- ASC leaves a side of a bridge that is not permitted: it waits for the other side where that one is permitted (R416), else the
bridge is held off (R417). -/
def Dev.ascMoves (d : Dev) (b : Fin 2) (high : Bool) : Dev :=
  if d.sidePermitted b (!high) then d.onBridge b fun s => { s with waitHigh := some (!high), moved := true }
  else ((d.onBridge b fun s => { s with waitHigh := none, moved := false, uncontrolled := true }).cause pgPROT 4).raiseCond 286

/-- A bridge whose side in ASC stops being permitted turns that side off softly and ASC moves (R416); ASC that waits for a side
that stops being permitted moves as well. -/
def Dev.recheckAsc (d : Dev) (b : Fin 2) : Dev :=
  let s := d.bridges[b]
  if s.ascL ∨ s.ascH then
    if d.sidePermitted b s.ascH then d
    else
      let d := (d.bridgeLegs b).foldl (fun d n => d.softOff (if s.ascH then legHigh n else legLow n)) d
      (d.endAsc b true).ascMoves b s.ascH
  else
    match s.waitHigh with
    | some h => if d.sidePermitted b h then d else d.ascMoves b h
    | none => d

/-- UNCONTROLLED_GENERATION's cause is gone where no bridge is held off under R417 (R572). -/
def Dev.controlled (d : Dev) : Dev :=
  if d.g pgLEDGER R.LEDGER_SRC_LIVE 286 = 1 ∧ !d.bridges[(0 : Fin 2)].uncontrolled ∧ !d.bridges[(1 : Fin 2)].uncontrolled then
    d.endCause 286 else d

/-- The protection logic of the ACTIVE lane looks at both bridges again after every event (R416, R417). -/
def Dev.recheckBridges (d : Dev) : Dev := if d.active.isSome then ((d.recheckAsc 0).recheckAsc 1).controlled else d

/-- A short is latched on a switch of the bridge. -/
def Dev.bridgeShort (d : Dev) (b : Fin 2) : Bool := d.sideTripped b false || d.sideTripped b true

/-- A soft turn-off runs in the bridge, or its DLY does not lie behind yet (R415, R416). -/
def Dev.ascMoving (d : Dev) (b : Fin 2) : Bool :=
  ((d.bridgeLegs b).any fun n => (d.outs[legHigh n]).soft != .none || (d.outs[legLow n]).soft != .none) ||
  (d.bridges[b].offAt != 0 && d.now < d.bridges[b].offAt + d.g pgPROT R.PROT_ASCCFG_DLY * 500)

/-- ASC that waits in a bridge comes DLY after a soft turn-off, and not at a period start: a short is latched there, or ASC moves away from
the other side (R415, R416). -/
def Dev.ascByDly (d : Dev) (b : Fin 2) : Bool := d.bridges[b].moved || d.bridgeShort b

/-- ASC_DLY_EXPIRY (R415, R416): DLY µs after the last soft turn-off of the bridge reached the off level. -/
def Dev.ascDly (d : Dev) (b : Fin 2) : Dev :=
  match d.bridges[b].waitHigh with
  | some h => if d.ascByDly b ∧ !d.ascMoving b ∧ d.sidePermitted b h then d.applyAsc b h else d
  | none => d

/-! ## Brake chopper and over-voltage (R419 to R421) -/

/-- CH's driver die executes the edges of a port, and nothing bars its turn-on (R36, R406, R408, R409). -/
def Dev.chFree (d : Dev) : Bool :=
  d.mayTurnOn 12 && (d.dies[outDie 12]).activePort.isSome

/-- The chopper may switch: CHOP.EN = 1, or UNCONTROLLED_GENERATION is uncleared (R417); the mode is one of R419, armed under R105; the
energy estimate has not stopped it, and CH has no fault latched. -/
def Dev.chAllowed (d : Dev) (l : Lane) : Bool :=
  (d.gl l pgPROT R.PROT_CHOP_EN == 1 || d.uncl 286) && d.protLive && !(d.prot.at l).limit && d.chFree

/-- The chopper's decision for the present reading (R419). -/
def Dev.chDecide (d : Dev) (l : Lane) : Dev :=
  match (d.prot.at l).volt with
  | none => d
  | some v =>
    if !d.chAllowed l then d.chSet l false
    else if d.gl l pgPROT R.PROT_OV_ON_V ≤ v then d.chSet l true
    else if v < d.gl l pgPROT R.PROT_OV_OFF_V then d.chSet l false
    else d

/-- The comparators act on what stands now (R417, R419): a new mode, threshold, enable or fault changes the decision of each lane. -/
def Dev.chopStands (d : Dev) : Dev := d.eachLane fun d l => d.chDecide l

/-- DS is to be on, is off, and its driver die would execute a turn-on (R423): the mode is DISCHARGE, in the resistor method. -/
def Dev.dsDue (d : Dev) : Bool :=
  d.mode.cur == .discharge && (d.mode.method == 0 || d.mode.method == 2) && !(d.outs[(13 : OutIx)]).on && d.mayTurnOn 13 &&
  (d.dies[outDie 13]).activePort.isSome

/-- DS stays on in DISCHARGE (R423): once a latch, a fallback or a missing link no longer bars it, each lane queues its turn-on again. -/
def Dev.dsFollow (d0 d : Dev) : Dev :=
  if !d.dsDue ∨ d0.dsDue then d
  else d.eachLane fun d l =>
    if !d.up (.ctl l) ∨ (((d.mods.at l).masters[outDie 13]).queue.any (·.out == 13)) then d else d.protEdge l 13 true

/-- The comparators of a lane judge the DC-link voltage (R419): the chopper's decision, OV_TRIP and its end, and the tow level. -/
def Dev.dclJudged (d : Dev) (l : Lane) (volt : Nat) : Dev :=
  let d := d.onProt l fun p => { p with volt := some volt }
  let trip := d.gl l pgPROT R.PROT_OV2_TRIP_V
  let d := d.chDecide l
  let d := if trip ≤ volt then (if d.srcLive 278 then d else (d.cause pgPROT 3).raiseCond 278)
    else if d.dcReadings.all (· < trip) then d.endCause 278 else d
  if d.towing then d.auto else d

/-- DCLINK_COMPARATOR (R419, R421, R92): a reading of the lane's own DC-link input. -/
def Dev.dclinkComparator (d : Dev) (l : Lane) (volt : Nat) : Dev :=
  if !d.up (.ctl l) then d
  else d.dclJudged l volt

/-- CHOP_LEVEL_HOLD (R419): the 2 µs hold of a CH level ends. -/
def Dev.chopHold (d : Dev) (l : Lane) : Dev :=
  match (d.prot.at l).chHeld with
  | some on => if (d.prot.at l).chAt + 1000 ≤ d.now then d.chSet l (on && d.chAllowed l) else d
  | none => d

/-- A chopper-current result that was requested at tick `asked` and held at tick `t` (R420): a current below 25 % of Vdc / R is an open
resistor. A result whose hold lies after CH has turned off is discarded. -/
def Dev.chopCurrent (d : Dev) (l : Lane) (asked t : Nat) (value : Int) : Dev :=
  let p := d.prot.at l
  match p.volt with
  | some v =>
    let rs := d.gl l pgPROT R.PROT_CHOP2_RSENSE
    let r := d.gl l pgPROT R.PROT_CHOP_R
    if (p.chOffAt ≤ asked ∨ t ≤ p.chOffAt) ∧ value * 1000000 * (r : Int) < (v * 10 * 32768 * rs : Nat) then
      (d.cause pgPROT 7).raiseAt 275 d.now 7 else d
  | none => d

/-- The chopper's energy after 10 µs (R420). -/
def Dev.chopEnergyNext (d : Dev) (l : Lane) (v onTicks : Nat) : Nat :=
  let e := (d.prot.at l).energy
  e - e / (d.gl l pgPROT R.PROT_CHOP_TAU * 100000) + 20 * v * v * (min onTicks 5000) / d.gl l pgPROT R.PROT_CHOP_R

/-- The chopper's energy estimate takes a value (R420): EMAX stops it, three quarters of EMAX let it run again. -/
def Dev.chopEnergyTaken (d : Dev) (l : Lane) (e : Nat) : Dev :=
  let emax := d.gl l pgPROT R.PROT_CHOP_EMAX * 100000000000
  let was := (d.prot.at l).limit
  let lim := if emax ≤ e then true else if 4 * e < 3 * emax then false else was
  let d := d.onProt l fun p => { p with energy := e, limit := lim }
  if lim ∧ !was then ((d.chSet l false).cause pgPROT 7).raiseAt 275 d.now 7
  else if was ∧ !lim then d.chDecide l else d

/-- The ticks of the present 10 µs for which CH has been on (R420). -/
def ProtUnit.onTicks (p : ProtUnit) : Nat := min 5000 (p.chTicks + (if p.chOn then p.chFrom + 5000 - max p.chAt p.chFrom else 0))

/-- CHOP_ENERGY_UPDATE (R420): every 10 µs E × (1 − 10 µs / TAU) + (Vdc² / R) × t_on, in nanojoules, with the on time that was counted in
them; EMAX stops the chopper until E is below 0.75 × EMAX. -/
def Dev.chopEnergy (d : Dev) (l : Lane) : Dev :=
  let p := d.prot.at l
  if d.now < p.chFrom + 5000 then d
  else
    let on := p.onTicks
    let d := d.onProt l fun p => { p with chFrom := p.chFrom + 5000, chTicks := p.chTicks - on }
    match p.volt with
    | none => d
    | some v => d.chopEnergyTaken l (d.chopEnergyNext l v on)

/-- DISCHARGE_TIMEOUT (R425): a reading still stands at 60 V or above; the discharge goes on. -/
def Dev.dischargeTimeout (d : Dev) : Dev :=
  if d.mode.cur = .discharge ∧ d.mode.dischargeAt + d.g pgPROT R.PROT_DISCH_TMAX * 500000 ≤ d.now ∧ !d.dcDead then
    (d.cause pgPROT 6).raiseAt 283 d.now 8
  else d

/-! ## Configuration blocks (R426 to R428) -/

/-- GATE_CONFIG_BLOCK (R426): the blocks of lane `l` are sent and staged at the dies with a live link. -/
def Dev.gateConfig (d : Dev) (l : Lane) : Dev :=
  if !d.dieUp l false then d
  else (List.finRange 8).foldl (fun d k =>
    if (d.link (.drvDie l k)).live then d.stageBlock k l (sealBlock (d.buildBlock l k)) else d) d

/-- The blocks of the two ports have differed too long (R427): both are dropped and PORT_FAULT is raised. GEN does not count the commits
whose block this die has not applied. -/
def Dev.mismatchSeen (d : Dev) (k : DieIx) : Dev :=
  let d := { d with gateSent := 0 }.onDie k fun s => { s with
    cfgMismatch := true
    ports := { a := { s.ports.a with staged := none }, b := { s.ports.b with staged := none } } }
  d.raise (231 + 8 * k.val)

/-- CONFIG_MISMATCH_TIMEOUT (R427): the die keeps its applied block. -/
def Dev.cfgMismatch (d : Dev) (k : DieIx) : Dev :=
  let s := d.dies[k]
  match s.ports.a.staged, s.ports.b.staged with
  | some x, some y =>
    if crc32cWords x ≠ crc32cWords y ∧ max s.ports.a.stagedAt s.ports.b.stagedAt + 500000 ≤ d.now then d.mismatchSeen k else d
  | _, _ => d

/-- DRIVER_LINK_TIMEOUT (R411): the start-up has not completed within 1 ms of the control die starting it, and the die has an output in
use. -/
def Dev.linkTimeout (d : Dev) (l : Lane) (k : DieIx) : Dev :=
  let inUse := (dieOuts k).any fun o => d.g pgGATE R.GATE_OCFG_EN o == 1
  match ((d.mods.at l).masters[k]).startAt with
  | some t => if t + 500000 ≤ d.now ∧ inUse ∧ !(d.link (.drvMaster l k)).live then d.raiseCond (226 + 8 * k.val) else d
  | none => d

/-! ## Clears (R394, R429) -/

/-- A refused clear of a source's block latch: the source's CLEAR_REFUSED counter, and the cause bits (R429, R576). -/
def Dev.clearRefused (d : Dev) (n : Nat) : Dev :=
  ((d.inc pgLEDGER R.LEDGER_SRC_CLRREF n).cause pgLEDGER 2).cause pgPROT 8

/-- The condition of kinds 0 and 2 (R429): the axis of the output's bridge is in OFF, or in HOLD without pulses and ASC; for CH
and DS, the output is off. -/
def Dev.clearable (d : Dev) (o : OutIx) : Bool :=
  match outLeg o with
  | none => (d.outs[o]).isOff
  | some n =>
    let x := d.legAxis n
    d.axState x == .off ||
      (d.axState x == .hold && d.g (pgFIELD x) R.FIELD_STATE_PULSES == 0 && d.g (pgFIELD x) R.FIELD_STATE_ASC == 0)

/-- The outputs a clear names. -/
def namedOuts (outs : Nat) : List OutIx := (List.finRange 14).filter fun o => outs / 2 ^ o.val % 2 = 1

/-- End the cause of a die's source once no output of the die keeps it. -/
def Dev.endIfNone (d : Dev) (o : OutIx) (k : Nat) (p : OutState → Bool) : Dev :=
  if (dieOuts (outDie o)).any fun q => p d.outs[q] then d else d.endCause (outSrc o k)

/-- After a clear on CH the chopper's decision stands again (R419). -/
def Dev.chFreed (d : Dev) (o : OutIx) : Dev := if o.val = 12 then d.eachLane fun d l => d.chDecide l else d

/-- PROT.CLR of kind 0 (R406, R429). SCFIRST re-arms once no short is latched. -/
def Dev.clearShortOne (d : Dev) (o : OutIx) : Dev :=
  match (d.outs[o]).shortKind with
  | none => d
  | some kind =>
    if d.clearable o then
      let d := d.onOut o fun s => { s with shortKind := none }
      ((d.endIfNone o (kind - 1) fun s => s.shortKind == some kind).scRearm).chFreed o
    else d.clearRefused (outSrc o (kind - 1))

/-- PROT.CLR of kind 1 (R394): STANDBY or MAINTENANCE, output off, and the cut-off halves pass the test. -/
def Dev.clearHalfOne (d : Dev) (pass : Bool) (o : OutIx) : Dev :=
  let s := d.outs[o]
  if !(s.cutA ∨ s.cutB) then d
  else if d.modeIs [.standby, .maintenance] ∧ s.isOff ∧ pass then
    (d.onOut o fun s => { s with cutA := false, cutB := false }).endIfNone o 5 fun s => s.cutA || s.cutB
  else d.clearRefused (outSrc o 5)

/-- PROT.CLR of kind 2 (R429). -/
def Dev.clearMonOne (d : Dev) (o : OutIx) : Dev :=
  if !(d.outs[o]).gmon then d
  else if d.clearable o then ((d.onOut o fun s => { s with gmon := false }).endIfNone o 4 (·.gmon)).chFreed o
  else d.clearRefused (outSrc o 4)

/-- A modulator holds the leg of a high side off for its bootstrap, whatever its die still knows (R385). -/
def Dev.bootHeld (d : Dev) (o : OutIx) : Bool :=
  match outLeg o with
  | some n => outIsHigh o && [Lane.a, Lane.b].any fun l => ((d.mods.at l).legs[n]).bootForced
  | none => false

/-- PROT.CLR of kind 3 (R429): the monitored level has recovered. -/
def Dev.clearSupplyOne (d : Dev) (o : OutIx) : Dev :=
  let s := d.outs[o]
  if s.bootUv ∨ d.bootHeld o then
    if s.uv then d.clearRefused (outSrc o 3)
    else
      let d := (d.onOut o fun s => { s with bootUv := false }).endIfNone o 3 (·.bootUv)
      match outLeg o with
      | some n => d.eachLane fun d l =>
        if ((d.mods.at l).legs[n]).bootForced then
          (d.onLeg l n fun s => { s with bootEnds := true }).tbDefer l (d.legTb l n) (.leg n) else d
      | none => d
  else if s.supFault then
    if s.uv then d.clearRefused (outSrc o 2)
    else
      ((d.onOut o fun s => { s with supFault := false }).supplyOver (outDie o)).chFreed o
  else d

/-- The four kinds of PROT.CLR over the named outputs. -/
def Dev.clearShort (d : Dev) (outs : Nat) : Dev := (namedOuts outs).foldl Dev.clearShortOne d
def Dev.clearHalf (d : Dev) (outs pass : Nat) : Dev :=
  (namedOuts outs).foldl (fun d o => d.clearHalfOne (pass / 2 ^ o.val % 2 = 1) o) d
def Dev.clearMon (d : Dev) (outs : Nat) : Dev := (namedOuts outs).foldl Dev.clearMonOne d
def Dev.clearSupply (d : Dev) (outs : Nat) : Dev := (namedOuts outs).foldl Dev.clearSupplyOne d

end Sys2Proof.Machine
end

