-- ==== Sys2Proof/Machine/Modulator.lean ====
section
/-! DEFINITION. Modulators (chapter 10): timebases, staging, legs and their edges, link masters, trips, bootstrap refresh. -/

namespace Sys2Proof.Machine

/-! ## Timebases (R357 to R360) -/

/-- The registers of a timebase. -/
def tbEn (t : Fin 2) : Fld := if t = 0 then R.MOD_TB0_CFG_EN else R.MOD_TB1_CFG_EN
def tbUpd (t : Fin 2) : Fld := if t = 0 then R.MOD_TB0_CFG_UPD else R.MOD_TB1_CFG_UPD
def tbCg (t : Fin 2) : Fld := if t = 0 then R.MOD_TB0_CFG_CG else R.MOD_TB1_CFG_CG
def tbPer (t : Fin 2) : Fld := if t = 0 then R.MOD_TB0_PER_PER else R.MOD_TB1_PER_PER
def tbPseq (t : Fin 2) : Fld := if t = 0 then R.MOD_TB0_CNT_PSEQ else R.MOD_TB1_CNT_PSEQ

/-- Both enables of a timebase stand in a lane's page (R358). -/
def Dev.tbBits (d : Dev) (l : Lane) (t : Fin 2) : Bool :=
  d.gl l (pgMOD l) H.CTRL_ENABLE == 1 && d.gl l (pgMOD l) (tbEn t) == 1

/-- TB1 is locked to TB0 (R359). -/
def Dev.tb1Locked (d : Dev) (l : Lane) : Bool := d.gl l (pgMOD l) R.MOD_TB1_CFG_LOCK == 1

/-- Both enables stand in both lanes' pages, or in the one available lane while the other is lost (R358). -/
def Dev.tbPair (d : Dev) (l : Lane) (t : Fin 2) : Bool :=
  d.tbBits l t && (!d.pageUp l.other (pgMOD l.other) || (d.lanes.at l.other).role == .down || d.tbBits l.other t)

/-- A timebase is to run: a locked TB1 only beside TB0, whose count places its period starts (R358, R359). -/
def Dev.tbEnabled (d : Dev) (l : Lane) (t : Fin 2) : Bool := d.tbPair l t && (t == 0 || !d.tb1Locked l || d.tbPair l 0)

/-- TB0's period from its next period start on: the one that its latch point took, else the present one (R43). -/
def Dev.tb0After (d : Dev) (l : Lane) : Nat :=
  match (d.mods.at l).tb0.taken.find? (·.1 == pageAddr (pgMOD l) (tbPer 0).off) with
  | some (_, w) => (tbPer 0).get w
  | none => (d.mods.at l).tb0.per

/-- The first tick after `after` at which TB0's count equals PHASE, and the period that a locked TB1 takes there (R359). -/
def Dev.lockNext (d : Dev) (l : Lane) (after : Int) : Int × Nat :=
  let z := (d.mods.at l).tb0
  let ph := d.gl l (pgMOD l) R.MOD_TB1_CFG_PHASE
  let here : Int := (z.t0 + ph % max 1 z.per : Nat)
  if after < here then (here, z.per)
  else
    let p := d.tb0After l
    let next : Int := (z.t0 + z.per : Int) + z.syncAdj + (ph % max 1 p : Nat)
    if after < next then (next, p) else (next + p, p)

/-- A locked TB1 keeps its next period start at TB0's count PHASE (R359). -/
def Dev.tb1Follow (d : Dev) (l : Lane) : Dev :=
  if d.tb1Locked l ∧ (d.mods.at l).tb1.running ∧ !(d.mods.at l).tb1.latched then
    d.onTb l 1 fun s => { s with syncRest := 0, syncAdj := (d.lockNext l s.t0).1 - (s.t0 + s.per : Nat) }
  else d

/-- The legs on a timebase. -/
def Dev.tbLegs (d : Dev) (l : Lane) (t : Fin 2) : List (Fin 6) :=
  (List.finRange 6).filter fun n => d.gl l (pgMOD l) R.MOD_LEG_CFG_TB n.val == t.val

/-- The first multiple of 4,096 ticks at or after a tick. -/
def mult4096 (t : Nat) : Nat := (t + 4095) / 4096 * 4096

/-- A member staged in auto or ratio mode becomes active on its own, on a stopped timebase at the tick of R665 (R368, R370). -/
def Dev.autoDue (d : Dev) (l : Lane) (t : Fin 2) (a : Nat) : Dev :=
  if d.gl l (pgMOD l) (tbUpd t) = 0 then d else d.tbDefer l t (.member a)

/-- All that waited for a period start of a timebase that stops waits for the tick of R665 from now on. -/
def Dev.deferAll (d : Dev) (l : Lane) (t : Fin 2) : Dev :=
  let members := if d.gl l (pgMOD l) (tbUpd t) = 0 then [] else
    (d.staged.filter fun kw => kw.1 / 0x1000000 == l.idx && kw.1 % 0x1000000 / 0x1000 == pgMOD l).map fun kw => Waiting.member (kw.1 % 0x1000000)
  let fixed := Waiting.taken :: (List.range 4).map Waiting.group ++ (List.finRange 6).map Waiting.leg ++
    [(0 : Fin 2), 1].flatMap fun x => [Waiting.pulses x, Waiting.ascOn x, Waiting.ascEnd x, Waiting.map x]
  (fixed ++ members).foldl (fun d w => d.tbDefer l t w) d

/-- Start or stop a lane's timebase as its enables stand (R358): it starts at the first multiple of 4,096 ticks at least 5,000
ticks after the later enabling write, and stops at once, its legs acting as OFF; what a latch point took waits for R665. -/
def Dev.tbJudge (d : Dev) (l : Lane) (t : Fin 2) : Dev :=
  let s := (d.mods.at l).tb t
  if d.tbEnabled l t then
    if s.running ∨ s.startAt.isSome then d
    else d.onTb l t fun s => { s with startAt := some (mult4096 (d.now + 5000)) }
  else if s.running ∨ s.startAt.isSome then
    let d := (d.onTb l t fun s => { s with running := false, startAt := none, latched := false }).deferAll l t
    (d.tbLegs l t).foldl (fun d n => d.legOff l n) d
  else d

/-- Judge all four timebases after a write of an enable. -/
def Dev.tbJudgeAll (d : Dev) : Dev := d.eachLane fun d l => (d.tbJudge l 0).tbJudge l 1

/-! ## Staging (R43, R366 to R370) -/

/-- The staged value at an address of a lane's copy. -/
def Dev.stagedAt (d : Dev) (l : Lane) (a : Nat) : Option Word := cellsGet d.staged (regKey l a)

/-- The addresses that belong to a commit group on a timebase (R366): the period, and MODE, CMP and DT of its legs. -/
def Dev.groupAddrs (d : Dev) (l : Lane) (t : Fin 2) (g : Nat) : List Nat :=
  let p := pgMOD l
  let per := if d.gl l p (tbCg t) = g ∧ (d.gl l p (tbEn t) = 1 ∨ !(d.tbLegs l t).isEmpty) then [pageAddr p (tbPer t).off] else []
  per ++ ((d.tbLegs l t).filter fun n => d.gl l p R.MOD_LEG_CFG_CG n.val == g).flatMap fun n =>
    [pageAddr p (R.MOD_LEG_MODE_MODE.at n.val), pageAddr p (R.MOD_LEG_CMP_VALUE.at n.val), pageAddr p (R.MOD_LEG_DT_DT.at n.val)]

/-- The timebase a group's members belong to. -/
def Dev.groupTb (d : Dev) (l : Lane) (g : Nat) : Option (Fin 2) :=
  if !(d.groupAddrs l 0 g).isEmpty then some 0 else if !(d.groupAddrs l 1 g).isEmpty then some 1 else none

/-- Take the staged values at some addresses out of the staged list: the values taken, and the device without them. -/
def Dev.takeStaged (d : Dev) (l : Lane) (as : List Nat) : List (Nat × Word) × Dev :=
  let got := as.filterMap fun a => (d.stagedAt l a).map fun w => (a, w)
  (got, as.foldl (fun d a => { d with staged := cellsErase d.staged (regKey l a) }) d)

/-- Count an applied group commit in GRPGEN and GEN (R366). -/
def Dev.countGroup (d : Dev) (l : Lane) (g : Nat) : Dev :=
  let f := match g with | 0 => R.MOD_GRPGEN_G0 | 1 => R.MOD_GRPGEN_G1 | 2 => R.MOD_GRPGEN_G2 | _ => R.MOD_GRPGEN_G3
  let d := d.sl l (pgMOD l) f ((d.gl l (pgMOD l) f + 1) % 256)
  d.sl l (pgMOD l) H.GEN ((d.gl l (pgMOD l) H.GEN + 1) % 4294967296)

/-- Commit groups of a modulator in commit-group mode (R366); a group without members applies at once, and an action on a
stopped timebase waits for its tick (R665). -/
def Dev.commitGroups (d : Dev) (l : Lane) (groups : Nat) : Dev :=
  (List.range 4).foldl (fun d g =>
    if groups / 2 ^ g % 2 = 0 then d
    else match d.groupTb l g with
      | none => d.countGroup l g
      | some t =>
        if d.gl l (pgMOD l) (tbUpd t) ≠ 0 ∨ (d.mods.at l).groups.contains g then d
        else
          let d := d.onMod l fun m => { m with groups := m.groups ++ [g] }
          d.tbDefer l t (.group g)) d

/-- The staged values that a latch point takes for the next period start (R43, R366, R368, R370). -/
def Dev.latch (d : Dev) (l : Lane) (t : Fin 2) : Dev :=
  let upd := d.gl l (pgMOD l) (tbUpd t)
  let gs := (List.range 4).filter fun g => !(d.groupAddrs l t g).isEmpty &&
    (upd != 0 || (d.mods.at l).groups.contains g)
  let (got, d) := d.takeStaged l (gs.flatMap (d.groupAddrs l t))
  let d := d.onMod l fun m => { m with groups := m.groups.filter fun g => !gs.contains g }
  let d := d.onTb l t fun s => { s with taken := s.taken ++ got, takenGroups := s.takenGroups ++ (if upd = 0 then gs else []) }
  d.tb1Follow l

/-- Values become active with the commits of their groups: register values, GRPGEN and GEN (R366, R368). -/
def Dev.applyValues (d : Dev) (l : Lane) (t : Fin 2) (taken : List (Nat × Word)) (groups : List Nat) : Dev :=
  let d := taken.foldl (fun d aw => d.setWord l aw.1 aw.2) d
  let d := groups.foldl (fun d g => d.countGroup l g) d
  if d.gl l (pgMOD l) (tbUpd t) ≠ 0 ∧ !taken.isEmpty then
    d.sl l (pgMOD l) H.GEN ((d.gl l (pgMOD l) H.GEN + 1) % 4294967296) else d

/-- Make what a latch point took active. -/
def Dev.applyTaken (d : Dev) (l : Lane) (t : Fin 2) : Dev :=
  let s := (d.mods.at l).tb t
  (d.applyValues l t s.taken s.takenGroups).onTb l t fun s => { s with taken := [], takenGroups := [] }

/-! ## Trips (R378 to R383) -/

/-- Accept a trip source (R378, R379) with its stamp: it is latched, its legs are forced at once, the priority symbol leaves, and its
Ledger source and cause follow. -/
def Dev.acceptTrip (d : Dev) (l : Lane) (src stamp : Nat) : Dev :=
  let p := pgMOD l
  let d := d.sl l p R.MOD_TRIPSTAT_LATCH (d.gl l p R.MOD_TRIPSTAT_LATCH ||| 2 ^ src)
  let legs := (List.finRange 6).filter fun n => d.tripLegs l src / 2 ^ n.val % 2 == 1
  let d := (legs.foldl (fun d n => d.forceLeg l n) d).sendSymbol l legs
  let n := 192 + 16 * l.idx + src
  if src < 3 then (let d := d.causeL l p (BitVec.ofNat 32 (2 ^ src)); if d.srcLive n then d else d.raiseAt n stamp 0)
  else d.causeL l p (BitVec.ofNat 32 (2 ^ 11))

/-- TRIP1 (or TRIP2) of the TRIP port is enabled; a level of it is the active one (TRIPCFG.EN, POL); its filter in ticks (R378). -/
def Dev.tripEn (d : Dev) (l : Lane) (second : Bool) : Bool :=
  d.gl l (pgMOD l) (if second then R.MOD_TRIPCFG_EN2 else R.MOD_TRIPCFG_EN1) == 1
def Dev.tripActive (d : Dev) (l : Lane) (second level : Bool) : Bool :=
  level == (d.gl l (pgMOD l) (if second then R.MOD_TRIPCFG_POL2 else R.MOD_TRIPCFG_POL1) == 1)
def Dev.tripFilt (d : Dev) (l : Lane) (second : Bool) : Nat := d.gl l (pgMOD l) (if second then R.MOD_TRIPCFG_FILT2 else R.MOD_TRIPCFG_FILT1)

/-- A level of TRIP1 or TRIP2 has held for `held` ticks (R378): enabled and active throughout [t0, t0 + FILT) it is accepted with the
stamp t0. -/
def Dev.tripLand (d : Dev) (l : Lane) (second level : Bool) (held : Nat) : Dev :=
  if d.tripEn l second ∧ d.tripActive l second level ∧ d.tripFilt l second ≤ held then
    (d.sl l (pgMOD l) R.MOD_TRIPSTAT_LIVE (d.gl l (pgMOD l) R.MOD_TRIPSTAT_LIVE ||| (if second then 2 else 1))).acceptTrip l
      (if second then 1 else 0) (d.now - held)
  else d

/-- TRIP_ACCEPT (R378, R379, R414): TRIP1 and TRIP2 as their lands and TRIPCFG have them; SW; PROT comes with the bridges that hold a
short. -/
def Dev.tripAccept (d : Dev) (l : Lane) (src : Nat) (level : Bool) (held : Nat) : Dev :=
  if !d.pageUp l (pgMOD l) then d
  else match src with
    | 0 => d.tripLand l false level held
    | 1 => d.tripLand l true level held
    | 2 => d.acceptTrip l 2 d.now
    | _ => [(0 : Fin 2), 1].foldl (fun d b => if d.bridgeShort b then d.protTrip l (d.bridgeLegs b) else d) d

/-- SWTRIP (R378). -/
def Dev.swTrip (d : Dev) (l : Lane) (trig : Bool) : Dev := if trig then d.acceptTrip l 2 d.now else d

/-- TRIP_RELEASE (R378, R382): the level of TRIP1 or TRIP2 is not the active one any more. DESIGN CHOICE (log 116): the filtered level
turns inactive at once, since R378 gives a filter for the active level alone. -/
def Dev.tripRelease (d : Dev) (l : Lane) (second level : Bool) : Dev :=
  if !d.pageUp l (pgMOD l) ∨ d.tripActive l second level then d
  else
    let b := if second then 2 else 1
    let v := d.gl l (pgMOD l) R.MOD_TRIPSTAT_LIVE
    d.sl l (pgMOD l) R.MOD_TRIPSTAT_LIVE (v - (if v / b % 2 = 1 then b else 0))

/-- TRIPCLR.PROT is accepted (R429): no output of the legs PROT forces keeps a latched fault or both halves cut off. -/
def Dev.protClearable (d : Dev) (l : Lane) : Bool :=
  (List.finRange 6).all fun n => (d.mods.at l).protLegs / 2 ^ n.val % 2 == 0 ||
    [legHigh n, legLow n].all fun o =>
      let s := d.outs[o]
      s.shortKind.isNone && !s.gmon && !s.supFault && !s.bootUv && !(s.cutA && s.cutB)

/-- Legs that no source holds any more stay forced until their next period start (R383), or the tick of R665. One that a bootstrap
undervoltage forces takes the level of that (R372). -/
def Dev.endForcing (d : Dev) (l : Lane) (before : Nat) : Dev :=
  let after := d.latchedLegs l
  (List.finRange 6).foldl (fun d n =>
    if before / 2 ^ n.val % 2 = 1 ∧ after / 2 ^ n.val % 2 = 0 then
      if ((d.mods.at l).legs[n]).bootForced then d.bootLevel l n
      else (d.onLeg l n fun s => { s with ending := true }).tbDefer l (d.legTb l n) (.leg n)
    else d) d

/-- TRIPCLR (R382): an input that is still active refuses its clear. -/
def Dev.tripClr (d : Dev) (l : Lane) (bits : Nat) : Dev :=
  let p := pgMOD l
  let before := d.latchedLegs l
  let one := fun (d : Dev) (s : Nat) =>
    let latch := d.gl l p R.MOD_TRIPSTAT_LATCH
    if bits / 2 ^ s % 2 = 0 ∨ latch / 2 ^ s % 2 = 0 then d
    else
      let src := 192 + 16 * l.idx + s
      let clear := fun (d : Dev) => d.sl l p R.MOD_TRIPSTAT_LATCH (latch - 2 ^ s)
      if s < 2 then
        if d.gl l p R.MOD_TRIPSTAT_LIVE / 2 ^ s % 2 = 1 then
          (((d.inc pgLEDGER R.LEDGER_SRC_CLRREF src).cause pgLEDGER 2).causeL l p 8).raise (195 + 16 * l.idx)
        else (clear d).endCause src
      else if s = 2 then (clear d).endCause src
      else if d.protClearable l then
        let was := (d.mods.at l).protLegs
        let d := (clear d).onMod l fun m => { m with protLegs := 0 }
        (List.finRange 6).foldl (fun d n =>
          if was / 2 ^ n.val % 2 = 1 ∧ d.latchedLegs l / 2 ^ n.val % 2 = 1 then d.forceLeg l n else d) d
      else d.cause pgPROT 8
  ((List.range 4).foldl one d).endForcing l before

/-! ## Leg edges (R362 to R365, R369 to R372, R384 to R387, R397) -/

/-- Send a regular edge of an output at an instant in fine steps of device time, produced in the period that starts at `start`. -/
def Dev.sendEdge (d : Dev) (l : Lane) (o : OutIx) (on : Bool) (t : Int) (start : Nat) : Dev :=
  d.queueEdge l { out := o, level := on, pset := d.edgePset l o, due := (t / 32).toNat, dueF := (t % 32).toNat, start := some start }

/-- What a leg does in one period: compare after clamps, edges as (high side, on, fine steps from the period start), levels at
its end, and its flags. -/
structure LegPlan where
  c : Nat := 0
  edges : List (Bool × Bool × Int) := []
  hs : Bool := false
  ls : Bool := false
  stretch : Bool := false
  dropH : Bool := false
  dropL : Bool := false
  /-- width of the low-side pulse in fine steps -/
  low : Int := 0
  deriving DecidableEq, Repr

/-- The plan with the width of a low side that ends the period on: from its turn-on, or from the period start (R384). -/
def LegPlan.lowFrom (p : LegPlan) (P : Int) : LegPlan :=
  { p with low := if !p.ls then 0 else match p.edges.find? (fun (e : Bool × Bool × Int) => !e.1 && e.2.1) with | some e => P - e.2.2 | none => P }

/-- Move a turn-on so that it comes no less than D after the partner's turn-off (R364). -/
def guardOn (t off D : Int) : Int := max t (off + D)

/-- The plan of a leg whose levels are (H, L) steady through a period: OFF, HOLD_L, HOLD_H. The turn-offs come at 0, a turn-on
at 0 or after the guard of R364. `hOff`, `lOff` are the partner's last turn-offs from this period's start. -/
def planSteady (hs ls wantH wantL : Bool) (hOff lOff D : Int) : LegPlan :=
  let offH : List (Bool × Bool × Int) := if hs ∧ !wantH then [(true, false, 0)] else []
  let offL : List (Bool × Bool × Int) := if ls ∧ !wantL then [(false, false, 0)] else []
  let hOff' := if hs ∧ !wantH then 0 else hOff
  let lOff' := if ls ∧ !wantL then 0 else lOff
  let tH := guardOn 0 lOff' D
  let tL := guardOn 0 hOff' D
  { edges := offH ++ offL ++ (if wantH ∧ !hs then [(true, true, tH)] else []) ++ (if wantL ∧ !ls then [(false, true, tL)] else [])
    hs := wantH, ls := wantL
    stretch := (wantH && !hs && tH != 0) || (wantL && !ls && tL != 0) }

/-- The plan of a PWM leg (R363 to R365); `low` is false in PWM_H, where the low side stays off. -/
def planPwm (hs ls : Bool) (hOff lOff : Int) (P D C0 minOn minOff : Int) (low : Bool) : LegPlan :=
  let dropH := 0 < C0 ∧ C0 < 32 * minOn
  let C := if dropH then 0 else C0
  let C := if 0 < P - C ∧ P - C < 32 * minOff ∧ 0 < C then P else C
  if C ≤ 0 then
    let r := planSteady hs ls false low hOff lOff D
    let tL := guardOn D (if hs then 0 else hOff) D
    let r : LegPlan := { r with
      c := 0, dropH := dropH, stretch := low && !ls && tL != D
      edges := r.edges.map fun e => if e.1 = false ∧ e.2.1 = true then (false, true, tL) else e }
    r.lowFrom P
  else if P ≤ C then
    { planSteady hs ls true false hOff lOff D with c := P.toNat, dropH := dropH }
  else
    let offL : List (Bool × Bool × Int) := if ls then [(false, false, 0)] else []
    let lOff' := if ls then 0 else lOff
    let tH := guardOn 0 lOff' D
    let moved := !hs && tH != 0
    let keepH := hs || !(moved && C - tH < 32 * minOn)
    let edgesH : List (Bool × Bool × Int) :=
      if hs then [(true, false, C)] else if keepH then [(true, true, tH), (true, false, C)] else []
    let w := P - 2 * D - C
    let drop := w < 32 * minOn ∨ w ≤ 0
    let edgesL : List (Bool × Bool × Int) := if low ∧ !drop then [(false, true, C + D), (false, false, P - D)] else []
    { c := C.toNat, edges := offL ++ edgesH ++ edgesL, hs := false, ls := false, stretch := moved
      dropH := dropH || !keepH, dropL := low && drop, low := if low ∧ !drop then w else 0 }

/-- The compare of a leg before the minimum-pulse rules: the ratio of R370, or the active value with the clamp of an interim
(R369); half the period for leg 6 of a two-phase STEP axis (R387). -/
def Dev.legCompare (d : Dev) (l : Lane) (t : Fin 2) (n : Fin 6) (P : Nat) : Nat × Bool :=
  let v := d.gl l (pgMOD l) R.MOD_LEG_CMP_VALUE n.val
  if n = 5 ∧ d.powerCfg = 3 ∧ d.g (pgFIELD 1) R.FIELD_AXCFG_MODE = 2 ∧ d.g (pgFIELD 1) R.FIELD_AXCFG_TPH = 1 then (P / 2, false)
  else if d.gl l (pgMOD l) (tbUpd t) = 2 then
    ((if v % 65536 = 0xFFFF then P else (2 * (v % 65536) * P + 65536) / 131072), false)
  else
    let top := P - 32 * d.gl l (pgMOD l) R.MOD_MINP_MINOFF
    if ((d.mods.at l).legs[n]).interim ∧ top ≤ v then (top, true) else (v, false)

/-- Leg n switches in this period: the axis has pulses, in RUN or for the discharge through the windings (R371, R424). -/
def Dev.legLive (d : Dev) (n : Fin 6) : Bool :=
  d.modeIs [.run, .discharge] && d.g (pgFIELD (d.legAxis n)) R.FIELD_STATE_PULSES == 1

/-- A leg stays forced through the next period start: its last latched source is not cleared, its bootstrap source is not, where no
pre-charge runs, or ASC does not end (R383, R385, R386, R416). -/
def Dev.legHeld (d : Dev) (l : Lane) (n : Fin 6) : Bool :=
  let s := (d.mods.at l).legs[n]
  let b := d.bridges[d.legBridge n]
  d.latchedLegs l / 2 ^ n.val % 2 == 1 || (s.bootForced && !s.bootEnds && !d.precharge l n) ||
  ((b.ascL || b.ascH) && !(d.axes[d.legAxis n]).ascEnds)

/-- A scheduled change of a leg that leaves CHOP mode is not made: its edges from a tick on are dropped. -/
def Dev.cancelChop (d : Dev) (l : Lane) (n : Fin 6) (start : Nat) : Dev :=
  if (((d.mods.at l).legs[n]).chopDue).isNone then d
  else
    let drop := fun (d : Dev) (o : OutIx) => d.onMaster l (outDie o) fun m =>
      { m with queue := m.queue.filter fun e => e.out != o || decide (e.due < start) }
    (drop (drop d (legHigh n)) (legLow n)).onLeg l n fun s => { s with
      chopDue := none, hs := legLevel s true (start - 1 : Int), ls := legLevel s false (start - 1 : Int)
      placed := s.placed.filter fun e => decide (e.2.2 < 32 * start) }

/-- The CHOP state that a leg holds once its scheduled change is made. -/
def LegState.chopWant (s : LegState) : Bool := match s.chopDue with | some (_, h) => h | none => s.chopHigh

/-- Produce a leg's edges of the period of `per` ticks that starts at `start` (R362 to R365, R369, R374, R384, R386). `e` is the
device as it will stand at that start. -/
def Dev.prepareLeg (d e : Dev) (l : Lane) (t : Fin 2) (start per : Nat) (n : Fin 6) : Dev :=
  let p := pgMOD l
  let ascEnd := (e.axes[e.legAxis n]).ascEnds
  let go := (e.axes[e.legAxis n]).starts
  if e.legHeld l n then d.onLeg l n fun s => { s with next := { ascEnd := ascEnd, start := go } }
  else
    let P := per * 32
    let D := e.gl l p R.MOD_LEG_DT_DT n.val
    let mode := if e.legLive n then e.gl l p R.MOD_LEG_MODE_MODE n.val else 0
    let d := if mode = 5 then d else d.cancelChop l n start
    let s := (d.mods.at l).legs[n]
    let start : Int := (start * 32 : Nat)
    let hOff := s.hsOffAt - start
    let lOff := s.lsOffAt - start
    let minOn := e.gl l p R.MOD_MINP_MINON
    let minOff := e.gl l p R.MOD_MINP_MINOFF
    let (c0, clamped) := e.legCompare l t n P
    let boot := e.bootLeg l n
    let need := if (e.outs[legHigh n]).warn then 1 else e.gl l p R.MOD_BOOT_N
    let refresh := boot ∧ (mode = 1 ∨ mode = 2 ∨ mode = 4) ∧ need ≤ e.gl l p R.MOD_LEG_STAT_NOLS n.val
    let rfw := e.gl l p R.MOD_BOOT_RFW
    let top := P - 2 * D - 32 * rfw
    let c := if refresh then min (if mode = 4 then P else c0) top else c0
    let plan :=
      if e.precharge l n then
        { planSteady s.hs s.ls false false hOff lOff D with
          edges := [(false, true, guardOn 0 hOff D), (false, false, guardOn 0 hOff D + 32 * (e.gl l p R.MOD_BOOT_PRE : Int))]
          low := 32 * (e.gl l p R.MOD_BOOT_PRE : Int) }
      else match mode with
        | 1 => planPwm s.hs s.ls hOff lOff P D c minOn minOff true
        | 2 => planPwm s.hs s.ls hOff lOff P D c minOn minOff refresh
        | 3 => (planSteady s.hs s.ls false true hOff lOff D).lowFrom P
        | 4 => if refresh then planPwm s.hs s.ls hOff lOff P D c minOn minOff true
               else { planSteady s.hs s.ls true false hOff lOff D with c := P }
        | 5 => planSteady s.hs s.ls s.chopWant (!s.chopWant) hOff lOff D
        | _ => planSteady s.hs s.ls false false hOff lOff D
    let d := plan.edges.foldl (fun d e =>
      let o := if e.1 then legHigh n else legLow n
      let d := d.sendEdge l o e.2.1 (start + e.2.2) (start / 32).toNat
      if e.2.1 then d
      else d.onLeg l n fun s => if e.1 then { s with hsOffAt := start + e.2.2 } else { s with lsOffAt := start + e.2.2 }) d
    d.onLeg l n fun s => { s with
      hs := plan.hs, ls := plan.ls, placed := s.placed ++ plan.edges.map fun e => (e.1, e.2.1, start + e.2.2)
      next := { c := plan.c, stretch := plan.stretch, dropH := plan.dropH, dropL := plan.dropL, refresh := refresh,
                served := decide ((32 * rfw : Int) ≤ plan.low), clamped := decide (clamped ∧ (mode = 1 ∨ mode = 2)),
                opens := (start / 32).toNat, release := e.legForced l n && !e.precharge l n, ascEnd := ascEnd, start := go
                chop := mode == 5 } }

/-- A low-side edge as windows count it: its tick, a turn-on's rounded up (R171). -/
def lowTick (e : Bool × Bool × Int) : Bool × Nat := (e.2.1, ((e.2.2 + (if e.2.1 then 31 else 0)) / 32).toNat)

/-- The low side was on for at least `w` ticks in a row between two ticks, by the level at the first one and the edges since (R384). -/
def lowServed (on : Bool) (edges : List (Bool × Nat)) (t0 t1 w : Nat) : Bool :=
  let r := edges.foldl (fun (r : Bool × Nat × Bool) e =>
    (e.1, (if e.1 ∧ !r.1 then e.2 else r.2.1), r.2.2 || (r.1 && !e.1 && decide (r.2.1 + w ≤ e.2)))) (on, t0, false)
  r.2.2 || (r.1 && decide (r.2.1 + w ≤ t1))

/-- A period in CHOP mode is over: NOLS counts it by the low-side edges that its leg made (R384). -/
def Dev.chopPeriod (d : Dev) (l : Lane) (n : Fin 6) (t1 : Nat) : Dev :=
  let p := pgMOD l
  let s := (d.mods.at l).legs[n]
  match s.chopFrom with
  | none => d
  | some t0 =>
    let ok := lowServed s.lsStart s.lowEdges t0 t1 (d.gl l p R.MOD_BOOT_RFW)
    (d.sl l p R.MOD_LEG_STAT_NOLS (if ok then 0 else satInc 255 (d.gl l p R.MOD_LEG_STAT_NOLS n.val)) n.val).onLeg l n fun s => { s with
      chopFrom := none }

/-- A leg's registers at a period start (R363 to R365, R369, R384), and the levels and edges that windows count from (R171 to
R173). DESIGN CHOICE: a low side whose turn-off is due exactly at the period start counts as on there, so that the period's window is
empty. -/
def Dev.legStarts (d : Dev) (l : Lane) (t : Fin 2) (n : Fin 6) : Dev :=
  let p := pgMOD l
  let t0 := ((d.mods.at l).tb t).t0
  let d := d.chopPeriod l n t0
  let s := (d.mods.at l).legs[n]
  let nols := d.gl l p R.MOD_LEG_STAT_NOLS n.val
  let x := s.next
  let st := fun (d : Dev) (f : Fld) (b : Bool) => d.sl l p f (if b then 1 else 0) n.val
  if d.legForced l n && !d.precharge l n then
    (d.sl l p R.MOD_LEG_STAT_NOLS (if s.ls then 0 else satInc 255 nols) n.val).onLeg l n fun s => { s with
      lsStart := s.ls, lowEdges := [], lowCut := if s.ls then none else some t0, next := {} }
  else
    let placed := s.placed.filter fun e => decide (((32 * t0 : Nat) : Int) ≤ e.2.2)
    let d := d.onLeg l n fun s => { s with
      hs0 := legLevel s true (t0 - 1 : Int), ls0 := legLevel s false (t0 - 1 : Int), placed := placed
      lsStart := legLevel s false (t0 - 1 : Int), lowEdges := (placed.filter fun e => !e.1).map lowTick, lowCut := none
      acmp := x.c, next := {}, chopFrom := if x.chop then some t0 else none }
    let d := st d R.MOD_LEG_STAT_STRETCH x.stretch
    let d := st d R.MOD_LEG_STAT_DROP_H x.dropH
    let d := st d R.MOD_LEG_STAT_DROP_L x.dropL
    let d := st d R.MOD_LEG_STAT_REFRESH x.refresh
    let d := if x.chop then d else d.sl l p R.MOD_LEG_STAT_NOLS (if x.served then 0 else satInc 255 nols) n.val
    if x.clamped then
      let d := st d R.MOD_LEG_STAT_CLAMPED true
      if ((d.mods.at l).legs[n]).interimRaised then d
      else ((d.onLeg l n fun s => { s with interimRaised := true }).causeL l p 32).raise (197 + 16 * l.idx)
    else d

/-- A new period becomes active at a period start (R369): a taken TBn_PER, or for a locked TB1, which ignores that, a period that TB0
gives it and that differs from its own (R359). -/
def Dev.newPeriod (d : Dev) (l : Lane) (t : Fin 2) (taken : List (Nat × Word)) (per : Nat) : Bool :=
  if t = 1 ∧ d.tb1Locked l then (d.mods.at l).tb1.running && per != (d.mods.at l).tb1.per
  else taken.any (·.1 == pageAddr (pgMOD l) (tbPer t).off)

/-- The interim of auto mode (R369): it ends for a leg whose compare becomes active, and begins for a PWM leg whose compare does not
become active together with a new period. -/
def Dev.judgeInterim (d : Dev) (l : Lane) (t : Fin 2) (taken : List (Nat × Word)) (new : Bool) : Dev :=
  let p := pgMOD l
  let cmpNew := fun (n : Fin 6) => taken.any (·.1 == pageAddr p (R.MOD_LEG_CMP_VALUE.at n.val))
  let d := (d.tbLegs l t).foldl (fun d n =>
    if cmpNew n then
      (d.onLeg l n fun s => { s with interim := false, interimRaised := false }).sl l p R.MOD_LEG_STAT_CLAMPED 0 n.val
    else d) d
  let late := (d.tbLegs l t).filter fun n => let m := d.gl l p R.MOD_LEG_MODE_MODE n.val; (m == 1 || m == 2) && !cmpNew n
  if d.gl l p (tbUpd t) ≠ 1 ∨ late.isEmpty ∨ !new then d
  else
    let d := late.foldl (fun d n => d.onLeg l n fun s => { s with interim := true }) d
    (d.causeL l p 16).raise (196 + 16 * l.idx)

/-- Produce the edges of the period that starts at `start`, as the registers will then stand (R43, R374). -/
def Dev.prepare (d : Dev) (l : Lane) (t : Fin 2) (start : Nat) : Dev :=
  let tb := (d.mods.at l).tb t
  let e := d.applyTaken l t
  let after : Int := if tb.running then tb.t0 else (start : Int) - 1
  let per := if t = 1 ∧ e.tb1Locked l then (e.lockNext l after).2 else e.gl l (pgMOD l) (tbPer t)
  let e := e.judgeInterim l t tb.taken (e.newPeriod l t tb.taken per)
  let e := e.eachAxis fun e x => if e.axes[x].starts then e.s (pgFIELD x) R.FIELD_STATE_PULSES 1 else e
  let d := (d.tbLegs l t).foldl (fun d n => d.prepareLeg e l t start per n) d
  d.onTb l t fun s => { s with latched := true }

/-- The ASC of a bridge ends (R271, R416): a trip whose source is still latched forces its legs again, and so does a bootstrap undervoltage
(R385). -/
def Dev.ascLeaves (d : Dev) (b : Fin 2) (now : Bool) : Dev :=
  (d.bridgeLegs b).foldl (fun d n => d.eachLane fun d l =>
    if d.latchedLegs l / 2 ^ n.val % 2 = 0 then (if ((d.mods.at l).legs[n]).bootForced ∧ !d.precharge l n then d.bootLevel l n else d)
    else if d.gl l (pgMOD l) R.MOD_TRIPSTAT_LATCH / 8 % 2 = 1 ∧ (d.mods.at l).protLegs / 2 ^ n.val % 2 = 1 then d.setLeg l n false false
    else d.forceLeg l n) (d.endAsc b now)

/-- An axis has left ASC on every bridge: its catch window opens where one is due (R271, R278). -/
def Dev.ascLeft (d : Dev) (x : Fin 2) : Dev :=
  let s := d.axes[x]
  if !s.ascEnds ∨ ((d.axisBridges x).any fun b => d.bridges[b].ascL || d.bridges[b].ascH) then d
  else d.onAxis x fun s =>
    let s := if s.ascCatch then { s with catchWin := some d.now, catchNext := d.now, samples := [], early := false, released := true } else s
    { s with ascEnds := false, ascCatch := false }

/-- The pulses of a synchronised axis start, and it enters RUN, or STEP (R281). -/
def Dev.axisStarts (d : Dev) (x : Fin 2) : Dev :=
  let d := (d.tcmdTouch x).onAxis x fun s => { s with starts := false, sync := true }
  (d.s (pgFIELD x) R.FIELD_STATE_PULSES 1).setAx x (if d.g (pgFIELD x) R.FIELD_AXCFG_MODE = 2 then .step else .run)

/-- What a period start does for an axis on the timebase: the first switched period after a synchronisation ends, a synchronised
axis starts, an armed map swap is made (R253, R281). -/
def Dev.axisOpens (d : Dev) (l : Lane) (x : Fin 2) (run : Bool) (due : Waiting → Bool) : Dev :=
  let d := d.onAxis x fun s => { s with sync := false }
  let d := if d.axes[x].starts ∧ due (.pulses x) ∧ (!run ∨ (d.axisLegs x).all fun n => ((d.mods.at l).legs[n]).next.start) then
      d.axisStarts x else d
  if d.axes[x].mapSwap ∧ due (.map x) then
    (d.s (pgFIELD x) R.FIELD_MAPCFG_BANK (1 - d.g (pgFIELD x) R.FIELD_MAPCFG_BANK)).onAxis x fun s => { s with mapSwap := false }
  else d

/-- The forcing of a leg ends (R383, R385). -/
def LegState.freed (s : LegState) : LegState :=
  { s with ending := false, bootForced := s.bootForced && !s.bootEnds, bootEnds := false }

/-- What a period start, or the tick of R665, ends and begins beside the edges (R383, R385, R415, R416), of what is `due` at that tick: the
forcing of legs whose clear was accepted, ASC where it waits for a period start, its end where the speed rule has left it, and the
axes'. On a running timebase a forcing ends as the latch point had it. -/
def Dev.periodActions (d : Dev) (l : Lane) (t : Fin 2) (due : Waiting → Bool) : Dev :=
  let run := ((d.mods.at l).tb t).running
  let d := (d.tbLegs l t).foldl (fun d n =>
    let s := (d.mods.at l).legs[n]
    if (s.ending ∨ s.bootEnds) ∧ due (.leg n) ∧ (!run ∨ s.next.release) then
      let d := d.onLeg l n (·.freed)
      if run then d else d.legOff l n
    else d) d
  if some l ≠ d.active then d
  else [(0 : Fin 2), 1].foldl (fun d b =>
    let d := if (d.axisLegs b).any ((d.tbLegs l t).contains ·) then d.axisOpens l b run due else d
    if (d.bridgeLegs b).all (fun n => (d.tbLegs l t).contains n) ∧ !(d.bridgeLegs b).isEmpty then
      let x : Fin 2 := if d.powerCfg = 1 ∨ d.powerCfg = 2 then 0 else b
      match d.bridges[b].waitHigh with
      | some h => if d.ascByDly b ∨ !due (.ascOn x) ∨ !d.sidePermitted b h then d else d.applyAsc b h
      | none =>
        if d.axes[x].ascEnds ∧ due (.ascEnd x) ∧ (!run ∨ (d.bridgeLegs b).all fun n => ((d.mods.at l).legs[n]).next.ascEnd) then
          (d.ascLeaves b (!run)).ascLeft x
        else d
    else d) d

/-- A period start: PSEQ `seq`, the interim of R369, what waits for a period start, the legs' registers, the sequencer's
trigger; `new` says that a new period becomes active. -/
def Dev.periodOpens (d : Dev) (l : Lane) (t : Fin 2) (seq : Nat) (taken : List (Nat × Word)) (new : Bool) : Dev :=
  let d := (d.sl l (pgMOD l) (tbPseq t) (seq % 4096)).causeL l (pgMOD l) (BitVec.ofNat 32 (2 ^ (12 + t.val)))
  let d := (d.judgeInterim l t taken new).periodActions l t fun _ => true
  let d := (d.tbLegs l t).foldl (fun d n => d.legStarts l t n) d
  ((d.seqTrigger l (1 + t.val)).onLane l fun s => { s with exchanged := false }).tb1Follow l

/-- A timebase begins to count at its start tick `s0`, its first period start (R358). -/
def Dev.timebaseBegins (d : Dev) (l : Lane) (t : Fin 2) (s0 : Nat) : Dev :=
  let d := (if ((d.mods.at l).tb t).latched then d else (d.latch l t).prepare l t s0).beginWindows l t s0
  let taken := ((d.mods.at l).tb t).taken
  let d := (d.applyTaken l t).onMod l fun m => { m with deferred := m.deferred.filter (·.tb != t) }
  let per := if t = 1 ∧ d.tb1Locked l then (d.lockNext l ((s0 : Int) - 1)).2 else d.gl l (pgMOD l) (tbPer t)
  let new := d.newPeriod l t taken per
  let d := d.onTb l t fun s => { s with running := true, ran := true, startAt := none, latched := false, t0 := s0, per := per, syncRest := 0,
                                        syncAdj := 0, syncAt := s0, syncLost := false }
  d.periodOpens l t 1 taken new

/-- The first period start of a timebase that waits for its start tick `s0`: a locked TB1's is TB0's first count PHASE from there
on (R358, R359). -/
def Dev.tbFirst (d : Dev) (l : Lane) (t : Fin 2) (s0 : Nat) : Option Nat :=
  if t = 1 ∧ d.tb1Locked l then
    (if (d.mods.at l).tb0.running then some (d.lockNext l ((s0 : Int) - 1)).1.toNat else none)
  else some s0

/-- TIMEBASE_START (R358): count 0 at its start tick. -/
def Dev.timebaseStart (d : Dev) (l : Lane) (t : Fin 2) : Dev :=
  match (((d.mods.at l).tb t).startAt).bind (d.tbFirst l t) with
  | none => d
  | some k =>
    if d.now < k ∨ !d.tbEnabled l t then d
    else d.timebaseBegins l t k

/-- The next period start of a timebase: of one that runs, or the first one of one that waits for it (R357, R358, R360). -/
def Dev.nextStart (d : Dev) (l : Lane) (t : Fin 2) : Option Nat :=
  let s := (d.mods.at l).tb t
  if s.running then some ((s.t0 + s.per : Int) + s.syncAdj).toNat
  else if d.tbEnabled l t then s.startAt.bind (d.tbFirst l t) else none

/-- LATCH_POINT (R43, R374): 32 ticks before the next period start the values are taken and the period's edges produced. -/
def Dev.latchPoint (d : Dev) (l : Lane) (t : Fin 2) : Dev :=
  match d.nextStart l t with
  | some k => if ((d.mods.at l).tb t).latched ∨ d.now + 32 < k then d else (d.latch l t).prepare l t k
  | none => d

/-- A period begins (R357, R359, R363, R366 to R369, R383). -/
def Dev.periodBegins (d : Dev) (l : Lane) (t : Fin 2) : Dev :=
  let s := (d.mods.at l).tb t
  let next : Int := (s.t0 + s.per : Int) + s.syncAdj
  let d := if s.latched then d else d.prepare l t next.toNat
  let d := (d.endWindows l t next.toNat).applyTaken l t
  let per := if t = 1 ∧ d.tb1Locked l then (d.lockNext l s.t0).2 else d.gl l (pgMOD l) (tbPer t)
  let new := d.newPeriod l t s.taken per
  let maxAdj : Int := d.gl l (pgMOD l) R.MOD_SYNC_MAXADJ
  let rest := s.syncRest - s.syncAdj
  let d := d.onTb l t fun s => { s with t0 := next.toNat, per := per, syncRest := rest, syncAdj := clampInt (-maxAdj) maxAdj rest,
                                        latched := false }
  d.periodOpens l t (d.gl l (pgMOD l) (tbPseq t) + 1) s.taken new

/-- PERIOD_START (R357, R359, R363, R366 to R369, R383): the timebase returns to 0 with the values its latch point took. -/
def Dev.periodStart (d : Dev) (l : Lane) (t : Fin 2) : Dev :=
  let s := (d.mods.at l).tb t
  let next : Int := (s.t0 + s.per : Int) + s.syncAdj
  if !s.running ∨ (d.now : Int) < next then d
  else d.periodBegins l t

/-- The values of a stopped timebase that are due at a tick of R665 become active: what a latch point had taken, members of auto or ratio
mode, commit groups (R366, R368 to R370). -/
def Dev.deferredValues (d : Dev) (l : Lane) (t : Fin 2) (due : Waiting → Bool) : Dev :=
  let s := (d.mods.at l).tb t
  let d := if due .taken then (d.judgeInterim l t s.taken (d.newPeriod l t s.taken 0)).applyTaken l t else d
  let gs := (d.mods.at l).groups.filter fun g => due (.group g)
  let auto := if d.gl l (pgMOD l) (tbUpd t) = 0 then [] else
    ((List.range 4).flatMap (d.groupAddrs l t)).filter fun a => due (.member a)
  let (got, d) := d.takeStaged l (gs.flatMap (d.groupAddrs l t) ++ auto)
  let d := d.onMod l fun m => { m with groups := m.groups.filter fun g => !gs.contains g }
  (d.judgeInterim l t got (d.newPeriod l t got 0)).applyValues l t got gs

/-- The deferred actions of one stopped timebase that have waited 128 ticks take effect (R665). -/
def Dev.deferredTb (d : Dev) (l : Lane) (t : Fin 2) : Dev :=
  let m := d.mods.at l
  let now := m.deferred.filter fun x => x.tb == t && decide (x.at' + 128 ≤ d.now)
  if (m.tb t).running ∨ now.isEmpty then d
  else
    let due := fun (w : Waiting) => now.any (·.what == w)
    ((d.onMod l fun m => { m with deferred := m.deferred.filter fun x => !now.contains x }).deferredValues l t due).periodActions l t due

/-- The deferred actions of the stopped timebases take effect (R665). -/
def Dev.deferredRun (d : Dev) : Dev := d.eachLane fun d l => (d.deferredTb l 0).deferredTb l 1

/-- DEFERRED_ACTION_TICK (R665): at a multiple of 4,096 ticks, the actions that became due at least 128 ticks earlier on a
timebase that does not run take effect. -/
def Dev.deferredTick (d : Dev) : Dev :=
  if d.now % 4096 ≠ 0 then d
  else d.deferredRun

/-! ## SYNC (R360) -/

/-- An edge of SYNC_IN moves the nearest period start (R360). -/
def Dev.syncTaken (d : Dev) (l : Lane) : Dev :=
  let s := (d.mods.at l).tb0
  let target : Int := d.now + d.gl l (pgMOD l) R.MOD_SYNC_INDLY
  let per : Int := max 1 s.per
  let k := divRoundAway (target - s.t0) per.toNat
  let rest := target - (s.t0 + k * per)
  let maxAdj : Int := d.gl l (pgMOD l) R.MOD_SYNC_MAXADJ
  let d := d.onTb l 0 fun s => { s with
    syncRest := rest, syncAdj := if s.latched then s.syncAdj else clampInt (-maxAdj) maxAdj rest, syncAt := d.now, syncLost := false }
  (d.tb1Follow l).endCause (202 + 16 * l.idx)

/-- SYNC_IN_EDGE (R360): the period start nearest to the edge plus INDLY moves to that tick, by at most MAXADJ a period. -/
def Dev.syncInEdge (d : Dev) (l : Lane) : Dev :=
  let s := (d.mods.at l).tb0
  if d.gl l (pgMOD l) R.MOD_TB0_CFG_SYNCIN = 0 ∨ !s.running then d
  else d.syncTaken l

/-- SYNC_LOST (R360): no edge for four periods; TB0 runs free. -/
def Dev.syncLost (d : Dev) (l : Lane) : Dev :=
  let s := (d.mods.at l).tb0
  if d.gl l (pgMOD l) R.MOD_TB0_CFG_SYNCIN = 1 ∧ s.running ∧ s.syncAt + 4 * s.per ≤ d.now ∧ !s.syncLost then
    let d := d.onTb l 0 fun s => { s with syncLost := true, syncRest := 0, syncAdj := 0 }
    (d.causeL l (pgMOD l) (BitVec.ofNat 32 (2 ^ 10))).raiseCond (202 + 16 * l.idx)
  else d

/-! ## Link masters (R373, R374, R377) -/

/-- The message of an edge (R373). -/
def edgeWord (e : QueuedEdge) (seq : Nat) : Word :=
  let w := outNum e.out * 2 ^ 30 + (if e.level then 2 ^ 29 else 0) + (if e.pset then 2 ^ 28 else 0) + seq % 16 * 2 ^ 24 +
    e.due % 2048 * 2 ^ 13 + e.dueF % 32 * 256
  BitVec.ofNat 32 (w + edgeCrc (BitVec.ofNat 32 w))

/-- A message leaves a link master (R374); a regular one enters the lane's edge stream (R448). -/
def Dev.edgeLeaves (d : Dev) (l : Lane) (k : DieIx) (e : QueuedEdge) (r : List QueuedEdge) : Dev :=
  let m := (d.mods.at l).masters[k]
  let n := outNum e.out
  let q := m.seq.getD n 0
  let d := d.onMaster l k fun m => { m with queue := r, lastSend := d.now, lastMsg := some (edgeWord e q),
                                            seq := setAt m.seq n ((q + 1) % 16) }
  let d := match e.start with
    | some t0 => d.streamEdge l e.out t0 (e.due * 32 + e.dueF)
    | none => d
  if e.due < d.now + 24 then
    ((d.incL l (pgMOD l) R.MOD_LINK_ERR_CONG k.val).causeL l (pgMOD l) (BitVec.ofNat 32 (2 ^ 8))).raise (200 + 16 * l.idx)
  else d

/-- EDGE_MESSAGE_SEND (R374): the earliest message leaves, one per 8 ticks and no more than 64 ticks ahead; one that leaves
less than 24 ticks before its due tick raises EDGE_CONGESTION. A silent lane sends nothing (R451). -/
def Dev.edgeSend (d : Dev) (l : Lane) (k : DieIx) : Dev :=
  let m := (d.mods.at l).masters[k]
  match m.queue with
  | [] => d
  | e :: r =>
    if (d.lanes.at l).silent ∨ d.now + 64 < e.due ∨ (m.lastMsg.isSome ∧ d.now < m.lastSend + 8) then d
    else d.edgeLeaves l k e r

/-- An echo updates LAT (R377). -/
def Dev.echoTaken (d : Dev) (l : Lane) (k : DieIx) (rt turn : Nat) : Dev :=
  let p := pgMOD l
  let m := (d.mods.at l).masters[k]
  let est : Int := ((rt : Int) - turn) / 2 + (match l with | .a => (d.linkTrim k.val).1 | .b => (d.linkTrim k.val).2).toInt
  let d := d.sl l p R.MOD_LINK_LAT_RTT (rt % 65536) k.val
  let diff := est - shiftRound m.lat16 4
  if -8 ≤ diff ∧ diff ≤ 8 then
    let lat16 := m.lat16 + diff
    (d.onMaster l k fun m => { m with lat16 := lat16, odd := [] }).sl l p R.MOD_LINK_LAT_LAT
      (intField 16 (shiftRound lat16 4)) k.val
  else
    let d := ((d.incL l p R.MOD_LINK_ERR_CALSTEP k.val).causeL l p (BitVec.ofNat 32 (2 ^ 9))).raise (201 + 16 * l.idx)
    let near := fun (x y : Int) => -2 ≤ x - y ∧ x - y ≤ 2
    match m.odd with
    | a :: b :: _ =>
      if near est a ∧ near est b ∧ near a b then
        (d.onMaster l k fun m => { m with lat16 := 16 * est, odd := [] }).sl l p R.MOD_LINK_LAT_LAT (intField 16 est) k.val
      else d.onMaster l k fun m => { m with odd := [est, a] }
    | o => d.onMaster l k fun m => { m with odd := est :: o }

/-- LINK_ECHO (R377): LAT moves by one sixteenth of the difference; an estimate more than 8 fine steps away is not applied, and
three in a row that agree within 2 replace LAT. -/
def Dev.linkEcho (d : Dev) (l : Lane) (k : DieIx) (rt turn : Nat) : Dev :=
  if !(d.link (.drvMaster l k)).live then d
  else d.echoTaken l k rt turn

/-! ## Chopper legs (R387) -/

/-- The due tick of a scheduled change: one less than MINON after the previous change is delayed (R387). -/
def Dev.chopAt (d : Dev) (l : Lane) (n : Fin 6) (t : Nat) : Nat :=
  max t (((d.mods.at l).legs[n]).chopChangeAt + d.gl l (pgMOD l) R.MOD_MINP_MINON)

/-- Produce the edges of a CHOP leg's scheduled change (R387): HIGH turns the low side off at the due tick t and the high side on
at t + D; LOW the other way. -/
def Dev.chopEdges (d : Dev) (l : Lane) (n : Fin 6) (t : Nat) (high : Bool) : Dev :=
  let f : Int := (t * 32 : Nat)
  let D : Int := d.gl l (pgMOD l) R.MOD_LEG_DT_DT n.val
  let (off, on) := if high then (legLow n, legHigh n) else (legHigh n, legLow n)
  let s0 := ((d.mods.at l).tb (d.legTb l n)).t0
  let d := (d.sendEdge l off false f s0).sendEdge l on true (f + D) s0
  let es : List (Bool × Bool × Int) := [(!high, false, f), (high, true, f + D)]
  d.onLeg l n fun s => { s with hs := high, ls := !high, placed := s.placed ++ es
                                lowEdges := s.lowEdges ++ (es.filter fun e => !e.1).map lowTick
                                hsOffAt := if high then s.hsOffAt else f, lsOffAt := if high then f else s.lsOffAt }

/-- Schedule a change of a CHOP leg, due at a tick (R351, R387); a leg that does not switch in CHOP mode gets no edges, nor does one on a
stopped timebase (R358). -/
def Dev.chopSchedule (d : Dev) (l : Lane) (n : Fin 6) (t : Nat) (high : Bool) : Dev :=
  let t := d.chopAt l n t
  let d := d.onLeg l n fun s => { s with chopDue := some (t, high) }
  if d.gl l (pgMOD l) R.MOD_LEG_MODE_MODE n.val ≠ 5 ∨ !((d.mods.at l).tb (d.legTb l n)).running ∨ !d.legLive n ∨ d.legForced l n then d
  else d.chopEdges l n t high

/-- A CHOP leg's scheduled change comes due (R387). -/
def Dev.chopTurns (d : Dev) (l : Lane) (n : Fin 6) (t : Nat) (high : Bool) : Dev :=
  d.onLeg l n fun s => { s with chopDue := none, chopHigh := high, chopChangeAt := t }

/-- CHOP_STATE_CHANGE (R387): the scheduled change, whose edges were produced when it was scheduled, is made once it is due. -/
def Dev.chopChange (d : Dev) (l : Lane) (n : Fin 6) : Dev :=
  match ((d.mods.at l).legs[n]).chopDue with
  | none => d
  | some (t, high) =>
    if d.now < d.chopAt l n t then d.onLeg l n fun s => { s with chopDue := some (d.chopAt l n t, high) }
    else d.chopTurns l n (d.chopAt l n t) high

end Sys2Proof.Machine
end

