-- ==== Sys2Proof/Machine/Numeric.lean ====
section
/-! DEFINITION. Functions of angles in integers: cosine and sine in Q2.30, the angle of a vector, roots. An angle is a 32-bit
binary angle (R18); values are rounded to the nearest Q2.30 number. -/

namespace Sys2Proof.Machine

/-- pi/2 in units of 2 to the -70. -/
def halfPi : Nat := 1854468981267743447650

/-- The alternating series x - x^3/3! + … or 1 - x^2/2! + …, of `n` terms, in units of 2 to the -70: `t` is the present term, whose
successor divides by k (k + 1). -/
def trigSeries : Nat → Int → Int → Nat → Int → Int
  | 0, _, _, _, acc => acc
  | n + 1, x2, t, k, acc => trigSeries n x2 (-(t * x2 / 2 ^ 70) / (k * (k + 1) : Nat)) (k + 2) (acc + t)

/-- Round a number in units of 2 to the -70 to Q2.30. -/
def toQ30 (v : Int) : Int := divRoundAway v (2 ^ 40)

/-- (cos, sin) of an angle in the first quadrant, 0 ≤ r < 2^30, in units of 2 to the -70. -/
def cosSinQ (r : Nat) : Int × Int :=
  let x : Int := (r * halfPi / 2 ^ 30 : Nat)
  let x2 := x * x / 2 ^ 70
  (trigSeries 20 x2 (2 ^ 70) 1 0, trigSeries 20 x2 x 2 0)

/-- (cos, sin) of a binary angle in units of 2 to the -70. -/
def cosSinFine (a : Nat) : Int × Int :=
  let (c, s) := cosSinQ (a % 2 ^ 30)
  match a / 2 ^ 30 % 4 with
  | 0 => (c, s)
  | 1 => (-s, c)
  | 2 => (-c, -s)
  | _ => (s, -c)

/-- (cos, sin) of a binary angle, the nearest Q2.30 numbers. -/
def cosSin (a : Nat) : Int × Int := (toQ30 (cosSinFine a).1, toQ30 (cosSinFine a).2)

/-- round(k cos a). -/
def cosTimes (k : Int) (a : Nat) : Int := divRoundAway (k * (cosSinFine a).1) (2 ^ 70)

/-- round(k sin a). -/
def sinTimes (k : Int) (a : Nat) : Int := divRoundAway (k * (cosSinFine a).2) (2 ^ 70)

/-- One more bit of the angle of a vector: keep it while the vector does not lie behind. -/
def atanBits : Nat → Int → Int → Nat → Nat
  | 0, _, _, a => a
  | k + 1, x, y, a =>
    let (c, s) := cosSin (a + 2 ^ k)
    if 0 ≤ y * c - x * s then atanBits k x y (a + 2 ^ k) else atanBits k x y a

/-- The binary angle of the vector (x, y), 0 for the null vector. -/
def atan2 (y x : Int) : Nat :=
  if x = 0 ∧ y = 0 then 0
  else if 0 < x ∧ 0 ≤ y then atanBits 30 x y 0
  else if x ≤ 0 ∧ 0 < y then (2 ^ 30 + atanBits 30 y (-x) 0) % 2 ^ 32
  else if x < 0 then (2 ^ 31 + atanBits 30 (-x) (-y) 0) % 2 ^ 32
  else (3 * 2 ^ 30 + atanBits 30 (-y) x 0) % 2 ^ 32

/-- The largest number whose cube is at most n: binary search from 2^k downwards. -/
def icbrtAux (n : Nat) : Nat → Nat → Nat
  | 0, r => r
  | k + 1, r => if (r + 2 ^ k) * (r + 2 ^ k) * (r + 2 ^ k) ≤ n then icbrtAux n k (r + 2 ^ k) else icbrtAux n k r

/-- Integer cube root, for numbers below 2 to the 192. -/
def icbrt (n : Nat) : Nat := icbrtAux n 64 0

/-- The smallest number whose square is at least n. -/
def sqrtCeil (n : Nat) : Nat :=
  let r := isqrt n
  if r * r < n then r + 1 else r

/-- The nearest integer to the square root of n; no tie exists. -/
def sqrtNear (n : Nat) : Nat :=
  let r := isqrt n
  if r * r + r < n then r + 1 else r

/-- The magnitude of a vector, rounded. -/
def hypot (x y : Int) : Nat := sqrtNear (x * x + y * y).toNat

end Sys2Proof.Machine
end

