-- ==== Sys2Proof/Machine/Quill.lean ====
section
/-! DEFINITION. Chapter 08: Quill's memories, triggers, runs, instructions, release, banks and shadows. One cycle is one tick. -/

namespace Sys2Proof.Machine

/-! ## Memories (R286, R287, R312, R313) -/

/-- Address of data-memory word n. -/
def qDataAddr (n : Nat) : Nat := rgQUILL + 0x8000 + 4 * (n % 4096)

/-- Data-memory word n of lane `l`. -/
def Dev.qData (d : Dev) (l : Lane) (n : Nat) : Word := d.word l (qDataAddr n)

/-- Set data-memory word n. -/
def Dev.qSetData (d : Dev) (l : Lane) (n : Nat) (w : Word) : Dev := d.setWord l (qDataAddr n) w

/-- The first port write to data-memory word n in the cycle of tick t or later (R311). -/
def QuillUnit.portFrom (u : QuillUnit) (t n : Nat) : Option (Nat × Nat × Word) :=
  (u.portW.filter fun e => e.1 == n && decide (t ≤ e.2.1)).getLast?

/-- A port write to data memory takes effect in its cycle; a run in progress may still issue an instruction of that cycle (R311). -/
def Dev.qPortData (d : Dev) (l : Lane) (n : Nat) (w : Word) : Dev :=
  (d.onQuill l fun u => { u with
    portW := if u.run.isSome then (n, d.now, d.qData l n) :: u.portW.filter fun e => decide (d.now ≤ e.2.1 + 65536) else [] }).qSetData l n w

/-- Data-memory word n as a load that issues at tick t sees it: as it stood before a port write of that cycle (R311). -/
def Dev.qLoad (d : Dev) (l : Lane) (t n : Nat) : Word :=
  match (d.quill.at l).portFrom t (n % 4096) with
  | some e => e.2.2
  | none => d.qData l n

/-- A run writes a memory or MON word at tick t; a mismatch of the two copies in that cycle takes it back (R316). -/
def Dev.qRunWrite (d : Dev) (l : Lane) (t a : Nat) (w : Word) : Dev :=
  (d.onQuill l fun u => { u with memUndo := (t, a, d.word l a) :: u.memUndo.filter (t ≤ ·.1) }).setWord l a w

/-- A store that issues at tick t: a port write to the word in that cycle comes second (R311). -/
def Dev.qStore (d : Dev) (l : Lane) (t n : Nat) (w : Word) : Dev :=
  match (d.quill.at l).portFrom t (n % 4096) with
  | some e => d.onQuill l fun u => { u with portW := u.portW.map fun x => if x = e then (x.1, x.2.1, w) else x }
  | none => d.qRunWrite l t (qDataAddr n) w

/-- Address of the value word of coefficient entry k: entries 0 to 31 are those of the FIELD pages (R287). -/
def qCoefAddr (k : Nat) : Nat :=
  if k < 16 then pageAddr (pgFIELD 0) (0x100 + 8 * k)
  else if k < 32 then pageAddr (pgFIELD 1) (0x100 + 8 * (k - 16))
  else rgQUILL + 0xC000 + 8 * k

/-- Value and shift of a coefficient entry. -/
def Dev.qCoef (d : Dev) (l : Lane) (k : Nat) : Int × Nat :=
  (sint (d.word l (qCoefAddr k)), (d.word l (qCoefAddr k + 4)).toNat % 64)

/-- The product of R22 with entry k. -/
def Dev.qTimes (d : Dev) (l : Lane) (k : Nat) (v : Int) : Int :=
  let (c, sh) := d.qCoef l k
  coefMul v c sh

/-- The key of half `h` of word n in bank b. -/
def progKey (b n h : Nat) : Nat := 8192 * b + 2 * (n % 4096) + h % 2

/-- One half of a program word. -/
def QuillUnit.half (u : QuillUnit) (b n h : Nat) : Word := (cellsGet u.prog (progKey b n h)).getD 0

/-- Set one half of a program word; zero halves are not listed. -/
def QuillUnit.setHalf (u : QuillUnit) (b n h : Nat) (w : Word) : QuillUnit :=
  { u with prog := if w = 0 then cellsErase u.prog (progKey b n h) else cellsPut u.prog (progKey b n h) w }

/-- The active program bank. -/
def Dev.qBank (d : Dev) (l : Lane) : Nat := d.gl l (pgQUILL l) R.QUILL_PROG_BANK

/-- COEFF_SHIFT_WRITE (R312): a shift word moves the latched value and the shift together into the entry at the next run; a value
word waits in its latch. Every available Quill takes the write (R113). -/
def Dev.coefWrite (d : Dev) (l : Lane) (k : Nat) (shift : Bool) (w : Word) : Dev :=
  d.onQuill l fun u =>
    if !shift then { u with coefLatch := (k, w) :: u.coefLatch.filter (·.1 != k) }
    else
      let v := match u.coefLatch.find? (·.1 == k) with
        | some (_, v) => v
        | none => match u.coefPend.find? (·.1 == k) with
          | some (_, v, _, _) => v
          | none => d.word l (qCoefAddr k)
      { u with coefLatch := u.coefLatch.filter (·.1 != k)
               coefPend := (k, v, w.toNat % 64, d.now) :: u.coefPend.filter fun p => !(p.1 == k && p.2.2.2 == d.now) }

/-- The pairs that a run takes at its start, an entry's latest last: those not written in its trigger's tick, which wait for the run after
it (R312). -/
def Dev.coefTake (d : Dev) (l : Lane) (t0 : Nat) : Dev :=
  let pend := (d.quill.at l).coefPend
  let d := (pend.filter (·.2.2.2 != t0)).reverse.foldl (fun d p =>
    (d.setWord l (qCoefAddr p.1) p.2.1).setWord l (qCoefAddr p.1 + 4) (BitVec.ofNat 32 p.2.2.1)) d
  d.onQuill l fun u => { u with
    coefPend := pend.filter fun p => p.2.2.2 == t0 && !(pend.any fun q => q.1 == p.1 && decide (t0 < q.2.2.2)) }

/-- PROG_WINDOW_WRITE (R313): bits 31:0 wait, bits 63:32 complete the word of the inactive bank. The access checks refuse the
write through the active bank and during a swap. -/
def Dev.progWrite (d : Dev) (l : Lane) (n : Nat) (high : Bool) (w : Word) : Dev :=
  let b := 1 - d.qBank l
  d.onQuill l fun u =>
    let rest := u.progLow.filter (·.1 != n)
    if !high then { u with progLow := (n, w) :: rest }
    else match u.progLow.find? (·.1 == n) with
      | some (_, low) => { (u.setHalf b n 0 low).setHalf b n 1 w with progLow := rest }
      | none => u.setHalf b n 1 w

/-! ## Instructions (R300, R309, R310) -/

/-- An instruction word's fields. -/
structure QIns where
  op : Nat
  dst : Nat
  sa : Nat
  sb : Nat
  sc : Nat
  flg : Nat
  k : Nat
  x : Nat
  imm : Word
  deriving DecidableEq, Repr

/-- The fields of a word, from its high and low halves. -/
def qDecode (hi lo : Word) : QIns :=
  let h := hi.toNat
  let w := lo.toNat
  { op := h / 2 ^ 24, dst := h / 2 ^ 19 % 32, sa := h / 2 ^ 14 % 32, sb := h / 2 ^ 9 % 32, sc := h / 2 ^ 4 % 32, flg := h % 16
    k := w / 2 ^ 22, x := w % 2 ^ 22, imm := lo }

/-- The high half of an instruction word: OP, DST, SA, SB, SC and FLG in their bits. -/
def qEncodeHigh (i : QIns) : Word := BitVec.ofNat 32 (i.op * 2 ^ 24 + i.dst * 2 ^ 19 + i.sa * 2 ^ 14 + i.sb * 2 ^ 9 + i.sc * 2 ^ 4 + i.flg)

/-- The low half of an instruction word: K and X, or the immediate of LDI. -/
def qEncodeLow (i : QIns) : Word := if i.op = 0x01 then i.imm else BitVec.ofNat 32 (i.k * 2 ^ 22 + i.x)

/-- Which fields an operation uses: DST, SA, SB, SC, K; the largest FLG (0 unused, 1 bit 0, 12 a condition); the used bits of X
as a mask; alignments of DST, SA, SB (1, 2 or 4). -/
structure QForm where
  dst : Bool := false
  sa : Bool := false
  sb : Bool := false
  sc : Bool := false
  k : Bool := false
  flg : Nat := 0
  x : Nat := 0
  lat : Nat := 1
  /-- registers written from DST on, and read from SA and SB on -/
  nd : Nat := 1
  na : Nat := 1
  nb : Nat := 1
  deriving DecidableEq, Repr

/-- The forms of R300; none for an OP it does not list. EXPORT and HALT use no field. -/
def qForm : Nat → Option QForm
  | 0x00 => some {}
  | 0x01 => some { dst := true }
  | 0x02 => some { dst := true, sa := true }
  | 0x03 => some { dst := true, sa := true, sb := true, flg := 1 }
  | 0x04 => some { dst := true, sa := true, sb := true, flg := 1 }
  | 0x05 => some { dst := true, sa := true }
  | 0x06 => some { dst := true, sa := true }
  | 0x07 => some { dst := true, sa := true, sb := true }
  | 0x08 => some { dst := true, sa := true, sb := true }
  | 0x09 => some { dst := true, sa := true, sb := true, sc := true }
  | 0x0A => some { dst := true, sa := true, sb := true }
  | 0x0B => some { dst := true, sa := true, x := 31 }
  | 0x0C => some { dst := true, sa := true, x := 31 }
  | 0x0D => some { dst := true, sa := true, sb := true }
  | 0x0E => some { dst := true, sa := true, sb := true }
  | 0x0F => some { dst := true, sa := true, sb := true }
  | 0x10 => some { dst := true, sa := true, sb := true, flg := 12 }
  | 0x11 => some { dst := true, sa := true, sb := true, flg := 12, nd := 2, na := 2, nb := 2 }
  | 0x12 => some { sa := true, sb := true }
  | 0x13 => some {}
  | 0x20 => some { dst := true, sa := true, sb := true, lat := 2 }
  | 0x21 => some { dst := true, sa := true, sb := true, sc := true, lat := 2 }
  | 0x22 => some { dst := true, sa := true, sb := true, sc := true, lat := 2 }
  | 0x23 => some { dst := true, sa := true, k := true, lat := 2 }
  | 0x24 => some { dst := true, sa := true, sb := true, k := true, lat := 2 }
  | 0x25 => some { dst := true, sa := true, k := true, lat := 2, nd := 4, na := 4 }
  | 0x26 => some { dst := true, sa := true, sb := true, lat := 3, na := 2, nb := 2 }
  | 0x27 => some { dst := true, sa := true, sb := true, flg := 1, lat := 3, nd := 2, na := 2, nb := 2 }
  | 0x28 => some { dst := true, sa := true, flg := 1, lat := 2, nd := 4, na := 2 }
  | 0x29 => some { dst := true, sa := true, flg := 1, lat := 2, nd := 2, na := 4 }
  | 0x2A => some { dst := true, sa := true, sb := true, sc := true, flg := 1, lat := 4, nd := 4, na := 4 }
  | 0x2B => some { dst := true, sa := true, sb := true, sc := true, k := true, lat := 3 }
  | 0x30 => some { dst := true, sa := true, lat := 4, nd := 2 }
  | 0x31 => some { dst := true, sa := true, sb := true, lat := 18 }
  | 0x32 => some { dst := true, sa := true, lat := 18 }
  | 0x33 => some { dst := true, sa := true, lat := 18 }
  | 0x40 => some { dst := true, x := 4095, lat := 2 }
  | 0x41 => some { dst := true, sa := true, x := 4095, lat := 2 }
  | 0x42 => some { sa := true, x := 4095 }
  | 0x43 => some { sa := true, sb := true, x := 4095 }
  | 0x50 => some { flg := 12, x := 4095 }
  | 0x51 => some { sa := true, x := 3, na := 4 }
  | 0x52 => some { sa := true, flg := 12, x := 511 }
  | 0x53 => some {}
  | 0x5F => some {}
  | _ => none

/-- The MON indices that MONW accepts (R306). -/
def monwIndex (i : Nat) : Bool := [2, 3, 4, 5, 9, 11, 12, 13, 14].contains i

/-- An instruction is legal at word `pc` (R310). -/
def qLegal (i : QIns) (pc : Nat) : Bool :=
  match qForm i.op with
  | none => false
  | some f =>
    pc < 4096 &&
    (f.dst || i.dst == 0) && (f.sa || i.sa == 0) && (f.sb || i.sb == 0) && (f.sc || i.sc == 0) && i.flg ≤ f.flg &&
    (i.op == 0x01 || ((f.k || i.k == 0) && Nat.land i.x f.x == i.x)) &&
    i.dst % f.nd == 0 && i.sa % f.na == 0 && i.sb % f.nb == 0 &&
    (i.op != 0x2B || (i.sc % 2 == 0 && i.dst != i.sc && i.dst != i.sc + 1 && i.k + 3 ≤ 1023)) &&
    (i.op != 0x25 || i.k + 3 ≤ 1023) &&
    (i.op != 0x50 || i.x < 2048) && (i.op != 0x51 || i.x != 3) && (i.op != 0x52 || monwIndex (i.x % 32) && i.x / 32 % 8 == 0)

/-- A condition of R300's instructions over the flags. -/
def qCond (f : QFlags) : Nat → Bool
  | 0 => true | 1 => f.pred | 2 => !f.pred | 3 => f.sumerr | 4 => f.clamped | 5 => f.dutyclamp | 6 => f.eq | 7 => !f.eq
  | 8 => f.lt | 9 => !f.lt | 10 => f.standby | 11 => f.first | 12 => f.mathx | _ => false

/-- The flag a condition reads, by its number in STAT.FLAGS. -/
def qCondFlag : Nat → Option Nat
  | 1 => some 0 | 2 => some 0 | 3 => some 1 | 4 => some 2 | 5 => some 3 | 6 => some 4 | 7 => some 4 | 8 => some 5 | 9 => some 5
  | 10 => some 6 | 11 => some 7 | 12 => some 8 | _ => none

/-- The flags an operation writes. -/
def qFlagsSet : Nat → List Nat
  | 0x09 => [2] | 0x0A => [2] | 0x12 => [4, 5] | 0x13 => [2, 3, 8] | 0x29 => [0, 1] | 0x2A => [3] | 0x31 => [8] | 0x32 => [8]
  | 0x33 => [8] | _ => []

/-- The registers an instruction reads (R309): its sources, PI's state pair, EXPORT's set. -/
def qReads (i : QIns) (f : QForm) (expo : Nat) : List Nat :=
  (if f.sa then (List.range f.na).map (i.sa + ·) else []) ++
  (if f.sb then (List.range f.nb).map (i.sb + ·) else []) ++
  (if f.sc then (if i.op = 0x2B then [i.sc, i.sc + 1] else [i.sc]) else []) ++
  (if i.op = 0x53 then (List.range 32).filter fun n => expo / 2 ^ n % 2 == 1 else [])

/-- The registers an instruction writes. -/
def qWrites (i : QIns) (f : QForm) : List Nat :=
  (if f.dst then (List.range f.nd).map (i.dst + ·) else []) ++ (if i.op = 0x2B then [i.sc, i.sc + 1] else [])

/-- The instruction at the program counter of lane `l`'s Quill. -/
def Dev.qAtPc (d : Dev) (l : Lane) : QIns :=
  let u := d.quill.at l
  qDecode (u.half (d.qBank l) u.pc 1) (u.half (d.qBank l) u.pc 0)

/-- Tick at which an instruction issues (R309). -/
def Dev.qIssueAt (d : Dev) (l : Lane) (i : QIns) (f : QForm) : Nat :=
  let u := d.quill.at l
  let rd := (qReads i f (d.gl l (pgQUILL l) R.QUILL_EXPORT_MASK)).map fun r => u.qAt.toList.getD r 0
  let fl := if f.flg = 12 then ((qCondFlag i.flg).map fun n => u.flagAt.getD n 0).toList else []
  let wr := (qWrites i f).map fun r => u.qAt.toList.getD r 0 + 1 - f.lat
  let wf := (qFlagsSet i.op).map fun n => u.flagAt.getD n 0 + 1 - f.lat
  (rd ++ fl ++ wr ++ wf).foldl max u.nextAt

/-! ## Runs (R293 to R299, R316, R317) -/

/-- Raise a Quill source and its CAUSE bit. -/
def Dev.qRaise (d : Dev) (l : Lane) (k : Nat) (bit : Option Nat) : Dev :=
  let d := match bit with | some b => d.causeL l (pgQUILL l) (BitVec.ofNat 32 (2 ^ b)) | none => d
  d.raise (64 + 16 * l.idx + k)

/-- STAT.FLAGS of the flags. -/
def QFlags.code (f : QFlags) : Nat :=
  [f.pred, f.sumerr, f.clamped, f.dutyclamp, f.eq, f.lt, f.standby, f.first, f.mathx].foldr (fun b n => 2 * n + if b then 1 else 0) 0

/-- The shadow that is current for a run of entry e (R321): it was received after the entry's previous trigger. -/
def QuillUnit.shadowFor (u : QuillUnit) (e : Fin 2) (prev : Option Nat) : Option Shadow :=
  match u.shadow.find? (·.1.entry == e) with
  | none => none
  | some (s, t) => if prev.all (· < t) then some s else none

/-- Latest trigger tick of an entry. -/
def QuillUnit.trigLast (u : QuillUnit) (e : Fin 2) : Option Nat := if e = 0 then u.trigAt.a else u.trigAt.b

/-- SHSTAT.CURRENT: the latest shadow is current for the next run of its entry, which is that of its held trigger if it has one. -/
def Dev.qShowShadow (d : Dev) (l : Lane) : Dev :=
  let p := pgQUILL l
  let u := d.quill.at l
  let e : Fin 2 := if d.gl l p R.QUILL_SHSTAT_ENTRY = 1 then 1 else 0
  let prev := match u.held.find? (·.entry == e) with
    | some h => h.prev
    | none => u.trigLast e
  d.sl l p R.QUILL_SHSTAT_CURRENT (if (u.shadowFor e prev).isSome then 1 else 0)

/-- Import a shadow: the exported registers and data words replace the lane's own (R321). -/
def Dev.qImport (d : Dev) (l : Lane) (s : Shadow) : Dev :=
  let d := d.onQuill l fun u => { u with q := Vector.ofFn fun r => if s.mask / 2 ^ r.val % 2 = 1 then s.regs.getD r.val 0 else u.q[r] }
  ((List.range s.words.length).zip s.words).foldl (fun d p => d.qSetData l (s.base + p.1) p.2) d

/-- Start the run of a trigger at tick `t`, its first instruction issuing at `first` (R294, R295 steps 3 to 6, R298). -/
def Dev.qStart (d : Dev) (l : Lane) (h : HeldTrig) (first : Nat) : Dev :=
  let standby := (d.lanes.at l).role != .active
  let d := d.coefTake l h.tick
  let d := d.onQuill l fun u => { u with q := Vector.ofFn fun r => if 20 ≤ r.val then h.regs.getD (r.val - 20) u.q[r] else u.q[r] }
  let d := if standby ∧ d.gl l (pgQUILL l) R.QUILL_RUN_TRACK = 1 then
      (match (d.quill.at l).shadowFor h.entry h.prev with
       | some s => d.qImport l s
       | none => (d.incL l (pgQUILL l) R.QUILL_ERRCNT_SHADOW).qRaise l 8 (some 8)) else d
  let d := d.onQuill l fun u =>
    let fr := if h.entry = 0 then u.firstRun.a else u.firstRun.b
    { u with q := Vector.ofFn fun r => if h.zero / 2 ^ r.val % 2 = 1 then 0 else u.q[r]
             undo := []
             memUndo := []
             portW := []
             flags := { u.flags with clamped := false, dutyclamp := false, mathx := false, standby := standby, first := fr }
             firstRun := if h.entry = 0 then { u.firstRun with a := false } else { u.firstRun with b := false }
             run := some h.entry
             t0 := h.tick
             pc := if h.entry = 0 then 0 else 2048
             nextAt := first
             sat := 0
             stageAt := none
             exported := false }
  ((d.sl l (pgQUILL l) R.QUILL_STAT_RUNNING 1).sl l (pgQUILL l) R.QUILL_SATCNT_RUN 0).qShowShadow l

/-- STAT.HELD. -/
def Dev.qShowHeld (d : Dev) (l : Lane) : Dev :=
  let h := (d.quill.at l).held
  d.sl l (pgQUILL l) R.QUILL_STAT_HELD ((if h.any (·.entry == 0) then 1 else 0) + if h.any (·.entry == 1) then 2 else 0)

/-- Quill goes on with a held trigger at tick `t`: its run starts in the next cycle, TRIG0 first (R298), unless DEBUG holds Quill between
runs (R319), or its copies have differed (R316). -/
def Dev.qNext (d : Dev) (l : Lane) (t : Nat) : Dev :=
  let u := d.quill.at l
  if u.run.isSome || u.cut || (d.lanes.at l).haltedQuill then d
  else match (u.held.filter (·.entry == 0) ++ u.held.filter (·.entry == 1)).head? with
  | none => d
  | some h =>
    let d := (d.onQuill l fun u => { u with held := u.held.filter (·.entry != h.entry) }).qShowHeld l
    d.qStart l h (t + 2)

/-- A run ends at tick `t` (R298, R299). -/
def Dev.qEnd (d : Dev) (l : Lane) (t : Nat) : Dev :=
  ((d.onQuill l fun u => { u with run := none, runs := u.runs + 1 }).sl l (pgQUILL l) R.QUILL_STAT_RUNNING 0).qNext l t

/-- Set flag n, numbered as in STAT.FLAGS. -/
def QFlags.put (f : QFlags) (n : Nat) (b : Bool) : QFlags :=
  match n with
  | 0 => { f with pred := b }
  | 1 => { f with sumerr := b }
  | 2 => { f with clamped := b }
  | 3 => { f with dutyclamp := b }
  | 4 => { f with eq := b }
  | 5 => { f with lt := b }
  | 6 => { f with standby := b }
  | 7 => { f with first := b }
  | _ => { f with mathx := b }

/-- Take back the results that have not landed at tick `t`: registers keep the values written before an abort (R299). -/
def QuillUnit.takeBack (u : QuillUnit) (t : Nat) : QuillUnit :=
  let u := (u.undo.filter (t < ·.1)).foldl (fun u p =>
    if p.2.1 < 32 then { u with q := u.q.setIfInBounds p.2.1 (BitVec.ofNat 32 p.2.2) }
    else { u with flags := u.flags.put (p.2.1 - 32) (p.2.2 == 1) }) u
  { u with undo := [], qAt := u.qAt.map (min t), flagAt := u.flagAt.map (min t) }

/-- Abort the run (R299): nothing that is not yet released leaves Quill, and no EXPORT from this cycle on. -/
def Dev.qAbort (d : Dev) (l : Lane) : Dev :=
  (d.onQuill l fun u => ({ u with hold := u.hold.filter (·.2.2 < u.t0 + 96), sent := u.sent.filter (·.at' < d.now)
                                  stageAt := none }).takeBack d.now).qEnd l d.now

/-- ILLEGAL_OP (R310): the instruction at the program counter is illegal. -/
def Dev.illegalOp (d : Dev) (l : Lane) : Dev :=
  let u := d.quill.at l
  if u.run.isNone ∨ d.now < u.nextAt ∨ u.t0 + d.gl l (pgQUILL l) R.QUILL_RUN_MAXCYC ≤ u.nextAt ∨ qLegal (d.qAtPc l) u.pc then d
  else (d.qRaise l 3 (some 3)).qAbort l

/-- RUN_LIMIT (R299): nothing issues at cycle MAXCYC. -/
def Dev.runLimit (d : Dev) (l : Lane) : Dev :=
  let u := d.quill.at l
  if u.run.isSome ∧ u.t0 + d.gl l (pgQUILL l) R.QUILL_RUN_MAXCYC ≤ d.now then (d.qRaise l 4 (some 4)).qAbort l else d

/-- Nothing of the present cycle or later leaves Quill (R316): compares not released before it, an EXPORT of it, and what the run wrote
in it. -/
def Dev.qCut (d : Dev) (l : Lane) : Dev :=
  let d := ((d.quill.at l).memUndo.filter (d.now ≤ ·.1)).foldl (fun d e => d.setWord l e.2.1 e.2.2) d
  d.onQuill l fun u => { u with hold := u.hold.filter (·.2.2 < d.now), sent := u.sent.filter (·.at' < d.now), memUndo := [] }

/-- LOCKSTEP (R316): the two copies differ in a cycle; the run is aborted, and nothing from that cycle on leaves Quill: no trigger starts a
run until the lane is reset. -/
def Dev.qLockstep (d : Dev) (l : Lane) : Dev :=
  if !d.up (.ctl l) then d
  else
    let d := (d.qCut l).onQuill l fun u => { u with cut := true, held := [] }
    let d := (d.qShowHeld l)
    let d := if (d.quill.at l).run.isSome then d.qAbort l else d
    d.qRaise l 0 (some 9)

/-- A single-bit error (R317): the value is corrected where it is delivered and in its word, and ECC_CORR is counted. -/
def Dev.eccCorr (d : Dev) (l : Lane) : Dev :=
  if d.up (.ctl l) then (d.incL l (pgQUILL l) R.QUILL_ERRCNT_ECC).qRaise l 2 (some 5) else d

/-- ECC_FATAL (R317, R318): a double-bit error aborts the run; at the modulator, a compare whose check fails is discarded. -/
def Dev.eccFatal (d : Dev) (l : Lane) (leg : Option (Fin 6)) : Dev :=
  if !d.up (.ctl l) then d
  else match leg with
    | none => (if (d.quill.at l).run.isSome then d.qAbort l else d).qRaise l 1 none
    | some n =>
      if (d.quill.at l).hold.any (·.1 == n) then
        (d.onQuill l fun u => { u with hold := u.hold.filter (·.1 != n) }).qRaise l 1 none
      else d

/-! ## Issue of an instruction -/

/-- The register r as a signed number. -/
def Dev.qr (d : Dev) (l : Lane) (r : Nat) : Int := sint ((d.quill.at l).q.toList.getD r 0)

/-- Count `n` saturations of the run in progress (R291). -/
def Dev.qSats (d : Dev) (l : Lane) (n : Nat) : Dev :=
  let d := d.onQuill l fun u => { u with sat := u.sat + n }
  if n = 0 then d
  else
    let total := d.gl l (pgQUILL l) R.QUILL_SATCNT_TOTAL + n
    (d.sl l (pgQUILL l) R.QUILL_SATCNT_TOTAL (min 0xFFFF total)).sl l (pgQUILL l) R.QUILL_SATCNT_RUN (min 0xFFFF (d.quill.at l).sat)

/-- Write results, saturated, with each saturation counted (R291). -/
def Dev.qPut (d : Dev) (l : Lane) (rs : List (Nat × Int)) : Dev :=
  (d.onQuill l fun u => { u with q := rs.foldl (fun q p => q.setIfInBounds p.1 (ofInt (sat32 p.2))) u.q }).qSats l
    (rs.filter fun p => sat32 p.2 != p.2).length

/-- Saturations of a value that is not written itself, 0 or 1. -/
def overs (x : Int) : Nat := if sat32 x = x then 0 else 1

/-- Change the flags. -/
def Dev.qFlag (d : Dev) (l : Lane) (f : QFlags → QFlags) : Dev := d.onQuill l fun u => { u with flags := f u.flags }

/-- What every issue does (R309): STAT.PC shows the word, its results land after its latency, the next instruction is the next word. -/
def Dev.qAdvance (d : Dev) (l : Lane) (i : QIns) (f : QForm) (t : Nat) : Dev :=
  (d.sl l (pgQUILL l) R.QUILL_STAT_PC (d.quill.at l).pc).onQuill l fun u => { u with
    nextAt := t + 1
    pc := if (d.quill.at l).pc % 2048 = 2047 then 4096 else u.pc + 1
    undo := (qWrites i f).map (fun r => (t + f.lat, r, (u.q.toList.getD r 0).toNat)) ++
      (qFlagsSet i.op).map (fun n => (t + f.lat, 32 + n, u.flags.code / 2 ^ n % 2)) ++ u.undo.filter (t < ·.1)
    qAt := (qWrites i f).foldl (fun v r => v.setIfInBounds r (t + f.lat)) u.qAt
    flagAt := (qFlagsSet i.op).foldl (fun v n => v.set n (t + f.lat)) u.flagAt }

/-- Issue the instruction at the program counter, which must be legal and one of operation `op`, at the tick R309 gives it. -/
def Dev.qIssue (d : Dev) (l : Lane) (op : Nat) (run : QIns → Nat → Dev → Dev) : Dev :=
  let u := d.quill.at l
  let i := d.qAtPc l
  match qForm i.op with
  | none => d
  | some f =>
    let t := d.qIssueAt l i f
    if u.run.isNone ∨ i.op ≠ op ∨ !qLegal i u.pc ∨ d.now < t ∨ u.t0 + d.gl l (pgQUILL l) R.QUILL_RUN_MAXCYC ≤ t then d
    else run i t (d.qAdvance l i f t)

/-- An instruction that writes results computed from the registers. -/
def Dev.qAlu (d : Dev) (l : Lane) (op : Nat) (f : QIns → (Nat → Int) → List (Nat × Int)) : Dev :=
  d.qIssue l op fun i _ e => e.qPut l (f i (d.qr l))

/-- An integer wrapped to a signed 32-bit number. -/
def wrap32 (x : Int) : Int := sint (ofInt x)

/-- NOP. -/
def Dev.quillNop (d : Dev) (l : Lane) : Dev := d.qIssue l 0x00 fun _ _ d => d

/-- LDI. -/
def Dev.quillLdi (d : Dev) (l : Lane) : Dev := d.qAlu l 0x01 fun i _ => [(i.dst, sint i.imm)]

/-- MOV. -/
def Dev.quillMov (d : Dev) (l : Lane) : Dev := d.qAlu l 0x02 fun i q => [(i.dst, q i.sa)]

/-- ADD: FLG bit 0 wraps. -/
def Dev.quillAdd (d : Dev) (l : Lane) : Dev :=
  d.qAlu l 0x03 fun i q => [(i.dst, if i.flg = 1 then wrap32 (q i.sa + q i.sb) else q i.sa + q i.sb)]

/-- SUB: FLG bit 0 wraps. -/
def Dev.quillSub (d : Dev) (l : Lane) : Dev :=
  d.qAlu l 0x04 fun i q => [(i.dst, if i.flg = 1 then wrap32 (q i.sa - q i.sb) else q i.sa - q i.sb)]

/-- NEG. -/
def Dev.quillNeg (d : Dev) (l : Lane) : Dev := d.qAlu l 0x05 fun i q => [(i.dst, -q i.sa)]

/-- ABS. -/
def Dev.quillAbs (d : Dev) (l : Lane) : Dev := d.qAlu l 0x06 fun i q => [(i.dst, (q i.sa).natAbs)]

/-- MIN. -/
def Dev.quillMin (d : Dev) (l : Lane) : Dev := d.qAlu l 0x07 fun i q => [(i.dst, min (q i.sa) (q i.sb))]

/-- MAX. -/
def Dev.quillMax (d : Dev) (l : Lane) : Dev := d.qAlu l 0x08 fun i q => [(i.dst, max (q i.sa) (q i.sb))]

/-- A clamp: CLAMPED is set when DST ≠ SA. -/
def Dev.qClamp (d : Dev) (l : Lane) (op : Nat) (f : QIns → (Nat → Int) → Int) : Dev :=
  d.qIssue l op fun i _ e =>
    let v := f i (d.qr l)
    let e := e.qPut l [(i.dst, v)]
    if sat32 v = d.qr l i.sa then e else e.qFlag l fun g => { g with clamped := true }

/-- CLAMP: max(SB, min(SA, SC)). -/
def Dev.quillClamp (d : Dev) (l : Lane) : Dev := d.qClamp l 0x09 fun i q => max (q i.sb) (min (q i.sa) (q i.sc))

/-- CLAMPS: SA clamped to the magnitude of SB. -/
def Dev.quillClamps (d : Dev) (l : Lane) : Dev :=
  d.qClamp l 0x0A fun i q => clampInt (-((q i.sb).natAbs : Int)) (q i.sb).natAbs (q i.sa)

/-- SHL. -/
def Dev.quillShl (d : Dev) (l : Lane) : Dev := d.qAlu l 0x0B fun i q => [(i.dst, q i.sa * (2 ^ i.x : Nat))]

/-- SHR, rounded. -/
def Dev.quillShr (d : Dev) (l : Lane) : Dev := d.qAlu l 0x0C fun i q => [(i.dst, shiftRound (q i.sa) i.x)]

/-- AND. -/
def Dev.quillAnd (d : Dev) (l : Lane) : Dev := d.qAlu l 0x0D fun i q => [(i.dst, sint (ofInt (q i.sa) &&& ofInt (q i.sb)))]

/-- OR. -/
def Dev.quillOr (d : Dev) (l : Lane) : Dev := d.qAlu l 0x0E fun i q => [(i.dst, sint (ofInt (q i.sa) ||| ofInt (q i.sb)))]

/-- XOR. -/
def Dev.quillXor (d : Dev) (l : Lane) : Dev := d.qAlu l 0x0F fun i q => [(i.dst, sint (ofInt (q i.sa) ^^^ ofInt (q i.sb)))]

/-- SEL: SB when the condition holds, else SA. -/
def Dev.quillSel (d : Dev) (l : Lane) : Dev :=
  d.qAlu l 0x10 fun i q => [(i.dst, if qCond (d.quill.at l).flags i.flg then q i.sb else q i.sa)]

/-- SELP: SEL on pairs. -/
def Dev.quillSelp (d : Dev) (l : Lane) : Dev :=
  d.qAlu l 0x11 fun i q =>
    let s := if qCond (d.quill.at l).flags i.flg then i.sb else i.sa
    [(i.dst, q s), (i.dst + 1, q (s + 1))]

/-- CMP sets EQ and LT. -/
def Dev.quillCmp (d : Dev) (l : Lane) : Dev :=
  d.qIssue l 0x12 fun i _ e => e.qFlag l fun g => { g with eq := d.qr l i.sa == d.qr l i.sb, lt := decide (d.qr l i.sa < d.qr l i.sb) }

/-- CLRF. -/
def Dev.quillClrf (d : Dev) (l : Lane) : Dev :=
  d.qIssue l 0x13 fun _ _ e => e.qFlag l fun g => { g with clamped := false, dutyclamp := false, mathx := false }

/-- MUL (R292). -/
def Dev.quillMul (d : Dev) (l : Lane) : Dev := d.qAlu l 0x20 fun i q => [(i.dst, shiftRound (q i.sa * q i.sb) 30)]

/-- MAC: one rounding (R292). -/
def Dev.quillMac (d : Dev) (l : Lane) : Dev :=
  d.qAlu l 0x21 fun i q => [(i.dst, shiftRound (q i.sc * 2 ^ 30 + q i.sa * q i.sb) 30)]

/-- MSU: one rounding (R292). -/
def Dev.quillMsu (d : Dev) (l : Lane) : Dev :=
  d.qAlu l 0x22 fun i q => [(i.dst, shiftRound (q i.sc * 2 ^ 30 - q i.sa * q i.sb) 30)]

/-- The product with coefficient k before its saturation (R22). -/
def Dev.qTimesX (d : Dev) (l : Lane) (k : Nat) (v : Int) : Int :=
  let (c, sh) := d.qCoef l k
  shiftRound (v * c) sh

/-- MULK (R22). -/
def Dev.quillMulk (d : Dev) (l : Lane) : Dev := d.qAlu l 0x23 fun i q => [(i.dst, d.qTimesX l i.k (q i.sa))]

/-- MACK: SB plus the product of R22. -/
def Dev.quillMack (d : Dev) (l : Lane) : Dev :=
  d.qIssue l 0x24 fun i _ e =>
    (e.qSats l (overs (d.qTimesX l i.k (d.qr l i.sa)))).qPut l [(i.dst, d.qr l i.sb + d.qTimes l i.k (d.qr l i.sa))]

/-- VMULK: each of four by its coefficient. -/
def Dev.quillVmulk (d : Dev) (l : Lane) : Dev :=
  d.qAlu l 0x25 fun i q => (List.range 4).map fun n => (i.dst + n, d.qTimesX l (i.k + n) (q (i.sa + n)))

/-- DOT2: one rounding (R292). -/
def Dev.quillDot2 (d : Dev) (l : Lane) : Dev :=
  d.qAlu l 0x26 fun i q => [(i.dst, shiftRound (q i.sa * q i.sb + q (i.sa + 1) * q (i.sb + 1)) 30)]

/-- ROT (R302): Park, or with FLG bit 0 inverse Park. -/
def Dev.quillRot (d : Dev) (l : Lane) : Dev :=
  d.qAlu l 0x27 fun i q =>
    let x := q i.sa
    let y := q (i.sa + 1)
    let c := q i.sb
    let s := q (i.sb + 1)
    if i.flg = 0 then [(i.dst, shiftRound (x * c + y * s) 30), (i.dst + 1, shiftRound (y * c - x * s) 30)]
    else [(i.dst, shiftRound (x * c - y * s) 30), (i.dst + 1, shiftRound (x * s + y * c) 30)]

/-- ICLK (R302): inverse Clarke, or with FLG bit 0 the two-phase form. -/
def Dev.quillIclk (d : Dev) (l : Lane) : Dev :=
  d.qAlu l 0x28 fun i q =>
    let a := q i.sa
    let b := q (i.sa + 1)
    if i.flg = 1 then [(i.dst, a), (i.dst + 1, b), (i.dst + 2, 0), (i.dst + 3, 0)]
    else [(i.dst, a), (i.dst + 1, shiftRound (-a * 2 ^ 29 + b * 929887697) 30),
          (i.dst + 2, shiftRound (-a * 2 ^ 29 - b * 929887697) 30), (i.dst + 3, 0)]

/-- The currents RECON3 uses (R301 steps 1 to 4): whether the sum failed, and the three phases, none where it predicts. -/
def recon (ia ib ic : Int) (mask : Nat) (tol : Int) : Bool × Option (Int × Int × Int) :=
  let conn := mask / 8 % 2 = 1
  let err := mask % 8 = 7 ∧ !conn ∧ tol < (ia + ib + ic).natAbs
  let worst := if ib.natAbs ≤ ia.natAbs ∧ ic.natAbs ≤ ia.natAbs then 6 else if ic.natAbs ≤ ib.natAbs then 5 else 3
  let v := if err then worst else mask % 8
  (decide err,
   if v = 7 then some (ia, ib, ic)
   else if conn then none
   else if v = 6 then some (-(ib + ic), ib, ic)
   else if v = 5 then some (ia, -(ia + ic), ic)
   else if v = 3 then some (ia, ib, -(ia + ib))
   else none)

/-- RECON3 (R301). -/
def Dev.quillRecon3 (d : Dev) (l : Lane) : Dev :=
  d.qIssue l 0x29 fun i _ e =>
    let x : Fin 2 := if i.flg = 1 then 1 else 0
    let tol : Int := d.gl l (pgFIELD x) R.FIELD_RECON_SUMTOL * 2 ^ 15
    let mask := (ofInt (d.qr l (i.sa + 3))).toNat
    let (err, r) := recon (d.qr l i.sa) (d.qr l (i.sa + 1)) (d.qr l (i.sa + 2)) mask tol
    let e := e.qFlag l fun g => { g with sumerr := err, pred := r.isNone }
    match r with
    | none => e.qPut l [(i.dst, 0), (i.dst + 1, 0)]
    | some (a, b, _) =>
      if mask / 64 % 2 = 1 then e.qPut l [(i.dst, a), (i.dst + 1, b)]
      else e.qPut l [(i.dst, a), (i.dst + 1, shiftRound ((a + 2 * b) * 619925131) 30)]

/-- SVM (R304), with exact duties: `m2` is twice the mid value. -/
def svm (v : List Int) (r per : Int) (twoPhase : Bool) : List Int × Bool :=
  let a := v.getD 0 0
  let b := v.getD 1 0
  let c := v.getD 2 0
  let m2 := if twoPhase then 0 else max a (max b c) + min a (min b c)
  let duty := fun (x : Int) => 2 ^ 60 + (2 * x - m2) * r
  let out := fun (x : Int) => divRoundAway (clampInt 0 (2 ^ 61) (duty x) * per) (2 ^ 61)
  ([out a, out b, out c, divRoundAway m2 2],
   [a, b, c].any fun x => duty x < 0 || (2 ^ 61 : Int) < duty x)

/-- SVM. -/
def Dev.quillSvm (d : Dev) (l : Lane) : Dev :=
  d.qIssue l 0x2A fun i _ e =>
    let (rs, cl) := svm [d.qr l i.sa, d.qr l (i.sa + 1), d.qr l (i.sa + 2)] (d.qr l i.sb) (d.qr l i.sc) (i.flg == 1)
    let e := e.qPut l ((List.range 4).map fun n => (i.dst + n, rs.getD n 0))
    if cl then e.qFlag l fun g => { g with dutyclamp := true } else e

/-- PI (R303): u to DST, x to SC, e to SC + 1; each product is rounded under R22. -/
def Dev.quillPi (d : Dev) (l : Lane) : Dev :=
  d.qIssue l 0x2B fun i _ e =>
    let q := d.qr l
    let lim := min 0x7FFFFFFF ((d.qCoef l (i.k + 3)).1).natAbs
    let sum := q i.sc + d.qTimes l (i.k + 1) (q (i.sc + 1)) + d.qTimes l (i.k + 2) (q i.sb)
    let x := clampInt (-(lim : Int)) lim (sat32 sum)
    let n := overs (d.qTimesX l (i.k + 1) (q (i.sc + 1))) + overs (d.qTimesX l (i.k + 2) (q i.sb)) + overs sum +
      overs (d.qTimesX l i.k (q i.sa))
    (e.qSats l n).qPut l [(i.dst, x + d.qTimes l i.k (q i.sa)), (i.sc, x), (i.sc + 1, q i.sa)]

/-- SINCOS (R307): within 4 LSB of the exactly rounded values. -/
def Dev.quillSincos (d : Dev) (l : Lane) : Dev :=
  d.qAlu l 0x30 fun i q =>
    let a := ofInt (q i.sa)
    let (c, s) := cosSin a.toNat
    [(i.dst, c + (Config.cosError a).val - 4), (i.dst + 1, s + (Config.sinError a).val - 4)]

/-- The quotient num × 2^n / den as R307 has it, with whether MATHX is set. -/
def qDiv (num den : Int) (n : Nat) : Int × Bool :=
  if den = 0 then (if 0 < num then 0x7FFFFFFF else if num < 0 then -0x80000000 else 0, true)
  else (divRoundAway (if den < 0 then -(num * 2 ^ n) else num * 2 ^ n) den.natAbs, false)

/-- DIV. -/
def Dev.quillDiv (d : Dev) (l : Lane) : Dev :=
  d.qIssue l 0x31 fun i _ e =>
    let (v, m) := qDiv (d.qr l i.sa) (d.qr l i.sb) 30
    let e := e.qPut l [(i.dst, v)]
    if m then e.qFlag l fun g => { g with mathx := true } else e

/-- RCP. -/
def Dev.quillRcp (d : Dev) (l : Lane) : Dev :=
  d.qIssue l 0x32 fun i _ e =>
    let (v, m) := qDiv 1 (d.qr l i.sa) 60
    let e := e.qPut l [(i.dst, v)]
    if m then e.qFlag l fun g => { g with mathx := true } else e

/-- SQRT. -/
def Dev.quillSqrt (d : Dev) (l : Lane) : Dev :=
  d.qIssue l 0x33 fun i _ e =>
    let v := d.qr l i.sa
    if v < 0 then (e.qPut l [(i.dst, 0)]).qFlag l fun g => { g with mathx := true }
    else e.qPut l [(i.dst, sqrtNear (v.toNat * 2 ^ 30))]

/-- LD. -/
def Dev.quillLd (d : Dev) (l : Lane) : Dev := d.qIssue l 0x40 fun i t e => e.qPut l [(i.dst, sint (d.qLoad l t i.x))]

/-- LDX. -/
def Dev.quillLdx (d : Dev) (l : Lane) : Dev :=
  d.qIssue l 0x41 fun i t e => e.qPut l [(i.dst, sint (d.qLoad l t ((d.qr l i.sa + i.x) % 4096).toNat))]

/-- ST. -/
def Dev.quillSt (d : Dev) (l : Lane) : Dev := d.qIssue l 0x42 fun i t e => e.qStore l t i.x (ofInt (d.qr l i.sa))

/-- STX. -/
def Dev.quillStx (d : Dev) (l : Lane) : Dev :=
  d.qIssue l 0x43 fun i t e => e.qStore l t ((d.qr l i.sb + i.x) % 4096).toNat (ofInt (d.qr l i.sa))

/-- BR: a taken branch issues its target 2 cycles after the branch (R309). -/
def Dev.quillBr (d : Dev) (l : Lane) : Dev :=
  d.qIssue l 0x50 fun i t e =>
    if qCond (d.quill.at l).flags i.flg then
      e.onQuill l fun u => { u with pc := (if u.run = some 0 then 0 else 2048) + i.x, nextAt := t + 2 }
    else e

/-- PER32: the period that the timebase of a leg has in the next period, in fine steps (R296): what the latch point took, or will
take as it stands. -/
def Dev.per32 (d : Dev) (l : Lane) (n : Fin 6) : Nat :=
  let t : Fin 2 := if d.gl l (pgMOD l) R.MOD_LEG_CFG_TB n.val = 1 then 1 else 0
  let t : Fin 2 := if t = 1 ∧ d.tb1Locked l then 0 else t
  let a := pageAddr (pgMOD l) (tbPer t).off
  let staged := if d.gl l (pgMOD l) (tbUpd t) ≠ 0 ∨ (d.mods.at l).groups.contains (d.gl l (pgMOD l) (tbCg t)) then d.stagedAt l a else none
  let took := (((d.mods.at l).tb t).taken.find? (·.1 == a)).map (·.2)
  match if ((d.mods.at l).tb t).latched then took else staged.or took with
  | some w => 32 * (tbPer t).get w
  | none => 32 * d.gl l (pgMOD l) (tbPer t)

/-- The compares that STAGE places (R305), by leg: MODE 0 legs 0 to 2, MODE 1 legs 3 to 5, MODE 2 both with the shares trimmed. -/
def Dev.stageNew (d : Dev) (l : Lane) (i : QIns) : List (Fin 6 × Nat) :=
  let v := fun (n : Nat) => (ofInt (d.qr l (i.sa + n))).toNat
  let low : List (Fin 6 × Nat) := [(0, v 0), (1, v 1), (2, v 2)]
  let trim := fun (n : Nat) => d.glS l (pgFIELD 0) R.FIELD_TRIM_VALUE n
  let share := fun (n : Nat) => (clampInt 0 (d.per32 l 0) ((v n : Int) + 32 * trim n)).toNat
  match i.x with
  | 0 => low
  | 1 => [(3, v 0), (4, v 1), (5, v 2)]
  | _ => low ++ [(3, share 0), (4, share 1), (5, share 2)]

/-- The holding buffer takes compares at tick `t` (R297, R305): until the release point, or until the next tick when that is past,
which raises DEADLINE_MISS. -/
def Dev.stageHeld (d : Dev) (l : Lane) (new : List (Fin 6 × Nat)) (t : Nat) : Dev :=
  let t0 := (d.quill.at l).t0
  let late := t0 + 96 ≤ t
  let rel := if late then t + 1 else t0 + 96
  let d := d.onQuill l fun u => { u with
    hold := (u.hold.filter fun h => !new.any (·.1 == h.1)) ++ new.map fun p => (p.1, p.2, rel)
    stageAt := some (t - t0) }
  let d := if d.gl l (pgQUILL l) R.QUILL_PEAK_STAGE < t - t0 then d.sl l (pgQUILL l) R.QUILL_PEAK_STAGE (min 0xFFFF (t - t0)) else d
  if late then (d.incL l (pgQUILL l) R.QUILL_ERRCNT_DEADLINE).qRaise l 5 (some 1) else d

/-- STAGE (R305). -/
def Dev.quillStage (d : Dev) (l : Lane) : Dev := d.qIssue l 0x51 fun i t e => e.stageHeld l (d.stageNew l i) t

/-- A staged compare by Quill: the wait word of the leg's CMP register. -/
def Dev.stageCmp (d : Dev) (l : Lane) (h : Fin 6 × Nat × Nat) : Dev :=
  { d with staged := cellsPut d.staged (regKey l (pageAddr (pgMOD l) (R.MOD_LEG_CMP_VALUE.at h.1.val))) (BitVec.ofNat 32 h.2.1) }

/-- The own DC-link reading of a lane in volts over 32,768: its latest converter value (R186), else the comparators' (R419). -/
def Dev.laneVdc (d : Dev) (l : Lane) : Option Int :=
  match d.dclVolt l with
  | some v => some v
  | none => (d.prot.at l).volt.map fun v => 32768 * (v : Int)

/-- Vdc per unit of Vnom in Q2.30 (R21). -/
def Dev.vdcPu (d : Dev) (l : Lane) : Int :=
  match d.laneVdc l with
  | some v => sat32 (divNearest (v * 2 ^ 15) (max 1 (d.gl l pgSYS R.SYS_VNOM_V)))
  | none => 0

/-- Legs of the phases of a frame: in PARALLEL each phase has two. -/
def Dev.framePhases (d : Dev) (f : Nat) : List (List (Fin 6)) :=
  if d.powerCfg = 2 then [[0, 3], [1, 4], [2, 5]] else if f = 0 then [[0], [1], [2]] else [[3], [4], [5]]

/-- The offset of the angles of a frame: the 30 degrees of set 2 in HEXA (R235, R296). -/
def Dev.frameBack (d : Dev) (f : Nat) : Int := if d.powerCfg = 1 ∧ f = 1 then 0x15555555 else 0

/-- Inverse Park (R243). -/
def invPark (v q : Int) (a : Nat) : Int × Int :=
  let (c, s) := cosSin a
  (sat32 (shiftRound (v * c - q * s) 30), sat32 (shiftRound (v * s + q * c) 30))

/-- Phase voltages of stator coordinates (R243). -/
def phaseVolts (a b : Int) : List Int := [a, shiftRound (-a * 2 ^ 29 + b * 929887697) 30, shiftRound (-a * 2 ^ 29 - b * 929887697) 30]

/-- The leg belongs to the two-phase set of SPLIT axis 2 (R243). -/
def Dev.twoPhase (d : Dev) (l : Lane) (n : Fin 6) : Bool :=
  d.powerCfg == 3 && d.legAxis n == 1 && d.gl l (pgFIELD 1) R.FIELD_AXCFG_TPH == 1

/-- A released compare of a leg with the voltage that the field unit adds along the estimated d-axis (R263, R264). DESIGN CHOICE: the
voltage is added to the duties that SVM has formed, which are centred anew as R246 has it; one that takes the place of the run's voltage
starts from duty 0.5. A two-phase set has v_4 = alpha and v_5 = beta about leg 6 at duty 0.5 (R243). -/
def Dev.formedCmp (d : Dev) (l : Lane) (due : List (Fin 6 × Nat × Nat)) (n : Fin 6) (v : Nat) : Nat :=
  let u := d.fieldU l (d.legAxis n)
  let vdc := d.vdcPu l
  match u.vForm with
  | none => v
  | some (alone, vd) =>
    if vdc ≤ 0 then v
    else
      let per : Int := d.per32 l n
      let f := if d.powerCfg = 2 ∨ n.val < 3 then 0 else 1
      let (a, b) := invPark vd 0 (angWrap ((u.thH : Int) - d.frameBack f))
      let two := d.twoPhase l n
      let phases := (d.framePhases f).zip ((if two then [a, b, 0] else phaseVolts a b).map fun w => divNearest (w * per) vdc.toNat)
      let base := fun (m : Fin 6) => if alone then per / 2 else ((due.find? (·.1 == m)).map fun h => (h.2.1 : Int)).getD (per / 2)
      let cs := phases.map fun p => base (p.1.headD n) + p.2
      let shift := if two then 0 else divNearest (cs.foldl max (cs.headD 0) + cs.foldl min (cs.headD 0) - per) 2
      let own := ((phases.find? (·.1.contains n)).map (·.2)).getD 0
      (clampInt 0 per ((if alone then per / 2 else (v : Int)) + own - shift)).toNat

/-- The compares that are due, as the field units form them. -/
def Dev.formed (d : Dev) (l : Lane) (due : List (Fin 6 × Nat × Nat)) : List (Fin 6 × Nat × Nat) :=
  due.map fun h => (h.1, d.formedCmp l due h.1 h.2.1, h.2.2)

/-- QUILL_RELEASE (R297): the held compares go to the staged compares of legs whose SRC is Quill, and the commit of their groups
is completed. -/
def Dev.quillRelease (d : Dev) (l : Lane) : Dev :=
  let due := d.formed l ((d.quill.at l).hold.filter (·.2.2 ≤ d.now))
  let p := pgMOD l
  let mine := due.filter fun h => d.gl l p R.MOD_LEG_CFG_SRC h.1.val == 1
  let groups := mine.foldl (fun b h => Nat.lor b (2 ^ d.gl l p R.MOD_LEG_CFG_CG h.1.val)) 0
  let d := d.onQuill l fun u => { u with hold := u.hold.filter fun h => !(h.2.2 ≤ d.now) }
  let d := mine.foldl (fun d h => (d.stageCmp l h).autoDue l (d.legTb l h.1) (pageAddr p (R.MOD_LEG_CMP_VALUE.at h.1.val))) d
  d.commitGroups l groups

/-- A run writes a MON register at tick t (R306): index 14 takes bits 3:0 as sticky bits. -/
def Dev.monPut (d : Dev) (l : Lane) (t x : Nat) (w : Word) : Dev :=
  let a := pageAddr (pgFIELD (if x / 256 = 1 then 1 else 0)) (0x180 + 4 * (x % 32))
  d.qRunWrite l t a (if x % 32 = 14 then d.word l a ||| (w &&& 0xF#32) else w)

/-- MONW (R306). -/
def Dev.quillMonw (d : Dev) (l : Lane) : Dev :=
  d.qIssue l 0x52 fun i t e => if qCond (d.quill.at l).flags i.flg then e.monPut l t i.x (ofInt (d.qr l i.sa)) else e

/-- The export set as it stands (R320). -/
def Dev.exportSet (d : Dev) (l : Lane) (t : Nat) : Shadow :=
  let p := pgQUILL l
  let u := d.quill.at l
  let base := d.gl l p R.QUILL_EXPORT_DM_BASE
  { entry := u.run.getD 0, run := u.runs, mask := d.gl l p R.QUILL_EXPORT_MASK, regs := u.q.toList, base := base
    words := (List.range (d.gl l p R.QUILL_EXPORT_DM_COUNT)).map fun n => d.qLoad l t (base + n), at' := t }

/-- EXPORT (R320): the export set leaves as it stands at its issue; a second one in a run is ignored. -/
def Dev.quillExport (d : Dev) (l : Lane) : Dev :=
  d.qIssue l 0x53 fun _ t e =>
    if (d.quill.at l).exported then e else e.onQuill l fun u => { u with exported := true, sent := u.sent ++ [d.exportSet l t] }

/-- HALT at tick `t` (R299): the snapshot registers and STAT.FLAGS, as the results that have landed leave them, CYCLES and PEAK follow, CAUSE.HALT is set and the run ends. -/
def Dev.haltRun (d : Dev) (l : Lane) (t : Nat) : Dev :=
  let p := pgQUILL l
  let u := d.quill.at l
  let cyc := min 0xFFFF (t - u.t0)
  let landed := u.takeBack t
  let d := (List.range 32).foldl (fun d n => d.sl l p R.QUILL_QSNAP_VALUE (landed.q.toList.getD n 0).toNat n) d
  let d := d.sl l p R.QUILL_STAT_FLAGS landed.flags.code
  let d := (d.sl l p R.QUILL_CYCLES_HALT cyc).sl l p R.QUILL_CYCLES_STAGE (u.stageAt.getD 0xFFFF)
  let d := if d.gl l p R.QUILL_PEAK_HALT < cyc then d.sl l p R.QUILL_PEAK_HALT cyc else d
  (d.causeL l p 1).qEnd l t

/-- HALT (R299). -/
def Dev.quillHalt (d : Dev) (l : Lane) : Dev := d.qIssue l 0x5F fun _ t e => e.haltRun l t

/-- The instruction at the program counter, whichever it is. -/
def Dev.quillAny (d : Dev) (l : Lane) : Dev :=
  match (d.qAtPc l).op with
  | 0x00 => d.quillNop l
  | 0x01 => d.quillLdi l
  | 0x02 => d.quillMov l
  | 0x03 => d.quillAdd l
  | 0x04 => d.quillSub l
  | 0x05 => d.quillNeg l
  | 0x06 => d.quillAbs l
  | 0x07 => d.quillMin l
  | 0x08 => d.quillMax l
  | 0x09 => d.quillClamp l
  | 0x0A => d.quillClamps l
  | 0x0B => d.quillShl l
  | 0x0C => d.quillShr l
  | 0x0D => d.quillAnd l
  | 0x0E => d.quillOr l
  | 0x0F => d.quillXor l
  | 0x10 => d.quillSel l
  | 0x11 => d.quillSelp l
  | 0x12 => d.quillCmp l
  | 0x13 => d.quillClrf l
  | 0x20 => d.quillMul l
  | 0x21 => d.quillMac l
  | 0x22 => d.quillMsu l
  | 0x23 => d.quillMulk l
  | 0x24 => d.quillMack l
  | 0x25 => d.quillVmulk l
  | 0x26 => d.quillDot2 l
  | 0x27 => d.quillRot l
  | 0x28 => d.quillIclk l
  | 0x29 => d.quillRecon3 l
  | 0x2A => d.quillSvm l
  | 0x2B => d.quillPi l
  | 0x30 => d.quillSincos l
  | 0x31 => d.quillDiv l
  | 0x32 => d.quillRcp l
  | 0x33 => d.quillSqrt l
  | 0x40 => d.quillLd l
  | 0x41 => d.quillLdx l
  | 0x42 => d.quillSt l
  | 0x43 => d.quillStx l
  | 0x50 => d.quillBr l
  | 0x51 => d.quillStage l
  | 0x52 => d.quillMonw l
  | 0x53 => d.quillExport l
  | 0x5F => d.quillHalt l
  | _ => d

/-! ## Triggers and the input stage (R293 to R296) -/

/-- The angle in use of a field unit at a tick (R260). -/
def FieldUnit.angleOf (u : FieldUnit) (t : Int) : Nat := angWrap (u.angle + u.rate * (t - u.angleAt) / 65536)

/-- A leg's mean word is valid (R237), where `bad` says that its check fails. -/
def wordValid (w : WinWord) (bad : Bool) : Bool := !bad && !resSkip w.mean && !resSat w.mean && !resUns w.mean && w.at'.isSome

/-- The current of a leg's word in value LSB (R238). -/
def wordCurrent (w : WinWord) (ts : Nat) (refer : Bool) (tref : Nat) : Int :=
  if refer then
    let t2 : Int := 2 * (tref : Int) - (2 * (w.first : Int) + ((w.n : Int) - 1) * ts)
    satS 16 (divRoundAway (resValue w.mean * 16000 + resValue w.slope * t2) 16000)
  else resValue w.mean

/-- The axis a frame carries (R296). -/
def Dev.frameAxis (d : Dev) (f : Nat) : Fin 2 := if d.powerCfg = 1 ∨ d.powerCfg = 2 then 0 else if f = 0 then 0 else 1

/-- A leg's word is one of the period (R237): its group integrates windows, and the word's period is the present one, or the one before,
whose word stands until the present one's comes. -/
def Dev.wordNow (d : Dev) (l : Lane) (n : Fin 6) : Bool :=
  let c : Fin 2 := if n.val < 3 then 0 else 1
  let w := (d.meas.at l).words[n]
  let t0 := (d.convPeriod l c).1
  d.grpWen l c ⟨n.val % 3, by omega⟩ && (w.pstart == t0 || w.pstart + w.per == t0)

/-- A leg's word counts as bad: it is none of the period, its check fails now, or failed when a trigger took it before (R170, R237,
R295). -/
def Dev.wordBad (d : Dev) (l : Lane) (bad : Nat) (n : Fin 6) : Bool :=
  !d.wordNow l n || bad / 2 ^ n.val % 2 == 1 || ((d.meas.at l).words[n]).bad

/-- The reference instant t_ref of an axis (R238): the latest window end among its valid legs. -/
def Dev.refTick (d : Dev) (l : Lane) (x : Fin 2) (bad : Nat) : Nat :=
  ((d.axisLegs x).filter fun n => wordValid ((d.meas.at l).words[n]) (d.wordBad l bad n)).foldl
    (fun t n => max t ((d.meas.at l).words[n]).fin) 0

/-- Phase currents of a frame in Q2.30, each with its validity (R237, R238). -/
def Dev.frameCur (d : Dev) (l : Lane) (f bad : Nat) : List (Int × Bool) :=
  let x := d.frameAxis f
  let refer := d.gl l (pgFIELD x) R.FIELD_RECON_REFER == 1
  let wd := fun (n : Fin 6) => (d.meas.at l).words[n]
  let tref := d.refTick l x bad
  let cur := fun (n : Fin 6) =>
    if d.wordBad l bad n then 0 else wordCurrent (wd n) (d.sampleTs l (if n.val < 3 then 0 else 1)) refer tref * 2 ^ 15
  (d.framePhases f).map fun ns => (sat32 ((ns.map cur).sum), ns.all fun n => wordValid (wd n) (d.wordBad l bad n))

/-- The phase currents of a frame's period before: as they were measured or completed, or those of the d/q currents that Quill has reported
for it where it was predicted (R239, R241). -/
def Dev.frameBefore (d : Dev) (l : Lane) (f : Nat) : List (Option Int) :=
  let x := d.frameAxis f
  let u := d.quill.at l
  if u.lastPred.getD f false then
    let (a, b) := invPark (d.glS l (pgFIELD x) R.FIELD_ID_VALUE) (d.glS l (pgFIELD x) R.FIELD_IQ_VALUE)
      (angWrap (((d.fieldU l x).runM : Int) - d.frameBack f))
    let two := d.powerCfg == 3 && x == 1 && d.gl l (pgFIELD x) R.FIELD_AXCFG_TPH == 1
    (if two then [a, b, -(a + b)] else phaseVolts a b).map some
  else (List.range 3).map fun k => u.lastI.getD (3 * f + k) none

/-- What the controllers see of a frame's currents: while injection runs, the mean of two consecutive periods (R263). -/
def Dev.frameMean (d : Dev) (l : Lane) (f bad : Nat) : List Int :=
  let cs := d.frameCur l f bad
  if !(d.fieldU l (d.frameAxis f)).hfiOn then cs.map (·.1)
  else (cs.zip (d.frameBefore l f)).map fun p =>
    match p.1.2, p.2 with
    | true, some w => divNearest (p.1.1 + w) 2
    | _, _ => p.1.1

/-- MASK of a frame (R296). -/
def Dev.frameMask (d : Dev) (l : Lane) (f bad : Nat) : Nat :=
  let x := d.frameAxis f
  let vs := (d.frameCur l f bad).map (·.2)
  let valid := (List.range 3).foldl (fun b k => b + if vs.getD k false then 2 ^ k else 0) 0
  let two := d.powerCfg == 3 && x == 1 && d.gl l (pgFIELD x) R.FIELD_AXCFG_TPH == 1
  let b2n := fun (b : Bool) => if b then 1 else 0
  b2n (f == 1) * 128 + b2n two * 64 + d.gl l (pgFIELD x) R.FIELD_STATE_PULSES * 32 + b2n d.axes[x].sync * 16 +
    d.gl l (pgFIELD x) R.FIELD_RECON_CONN * 8 + valid

/-- The axis is driven along θ = 0 (R275, R424): in ALIGN, or through the windings without an angle. -/
def Dev.angleFixed (d : Dev) (l : Lane) (x : Fin 2) : Bool :=
  d.axState x == .align || ((d.fieldU l x).winds && !(d.fieldU l x).hasAngle)

/-- The timebase of a frame in a lane. -/
def Dev.frameTb (d : Dev) (l : Lane) (f : Nat) : TimebaseState :=
  (d.mods.at l).tb (if d.gl l (pgMOD l) R.MOD_LEG_CFG_TB (if f = 0 then 0 else 3) = 1 then 1 else 0)

/-- The midpoint of the period that the latest words of an axis stand for (R238). -/
def Dev.wordMid (d : Dev) (l : Lane) (x : Fin 2) (tb : TimebaseState) : Nat :=
  match ((d.axisLegs x).filterMap fun n => (((d.meas.at l).words[n]).at').map fun t => (t, (d.meas.at l).words[n])).foldl
      (fun (b : Option (Nat × WinWord)) w => match b with | some v => if v.1 < w.1 then some w else b | none => some w) none with
  | some (_, w) => w.pstart + w.per / 2
  | none => tb.t0 + tb.per / 2

/-- The angles of a frame without the offset of set 2 (R260, R296): that of its currents, and that of the next period. -/
def Dev.frameAngles (d : Dev) (l : Lane) (f bad : Nat) : Nat × Nat :=
  let x := d.frameAxis f
  let u := d.fieldU l x
  if d.angleFixed l x then (0, 0)
  else
    let tb := d.frameTb l f
    let tm : Int := if d.gl l (pgFIELD x) R.FIELD_RECON_REFER = 1 then d.refTick l x bad else d.wordMid l x tb
    let tx : Int := tb.t0 + tb.per + tb.syncAdj + (d.per32 l (if f = 0 then 0 else 3) / 32 / 2 : Nat) + d.glS l (pgFIELD x) R.FIELD_ALEAD_LEAD
    (u.angleOf tm, u.angleOf tx)

/-- The twelve words of a frame (R296); `bad` names the legs whose word fails its check. -/
def Dev.quillWords (d : Dev) (l : Lane) (f bad : Nat) : List Word :=
  let x := d.frameAxis f
  let u := d.fieldU l x
  let th := d.frameAngles l f bad
  (d.frameMean l f bad).map ofInt ++
    [BitVec.ofNat 32 (d.frameMask l f bad), ofInt (th.1 - d.frameBack f), ofInt (if d.angleFixed l x then 0 else sat32 u.rate),
     ofInt u.idRef, ofInt u.iqRef, ofInt u.vdc, BitVec.ofNat 32 (d.per32 l (if f = 0 then 0 else 3)), ofInt u.vmax,
     ofInt (th.2 - d.frameBack f)]

/-- Legs whose words a frame takes. -/
def Dev.frameLegs (d : Dev) (f : Nat) : List (Fin 6) := (d.framePhases f).flatten

/-- The trigger of an entry may fire now (R293): at the tick at which the last named group closes its window in the period, or at the
tick of COUNT. -/
def Dev.trigDue (d : Dev) (l : Lane) (e : Fin 2) : Bool :=
  let p := pgQUILL l
  let u := d.quill.at l
  let last := if e = 0 then u.trigAt.a else u.trigAt.b
  d.up (.ctl l) && d.gl l p H.CTRL_ENABLE == 1 && d.gl l p R.QUILL_TRIG_EN e.val == 1 && !(d.lanes.at l).haltedQuill && !u.cut &&
  (if d.gl l p R.QUILL_TRIG_SRC e.val = 0 then
    let groups := d.gl l p R.QUILL_TRIG_GROUPS e.val
    let named := (List.finRange 6).filter fun n => groups / 2 ^ n.val % 2 == 1 &&
      d.grpWen l (if n.val < 3 then 0 else 1) ⟨n.val % 3, by omega⟩
    let wd := fun (n : Fin 6) => (d.meas.at l).words[n]
    let tbOf := fun (n : Fin 6) => d.gl l (pgCONV l (if n.val < 3 then 0 else 1)) R.CONV_MODE_TB
    named.any (fun n => (wd n).at' == some d.now) && named.all fun n =>
      (match (wd n).at' with
       | some t => last.all (· < t)
       | none => false) && named.all fun m => tbOf m != tbOf n || (wd m).pstart == (wd n).pstart
   else
    let tb := (d.mods.at l).tb (if d.gl l p R.QUILL_TRIG_TB e.val = 1 then 1 else 0)
    let at' := tb.t0 + d.gl l p R.QUILL_TRIG_COUNT e.val
    tb.running && at' == d.now && last != some d.now)

/-- The words of the set-point that an axis has published last (R328). -/
def Dev.setpointWords (d : Dev) (l : Lane) (x : Fin 2) : List Word :=
  let m := pgMOTION x
  let stat := (d.word l (pageAddr m 0x48)) &&& 0xFFFF#32
  (List.range 4).map (fun k => d.word l (pageAddr m (0x70 + 4 * k))) ++ [stamp32 (d.unitOf l x).lastServo, stat]

/-- The input stage copies the latest set-point of an axis whose servo tick has come (R328). -/
def Dev.copySetpoint (d : Dev) (l : Lane) (x : Fin 2) : Dev :=
  let u := d.unitOf l x
  let ws := if d.now < u.lastServo then u.spWas else d.setpointWords l x
  ((List.range 6).zip ws).foldl (fun d p => d.qSetData l (0x20 + 8 * x.val + p.1) p.2) d

/-- The frames that a trigger's entry takes (R295). -/
def Dev.trigFrames (d : Dev) (l : Lane) (e : Fin 2) : List Nat :=
  [0, 1].filter fun f => d.gl l (pgQUILL l) R.QUILL_TRIG_FRAMES e.val / 2 ^ f % 2 == 1

/-- What a trigger hands to its run (R294, R295): the first frame for Q20 to Q31, and the registers that a resynchronised axis clears. -/
def Dev.trigGives (d : Dev) (l : Lane) (e : Fin 2) (bad : Nat) : HeldTrig :=
  let frames := d.trigFrames l e
  { entry := e, tick := d.now, prev := (d.quill.at l).trigLast e, regs := ((frames.head?).map fun f => d.quillWords l f bad).getD []
    zero := frames.foldl (fun z f =>
      if d.axes[d.frameAxis f].sync then Nat.lor z (d.gl l (pgQUILL l) R.QUILL_ZERO_MASK f) else z) 0 }

/-- What the input stage keeps of a frame: its phase currents as RECON forms them, and the angles of the run (R239, R261, R263). -/
def Dev.noteFrame (d : Dev) (l : Lane) (f bad : Nat) : Dev :=
  let cs := d.frameCur l f bad
  let th := d.frameAngles l f bad
  let is := cs.map (·.1)
  let x := d.frameAxis f
  let r := (recon (is.getD 0 0) (is.getD 1 0) (is.getD 2 0) (d.frameMask l f bad) (d.gl l (pgFIELD x) R.FIELD_RECON_SUMTOL * 2 ^ 15)).2
  let kept : List (Option Int) := match r with
    | some (a, b, c) => [some (sat32 a), some (sat32 b), some (sat32 c)]
    | none => [none, none, none]
  let d := d.onQuill l fun u => { u with
    lastI := (List.range 3).foldl (fun q k => q.set (3 * f + k) (kept.getD k none)) u.lastI, lastPred := u.lastPred.set f r.isNone }
  d.onFieldU l (d.frameAxis f) fun u => { u with runM := th.1, runX := th.2 }

/-- The input stage (R295, R296, R328): a word whose check fails is marked and reported once, and the frames and the set-points go to
the data memory. -/
def Dev.inputStage (d : Dev) (l : Lane) (e : Fin 2) (bad : Nat) : Dev :=
  let frames := d.trigFrames l e
  let legs := (frames.flatMap d.frameLegs).filter fun n => bad / 2 ^ n.val % 2 == 1 && !((d.meas.at l).words[n]).bad
  let words := frames.map fun f => (f, d.quillWords l f bad)
  let d := legs.foldl (fun d n =>
    (d.onMeas l fun m => { m with words := m.words.set n { m.words[n] with bad := true } }).resultCheck l (if n.val < 3 then 0 else 1)) d
  let d := words.foldl (fun d fw => ((List.range 12).zip fw.2).foldl (fun d p => d.qSetData l (16 * fw.1 + p.1) p.2) d) d
  ((frames.foldl (fun d f => d.noteFrame l f bad) d).copySetpoint l 0).copySetpoint l 1

/-- A trigger of an entry has fired at this tick: a shadow received up to now serves no later run of the entry (R321). -/
def Dev.trigMark (d : Dev) (l : Lane) (e : Fin 2) : Dev :=
  d.onQuill l fun u => { u with trigAt := if e = 0 then { u.trigAt with a := some d.now } else { u.trigAt with b := some d.now } }

/-- OVERRUN (R298): a trigger fires while a run of its entry is in progress. -/
def Dev.overrun (d : Dev) (l : Lane) : Dev := (d.incL l (pgQUILL l) R.QUILL_ERRCNT_OVERRUN).qRaise l 6 (some 2)

/-- Hold the trigger of an entry until the run ends (R298). -/
def Dev.holdTrig (d : Dev) (l : Lane) (h : HeldTrig) : Dev :=
  ((d.onQuill l fun u => { u with held := u.held ++ [h] }).qShowHeld l).qShowShadow l

/-- QUILL_TRIGGER (R293 to R298): the input stage takes the frames at this tick, and the run starts, or is held where one is in
progress, or dropped where one of its entry is held already; where both triggers fire in one tick, TRIG0 runs first. `bad` names the
legs whose word fails its check. -/
def Dev.quillTrigger (d : Dev) (l : Lane) (e : Fin 2) (bad : Nat) : Dev :=
  let u := d.quill.at l
  let h := d.trigGives l e bad
  match u.run with
  | none =>
    let d' := (d.inputStage l e bad).trigMark l e
    if e = 1 ∧ d.trigDue l 0 then d'.holdTrig l h else d'.qStart l h (h.tick + 2)
  | some r =>
    let d := if u.held.any (·.entry == e) then (d.trigMark l e).qShowShadow l
      else ((d.inputStage l e bad).trigMark l e).holdTrig l h
    if r = e then d.overrun l else d

/-- CTRL.ENABLE of the page changes from 0 to 1 (R289). -/
def Dev.quillEnable (d : Dev) (l : Lane) : Dev :=
  d.onQuill l fun u => { u with q := Vector.replicate 32 0, undo := [], qAt := Vector.replicate 32 0, flags := {},
                                flagAt := [0, 0, 0, 0, 0, 0, 0, 0, 0], firstRun := { a := true, b := true } }

/-! ## Banks (R314, R315) -/

/-- The words of a bank in ascending order, as bytes. -/
def QuillUnit.bankBytes (u : QuillUnit) (b : Nat) : List Byte :=
  (List.range 8192).flatMap fun i => wordBytes ((cellsGet u.prog (8192 * b + i)).getD 0)

/-- PROG_SWAP (R314): the write arms the swap in both lanes. -/
def Dev.progSwap (d : Dev) : Dev :=
  d.eachLane fun d l =>
    if d.up (.ctl l) ∧ (d.lanes.at l).role ≠ .failed ∧ (d.quill.at l).swapAt.isNone then
      (d.sl l (pgQUILL l) R.QUILL_PROG_SWAP 1).onQuill l fun u => { u with swapAt := some d.now, swapCheck := none }
    else d

/-- A failed check ends the swap of both lanes and raises its source (R314). -/
def Dev.swapFails (d : Dev) (l : Lane) : Dev :=
  (d.eachLane fun d k =>
    (d.sl k (pgQUILL k) R.QUILL_PROG_SWAP 0).onQuill k fun u => { u with swapAt := none, swapCheck := none }).qRaise l 7 (some 7)

/-- PROG_BANK_CHECK (R314, R315): a lane checks its inactive bank; a failed check ends the swap of both lanes. -/
def Dev.progBankCheck (d : Dev) (l : Lane) : Dev :=
  let u := d.quill.at l
  if u.swapAt.isNone ∨ u.swapCheck.isSome then d
  else
    let b := 1 - d.qBank l
    let ok := (checkCode 3).over (u.bankBytes b) == d.gl l (pgQUILL l) R.QUILL_PROG_CRC_CRC b
    if ok then d.onQuill l fun u => { u with swapCheck := some true } else d.swapFails l

/-- The agreed swap tick has come (R314): 200 us after the write, at a tick of the trigger that governs it. -/
def Dev.swapDue (d : Dev) (l : Lane) : Bool :=
  let u := d.quill.at l
  match u.swapAt with
  | none => false
  | some t =>
    let en := fun (e : Nat) => d.gl l (pgQUILL l) R.QUILL_TRIG_EN e == 1
    u.swapCheck == some true && decide (t + 100000 ≤ d.now) &&
    (if en 0 then u.trigAt.a == some d.now else if en 1 then u.trigAt.b == some d.now else true)

/-- A lane's swap (R314): the other bank becomes the active one, and the first runs of both entries from this tick on are first
runs, one that starts at this tick among them. -/
def Dev.swapLane (d : Dev) (l : Lane) : Dev :=
  let p := pgQUILL l
  let d := (d.sl l p R.QUILL_PROG_BANK (1 - d.qBank l)).sl l p R.QUILL_PROG_SWAP 0
  let d := d.onQuill l fun u =>
    let begun := if u.t0 = d.now then u.run else none
    { u with swapAt := none, swapCheck := none, firstRun := { a := begun ≠ some 0, b := begun ≠ some 1 },
             flags := if begun.isSome then { u.flags with first := true } else u.flags }
  d.causeL l p (BitVec.ofNat 32 (2 ^ 6))

/-- SWAP_DONE (R314): every lane that stands runs the new bank from the same tick; while one is lost the other swaps alone. -/
def Dev.swapDone (d : Dev) : Dev :=
  let there := [Lane.a, Lane.b].filter fun l => d.up (.ctl l) && (d.lanes.at l).role != .failed
  if there.isEmpty ∨ !there.all (d.swapDue ·) then d
  else there.foldl (fun d l => d.swapLane l) d

/-! ## Shadow (R320, R321) -/

/-- A lane's SHADOW registers take an export (R320). -/
def Dev.shadowTaken (d : Dev) (l : Lane) (s : Shadow) : Dev :=
  let p := pgQUILL l
  let d := (List.range 32).foldl (fun d n =>
    if s.mask / 2 ^ n % 2 = 1 then d.sl l p R.QUILL_SHADOW_VALUE (s.regs.getD n 0).toNat n else d) d
  let d := (d.sl l p R.QUILL_SHSTAT_SEQ (s.run % 65536)).sl l p R.QUILL_SHSTAT_ENTRY s.entry.val
  (d.onQuill l fun u => { u with shadow := (s, d.now) :: u.shadow.filter (·.1.entry != s.entry) }).qShowShadow l

/-- SHADOW_RECEIVE (R320): the oldest export of the other lane, issued at most 2 us ago, arrives over the control cross-link. -/
def Dev.shadowArrive (d : Dev) (l : Lane) : Dev :=
  if !(d.link (.ctlCross l)).live ∨ !d.up (.ctl l) then d
  else match (d.quill.at l.other).sent.filter fun s => d.now ≤ s.at' + 1000 with
    | [] => d
    | s :: rest => (d.onQuill l.other fun u => { u with sent := rest }).shadowTaken l s

/-! ## DEBUG on Quill (R319, R440) -/

/-- One instruction of a held Quill (R319): it issues now, with every earlier result landed; an illegal one is ILLEGAL_OP (R299). -/
def Dev.quillStep (d : Dev) (l : Lane) : Dev :=
  if (d.quill.at l).cut then d
  else if !qLegal (d.qAtPc l) (d.quill.at l).pc then d.qRaise l 3 (some 3)
  else
  let d := d.onQuill l fun u => { u with run := some (if u.pc < 2048 then 0 else 1), t0 := d.now, nextAt := d.now,
                                         undo := [], qAt := Vector.replicate 32 0, flagAt := [0, 0, 0, 0, 0, 0, 0, 0, 0] }
  (d.quillAny l).onQuill l fun u => { u with run := none }

/-- A word of a memory of Quill as a debugger names it. -/
def Dev.qMem (d : Dev) (l : Lane) (m : DebugMem) (n : Nat) : Word :=
  match m with
  | .data => d.qData l (n % 4096)
  | .coef => d.word l (qCoefAddr (n / 2 % 1024) + 4 * (n % 2))
  | .prog => (d.quill.at l).half (n / 8192 % 2) (n / 2 % 4096) (n % 2)

/-- A debugger sets a word of a memory of Quill. -/
def Dev.qSetMem (d : Dev) (l : Lane) (m : DebugMem) (n : Nat) (v : Word) : Dev :=
  match m with
  | .data => d.qSetData l (n % 4096) v
  | .coef => d.setWord l (qCoefAddr (n / 2 % 1024) + 4 * (n % 2)) (if n % 2 = 1 then v &&& 0x3F#32 else v)
  | .prog => d.onQuill l fun u => u.setHalf (n / 8192 % 2) (n / 2 % 4096) (n % 2) v

/-- DEBUG_ACTION on a held Quill in STANDBY or MAINTENANCE (R319): it resumes, steps one instruction, or reads or writes a register or a
memory word. The action reaches both copies, so the checker does not see it. In every mode DEBUG reads the memories. -/
def Dev.debugQuill (d : Dev) (l : Lane) (a : DebugAct) : Dev :=
  if !d.debugReaches l ∨ !(readsMem a || ((d.lanes.at l).haltedQuill && d.modeIs [.standby, .maintenance])) then d
  else match a with
    | .resume => (d.onLane l fun s => { s with haltedQuill := false }).qNext l d.now
    | .step => if (d.quill.at l).run.isSome then d else d.quillStep l
    | .writeReg r v => d.onQuill l fun u => { u with q := u.q.setIfInBounds r.val v }
    | .writeMem m n v => d.qSetMem l m n v
    | .readReg r => { d with host := { d.host with readData := [(d.quill.at l).q.getD r.val 0] } }
    | .readMem m n => { d with host := { d.host with readData := [d.qMem l m n] } }

end Sys2Proof.Machine
end

