-- ==== Sys2Proof/Machine/Field.lean ====
section
/-! DEFINITION. Chapter 07: the field units of both lanes. Angles, references and the speed rule are formed here; the control law
itself is Quill's program (R308). -/

namespace Sys2Proof.Machine

/-- Raise source k of an axis with its CAUSE bit (R283, R284); the ACTIVE lane's unit raises it. -/
def Dev.fRaise (d : Dev) (x : Fin 2) (k : Nat) : Dev :=
  (if k < 12 then d.cause (pgFIELD x) k else d).raise (160 + 16 * x.val + k)

/-- The lane is the one whose unit acts for the axis: the ACTIVE lane. -/
def Dev.actsFor (d : Dev) (l : Lane) : Bool := d.active == some l

/-- A lane's unit sees the event k of an axis: the ACTIVE lane's raises it; the standby lane's goes to Ledger where the ACTIVE unit does not
see the event, as `seen` tells of its state, and changes no axis state (R283, R445). -/
def Dev.fSees (d : Dev) (l : Lane) (x : Fin 2) (k : Nat) (seen : FieldUnit → Bool) : Dev :=
  if d.actsFor l then d.fRaise x k
  else if d.active.any fun a => seen (d.fieldU a x) then d
  else (d.cause (pgFIELD x) k).raiseBy l (160 + 16 * x.val + k)

/-! ## Sensor angle (R258 to R260) -/

/-- The enabled channel of an ANGSRC field: unit lane, channel, index among the records. -/
def angChan (code : Nat) : Option (Lane × Fin 4 × Fin 8) :=
  if code / 64 % 2 = 0 then none
  else
    let c : Fin 4 := ⟨code % 4, by omega⟩
    if code / 32 % 2 = 0 then some (.a, c, ⟨c.val, by omega⟩) else some (.b, c, ⟨4 + c.val, by omega⟩)

/-- REFD and INVALID of a record. -/
def PosRec.refd (r : PosRec) : Bool := r.state.getLsbD 19
def PosRec.invalid (r : PosRec) : Bool := r.state.getLsbD 18

/-- CPR of a position channel. -/
def Dev.chCpr (d : Dev) (u : Lane) (c : Fin 4) : Nat :=
  max 1 ((d.word u (pageAddr (pgPOS u) (0x58 + 0xA8 * c.val))).toNat % 2 ^ 17)

/-- A channel in a lane's view: its record unless it is lost (R258): INVALID, or no record within 30 µs. -/
def Dev.chView (d : Dev) (l : Lane) (code : Nat) : Option (Lane × Fin 4 × PosRec) :=
  match angChan code with
  | none => none
  | some (u, c, k) =>
    let s := (d.pos.at l).ctlRecs[k]
    match s.last with
    | some r => if r.invalid ∨ s.at' + 15000 < d.now then none else some (u, c, r)
    | none => none

/-- The channel a lane selects: PRI, else SEC (R259). -/
def Dev.chSelect (d : Dev) (l : Lane) (x : Fin 2) : Option (Lane × Fin 4 × PosRec) :=
  match d.chView l (d.gl l (pgFIELD x) R.FIELD_ANGSRC_PRI) with
  | some v => some v
  | none => d.chView l (d.gl l (pgFIELD x) R.FIELD_ANGSRC_SEC)

/-- ANGSRC code of a channel. -/
def chCode (u : Lane) (c : Fin 4) : Nat := 64 + 32 * u.idx + c.val

/-- The electrical angle of a record without ANG_OFS (R258). -/
def Dev.recAngle (d : Dev) (l : Lane) (x : Fin 2) (u : Lane) (c : Fin 4) (r : PosRec) : Nat :=
  let pp := d.gl l (pgFIELD x) R.FIELD_ANGSRC_PP
  match d.chSel u c with
  | 3 => r.angle.toNat
  | 4 => r.angle.toNat * pp % 2 ^ 32
  | _ => (r.revpos * pp % d.chCpr u c) * 2 ^ 32 / d.chCpr u c

/-- The rate of a record in Q16.16 LSB per tick, a signed 32-bit number (R248). DESIGN CHOICE: it saturates. -/
def Dev.recRate (d : Dev) (l : Lane) (x : Fin 2) (u : Lane) (c : Fin 4) (r : PosRec) : Int :=
  sat32 (divNearest (r.speed * d.gl l (pgFIELD x) R.FIELD_ANGSRC_PP * 2 ^ 40) (d.chCpr u c * 500000000))

/-- The sensor angle with its stamp and its rate; none without a channel, or while the channel is unreferenced and ALIGN has not set
its offset (R258). -/
def Dev.sensorAngle (d : Dev) (l : Lane) (x : Fin 2) : Option (Nat × Nat × Int) :=
  match d.chSelect l x with
  | none => none
  | some (u, c, r) =>
    if r.refd ∨ d.axes[x].aligned.contains (chCode u c) then
      some (angWrap (d.recAngle l x u c r + d.gl l (pgFIELD x) R.FIELD_ANG_OFS_OFS), r.stamp, d.recRate l x u c r)
    else none

/-- An angle carried by its rate over some ticks. -/
def angMove (a : Nat) (rate : Int) (dt : Int) : Nat := angWrap (a + rate * dt / 65536)

/-! ## Currents of the period (R237 to R242) -/

/-- The case of a winding set (R239, R240): 0 MEASURED, 1 COMPLETED, 2 PREDICTED. -/
def caseOf (mask : Nat) (is : List Int) (tol : Int) : Nat :=
  let (err, r) := recon (is.getD 0 0) (is.getD 1 0) (is.getD 2 0) mask tol
  if r.isNone then 2 else if err || mask % 8 != 7 then 1 else 0

/-- The frames of an axis (R296). -/
def Dev.axisFrames (d : Dev) (x : Fin 2) : List Nat :=
  if d.powerCfg = 1 then [0, 1] else if d.powerCfg = 2 then [0] else [x.val]

/-- Classify the period (R239, R240, R242): CASE, PRED_RUN, PREDICT_LIMIT once per run. In HEXA the worse set decides. A period in which no
leg of the axis delivers a word has no valid phase. -/
def Dev.classify (d : Dev) (l : Lane) (x : Fin 2) : Dev :=
  let p := pgFIELD x
  let fresh := (d.axisLegs x).any fun n => match ((d.meas.at l).words[n]).at' with
    | some t => decide ((d.fieldU l x).lastAt < t)
    | none => false
  let t := (d.mods.at l).tb (if d.gl l (pgMOD l) R.MOD_LEG_CFG_TB ((d.axisLegs x).headD 0).val = 1 then 1 else 0)
  let none' := (d.axisLegs x).all fun n => !d.grpWen l (if n.val < 3 then 0 else 1) ⟨n.val % 3, by omega⟩
  if !fresh && !(none' && t.running && (d.fieldU l x).classed != t.t0) then d
  else
    let d := d.onFieldU l x fun u => { u with classed := t.t0 }
    let tol : Int := d.gl l p R.FIELD_RECON_SUMTOL * 2 ^ 15
    let cs := (d.axisFrames x).map fun f => caseOf (d.frameMask l f 0) ((d.frameCur l f 0).map (·.1)) tol
    let c := cs.foldl max 0
    let run := if c = 2 then d.gl l p R.FIELD_PRED_RUN_VALUE + 1 else 0
    let d := (d.sl l p R.FIELD_STATE_CASE c).sl l p R.FIELD_PRED_RUN_VALUE run
    if run = 0 then d.onFieldU l x fun u => { u with predRaised := false }
    else if d.gl l p R.FIELD_RECON_PLIM < run ∧ !(d.fieldU l x).predRaised then
      (d.onFieldU l x fun u => { u with predRaised := true }).fSees l x 0 (·.predRaised)
    else d

/-! ## Observer and injection (R261 to R265) -/

/-- The period's currents of an axis in stator coordinates (R239, R243), of set 1 in HEXA; those that Quill reported last where the
period is predicted. -/
def Dev.periodCurrents (d : Dev) (l : Lane) (x : Fin 2) : Int × Int :=
  let p := pgFIELD x
  let f := (d.axisFrames x).headD 0
  let is := (d.frameCur l f 0).map (·.1)
  let mask := d.frameMask l f 0
  match (recon (is.getD 0 0) (is.getD 1 0) (is.getD 2 0) mask (d.gl l p R.FIELD_RECON_SUMTOL * 2 ^ 15)).2 with
  | some (a, b, _) => if mask / 64 % 2 = 1 then (a, b) else (a, sat32 (shiftRound ((a + 2 * b) * 619925131) 30))
  | none => invPark (d.glS l p R.FIELD_ID_VALUE) (d.glS l p R.FIELD_IQ_VALUE) (d.fieldU l x).runM

/-- The voltage of the axis's last run in stator coordinates, with what the unit added to it or put in its place (R263, R264); 0 where the
axis does not switch. -/
def Dev.runVolts (d : Dev) (l : Lane) (x : Fin 2) : Int × Int :=
  let p := pgFIELD x
  let u := d.fieldU l x
  let run := invPark (d.glS l p R.FIELD_VD_VALUE) (d.glS l p R.FIELD_VQ_VALUE) u.runX
  if d.gl l p R.FIELD_STATE_PULSES = 0 then (0, 0)
  else match u.vForm with
    | none => run
    | some (alone, vd) =>
      let add := invPark vd 0 u.thH
      if alone then add else (sat32 (run.1 + add.1), sat32 (run.2 + add.2))

/-- Park (R243). -/
def park (a b : Int) (th : Nat) : Int × Int :=
  let (c, s) := cosSin th
  (sat32 (shiftRound (a * c + b * s) 30), sat32 (shiftRound (b * c - a * s) 30))

/-- A coefficient product on a FIELD page (R22). -/
def Dev.fCoef (d : Dev) (l : Lane) (x : Fin 2) (k : Nat) (v : Int) : Int := d.qTimes l (16 * x.val + k) v

/-- A Q2.30 number of radians as a binary angle. -/
def radToAng (e : Int) : Int := divNearest (e * 2 ^ 70) halfPi

/-- |rate| in Hz is at least h / 16 (R248). -/
def rateAtLeast (rate : Int) (h : Nat) : Bool := h * 2 ^ 48 ≤ rate.natAbs * 500000000 * 16

/-- One PLL of the form of R261: angle and rate after a period. -/
def pll (th : Nat) (rate per kpE kiE : Int) : Nat × Int :=
  let rate := sat32 (rate + divNearest (radToAng kiE * 65536) per.toNat)
  (angWrap (th + rate * per / 65536 + radToAng kpE), rate)

/-- The period of the axis's timebase in a lane, in ticks. -/
def Dev.axisPer (d : Dev) (l : Lane) (x : Fin 2) : Nat :=
  let n : Fin 6 := (d.axisLegs x).headD 0
  let t : Fin 2 := if d.gl l (pgMOD l) R.MOD_LEG_CFG_TB n.val = 1 then 1 else 0
  max 1 ((d.mods.at l).tb t).per

/-- One period of the observer (R261, R262): the voltage is that of the run before the last one, which applied in the previous
period. -/
def Dev.observe (d : Dev) (l : Lane) (x : Fin 2) : Dev :=
  let p := pgFIELD x
  let u := d.fieldU l x
  let per : Int := d.axisPer l x
  let (va, vb) := (u.vaNext, u.vbNext)
  let (ia, ib) := d.periodCurrents l x
  let next := d.runVolts l x
  let k := d.fCoef l x
  let (c, s) := cosSin u.thO
  let step := fun (lam v i ip cs : Int) =>
    let m := sat32 (lam + k 14 (sat32 (v - k 0 i)) - (k 13 i - k 13 ip))
    sat32 (m + k 10 (sat32 (cs - m)))
  let la := step u.lamA va ia u.iaPrev c
  let lb := step u.lamB vb ib u.ibPrev s
  let mag := hypot la lb
  let e := if mag = 0 then Config.nullFluxError else sat32 (divNearest (lb * c - la * s) mag)
  let (th, rate) := pll u.thO u.rateO per (k 6 e) (k 7 e)
  let avg := u.eAvg + divNearest ((e.natAbs : Int) - u.eAvg) 16
  let good := avg < d.gl l p R.FIELD_OBS_LOCK * 2 ^ 18 && 2 ^ 29 ≤ mag && mag < 3 * 2 ^ 29 &&
    rateAtLeast rate (d.gl l p R.FIELD_BAND_HB_LO)
  let n := d.gl l p R.FIELD_OBS_N
  let okRun := if good then u.okRun + 1 else 0
  let badRun := if good then 0 else u.badRun + 1
  let locked := if n ≤ okRun then true else if n ≤ badRun then false else u.locked
  let d := d.onFieldU l x fun u => { u with
    vaNext := next.1, vbNext := next.2, lamA := la, lamB := lb, iaPrev := ia, ibPrev := ib, thO := th, rateO := rate, eAvg := avg, okRun := okRun, badRun := badRun, locked := locked }
  let d := d.sl l p R.FIELD_STATE_OBS_LOCK (if locked then 1 else 0)
  if u.locked ∧ !locked then d.fSees l x 2 (!·.locked) else d

/-- The polarity test's next period (R264); `i` is |id| along the estimated d-axis. -/
def Dev.polarity (d : Dev) (l : Lane) (x : Fin 2) (i : Nat) : Dev :=
  let p := pgFIELD x
  let u := d.fieldU l x
  let n := d.gl l p R.FIELD_POL_N
  let upd := fun (f : FieldUnit → FieldUnit) => d.onFieldU l x f
  if u.polStep = 0 then upd fun u => { u with polStep := 1, polN := 0, polP := 0, polM := 0 }
  else if u.polStep = 1 then
    if u.polN + 1 < n then upd fun u => { u with polN := u.polN + 1, polP := max u.polP i }
    else upd fun u => { u with polStep := 2, polN := 0, polP := max u.polP i }
  else if u.polStep = 2 then (if i * 100 < 2 ^ 30 then upd fun u => { u with polStep := 3, polN := 0 } else d)
  else if u.polN + 1 < n then upd fun u => { u with polN := u.polN + 1, polM := max u.polM i }
  else
    let m := max u.polM i
    let lim : Int := d.gl l p R.FIELD_POL_MARGIN * u.polP
    if lim < 256 * ((u.polP : Int) - m) then upd fun u => { u with polDone := true, polStep := 0 }
    else if lim < 256 * ((m : Int) - u.polP) then
      upd fun u => { u with polDone := true, polStep := 0, thH := (u.thH + 2 ^ 31) % 2 ^ 32 }
    else
      let tries := u.polTries + 1
      let d := upd fun u => { u with polStep := 0, polTries := tries }
      if tries = 3 then d.fSees l x 8 fun u => decide (3 ≤ u.polTries) else d

/-- What injection adds to the d-axis voltage of period k (R263), where `s` is s_k; a polarity test that runs has the voltage of its step
alone (R264). -/
def Dev.injected (d : Dev) (l : Lane) (x : Fin 2) (s : Int) : Bool × Int :=
  let p := pgFIELD x
  let u := d.fieldU l x
  if u.hfiOk ∧ !u.polDone then
    (true, match u.polStep with
      | 1 => d.glS l p R.FIELD_POL_VPOL * 2 ^ 15
      | 3 => -(d.glS l p R.FIELD_POL_VPOL * 2 ^ 15)
      | _ => 0)
  else (false, s * (d.glS l p R.FIELD_HFI_VINJ * 2 ^ 15))

/-- One period of the injection (R263 to R265), in FOC. It runs where |rate| < HB_HI and HFI.EN = 1, while the axis switches or waits at
standstill in its catch. -/
def Dev.inject (d : Dev) (l : Lane) (x : Fin 2) : Dev :=
  let p := pgFIELD x
  let u := d.fieldU l x
  let cur := d.periodCurrents l x
  let (i, iq) := park cur.1 cur.2 u.thH
  let runs := d.gl l p R.FIELD_AXCFG_MODE == 0 && d.gl l p R.FIELD_HFI_EN == 1 && !rateAtLeast u.rate (d.gl l p R.FIELD_BAND_HB_HI) &&
    (d.axState x == .run || (d.axState x == .catching && (d.axes[x].standstill || d.axes[x].starts)))
  let d := d.sl l p R.FIELD_STATE_HFI_ON (if runs then 1 else 0)
  if !runs then d.onFieldU l x fun u => { u with hfiOn := false, hfiErr := [], hfiRun := 0, hfiOk := false, polStep := 0, polDone := false,
                                                 polTries := 0, vForm := none, idPrev := i, iqPrev := iq }
  else
    let sgn : Int := (if u.odd then 1 else -1) * (if d.gl l p R.FIELD_HFI_SIGN = 1 then -1 else 1)
    let e := sat32 (sgn * (iq - u.iqPrev))
    let (th, rate) := pll u.thH u.rateH (d.axisPer l x) (d.fCoef l x 8 e) (d.fCoef l x 9 e)
    let errs := (e.natAbs :: u.hfiErr).take 16
    let low := errs.length == 16 && errs.foldl (· + ·) 0 < 16 * (d.gl l p R.FIELD_HFI_LOCK * 2 ^ 18)
    let run := if low then u.hfiRun + 1 else 0
    let d := d.onFieldU l x fun u => { u with hfiOn := true, odd := !u.odd, idPrev := i, iqPrev := iq, thH := th, rateH := rate, hfiErr := errs,
                                              hfiRun := run, hfiOk := u.hfiOk || 64 ≤ run }
    let d := if (d.fieldU l x).hfiOk ∧ !(d.fieldU l x).polDone then d.polarity l x i.natAbs else d
    d.onFieldU l x fun f => { f with vForm := some (d.injected l x (if u.odd then -1 else 1)) }

/-- The observer angle and its rate (R265), none where no source of it stands. -/
def Dev.observerAngle (d : Dev) (l : Lane) (x : Fin 2) : Option (Nat × Int) :=
  let p := pgFIELD x
  let u := d.fieldU l x
  let lo := d.gl l p R.FIELD_BAND_HB_LO
  let hi := d.gl l p R.FIELD_BAND_HB_HI
  let inj := u.hfiOn && u.hfiOk && u.polDone
  if !rateAtLeast u.rate lo then (if inj then some (u.thH, u.rateH) else none)
  else if rateAtLeast u.rate hi then (if u.locked then some (u.thO, u.rateO) else none)
  else match inj, u.locked with
    | true, true =>
      let num : Int := (u.rate.natAbs * 8000000000 : Nat) - (lo * 2 ^ 48 : Nat)
      let w := divNearest (angDiff u.thO u.thH * num) ((hi - lo) * 2 ^ 48)
      some (angWrap (u.thH + w), u.rateO)
    | true, false => some (u.thH, u.rateH)
    | false, true => some (u.thO, u.rateO)
    | false, false => none

/-! ## Angle in use (R266 to R268) -/

/-- Select the period's angle with its instant, its rate and its ASRC. -/
def Dev.fuse (d : Dev) (l : Lane) (x : Fin 2) (s o : Option (Nat × Nat × Int)) : Option (Nat × Nat × Int × Nat) :=
  match s, o with
  | some (a, t, r), some (b, k, q) =>
    (match d.gl l (pgFIELD x) R.FIELD_FUSE_MODE with
     | 0 => some (a, t, r, 1)
     | 1 => some (b, k, q, 2)
     | _ =>
       let w : Int := if rateAtLeast (d.fieldU l x).rate (d.gl l (pgFIELD x) R.FIELD_BAND_HB_HI)
         then d.gl l (pgFIELD x) R.FIELD_FUSE_W else 0
       some (angWrap (a + divNearest (w * angDiff b (angMove a r (k - t : Int))) 256), t, r, 3))
  | some (a, t, r), none => some (a, t, r, 1)
  | none, some (b, k, q) => some (b, k, q, 2)
  | none, none => none

/-- The angle part of a period at the present tick (R259 to R268). DESIGN CHOICE (log 136): the observer's and the injection's angles stand
for the tick of FIELD_PERIOD. The angle in use keeps the instant it stands for, so that it is
carried by one product (R260). -/
def Dev.angles (d : Dev) (l : Lane) (x : Fin 2) : Dev :=
  let p := pgFIELD x
  let was := d.fieldU l x
  let base := (d.sensorAngle l x).map fun s => (s.1, ((d.now : Int) - stampDiff d.now s.2.1).toNat, s.2.2)
  let sens := base.map fun s => (angMove s.1 s.2.2 ((d.now : Int) - s.2.1), s.2.2)
  let obs := d.observerAngle l x
  let key := fun (v : Option (Lane × Fin 4 × PosRec)) => v.map fun k => chCode k.1 k.2.1
  let d := if d.up (.ctl l.other) ∧ key (d.chSelect l x) ≠ key (d.chSelect l.other x) then
      d.sl l p R.FIELD_FLAGS_SOURCE_SPLIT 1 else d
  let far : Bool := match sens, obs with
    | some (a, _), some (b, _) => d.gl l p R.FIELD_FUSE_TOL * 2 ^ 24 < (angDiff b a).natAbs
    | _, _ => false
  let n := if far then was.disagree + 1 else 0
  let d := d.onFieldU l x fun u => { u with disagree := n }
  let d := if n = 16 then d.fSees l x 4 fun u => decide (16 ≤ u.disagree) else d
  let d := if was.sensor ∧ sens.isNone then d.fSees l x 1 (!·.sensor) else d
  let d := d.onFieldU l x fun u => { u with sensor := sens.isSome }
  let d := match sens with
    | some (a, r) => (d.sl l p R.FIELD_THETA_S_VALUE a).onFieldU l x fun u => { u with thO := a, rateO := r }
    | none => d
  let d := match obs with
    | some (b, _) => d.sl l p R.FIELD_THETA_O_VALUE b
    | none => d
  match d.fuse l x base (obs.map fun o => (o.1, d.now, o.2)) with
  | some (a, t, r, src) =>
    let d := d.onFieldU l x fun u => { u with hasAngle := true, angle := a, angleAt := t, rate := r, neg := if r = 0 then u.neg else decide (r < 0) }
    ((d.sl l p R.FIELD_STATE_ASRC src).sl l p R.FIELD_THETA_VALUE ((d.fieldU l x).angleOf d.now)).slS l p R.FIELD_RATE_VALUE r
  | none =>
    let d := (d.onFieldU l x fun u => { u with hasAngle := false }).sl l p R.FIELD_STATE_ASRC 0
    if was.hasAngle then d.fSees l x 3 (!·.hasAngle) else d

/-! ## References (R245, R250 to R255) -/

/-- Vmax of R245, of R355 for a two-phase set. -/
def Dev.vmaxOf (d : Dev) (l : Lane) (x : Fin 2) (vdc : Int) : Int :=
  let k := d.gl l (pgFIELD x) R.FIELD_LIMITS_KMOD
  let k : Int := if k = 1023 then 1024 else k
  let two := d.powerCfg == 3 && x == 1 && d.gl l (pgFIELD x) R.FIELD_AXCFG_TPH == 1
  if two then divRoundAway (k * vdc) 2048
  else if vdc < 0 then 0 else sqrtNear ((k * vdc).toNat ^ 2 / (3 * 2 ^ 20))

/-- A cell of the active map bank: id and iq in Q1.15. -/
def Dev.mapCell (d : Dev) (l : Lane) (x : Fin 2) (i j : Nat) : Int × Int :=
  let b := d.gl l (pgFIELD x) R.FIELD_MAPCFG_BANK
  let w := d.word l (rgMAP + 0x8000 * x.val + 0x2400 * b + (i * 48 + j) * 4)
  ((w.extractLsb' 16 16).toInt, (w.extractLsb' 0 16).toInt)

/-- The map at ux = un / ud and uy = vn / vd, both clamped to [0, 47] (R251), rounded to Q2.30. -/
def Dev.mapLookup (d : Dev) (l : Lane) (x : Fin 2) (un ud vn vd : Nat) : Int × Int :=
  let un := min un (47 * ud)
  let vn := min vn (47 * vd)
  let i := min (un / ud) 46
  let j := min (vn / vd) 46
  let fx : Int := un - i * ud
  let fy : Int := vn - j * vd
  let gx : Int := ud - fx
  let gy : Int := vd - fy
  let c := fun (a b : Nat) => d.mapCell l x (i + a) (j + b)
  let mix := fun (f : Int × Int → Int) =>
    divNearest ((gx * gy * f (c 0 0) + fx * gy * f (c 1 0) + gx * fy * f (c 0 1) + fx * fy * f (c 1 1)) * 2 ^ 15) (ud * vd)
  (mix (·.1), mix (·.2))

/-- The torque command in force (R250, R274): TCMD, or its ramp to zero during a STOP, 0 outside RUN. -/
def Dev.torqueCommand (d : Dev) (l : Lane) (x : Fin 2) : Int :=
  let t := d.glS l (pgFIELD x) R.FIELD_TCMD_T
  let s := d.axes[x]
  if d.axState x ≠ .run then 0
  else if s.stopping then
    let drop : Int := if s.ramp = 0 then 2 ^ 31 else ((d.now - s.stopAt) * 2 ^ 30 / (s.ramp * 500000) : Nat)
    if t < 0 then min 0 (t + drop) else max 0 (t - drop)
  else t

/-- The windings method drives the axis (R424): a FOC axis in DISCHARGE whose speed rule gives OFF, below HB_LO, not in ASC, with the DC
link at 60 V or above. The method is the one that the entry took (R422). -/
def Dev.windsNow (d : Dev) (l : Lane) (x : Fin 2) : Bool :=
  let p := pgFIELD x
  d.modeIs [.discharge] && (d.mode.method == 1 || d.mode.method == 2) && d.gl l p R.FIELD_AXCFG_EN == 1 && d.gl l p R.FIELD_AXCFG_MODE == 0 &&
  d.gl l p R.FIELD_STATE_RULE == 0 && !rateAtLeast (d.fieldU l x).rate (d.gl l p R.FIELD_BAND_HB_LO) &&
  d.gl l p R.FIELD_STATE_ASC == 0 && !d.dcDead

/-- The windings method's part in a period (R422, R424): the sign turns every period, and STATE.PULSES is 1 while the axis switches. -/
def Dev.windings (d : Dev) (l : Lane) (x : Fin 2) : Dev :=
  let on := d.windsNow l x
  let was := (d.fieldU l x).winds
  let d := d.onFieldU l x fun u => { u with winds := on, windNeg := on && !u.windNeg }
  if !d.actsFor l then d
  else if on ∧ !was then (d.s (pgFIELD x) R.FIELD_STATE_PULSES 1).axisDefer x (.pulses x)
  else if was ∧ !on then d.pulsesOff x
  else d

/-- The id reference of the windings method (R424). -/
def Dev.windRef (d : Dev) (l : Lane) (x : Fin 2) : Int :=
  let u := d.fieldU l x
  let i := divNearest (d.g pgPROT R.PROT_DISCH_WIND_I * (d.gl l (pgFIELD x) R.FIELD_LIMITS_IMAX * 2 ^ 15)) 256
  if u.windNeg ∧ !u.hasAngle then i else -i

/-- id and iq references of the period (R250 to R255, R424); they start at 0 after a synchronisation, through the first switched period
(R281). -/
def Dev.references (d : Dev) (l : Lane) (x : Fin 2) : Dev :=
  let p := pgFIELD x
  let u := d.fieldU l x
  let vdc := d.vdcPu l
  let vmax := d.vmaxOf l x vdc
  let put := fun (d : Dev) (i q : Int) => d.onFieldU l x fun u => { u with idRef := i, iqRef := q, vdc := vdc, vmax := vmax }
  if d.axState x = .align then put d (d.glS l p R.FIELD_ALIGN_I * 2 ^ 15) 0
  else if u.winds then put d (d.windRef l x) 0
  else if d.axState x = .catching ∨ d.axes[x].sync then put d 0 0
  else
    let t := d.torqueCommand l x
    let emf := (d.fCoef l x 3 u.rate.natAbs).natAbs
    let den := emf * d.gl l p R.FIELD_MAPCFG_PSIMAX
    let (vn, vd) := if den = 0 then (47, 1) else (vmax.toNat * 47 * 2 ^ 14, den)
    let (i0, q0) := d.mapLookup l x (t.natAbs * 47) (2 ^ 30) vn vd
    let q0 := if t < 0 then -q0 else q0
    let fw := d.gl l p R.FIELD_FW_EN == 1 || d.gl l pgSYS R.SYS_CONFIG_SIZE == 0
    let i0 := if fw ∧ d.gl l p R.FIELD_AXCFG_MODE = 0 then i0 + d.glS l p R.FIELD_DID_VALUE else i0
    let imax : Int := d.gl l p R.FIELD_LIMITS_IMAX * 2 ^ 15
    let i := clampInt (-imax) 0 i0
    let lim : Int := isqrt (imax * imax - i * i).toNat
    let q := clampInt (-lim) lim q0
    put (if q = q0 then d else d.sl l p R.FIELD_FLAGS_CURRENT_LIMIT 1) i q

/-! ## Speed rule (R269 to R271) -/

/-- E = √3 × |rate| × KPSI per unit (R269); in HOLD and CATCH the catch measurement stands in where no rate source exists. -/
def Dev.emfOf (d : Dev) (l : Lane) (x : Fin 2) : Int :=
  let u := d.fieldU l x
  let e := fun (_ : Unit) => (sqrtNear (3 * (d.fCoef l x 3 u.rate.natAbs).natAbs ^ 2) : Int)
  if !u.hasAngle ∧ (d.axState x = .hold ∨ d.axState x = .catching) then (d.axes[x].catchE).getD (e ()) else e ()

/-- ASC is permitted on a side of a bridge of the axis (R270, R415). -/
def Dev.axisAscOk (d : Dev) (x : Fin 2) : Bool := (d.axisBridges x).any fun b => (d.ascSide b).isSome

/-- Evaluate the speed rule in a lane, against its own DC-link reading: EMF, RULE. The 0.95 factor is fixed. -/
def Dev.speedRule (d : Dev) (l : Lane) (x : Fin 2) : Dev :=
  let p := pgFIELD x
  let e := d.emfOf l x
  let asc := 95 * d.vdcPu l ≤ 100 * e
  (d.slS l p R.FIELD_EMF_VALUE e).sl l p R.FIELD_STATE_RULE (if !asc then 0 else if d.axisAscOk x then 1 else 2)

/-- A trip holds an output forced on at its leg's safe level (R379, R381). -/
def Dev.tripHeldOn (d : Dev) (l : Lane) (n : Fin 6) (high : Bool) : Bool :=
  let b := d.bridges[d.legBridge n]
  d.latchedLegs l / 2 ^ n.val % 2 == 1 && !b.ascL && !b.ascH && legLevel ((d.mods.at l).legs[n]) high d.now

/-- The standing fallback state of an output in a lane (R35). -/
def Dev.fallOf (d : Dev) (l : Lane) (o : OutIx) : Fallback :=
  match outLeg o with
  | none => .off
  | some n =>
    let p := pgFIELD (d.legAxis n)
    let asc := d.gl l p R.FIELD_STATE_RULE ≠ 0 ∧ (d.gl l p R.FIELD_AXCFG_EN = 1 ∨ d.supervisor)
    if asc then (if d.ascSide (d.legBridge n) = some (outIsHigh o) then .asc else .off)
    else if d.tripHeldOn l n (outIsHigh o) then .holdLastSafe else .off

/-- The lane computes the standing fallback state and the STO-ASC flag of its frames (R35); without an isolated connection the flag stays
(R40). -/
def Dev.fallbackSet (d : Dev) (l : Lane) : Dev :=
  d.onProt l fun p => { p with fall := Vector.ofFn fun o => d.fallOf l o, stoAsc := if d.isoUp l then d.ascSto else p.stoAsc }

/-- The axis is in ASC on some bridge. -/
def Dev.inAsc (d : Dev) (x : Fin 2) : Bool := (d.axisBridges x).any fun b => d.bridges[b].ascL || d.bridges[b].ascH

/-- ASC of an axis is to end at a period start (R271, R416), where a catch window opens if `window` says so. -/
def Dev.leaveAsc (d : Dev) (x : Fin 2) (window : Bool) : Dev :=
  if d.axes[x].ascEnds then d else (d.onAxis x fun s => { s with ascEnds := true, ascCatch := window }).axisDefer x (.ascEnd x)

/-- No bridge of the axis is held off for want of a side any more: the speed rule gives OFF (R417). -/
def Dev.ruleOff (d : Dev) (x : Fin 2) : Dev :=
  (d.axisBridges x).foldl (fun d b => if d.bridges[b].uncontrolled then d.onBridge b fun s => { s with uncontrolled := false } else d) d

/-- A bridge of the axis is not in ASC. -/
def Dev.ascMissing (d : Dev) (x : Fin 2) : Bool := (d.axisBridges x).any fun b => !d.bridges[b].ascL && !d.bridges[b].ascH

/-- In HOLD, and in OFF in the modes of protective switching, the rule starts ASC on the bridges that are not in it (R93, R94, R415,
R417); E below 0.92 × Vdc ends it, in CATCH too; in OFF the last rate in use counts (R269, R271). -/
def Dev.holdRule (d : Dev) (l : Lane) (x : Fin 2) : Dev :=
  let st := d.axState x
  if !d.actsFor l then d
  else
    let d := if d.g (pgFIELD x) R.FIELD_STATE_RULE = 0 then d.ruleOff x else d
    if !([AxState.hold, .off, .catching].contains st) then d
    else if d.inAsc x ∧ (st = .off ∨ (d.fieldU l x).hasAngle) ∧ 100 * d.emfOf l x < 92 * d.vdcPu l then d.leaveAsc x false
    else if d.ascMissing x ∧ !d.axes[x].ascEnds ∧
        ((st = .hold ∧ d.g (pgFIELD x) R.FIELD_STATE_RULE ≠ 0 ∧ !d.axes[x].released) ∨ d.offAsc x) then Dev.noSide (d.wantAsc x)
    else d

/-! ## Catch, start and stop (R272 to R282) -/

/-- The channel count rate that a rate stands for, in counts/s × 2^16, through the axis's selected channel, else its PRI channel
(R248, R281), rounded as R329 has it. -/
def Dev.rateToCounts (d : Dev) (l : Lane) (x : Fin 2) (rate : Int) : Int :=
  let p := pgFIELD x
  let cpr := match d.chSelect l x with
    | some (u, c, _) => d.chCpr u c
    | none => (match angChan (d.gl l p R.FIELD_ANGSRC_PRI) with
      | some (u, c, _) => d.chCpr u c
      | none => 1)
  divRoundAway (rate * cpr * 500000000) (d.gl l p R.FIELD_ANGSRC_PP * 2 ^ 32)

/-- Synchronise (R281): the observer and the injection PLL of both lanes are preset, and the observer counts as locked; DEDUCED (log 136): so
does the injection, whose angle with its polarity is the preset one. The motion unit takes the
velocity, and pulses start at the next period start, where the axis enters RUN, or STEP. A STEP axis needs no angle source: it has the one
that its sensor gives (R268, R354). -/
def Dev.synchronise (d : Dev) (x : Fin 2) (ang : Nat) (rate : Int) : Dev :=
  let p := pgFIELD x
  let d := d.eachLane fun d l => d.onFieldU l x fun u => { u with
    hasAngle := u.hasAngle || d.g p R.FIELD_AXCFG_MODE != 2, angle := ang, angleAt := d.now, rate := rate
    neg := if rate = 0 then u.neg else decide (rate < 0),
    thO := ang, rateO := rate, thH := ang, rateH := rate, locked := true, okRun := d.gl l p R.FIELD_OBS_N, badRun := 0, idRef := 0, iqRef := 0
    hfiOk := u.hfiOk || d.g p R.FIELD_HFI_EN == 1, polDone := u.polDone || d.g p R.FIELD_HFI_EN == 1, polStep := 0 }
  let step := d.g p R.FIELD_AXCFG_MODE = 2
  let v := d.rateToCounts ((d.active).getD .a) x rate
  let d := d.onAxis x fun s => { s with starts := true, standstill := false, catchWin := none, samples := [], stopping := false,
                                        lrAt := none, catchE := none, released := false }
  let d := if step then d else d.eachUnit x fun d => d.onMotion x fun m => { m with v := v }
  (d.s p R.FIELD_STATE_OBS_LOCK 1).axisDefer x (.pulses x)

/-- The axis goes to OFF (R273): its pulses end. -/
def Dev.axisGoesOff (d : Dev) (x : Fin 2) : Dev :=
  let d := (d.pulsesOff x).onAxis x fun s => { s with stopping := false, cmdStage := 0, catchWin := none, samples := [], standstill := false,
                                                      starts := false, sync := false, released := false, ascCatch := false }
  (d.setAx x .off)

/-- A catch that fails (R273 row 8, R280, R282). -/
def Dev.catchFails (d : Dev) (x : Fin 2) (refuse k : Nat) : Dev :=
  ((d.s (pgFIELD x) R.FIELD_STATE_REFUSE refuse).fRaise x k).axisGoesOff x

/-- Open a catch window now (R278). -/
def Dev.openCatch (d : Dev) (x : Fin 2) : Dev :=
  d.onAxis x fun s => { s with catchWin := some d.now, samples := [], early := false, catchNext := d.now }

/-- The axis enters CATCH (rows 5 and 11 of R273): with a sensor angle the measurement is skipped (R277), and one in ASC waits for
its release (R271). -/
def Dev.enterCatch (d : Dev) (x : Fin 2) : Dev :=
  let d := (d.s (pgFIELD x) R.FIELD_STATE_REFUSE 0).onAxis x fun s => { s with
    catchAt := d.now, tries := 0, standstill := false, catchE := none, released := false, causes := {} }
  let d := d.setAx x .catching
  if d.inAsc x ∨ (d.sensorAngle ((d.active).getD .a) x).isSome then d else d.openCatch x

/-- AXIS_START (row 5 of R273); none where it is refused with BLOCK: another state or mode, an axis that is not enabled, or a safe
stop request of SS1 (R479). -/
def Dev.axisStart (d : Dev) (x : Fin 2) : Option Dev :=
  let ss1 := d.axes[x].ss1Req.a || d.axes[x].ss1Req.b
  if d.axState x ≠ .off ∨ d.g (pgFIELD x) R.FIELD_AXCFG_EN = 0 ∨ ss1 ∨ !d.axisExists x then none
  else if d.mode.cur ≠ .run then none
  else some (d.enterCatch x)

/-- STATE.REFUSE of a START outside device mode RUN. -/
def Dev.startRefused (d : Dev) (x : Fin 2) : Dev :=
  if d.axState x = .off ∧ d.mode.cur ≠ .run then d.s (pgFIELD x) R.FIELD_STATE_REFUSE 3 else d

/-- AXIS_STOP (row 4 of R273); none outside RUN and STEP. -/
def Dev.axisStopCmd (d : Dev) (x : Fin 2) : Option Dev :=
  if d.axState x = .run ∨ d.axState x = .step then some (d.axisStop x (d.g (pgFIELD x) R.FIELD_CMDTO_TRAMP)) else none

/-- AXIS_OFF (row 3 of R273): OFF where the speed rule gives OFF, HOLD otherwise. -/
def Dev.axisOff (d : Dev) (x : Fin 2) : Option Dev :=
  if [AxState.catching, .align, .run, .step].contains (d.axState x) then
    some (if d.g (pgFIELD x) R.FIELD_STATE_RULE = 0 then d.axisGoesOff x else d.hold x fun c => { c with speed := true })
  else none

/-- AXIS_CLR (row 10 of R273). -/
def Dev.axisClr (d : Dev) (x : Fin 2) : Option Dev :=
  if d.axState x = .hold ∧ !d.causeOpen x ∧ d.g (pgFIELD x) R.FIELD_STATE_RULE = 0 ∧ !d.inAsc x then
    some ((d.onAxis x fun s => { s with causes := {}, afterSto := false }).axisGoesOff x)
  else none

/-- A CMD whose EPOCH differs from ROLE.EPOCH (R272): counted in MISMATCH, reported as ROLE_MISMATCH. -/
def Dev.epochMismatch (d : Dev) (x : Fin 2) : Dev :=
  (d.inc (pgFIELD x) R.FIELD_ROLE_MISMATCH).raise (172 + 16 * x.val)

/-- CMD_TIMEOUT (R274). -/
def Dev.cmdTimeout (d : Dev) (x : Fin 2) : Dev :=
  let p := pgFIELD x
  let tmo := d.g p R.FIELD_CMDTO_TMO * 500000
  let s := d.axes[x]
  if d.axState x ≠ .run ∨ tmo = 0 then d
  else if s.cmdStage = 0 then
    if s.tcmdAt + tmo ≤ d.now then (d.onAxis x fun s => { s with cmdStage := 1 }).fRaise x 9 else d
  else if s.cmdStage = 1 ∧ s.tcmdAt + 2 * tmo ≤ d.now then
    let d := d.onAxis x fun s => { s with cmdStage := 2 }
    match d.g p R.FIELD_CMDTO_ACT with
    | 1 => d.axisStop x (d.g p R.FIELD_CMDTO_TRAMP)
    | 2 => d.hold x fun c => { c with cmdTimeout := true }
    | _ => d
  else d

/-- Enter ALIGN (row 7 of R273, R275). -/
def Dev.enterAlign (d : Dev) (x : Fin 2) : Dev :=
  let d := d.onAxis x fun s => { s with alignAt := d.now, alignPos := none, alignMoved := false, catchWin := none, samples := []
                                        released := false }
  ((d.s (pgFIELD x) R.FIELD_STATE_PULSES 1).setAx x .align)

/-- POS of the channel the ACTIVE lane selects. -/
def Dev.axisPos (d : Dev) (x : Fin 2) : Option Int := (d.chSelect ((d.active).getD .a) x).map (·.2.2.pos)

/-- The sensor stands more than CPR / 64 counts from where it was at the start of ALIGN's last quarter (R275). -/
def Dev.alignDrift (d : Dev) (x : Fin 2) : Bool :=
  match d.axes[x].alignPos, d.chSelect ((d.active).getD .a) x with
  | some p0, some (u, c, r) => decide (d.chCpr u c < 64 * (r.pos - p0).natAbs)
  | _, _ => false

/-- The end of ALIGN (R275). -/
def Dev.alignEnds (d : Dev) (x : Fin 2) : Dev :=
  let p := pgFIELD x
  let s := d.axes[x]
  let l := (d.active).getD .a
  match d.chSelect l x with
  | none => d.synchronise x 0 0
  | some (u, c, r) =>
    if s.alignMoved ∨ d.alignDrift x then d.catchFails x 2 7
    else
      let d := if r.refd then d
        else (d.s p R.FIELD_ANG_OFS_OFS (angWrap (-(d.recAngle l x u c r : Int)))).onAxis x fun s =>
          { s with aligned := chCode u c :: s.aligned }
      d.synchronise x 0 0

/-- ALIGN_COMPLETE (R275): the offset is set so that the record's angle is 0, or ALIGN fails. -/
def Dev.alignComplete (d : Dev) (x : Fin 2) : Dev :=
  let p := pgFIELD x
  let s := d.axes[x]
  if d.axState x ≠ .align ∨ s.starts ∨ d.now < s.alignAt + d.g p R.FIELD_ALIGN_T * 500000 then d
  else d.alignEnds x

/-- The sensor in use of an axis (R266, R267): the selected channel with its POS, while the angle in use comes from it. -/
def Dev.sensorUsed (d : Dev) (l : Lane) (x : Fin 2) : Option (Nat × Int) :=
  if [1, 3].contains (d.gl l (pgFIELD x) R.FIELD_STATE_ASRC) then (d.chSelect l x).map fun v => (chCode v.1 v.2.1, v.2.2.pos) else none

/-- The locked-rotor conditions of R276 over the period, for an axis of the field unit. DESIGN CHOICE (log 136): the change of POS counts
from the first period of the run with the sensor in use, and anew where another channel takes over. -/
def Dev.lockedConds (d : Dev) (l : Lane) (x : Fin 2) : Bool :=
  let p := pgFIELD x
  let u := d.fieldU l x
  let imax := d.gl l p R.FIELD_LIMITS_IMAX * 2 ^ 15
  d.axState x == .run && d.gl l p R.FIELD_LR_I * imax ≤ 256 * u.iqRef.natAbs && !rateAtLeast u.rate (d.gl l p R.FIELD_LR_W) &&
  (match d.axes[x].lrAt, d.axes[x].lrPos, d.sensorUsed l x with
   | some _, some (c0, p0), some (c, q) => c != c0 || (q - p0).natAbs ≤ d.gl l p R.FIELD_LR_POS
   | _, _, _ => true)

/-- Watch the locked-rotor conditions (R276). -/
def Dev.watchLocked (d : Dev) (l : Lane) (x : Fin 2) : Dev :=
  if d.lockedConds l x then
    let now := d.sensorUsed l x
    d.onAxis x fun s =>
      let same : Bool := s.lrAt.isSome && (match s.lrPos, now with
        | some (c0, _), some (c, _) => c == c0
        | some _, none => true
        | none, _ => false)
      { s with lrAt := s.lrAt.or (some d.now), lrPos := if same then s.lrPos else now }
  else d.onAxis x fun s => { s with lrAt := none }

/-- LOCKED_ROTOR (R276). -/
def Dev.lockedRotor (d : Dev) (x : Fin 2) : Dev :=
  match d.axes[x].lrAt with
  | none => d
  | some t =>
    if d.axState x = .run ∧ t + d.g (pgFIELD x) R.FIELD_LR_T * 500000 ≤ d.now then
      (d.onAxis x fun s => { s with lrAt := none }).fRaise x 5
    else d

/-- A sample of the catch window is kept: the three phase voltages of the axis in value LSB; one at the clamp ends the window early (R278,
R279). -/
def Dev.catchTaken (d : Dev) (x : Fin 2) (t : Nat) (va vb vc : Int) : Dev :=
  let s := d.axes[x]
  let l := (d.active).getD .a
  let fs : Int := d.gl l (pgFIELD x) R.FIELD_VPH_FS_FS
  let vdc := (d.laneVdc l).getD 0
  let clamp := [va, vb, vc].any fun v => 98 * vdc ≤ 100 * (v * fs) || 100 * (v * fs) ≤ -2 * vdc
  d.onAxis x fun s => { s with samples := s.samples ++ [(t, va - vb, vb - vc)], early := clamp }

/-- A set of phase voltages counts for the axis's open window where its stamp lies in it. -/
def Dev.catchCounts (d : Dev) (x : Fin 2) (t : Nat) : Bool :=
  match d.axes[x].catchWin with
  | none => false
  | some t0 => decide (t0 ≤ t ∧ t < t0 + d.g (pgFIELD x) R.FIELD_CATCH_WIN * 500) && !d.axes[x].early

/-- E of the measurement per unit of Vnom: √3 times the mean amplitude (R278), at least 0.95 × Vdc after an early end (R279). -/
def Dev.catchEmf (d : Dev) (x : Fin 2) : Int :=
  let s := d.axes[x]
  let l := (d.active).getD .a
  let amp := fun (v : Nat × Int × Int) => (sqrtNear (3 * ((2 * v.2.1 + v.2.2) ^ 2 + 3 * v.2.2 ^ 2).toNat * 2 ^ 20) : Int)
  let n := s.samples.length
  let sum := (s.samples.map amp).sum
  let e := if n = 0 then sint (Config.freeWord d.freeCtr)
    else divNearest (sum * d.gl l (pgFIELD x) R.FIELD_VPH_FS_FS * 2 ^ 5) (3 * n * max 1 (d.gl l pgSYS R.SYS_VNOM_V))
  if s.early then max e (-(-(95 * d.vdcPu l) / 100)) else e

/-- Unwrap angles: each differs from the one before by its shortest signed difference. -/
def unwrap : Int → List Nat → List Int
  | _, [] => []
  | p, a :: r => let q := p + angDiff a p; q :: unwrap q r

/-- Least-squares line through (stamp, unwrapped angle): angle at `t` and slope in Q16.16, a signed 32-bit rate (R248), and the squared
residuals' sum (R278). -/
def angleFit (ts : List Int) (as : List Int) (t : Int) : Nat × Int × Nat :=
  let n : Int := ts.length
  let st := ts.sum
  let sa := as.sum
  let stt := (ts.map fun x => x * x).sum
  let sta := ((ts.zip as).map fun p => p.1 * p.2).sum
  let den := n * stt - st * st
  if den ≤ 0 then (angWrap (as.headD 0), 0, 0)
  else
    let num := n * sta - st * sa
    let at' := fun (x : Int) => divNearest (sa * den + num * (n * x - st)) (n * den).toNat
    let res := (ts.zip as).map fun p => ((p.2 - at' p.1) ^ 2).toNat
    (angWrap (at' t), sat32 (divNearest (num * 65536) den.toNat), res.foldl (· + ·) 0)

/-- ASC follows a measurement: it starts at the next period start, and the next release is due ASC_T later (R271, R280). -/
def Dev.catchAsc (d : Dev) (x : Fin 2) : Dev :=
  Dev.noSide ((d.onAxis x fun s => { s with ascSince := d.now, released := false, catchWin := none, samples := [] }).wantAsc x)

/-- The axis stands still, and its catch goes on with the injection (R280, R282): the rate in use is 0. -/
def Dev.standsStill (d : Dev) (x : Fin 2) : Dev :=
  let d := d.eachLane fun d l => d.onFieldU l x fun u => { u with rate := 0, rateH := 0 }
  (d.s (pgFIELD x) R.FIELD_STATE_PULSES 1).onAxis x fun s =>
    { s with standstill := true, catchWin := none, samples := [], released := false }

/-- The outcome of a measurement in CATCH (R280). -/
def Dev.catchJudge (d : Dev) (x : Fin 2) (e : Int) (win : Nat) : Dev :=
  let p := pgFIELD x
  let l := (d.active).getD .a
  let s := d.axes[x]
  let vdc := d.vdcPu l
  if (if s.released then 92 * vdc ≤ 100 * e else 95 * vdc ≤ 100 * e) then
    if d.axisAscOk x then d.catchAsc x else d.catchFails x 1 6
  else if e * d.g pgSYS R.SYS_VNOM_V < d.g p R.FIELD_CATCH2_VMIN * 2 ^ 30 then
    if d.g p R.FIELD_HFI_EN = 1 then d.standsStill x
    else if d.g p R.FIELD_ALIGN_EN = 1 then d.enterAlign x
    else d.catchFails x 2 7
  else
    let ts := s.samples.map fun v => (v.1 : Int)
    let as := s.samples.map fun v => atan2 (sqrtNear (3 * (v.2.2.natAbs) ^ 2 * 2 ^ 20) * (if v.2.2 < 0 then -1 else 1)) ((2 * v.2.1 + v.2.2) * 2 ^ 10)
    let un := unwrap (as.headD 0) as
    let (th, rate, res) := angleFit ts un win
    let lim := d.g p R.FIELD_CATCH_RES * 2 ^ 24
    if lim * lim * ts.length < res then
      let tries := s.tries + 1
      if d.g p R.FIELD_CATCH_TRIES ≤ tries then d.catchFails x 2 7
      else (d.onAxis x fun s => { s with tries := tries }).openCatch x
    else
      let q : Int := if rate < 0 then -0x40000000 else if rate = 0 then 0 else 0x40000000
      d.synchronise x (angMove (angWrap (th - q)) rate ((d.now : Int) - win)) rate

/-- A catch window is measured and judged (R278 to R280, R271). -/
def Dev.catchWindowDone (d : Dev) (x : Fin 2) (t0 : Nat) : Dev :=
  let s := d.axes[x]
  let fin := t0 + d.g (pgFIELD x) R.FIELD_CATCH_WIN * 500
  let e := d.catchEmf x
  let d := (if s.samples.isEmpty then d.fresh else d).onAxis x fun s => { s with catchE := some e }
  if d.axState x = .catching then d.catchJudge x e (if s.early then d.now else fin)
  else if d.axState x = .hold then
    let d := d.onAxis x fun s => { s with catchWin := none, samples := [], released := false }
    if !s.released ∨ 100 * e < 92 * d.vdcPu ((d.active).getD .a) then d else d.catchAsc x
  else d.onAxis x fun s => { s with catchWin := none, samples := [] }

/-- CATCH_WINDOW_END (R278 to R280, and R271 in HOLD). -/
def Dev.catchWindowEnd (d : Dev) (x : Fin 2) : Dev :=
  let s := d.axes[x]
  match s.catchWin with
  | none => d
  | some t0 =>
    let fin := t0 + d.g (pgFIELD x) R.FIELD_CATCH_WIN * 500
    if !s.early ∧ d.now < fin then d
    else d.catchWindowDone x t0

/-- CATCH_TIMEOUT (R282). -/
def Dev.catchTimeout (d : Dev) (x : Fin 2) : Dev :=
  if d.axState x = .catching ∧ !d.axes[x].starts ∧ d.axes[x].catchAt + d.g (pgFIELD x) R.FIELD_CATCH2_TMO * 500000 ≤ d.now then d.catchFails x 2 7 else d

/-- ASC_RELEASE_CHECK (R271): ASC_T after ASC began, it is released at a period start for one catch window, in HOLD and CATCH without
a valid rate source. -/
def Dev.ascReleaseCheck (d : Dev) (x : Fin 2) : Dev :=
  let s := d.axes[x]
  let l := (d.active).getD .a
  let st := d.axState x
  if (st = .catching ∨ st = .hold) ∧ !(d.fieldU l x).hasAngle ∧ d.inAsc x ∧
      s.ascSince + d.g (pgFIELD x) R.FIELD_CATCH2_ASC_T * 500000 ≤ d.now then
    d.leaveAsc x true
  else d

/-! ## Block commutation (R256, R257) -/

/-- The phase advance at a rate (R257), as a binary angle. -/
def Dev.advance (d : Dev) (l : Lane) (x : Fin 2) (rate : Int) : Int :=
  let step := max 1 (d.gl l (pgFIELD x) R.FIELD_ADV_STEP)
  let b := d.gl l (pgFIELD x) R.FIELD_MAPCFG_BANK
  let w := fun (i : Nat) => (((d.word l (rgMAP + 0x8000 * x.val + 0x4800 + 0x100 * b + 4 * i)).toNat % 65536 : Nat) : Int)
  let i := rate.natAbs / step
  if 63 ≤ i then w 63 * 65536
  else divNearest ((w i * (step - rate.natAbs % step : Nat) + w (i + 1) * (rate.natAbs % step : Nat)) * 65536) step

/-- The sector of the commutation angle (R256), and the modes of phases a, b, c in it: 2 PWM_H of the leading phase, 3 HOLD_L of
the lagging one, 0 OFF. The pair leads the sector's centre by a quarter turn, or lags it for a negative torque. -/
def blockModes (sector : Nat) (neg : Bool) : Nat × Nat × Nat :=
  match (if neg then sector + 3 else sector) % 6 with
  | 0 => (0, 2, 3) | 1 => (3, 2, 0) | 2 => (3, 0, 2) | 3 => (0, 3, 2) | 4 => (2, 3, 0) | _ => (2, 0, 3)

/-- The sector of an angle (R256): sector s spans [60 s − 30, 60 s + 30) degrees. -/
def sectorOf (th : Nat) : Nat := (12 * th + 2 ^ 32) / 2 ^ 33 % 6

/-- Set the leg modes of a BLOCK axis for the next period, by the angle of R260 for it, in RUN and before the first switched period (R256,
R281); the phase advance belongs to small configurations (R7). -/
def Dev.commutate (d : Dev) (l : Lane) (x : Fin 2) : Dev :=
  if d.gl l (pgFIELD x) R.FIELD_AXCFG_MODE ≠ 1 ∨ (d.axState x ≠ .run ∧ !d.axes[x].starts) then d
  else
    let u := d.fieldU l x
    let sg : Int := if u.rate < 0 then -1 else if u.rate = 0 then 0 else 1
    let adv := if d.gl l pgSYS R.SYS_CONFIG_SIZE = 0 then 0 else d.advance l x u.rate
    (d.axisFrames x).foldl (fun e f =>
      let th := angWrap (((d.frameAngles l f 0).2 : Int) + sg * adv - d.frameBack f)
      let m := blockModes (sectorOf th) (decide (u.iqRef < 0))
      ((d.framePhases f).zip [m.1, m.2.1, m.2.2]).foldl (fun e ns =>
        ns.1.foldl (fun e n => e.sl l (pgMOD l) R.MOD_LEG_MODE_MODE ns.2 n.val) e) e) d

/-! ## The period (R269) and the map (R253) -/

/-- SHARE_LIMIT (R247): TRIMx of a lane at its clamp for 1,000 consecutive periods. -/
def Dev.shareWatch (d : Dev) (l : Lane) : Dev :=
  if d.powerCfg ≠ 2 then d
  else (List.range 3).foldl (fun d k =>
    let at' := d.gl l (pgFIELD 0) R.FIELD_SHARE_MAX ≤ (d.glS l (pgFIELD 0) R.FIELD_TRIM_VALUE k).natAbs
    let n := if at' then (d.fieldU l 0).shareRun.getD k 0 + 1 else 0
    let d := d.onFieldU l 0 fun u => { u with shareRun := u.shareRun.set k n }
    if n = 1000 then d.fSees l 0 10 fun u => decide (1000 ≤ u.shareRun.getD k 0) else d) d

/-- What the axis state machine does in a period of the ACTIVE lane (R273, R277, R278, R282): a STOP whose ramp has ended, a catch with
an angle, one that has lost it before a window was opened, an injection that has converged, a HOLD whose causes are cleared. -/
def Dev.axisPeriod (d : Dev) (l : Lane) (x : Fin 2) : Dev :=
  let s := d.axes[x]
  let u := d.fieldU l x
  match d.axState x with
  | .run =>
    if s.stopping ∧ !d.motion[x].axisStop ∧ d.torqueCommand l x = 0 then d.axisGoesOff x else d.watchLocked l x
  | .step => if s.stopping ∧ !d.motion[x].axisStop then d.axisGoesOff x else d
  | .catching =>
    if s.starts then d
    else if (d.sensorAngle l x).isSome ∧ !d.inAsc x then
      (match d.sensorAngle l x with
       | some (a, t, r) => d.synchronise x (angMove a r (stampDiff d.now t)) r
       | none => d)
    else if s.standstill ∧ u.hfiOn ∧ u.hfiOk ∧ u.polDone then d.synchronise x u.thH 0
    else if !s.standstill ∧ s.catchWin.isNone ∧ !d.inAsc x ∧ (d.axisBridges x).all (fun b => d.bridges[b].waitHigh.isNone) then d.openCatch x
    else d
  | .align =>
    let d := if d.alignDrift x then d.onAxis x fun s => { s with alignMoved := true } else d
    if s.alignPos.isNone ∧ s.alignAt + d.gl l (pgFIELD x) R.FIELD_ALIGN_T * 375000 ≤ d.now then
      d.onAxis x fun s => { s with alignPos := d.axisPos x } else d
  | .hold =>
    if !d.causeOpen x ∧ d.gl l (pgFIELD x) R.FIELD_CATCH_RECATCH = 1 ∧ d.mode.cur = .run ∧ !s.afterSto then
      d.enterCatch x else d
  | .off => d

/-- The unit's computation of one period (R235 to R271). -/
def Dev.fieldRuns (d : Dev) (l : Lane) (x : Fin 2) : Dev :=
  let d := d.classify l x
  let d := if d.gl l (pgFIELD x) R.FIELD_AXCFG_MODE = 2 then d else (d.observe l x).inject l x
  let d := ((d.angles l x).windings l x).references l x
  let d := (d.speedRule l x).holdRule l x
  let d := d.commutate l x
  let d := if x = 0 then d.shareWatch l else d
  let d := if d.actsFor l then d.axisPeriod l x else d
  d.onFieldU l x fun u => { u with lastAt := d.now }

/-- The axis's unit computes: the axis exists and is enabled, or the blank supervisor watches it (R104, R235). -/
def Dev.fieldOn (d : Dev) (l : Lane) (x : Fin 2) : Bool :=
  d.axisExists x && (d.gl l (pgFIELD x) R.FIELD_AXCFG_EN == 1 || d.supervisor)

/-- FIELD_PERIOD (R35, R235 to R271): one period of lane `l`'s unit of axis x, and of the lane's standing fallback state. -/
def Dev.fieldPeriod (d : Dev) (l : Lane) (x : Fin 2) : Dev :=
  if !d.up (.ctl l) ∨ (d.lanes.at l).role = .failed then d
  else (if d.fieldOn l x then d.fieldRuns l x else d).fallbackSet l

/-- ANGLE_SOURCE_TIMEOUT (R258): no record has arrived within 30 µs, so the channel counts as lost, and the other source is used
in the same period (R267). -/
def Dev.angleTimeout (d : Dev) (l : Lane) (x : Fin 2) : Dev :=
  if !d.up (.ctl l) ∨ !(d.fieldU l x).sensor ∨ (d.sensorAngle l x).isSome then d else d.angles l x

/-- The words of a map bank in ascending address. -/
def Dev.mapWords (d : Dev) (l : Lane) (x : Fin 2) (b : Nat) : List Word :=
  (List.range 2304).map fun i => d.word l (rgMAP + 0x8000 * x.val + 0x2400 * b + 4 * i)

/-- MAP_SWAP (R253): the inactive bank's CRC is checked; a match arms the swap for the next period start of the axis's timebase. -/
def Dev.mapSwapReq (d : Dev) (x : Fin 2) : Dev :=
  let p := pgFIELD x
  let l := d.prim p
  let b := 1 - d.g p R.FIELD_MAPCFG_BANK
  if crc32cWords (d.mapWords l x b) = d.g p R.FIELD_MAP_CRC_CRC b then
    let d := d.onAxis x fun s => { s with mapSwap := true }
    let n : Fin 6 := (d.axisLegs x).headD 0
    let k := (d.active).getD .a
    d.tbDefer k (d.legTb k n) (.map x)
  else d.fRaise x 11

end Sys2Proof.Machine
end

