-- ==== Sys2Proof/Machine/Position.lean ====
section
/-! DEFINITION. Chapter 06: the position units of both interface dies: decoding, counts, speed, index checking, compares, validity,
and the records that go to the other dies. -/

namespace Sys2Proof.Machine

/-! ## Registers of a channel -/

/-- A field of a channel. -/
def Dev.ch (d : Dev) (u : Lane) (c : Fin 4) (f : Fld) : Nat := d.gl u (pgPOS u) f c.val

/-- A signed field of a channel. -/
def Dev.chS (d : Dev) (u : Lane) (c : Fin 4) (f : Fld) : Int := d.glS u (pgPOS u) f c.val

/-- Set a field of a channel. -/
def Dev.setCh (d : Dev) (u : Lane) (c : Fin 4) (f : Fld) (v : Nat) : Dev := d.sl u (pgPOS u) f v c.val

/-- Set a signed field of a channel. -/
def Dev.setChS (d : Dev) (u : Lane) (c : Fin 4) (f : Fld) (v : Int) : Dev := d.slS u (pgPOS u) f v c.val

/-- COMPn, and the fields of CCFGn. -/
def compFld (n : Fin 8) : Fld := { R.POS_COMP0_VALUE with off := 0xB4 + 4 * n.val }
def ccfgFld (f : Fld) (n : Fin 8) : Fld := { f with off := 0xD4 + 4 * n.val }

/-- Set the channel's bit of a group of four in POS_x.CAUSE. -/
def Dev.chCause (d : Dev) (u : Lane) (c : Fin 4) (base : Nat) : Dev := d.causeL u (pgPOS u) (BitVec.ofNat 32 (2 ^ (base + c.val)))

/-- The state of a channel beside its registers. -/
def Dev.chan (d : Dev) (u : Lane) (c : Fin 4) : PosChan := (d.pos.at u).chans[c]

/-- The channel of a unit that takes a source, while the unit's die runs. -/
def Dev.chanOf (d : Dev) (u : Lane) (sel : Nat → Bool) : Option (Fin 4) :=
  if d.up (.iface u) then (List.finRange 4).find? fun c => sel (d.chSel u c) else none

/-- Axes whose ANGSRC.PRI or ANGSRC.SEC names a channel. -/
def Dev.chanAxes (d : Dev) (u : Lane) (c : Fin 4) : List (Fin 2) :=
  [(0 : Fin 2), 1].filter fun x =>
    [R.FIELD_ANGSRC_PRI, R.FIELD_ANGSRC_SEC].any fun f =>
      let v := d.g (pgFIELD x) f
      v / 64 % 2 = 1 && v % 64 == 32 * u.idx + c.val

/-! ## Validity (R226, R227) -/

/-- A line of the channel's sensor stands faulty (R197): A, B and, with index checking, Z of a quadrature source; A of a pulse
train. -/
def Dev.chFaulty (d : Dev) (u : Lane) (c : Fin 4) : Bool :=
  let s := d.pos.at u
  match d.chSel u c with
  | 1 => s.faultA || s.faultB || (s.faultZ && d.ch u c R.POS_IDX_CFG_EN == 1)
  | 2 => s.faultA
  | _ => false

/-- The sensor of a channel is declared invalid (R226): the good events count anew (R227). -/
def Dev.declareInvalid (d : Dev) (u : Lane) (c : Fin 4) : Dev :=
  let d := (d.setCh u c R.POS_STATE_GCNT 0).setCh u c R.POS_STATE_INVALID 1
  ((d.chCause u c 20).onChan u c fun s => { s with dirty := true, causeGone := false }).raiseCond (136 + 4 * u.idx + c.val)

/-- One index event in tolerance, good frame or demodulation counts towards the end of the cause (R227). SRCn.LIVE stands until INVALID is
cleared (R572). -/
def Dev.countGood (d : Dev) (u : Lane) (c : Fin 4) : Dev :=
  if d.ch u c R.POS_STATE_INVALID = 0 ∨ d.chFaulty u c then d
  else
    let n := satInc 15 (d.ch u c R.POS_STATE_GCNT)
    let d := d.setCh u c R.POS_STATE_GCNT n
    if d.ch u c R.POS_IDX_CFG_GOOD ≤ n then d.onChan u c fun s => { s with causeGone := true } else d

/-- A decode error: ERRCNT.DEC, DECODE_ERROR, and the declaration after MLIM errors within CPR counted counts. -/
def Dev.decodeError (d : Dev) (u : Lane) (c : Fin 4) : Dev :=
  let d := (d.incL u (pgPOS u) R.POS_ERRCNT_DEC c.val).chCause u c 12
  let n := (d.chan u c).counted
  let near := (d.chan u c).errAt.filter fun m => n < m + d.chCpr u c
  let d := d.onChan u c fun s => { s with errAt := n :: near }
  let d := d.raise (144 + 4 * u.idx + c.val)
  if d.ch u c R.POS_IDX_CFG_MLIM ≤ near.length + 1 then d.declareInvalid u c else d

/-- A bad frame. -/
def Dev.badFrame (d : Dev) (u : Lane) (c : Fin 4) : Dev :=
  let d := (d.incL u (pgPOS u) R.POS_ERRCNT_DEC c.val).setCh u c R.POS_STATE_GCNT 0
  let d := d.onChan u c fun s => { s with badRun := s.badRun + 1 }
  if d.ch u c R.POS_IDX_CFG_MLIM ≤ (d.chan u c).badRun then d.declareInvalid u c else d

/-! ## Compares (R222 to R225) -/

/-- MODE of a compare; an odd compare is off while its partner is a window. -/
def Dev.compMode (d : Dev) (u : Lane) (c : Fin 4) (n : Fin 8) : Nat :=
  let own := d.ch u c (ccfgFld R.POS_CCFG0_MODE n)
  if n.val % 2 = 1 ∧ d.ch u c (ccfgFld R.POS_CCFG0_MODE ⟨n.val - 1, by omega⟩) = 2 then 0 else own

/-- A position is inside the window of compares n and n + 1. -/
def Dev.compInside (d : Dev) (u : Lane) (c : Fin 4) (n : Fin 8) (p : Int) : Bool :=
  decide (d.chS u c (compFld n) ≤ p) && decide (p < d.chS u c (compFld ⟨(n.val + 1) % 8, by omega⟩))

/-- Record the fire bits of one step or of one judgement with their stamp; a motion unit that waits for one of them goes on at its
first servo tick later than the stamp (R335). -/
def Dev.compFire (d : Dev) (u : Lane) (c : Fin 4) (bits : List Nat) (stamp : Nat) : Dev :=
  match bits with
  | [] => d
  | b :: r =>
    let d := bits.foldl (fun d n => d.setCh u c R.POS_CCAUSE_FIRE (Nat.lor (d.ch u c R.POS_CCAUSE_FIRE) (2 ^ n))) d
    let d := d.setCh u c R.POS_CMP_T_T (stamp % 2 ^ 32)
    let d := d.setCh u c R.POS_STATE_CMPL (r.foldl min b)
    let d := (d.chCause u c 0).onChan u c fun s => { s with dirty := true }
    d.eachAxis fun d x =>
      let p := pgMOTION x
      let named := d.g p R.MOTION_WAITSRC_EN = 1 ∧ d.g p R.MOTION_WAITSRC_UNIT = u.idx ∧ d.g p R.MOTION_WAITSRC_CH = c.val ∧
        bits.contains (d.g p R.MOTION_WAITSRC_CMP)
      if named then d.eachUnit x fun d =>
        if d.act x = actWAITING then d.onMotion x fun m => { m with waitFire := (m.waitFire).or (some stamp) } else d
      else d

/-- A compare that fired disarms unless REARM is set. -/
def Dev.compDisarm (d : Dev) (u : Lane) (c : Fin 4) (n : Fin 8) : Dev :=
  if d.ch u c (ccfgFld R.POS_CCFG0_REARM n) = 1 then d else d.setCh u c (ccfgFld R.POS_CCFG0_ARMED n) 0

/-- The compares at a counted step that moves POS (R223, R225); a value beyond a soft limit never fires. -/
def Dev.compStep (d : Dev) (u : Lane) (c : Fin 4) (old new : Int) (fwd : Bool) (stamp : Nat) : Dev :=
  let r := (List.finRange 8).foldl (fun (r : Dev × List Nat) n =>
    let d := r.1
    match d.compMode u c n with
    | 1 =>
      let v := d.chS u c (compFld n)
      let within := d.chS u c R.POS_LIM_LO_LIM ≤ v ∧ v ≤ d.chS u c R.POS_LIM_HI_LIM
      let crossed := if fwd then decide (old < v) && decide (v ≤ new) else decide (v < old) && decide (new ≤ v)
      let sel := d.ch u c (ccfgFld R.POS_CCFG0_DIRSEL n)
      if d.ch u c (ccfgFld R.POS_CCFG0_ARMED n) = 1 ∧ within ∧ crossed ∧ (sel = 0 ∨ (sel = 1 ∧ fwd) ∨ (sel = 2 ∧ !fwd)) then
        (d.compDisarm u c n, r.2 ++ [n.val])
      else r
    | 2 =>
      let was := d.compInside u c n old
      let is := d.compInside u c n new
      (d.setCh u c (ccfgFld R.POS_CCFG0_INSIDE n) is.toNat,
       if was == is then r.2 else r.2 ++ [if is then n.val else n.val + 1])
    | _ => r) (d, [])
  r.1.compFire u c r.2 stamp

/-- A point compare is judged as it is written (R224); a value beyond a soft limit never fires (R223). -/
def Dev.compJudge (d : Dev) (u : Lane) (c : Fin 4) (n : Fin 8) : Dev :=
  let v := d.chS u c (compFld n)
  let p := d.chS u c R.POS_POS_POS
  let behind := match (d.chan u c).dir with
    | some false => decide (v ≤ p)
    | some true => decide (p ≤ v)
    | none => decide (v = p)
  let d := d.setCh u c (ccfgFld R.POS_CCFG0_ARMED n) 1
  if !behind then d
  else
    let d := (d.setCh u c R.POS_CCAUSE_BEHIND (Nat.lor (d.ch u c R.POS_CCAUSE_BEHIND) (2 ^ n.val))).chCause u c 0
    if d.ch u c (ccfgFld R.POS_CCFG0_FIP n) = 1 ∧ d.chS u c R.POS_LIM_LO_LIM ≤ v ∧ v ≤ d.chS u c R.POS_LIM_HI_LIM then
      (d.compFire u c [n.val] d.now).compDisarm u c n else d

/-- A window compare shows whether POS is inside, without firing. -/
def Dev.compShow (d : Dev) (u : Lane) (c : Fin 4) (n : Fin 8) : Dev :=
  d.setCh u c (ccfgFld R.POS_CCFG0_INSIDE n) (d.compInside u c n (d.chS u c R.POS_POS_POS)).toNat

/-- All compares after an index snap or a POS_SET write (R222). -/
def Dev.compRejudge (d : Dev) (u : Lane) (c : Fin 4) : Dev :=
  (List.finRange 8).foldl (fun d n =>
    match d.compMode u c n with
    | 1 => if d.ch u c (ccfgFld R.POS_CCFG0_ARMED n) = 1 then d.compJudge u c n else d
    | 2 => d.compShow u c n
    | _ => d) d

/-- COMPARE_WRITE: COMPn, or CCFGn with the MODE it had, stands written (R224, R225). DESIGN CHOICE (log 135): a change of MODE from 2 to 1
neither judges nor arms the compare. -/
def Dev.compWritten (d : Dev) (u : Lane) (c : Fin 4) (n : Fin 8) (cfgOld : Option Nat) : Dev :=
  let even : Fin 8 := ⟨n.val / 2 * 2 % 8, by omega⟩
  if d.compMode u c even = 2 then d.compShow u c even
  else
    let mode := d.compMode u c n
    match cfgOld with
    | none => if mode = 1 then d.compJudge u c n else d
    | some old =>
      if mode = 1 then (if old = 0 then d.compJudge u c n else d)
      else d.setCh u c (ccfgFld R.POS_CCFG0_ARMED n) 0

/-! ## Counts and speed (R211 to R217) -/

/-- Change POS by a signed number of counts, clamped to the limits (R211). -/
def Dev.movePos (d : Dev) (u : Lane) (c : Fin 4) (k : Int) : Dev :=
  let old := d.chS u c R.POS_POS_POS
  let new := clampInt (d.chS u c R.POS_LIM_LO_LIM) (d.chS u c R.POS_LIM_HI_LIM) (old + k)
  let d := d.setChS u c R.POS_POS_POS new
  if new = old + k then d.setCh u c R.POS_STATE_AT_LIMIT 0
  else (d.setCh u c R.POS_STATE_AT_LIMIT 1).chCause u c 16

/-- POS is set to a value clamped to the limits; a position that has left its limit is no longer held there (R211, R212, R220). -/
def Dev.placePos (d : Dev) (u : Lane) (c : Fin 4) (v : Int) : Dev :=
  let lo := d.chS u c R.POS_LIM_LO_LIM
  let hi := d.chS u c R.POS_LIM_HI_LIM
  let new := clampInt lo hi v
  let d := d.setChS u c R.POS_POS_POS new
  if new = lo ∨ new = hi then d else d.setCh u c R.POS_STATE_AT_LIMIT 0

/-- Change POS by a frame or a demodulation: the windows show whether POS is inside, without a fire, since no step is counted (R225). -/
def Dev.movePosFrame (d : Dev) (u : Lane) (c : Fin 4) (k : Int) : Dev :=
  (List.finRange 8).foldl (fun d n => if d.compMode u c n = 2 then d.compShow u c n else d) (d.movePos u c k)

/-- SPEED and SPDQ of a window, newest entry first (R214). -/
def windowSpeed (w : List (Int × Nat)) : Option Int :=
  match w, w.getLast? with
  | (c1, t1) :: _ :: _, some (c0, t0) => some (sat32 (divRoundAway ((c1 - c0) * 128000000000) (t1 - t0)))
  | _, _ => none

/-- ZTIME in ticks. -/
def Dev.chZtime (d : Dev) (u : Lane) (c : Fin 4) : Nat := d.ch u c R.POS_SPD_CFG_ZTIME * 500

/-- A counted step of an edge source: k counts in a direction, with its stamp (R211, R214, R215, R223). -/
def Dev.countStep (d : Dev) (u : Lane) (c : Fin 4) (k : Int) (stamp : Nat) : Dev :=
  let s := d.chan u c
  let fwd := decide (0 < k)
  let old := d.chS u c R.POS_POS_POS
  let d := d.setCh u c R.POS_REVPOS_REVPOS ((((d.ch u c R.POS_REVPOS_REVPOS : Nat) : Int) + k) % (d.chCpr u c : Nat)).toNat
  let d := d.movePos u c k
  let d := (d.setCh u c R.POS_EDGE_T_T (stamp % 2 ^ 32)).setCh u c R.POS_STATE_DIR (!fwd).toNat
  let rest : Bool := match s.lastAt with
    | some t => decide (d.chZtime u c ≤ stamp - t)
    | none => true
  let reversal := s.dir.isSome && s.dir != some (!fwd)
  let cum := s.cum + k
  let kept := if rest ∨ reversal then [] else s.steps.filter fun e => stamp ≤ e.2 + d.chZtime u c
  let w := ((cum, stamp) :: kept).take (d.ch u c R.POS_SPD_CFG_NEDGE + 1)
  let d := d.onChan u c fun s => { s with steps := w, cum := cum, dir := some (!fwd), lastAt := some stamp, dirty := true
                                          interval := if rest ∨ reversal then none else s.lastAt.map (stamp - ·)
                                          counted := s.counted + k.natAbs
                                          toothRun := if rest then 0 else s.toothRun }
  let d := match windowSpeed w with
    | some v => (d.setChS u c R.POS_SPEED_SPEED v).setCh u c R.POS_STATE_SPDQ 0
    | none => (d.setCh u c R.POS_SPEED_SPEED 0).setCh u c R.POS_STATE_SPDQ (if reversal then 3 else 2)
  let d := match windowSpeed w with
    | some v => d.onChan u c fun s => { s with rate := v }
    | none => d.onChan u c fun s => { s with rate := 0 }
  d.compStep u c old (d.chS u c R.POS_POS_POS) fwd stamp

/-- SPEED and SPDQ as they stand now: the bound and the standstill of R216 for edge sources. -/
def Dev.speedNow (d : Dev) (u : Lane) (c : Fin 4) : Int × Nat :=
  let s := d.chan u c
  let q := d.ch u c R.POS_STATE_SPDQ
  let v := d.chS u c R.POS_SPEED_SPEED
  let sel := d.chSel u c
  if sel < 1 ∨ 3 < sel then (v, q)
  else
    match s.lastAt with
    | none => (v, q)
    | some t =>
      let gone := d.now - t
      if d.chZtime u c ≤ gone then (0, 2)
      else if q = 0 ∨ q = 1 then
        match s.interval with
        | some i =>
          if i < gone then
            let b := divOpen 128000000000 gone
            (clampInt (-b) b s.rate, 1)
          else (v, q)
        | none => (v, q)
      else (v, q)

/-- The speed registers follow the time since the last step (R216); the window restarts with the step after a standstill
(`Dev.countStep`). -/
def Dev.showSpeed (d : Dev) (u : Lane) (c : Fin 4) : Dev :=
  let (v, q) := d.speedNow u c
  (d.setChS u c R.POS_SPEED_SPEED v).setCh u c R.POS_STATE_SPDQ q

/-- SPEED_BOUND and SPEED_STANDSTILL (R216): the speed registers follow the time since the last step. -/
def Dev.refreshSpeed (d : Dev) (u : Lane) (c : Fin 4) : Dev :=
  if !d.up (.iface u) then d
  else d.showSpeed u c

/-! ## Index checking (R218 to R221) -/

/-- An index event with its stamp: IDX_T and INDEX, and with EN = 1 its judgement (R218 to R221). DESIGN CHOICE (log 135): an expected value
at or above CPR sets REVPOS to it modulo CPR. -/
def Dev.judgeIndex (d : Dev) (u : Lane) (c : Fin 4) (stamp : Nat) : Dev :=
  let d := (d.setCh u c R.POS_IDX_T_T (stamp % 2 ^ 32)).chCause u c 4
  if d.ch u c R.POS_IDX_CFG_EN = 0 then d
  else
    let cpr : Int := d.chCpr u c
    let want := d.ch u c (if d.ch u c R.POS_STATE_DIR = 1 then R.POS_IDX_EXP_REV else R.POS_IDX_EXP_FWD)
    let h := cpr / 2
    let e : Int := ((((d.ch u c R.POS_REVPOS_REVPOS : Nat) : Int) - want + h) % cpr) - h
    let d := d.onChan u c fun s => { s with dirty := true }
    if d.ch u c R.POS_IDX_CFG_INIT = 1 ∧ d.ch u c R.POS_STATE_REFD = 0 then
      (d.setCh u c R.POS_REVPOS_REVPOS (want % d.chCpr u c)).setCh u c R.POS_STATE_REFD 1
    else if e.natAbs ≤ d.ch u c R.POS_IDX_CFG_TOL then
      let d := (d.setCh u c R.POS_STATE_MCNT 0).setCh u c R.POS_STATE_REFD 1
      let d := d.countGood u c
      if e = 0 then d
      else
        let d := d.setCh u c R.POS_REVPOS_REVPOS (want % d.chCpr u c)
        let d := d.placePos u c (d.chS u c R.POS_POS_POS - e)
        let d := (d.setChS u c R.POS_IDX_CORR_LAST e).incL u (pgPOS u) R.POS_IDX_CORR_COUNT c.val
        d.compRejudge u c
    else
      let m := satInc 15 (d.ch u c R.POS_STATE_MCNT)
      let d := (d.setCh u c R.POS_STATE_MCNT m).setCh u c R.POS_STATE_GCNT 0
      let d := (d.incL u (pgPOS u) R.POS_ERRCNT_MISM c.val).chCause u c 8
      let d := d.raiseAt (128 + 4 * u.idx + c.val) stamp 0
      if d.ch u c R.POS_IDX_CFG_MLIM ≤ m then d.declareInvalid u c else d

/-! ## Source selection (R191, R192, R664) -/

/-- FRM_CFG and FRM_TIME of a source. -/
def frameDefaults (sel : Nat) : Nat × Nat :=
  match sel with
  | 4 => (0x00240F00, 0)
  | 5 => (0x640C4000, 0x07D0A000)
  | 6 => (0xC1800000, 0x06000000)
  | 7 => (0xC1800000, 0x06000000)
  | _ => (0, 0)

/-- A channel starts anew with another source: POS stays, and the channel reads unreferenced at standstill. DESIGN CHOICE (log 121): R192
names POS alone as kept and does not say that REVPOS returns to 0, so it stays too. -/
def Dev.chanRestart (d : Dev) (u : Lane) (c : Fin 4) (sel : Nat) : Dev :=
  let a := pageAddr (pgPOS u) (R.POS_STATE_CMPL.at c.val)
  let keep := if sel = 3 then (d.pos.at u).hall else d.ch u c R.POS_STATE_HSTATE
  let d := ((d.setWord u a (BitVec.ofNat 32 (2 * 2 ^ 22))).setCh u c R.POS_STATE_HSTATE keep).setCh u c R.POS_SPEED_SPEED 0
  let f := frameDefaults sel
  let d := (d.setCh u c R.POS_FRM_CFG_VALUE f.1).setCh u c R.POS_FRM_TIME_VALUE f.2
  let d := d.onChan u c fun s => ({ seq := s.seq, sentAt := s.sentAt, sent := s.sent, counted := s.counted, cum := s.cum
                                    goodAt := d.now } : PosChan)
  let d := d.endCause (136 + 4 * u.idx + c.val)
  if d.chFaulty u c then d.declareInvalid u c else d

/-- SOURCE_SELECT: SEL stands at a new value. -/
def Dev.sourceSelect (d : Dev) (u : Lane) (c : Fin 4) (sel : Nat) : Dev :=
  let a := pageAddr (pgPOS u) (0x50 + 0xA8 * c.val)
  let d := d.setWord u a (R.POS_SRC0_SEL.put (d.word u a) sel)
  d.chanRestart u c sel

/-! ## Edge sources (R193 to R201) -/

/-- Position of a Gray state in the positive sequence 00, 10, 11, 01. -/
def grayPos (a b : Bool) : Nat :=
  match a, b with
  | false, false => 0
  | true, false => 1
  | true, true => 2
  | false, true => 3

/-- The signed step of a transition of AB under MULT and INV; `none` for an illegal one (R195, R196). -/
def quadStep (mult : Nat) (inv : Bool) (a0 b0 a1 b1 : Bool) : Option Int :=
  let q := (grayPos a1 b1 + 4 - grayPos a0 b0) % 4
  if q = 2 then none
  else
    let raw : Int := if q = 1 then 1 else if q = 3 then -1 else 0
    let k : Int := match mult with
      | 2 => raw
      | 1 => if a0 != a1 then raw else 0
      | _ => if !b0 && !b1 then raw else 0
    some (if inv then -k else k)

/-- An edge's filter (R193) has passed: the level has held for FLT ticks since its stamp. -/
def Dev.filtered (d : Dev) (u : Lane) (c : Fin 4) (age : Nat) : Bool :=
  decide (d.ch u c R.POS_FILT_FLT ≤ age) && decide (age ≤ d.now)

/-- The channel that decodes the ENC port takes new levels of A and B (R194 to R196). DESIGN CHOICE (log 121): AUTO_TW's own change of SEL
reloads FRM_CFG and FRM_TIME with the defaults, as an accepted write of SEL does (R664). -/
def Dev.quadTaken (d : Dev) (u : Lane) (a b : Bool) (age : Nat) (c : Fin 4) : Dev :=
  let p := d.pos.at u
  let a := if p.faultA then p.lvA else a
  let b := if p.faultB then p.lvB else b
  let d := d.onPos u fun s => { s with lvA := a, lvB := b }
  let stamp := d.now - age
  let d := match quadStep (d.ch u c R.POS_FILT_MULT) (d.ch u c R.POS_FILT_INV == 1) p.lvA p.lvB a b with
    | none => d.decodeError u c
    | some k => if k = 0 then d else d.countStep u c k stamp
  let n := if b != p.lvB then 0 else (d.chan u c).edgesA + 1
  let d := d.onChan u c fun s => { s with edgesA := n }
  let auto := (if c = 0 then R.POS_SRC0_AUTO_TW else R.POS_SRC_AUTO_TW).get (d.word u (pageAddr (pgPOS u) (0x50 + 0xA8 * c.val)))
  if 64 ≤ n ∧ auto = 1 then (d.sourceSelect u c 2).setCh u c R.POS_TW_KIND 0 else d

/-- QUADRATURE_EDGE: lines A and B stand accepted at new levels since `age` ticks ago. -/
def Dev.quadratureEdge (d : Dev) (u : Lane) (a b : Bool) (age : Nat) : Dev :=
  let p := d.pos.at u
  let a := if p.faultA then p.lvA else a
  let b := if p.faultB then p.lvB else b
  match d.chanOf u (· == 1) with
  | none => d.onPos u fun s => { s with lvA := a, lvB := b }
  | some c =>
    if !d.filtered u c age ∨ (a = p.lvA ∧ b = p.lvB) then d
    else d.quadTaken u a b age c

/-- The direction of a pulse train (TW.DIRSRC): true reverse. -/
def Dev.toothReverse (d : Dev) (u : Lane) (c : Fin 4) : Bool :=
  match d.ch u c R.POS_TW_DIRSRC with
  | 0 => false
  | 1 => true
  | 2 => (d.chan u ⟨d.ch u c R.POS_TW_DCH % 4, by omega⟩).dir == some true
  | _ =>
    match (d.chanAxes u c).find? fun x => d.g (pgFIELD x) R.FIELD_AXCFG_EN == 1 with
    | some x => (d.fieldU ((d.active).getD .a) x).neg
    | none => false

/-- The channel that decodes the pulse train takes a tooth (R198, R199). -/
def Dev.toothTaken (d : Dev) (u : Lane) (age : Nat) (c : Fin 4) : Dev :=
  let stamp := d.now - age
  let kind := d.ch u c R.POS_TW_KIND
  let s := d.chan u c
  let rest : Bool := match s.lastAt with
    | some t => decide (d.chZtime u c ≤ stamp - t)
    | none => true
  let run := if rest then 0 else s.toothRun
  let gap := stamp - s.toothAt.getD stamp
  let ref := s.toothRef.getD 0
  let known := decide (3 ≤ run) && s.toothRef.isSome && s.toothAt.isSome
  let isGap := kind == 1 && known && decide (d.ch u c R.POS_TW_GAP * ref ≤ 16 * gap)
  let isExtra := kind == 2 && known && decide (256 * gap ≤ d.ch u c R.POS_TW_EXTRA * ref)
  if isExtra then (d.onChan u c fun s => { s with toothGap := true }).judgeIndex u c stamp
  else
    let sign : Int := if d.toothReverse u c then -1 else 1
    let k : Int := if isGap then 1 + d.ch u c R.POS_TW_MISS else 1
    let fit := !isGap && !s.toothGap && !rest && s.toothAt.isSome
    let d := d.countStep u c (sign * k) stamp
    let d := d.onChan u c fun s => { s with toothAt := some stamp, toothRef := if fit then some gap else s.toothRef
                                            toothRun := if rest then 0 else run + 1, toothGap := false }
    if isGap then d.judgeIndex u c stamp else d

/-- TOOTH_EDGE: the A pair of a pulse train has risen `age` ticks ago (R198, R199). -/
def Dev.toothEdge (d : Dev) (u : Lane) (age : Nat) : Dev :=
  match d.chanOf u (· == 2) with
  | none => d
  | some c =>
    if !d.filtered u c age ∨ (d.pos.at u).faultA then d
    else d.toothTaken u age c

/-- Sector of a Hall state under HMAP; none for the states 000 and 111. -/
def Dev.hallSector (d : Dev) (u : Lane) (c : Fin 4) (h : Nat) : Option Nat :=
  if h = 0 ∨ 7 ≤ h then none else some (d.ch u c R.POS_FRM_CFG_VALUE / 2 ^ (3 * (h - 1)) % 8)

/-- The Hall angle `ago` ticks after the last edge (R201): the entry boundary of the sector, the offset, and the measured speed times that
time, up to the far boundary. -/
def Dev.hallAngleAt (d : Dev) (u : Lane) (c : Fin 4) (ago : Nat) : Nat :=
  let s := (d.chan u c).sector.getD 0
  let rev := d.ch u c R.POS_STATE_DIR = 1
  let edge : Int := divOpen ((s + (if rev then 1 else 0)) * 2 ^ 32) 6
  let width : Int := divOpen (2 ^ 32) 6
  let adv := divNearest ((d.speedNow u c).1 * ago * 2 ^ 32) (128000000000 * 6)
  let adv := if rev then clampInt (-width) 0 adv else clampInt 0 width adv
  angWrap (edge + d.ch u c R.POS_FRM_CFG_VALUE / 2 ^ 24 * 2 ^ 24 + adv)

/-- The Hall angle at the present tick. -/
def Dev.hallAngle (d : Dev) (u : Lane) (c : Fin 4) : Nat :=
  d.hallAngleAt u c (match (d.chan u c).hallAt with | some t => d.now - t | none => 0)

/-- The channel that decodes the Hall port takes a new state (R200). DESIGN CHOICE: a change to a valid state references the channel. -/
def Dev.hallTaken (d : Dev) (u : Lane) (h : Fin 8) (age : Nat) (c : Fin 4) : Dev :=
  let was := (d.pos.at u).hall
  let stamp := d.now - age
  let d := (d.onPos u fun s => { s with hall := h.val }).setCh u c R.POS_STATE_HSTATE h.val
  let old := ((d.chan u c).sector).or (d.hallSector u c was)
  match d.hallSector u c h.val with
  | none => d.decodeError u c
  | some n =>
    let d := d.onChan u c fun s => { s with sector := some n, hallAt := some stamp }
    let d := match old with
      | none => d
      | some o =>
        match (n + 6 - o % 6) % 6 with
        | 1 => d.countStep u c 1 stamp
        | 5 => d.countStep u c (-1) stamp
        | 2 => (d.countStep u c 2 stamp).decodeError u c
        | 4 => (d.countStep u c (-2) stamp).decodeError u c
        | 3 => d.decodeError u c
        | _ => d
    let d := d.setCh u c R.POS_STATE_REFD 1
    d.setCh u c R.POS_ANGLE_ANGLE (d.hallAngleAt u c 0)

/-- HALL_CHANGE: the state H3 H2 H1 stands accepted at a new value since `age` ticks ago (R200). -/
def Dev.hallChange (d : Dev) (u : Lane) (h : Fin 8) (age : Nat) : Dev :=
  let was := (d.pos.at u).hall
  match d.chanOf u (· == 3) with
  | none => d.onPos u fun s => { s with hall := h.val }
  | some c =>
    if !d.filtered u c age ∨ h.val = was then d
    else d.hallTaken u h age c

/-- The channel takes a change of line Z, and judges an active edge within its gate (R218). -/
def Dev.indexTaken (d : Dev) (u : Lane) (z : Bool) (age : Nat) (c : Fin 4) : Dev :=
  let p := d.pos.at u
  let d := d.onPos u fun s => { s with lvZ := z }
  let active := z != (d.ch u c R.POS_FILT_ZPOL == 1)
  let gate := d.ch u c R.POS_IDX_CFG_GATE = 0 ∨ d.ch u c R.POS_IDX_CFG_QST = 2 * p.lvA.toNat + p.lvB.toNat
  if active ∧ gate then d.judgeIndex u c (d.now - age) else d

/-- Line Z stands accepted at a new level since `age` ticks ago (R218). -/
def Dev.indexLine (d : Dev) (u : Lane) (z : Bool) (age : Nat) : Dev :=
  let p := d.pos.at u
  match d.chanOf u (· == 1) with
  | none => if !p.faultZ then d.onPos u fun s => { s with lvZ := z } else d
  | some c =>
    if !d.filtered u c age ∨ p.faultZ ∨ z = p.lvZ then d
    else d.indexTaken u z age c

/-- INDEX_EVENT: line Z stands accepted at a new level since `age` ticks ago, and A and B stand at the levels that they have at that
stamp: their edge of the same stamp is counted first (R194, R218). -/
def Dev.indexEvent (d : Dev) (u : Lane) (a b z : Bool) (age : Nat) : Dev := (d.quadratureEdge u a b age).indexLine u z age

/-- A line stands faulty, and the channel that needs it is declared invalid (R197). -/
def Dev.lineFails (d : Dev) (u : Lane) (line : Fin 3) : Dev :=
  let d := d.onPos u fun s => match line with
    | 0 => { s with faultA := true }
    | 1 => { s with faultB := true }
    | _ => { s with faultZ := true }
  match d.chanOf u (fun n => n == 1 || n == 2) with
  | none => d
  | some c =>
    let hit := match line with
      | 0 => true
      | 1 => d.chSel u c == 1
      | _ => d.chSel u c == 1 && d.ch u c R.POS_IDX_CFG_EN == 1
    if hit then d.declareInvalid u c else d

/-- LINE_FAULT: a receiver's input has stayed below 200 mV for 1 us (R197); line 0 is A, 1 is B, 2 is Z. -/
def Dev.lineFault (d : Dev) (u : Lane) (line : Fin 3) : Dev :=
  if !d.up (.iface u) then d
  else d.lineFails u line

/-- LINE_FAULT_END: the level then present becomes the line's level without an edge. -/
def Dev.lineFaultEnd (d : Dev) (u : Lane) (line : Fin 3) (level : Bool) : Dev :=
  if !d.up (.iface u) then d
  else
    d.onPos u fun s => match line with
      | 0 => if s.faultA then { s with faultA := false, lvA := level } else s
      | 1 => if s.faultB then { s with faultB := false, lvB := level } else s
      | _ => if s.faultZ then { s with faultZ := false, lvZ := level } else s

/-! ## Frames and the resolver (R202 to R210) -/

/-- A frame field that passed its checks: the step against the last good field, speed, referencing (R210, R217). -/
def Dev.goodField (d : Dev) (u : Lane) (c : Fin 4) (v bits stamp : Nat) : Dev :=
  let m : Int := 2 ^ bits
  let step : Option Int := (d.chan u c).field.map fun f =>
    let q : Int := ((v : Int) - f) % m
    if 2 * q < m then q else if m < 2 * q then q - m else if Config.roundUp q 2 then q else q - m
  let k := step.getD 0
  if d.ch u c R.POS_JUMP_JUMP < k.natAbs then d.badFrame u c
  else
    let d := if k = 0 then d else (d.movePosFrame u c k).setCh u c R.POS_STATE_DIR (decide (k < 0)).toNat
    let d := d.setCh u c R.POS_REVPOS_REVPOS (v % d.chCpr u c)
    let d := (d.setCh u c R.POS_STATE_REFD 1).setCh u c R.POS_EDGE_T_T (stamp % 2 ^ 32)
    let d := d.setCh u c R.POS_FRAME_DATA (v % 2 ^ 32)
    let cum := (d.chan u c).cum + k
    let w := ((cum, stamp) :: (d.chan u c).steps).take (d.ch u c R.POS_SPD_CFG_NEDGE + 1)
    let d := d.onChan u c fun s => { s with field := some v, cum := cum, steps := w, badRun := 0, goodAt := d.now, silent := false, dirty := true
                                            dir := if k = 0 then s.dir else some (decide (k < 0)) }
    let d := match windowSpeed w with
      | some s => (d.setChS u c R.POS_SPEED_SPEED s).setCh u c R.POS_STATE_SPDQ 0
      | none => (d.setCh u c R.POS_SPEED_SPEED 0).setCh u c R.POS_STATE_SPDQ 2
    d.countGood u c

/-- The field `hi:lo` of a channel's FRM_CFG or FRM_TIME word. -/
def Dev.frm (d : Dev) (u : Lane) (c : Fin 4) (f : Fld) (hi lo : Nat) : Nat := d.ch u c f / 2 ^ lo % 2 ^ (hi + 1 - lo)

/-- The resolver port of a unit drives its excitation (R66, R232). -/
def Dev.resDrives (d : Dev) (u : Lane) : Bool :=
  let r := d.gl u (pgPOS u) R.POS_CFG_RES_ROLE
  r == 0 || (r == 1 && (d.pos.at u).resDrive)

/-- A tick is a demodulation instant of a port that drives (R202): a peak of the excitation, shifted by PHASE. DESIGN CHOICE: the phase of
the sine counts from device time 0. -/
def Dev.resDue (d : Dev) (u : Lane) (c : Fin 4) (t : Nat) : Bool :=
  let freq := max 1 (d.gl u (pgPOS u) R.POS_EXC_FREQ)
  let phase := d.frm u c R.POS_FRM_CFG_VALUE 31 24
  let n := (t * freq + 15624) / 15625
  decide (n * 15625 < (t + 1) * freq) && decide (phase + 64 ≤ n) && (n - phase) % 128 == 64

/-- The tracking loop's angle and speed after a demodulated pair (R203). DESIGN CHOICE: it starts at the pair's own angle, at rest. -/
def Dev.resLoop (d : Dev) (u : Lane) (c : Fin 4) (sv cv : Int) : Nat × Int :=
  let s := d.chan u c
  let th := atan2 (sv * 2 ^ 16) (cv * 2 ^ 16)
  match s.resAngle with
  | none => (th, 0)
  | some a =>
    let dt := d.now - s.resAt
    let bw := 100 * 2 ^ d.frm u c R.POS_FRM_CFG_VALUE 23 20
    let guess := angWrap (a + s.resSpeed * dt / 65536)
    let e := angDiff th guess
    (angWrap (guess + Config.trackAngle bw dt e), sat32 (s.resSpeed + Config.trackSpeed bw dt e))

/-- A demodulation in range (R203): the tracking loop's angle and speed, and POS, which follows the angle with the remainder carried.
DESIGN CHOICE: a good demodulation references the channel. -/
def Dev.resolverGood (d : Dev) (u : Lane) (c : Fin 4) (sv cv : Int) : Dev :=
  let (ang, rate) := d.resLoop u c sv cv
  let s := d.chan u c
  let total := match s.resAngle with
    | some a => angDiff ang a * d.chCpr u c + s.resRem
    | none => 0
  let k := divTrunc total (2 ^ 32)
  let d := if k = 0 then d else (d.movePosFrame u c k).setCh u c R.POS_STATE_DIR (decide (k < 0)).toNat
  let d := d.setCh u c R.POS_REVPOS_REVPOS ((((d.ch u c R.POS_REVPOS_REVPOS : Nat) : Int) + k) % (d.chCpr u c : Nat)).toNat
  let d := (d.setCh u c R.POS_ANGLE_ANGLE ang).setCh u c R.POS_EDGE_T_T (d.now % 2 ^ 32)
  let d := d.setChS u c R.POS_SPEED_SPEED (sat32 (divNearest (rate * d.chCpr u c * 128000000000) (2 ^ 48)))
  let d := (d.setCh u c R.POS_STATE_SPDQ 0).setCh u c R.POS_STATE_REFD 1
  let d := d.onChan u c fun s => { s with resAngle := some ang, resSpeed := rate, resAt := d.now, resRem := total - k * 2 ^ 32, badRun := 0
                                          goodAt := d.now, silent := false, dirty := true, dir := if k = 0 then s.dir else some (decide (k < 0)) }
  d.countGood u c

/-- RESOLVER_DEMODULATION: the demodulated pair in 1/32,768 of the sigma-delta full scale (R202 to R204). A port that drives demodulates
at its own instants; one that listens takes them from the sensed excitation (R232). -/
def Dev.resolverDemodulation (d : Dev) (u : Lane) (sv cv : Int) : Dev :=
  match d.chanOf u (· == 4) with
  | none => d
  | some c =>
    if d.resDrives u ∧ !d.resDue u c d.now then d
    else
      let amp := (sv * sv + cv * cv) * 65536
      let lo := d.frm u c R.POS_FRM_CFG_VALUE 19 12 * 32768
      let hi := d.frm u c R.POS_FRM_CFG_VALUE 11 4 * 32768
      if amp < (lo * lo : Nat) ∨ (hi * hi : Nat) ≤ amp then d.badFrame u c else d.resolverGood u c sv cv

/-- The SSI port of a unit clocks its sensor (R66, R232). -/
def Dev.ssiDrives (d : Dev) (u : Lane) : Bool :=
  let r := d.gl u (pgPOS u) R.POS_CFG_SSI_ROLE
  r == 0 || (r == 1 && (d.pos.at u).ssiDrive)

/-- The pause of a driven sensor has not passed since the last frame's clock (R205). -/
def Dev.ssiEarly (d : Dev) (u : Lane) (c : Fin 4) : Bool :=
  d.ssiDrives u && (match (d.chan u c).clockEnd with
    | some t => decide (d.now < t + d.frm u c R.POS_FRM_TIME_VALUE 18 11 * 500)
    | none => false)

/-- A frame is due (R205): at a multiple of PER, or since a period start with PER = 0; a port that listens takes frames as they come.
DESIGN CHOICE (log 135): which tick is the first frame instant of a port that starts to clock with PER not 0 (R66, R205) the first
SSI_FRAME_START says, and the later ones follow it at PER. -/
def Dev.ssiReady (d : Dev) (u : Lane) (c : Fin 4) : Bool :=
  !d.ssiDrives u || (match (d.chan u c).ssiDue with
    | some t => decide (t ≤ d.now)
    | none => d.frm u c R.POS_FRM_TIME_VALUE 10 0 != 0)

/-- SSI_FRAME_START (R205, R232): a frame is due, and waits for the pause; its stamp is the first falling clock edge. A port that listens
keeps no frame timing of its own. -/
def Dev.ssiFrameStart (d : Dev) (u : Lane) : Dev :=
  match d.chanOf u (· == 5) with
  | none => d
  | some c =>
    let per := d.frm u c R.POS_FRM_TIME_VALUE 10 0
    if (d.chan u c).frameAt.isSome ∨ d.ssiEarly u c ∨ !d.ssiReady u c then d
    else d.onChan u c fun s => { s with
      frameAt := some d.now, ssiDue := if per = 0 ∨ !d.ssiDrives u then none else some (s.ssiDue.getD d.now + per * 500) }

/-- The timebase of an axis in a lane. -/
def Dev.axisTb (d : Dev) (l : Lane) (x : Fin 2) : Fin 2 :=
  if d.gl l (pgMOD l) R.MOD_LEG_CFG_TB ((d.axisLegs x).headD 0).val = 1 then 1 else 0

/-- A period of lane `l`'s timebase starts: with PER = 0 a frame of the SSI channel of an axis on it is due, which its control die
relays over the isolated time lane (R205). -/
def Dev.ssiPeriod (d : Dev) (l : Lane) (t : Fin 2) : Dev :=
  match d.chanOf l (· == 5) with
  | none => d
  | some c =>
    if d.frm l c R.POS_FRM_TIME_VALUE 10 0 = 0 ∧ (d.link (.isoTime l false)).live ∧ ((d.chanAxes l c).any fun x => d.axisTb l x == t) then
      d.onChan l c fun s => { s with ssiDue := some (s.ssiDue.getD d.now) }
    else d

/-- Binary number of a Gray code of `w` bits. -/
def grayDecode (w n : Nat) : Nat :=
  (List.range w).foldl (fun acc i => Nat.xor acc (n / 2 ^ i)) 0 % 2 ^ w

/-- The frame's field is taken, or the frame is bad (R206). DESIGN CHOICE (log 135): with PLSB = 0 there is no error bit, whatever ERR is.
DESIGN CHOICE (log 121): the last clock edge of a frame, from which MONO counts
(R205), is the first falling edge plus LEN clock periods. -/
def Dev.ssiTaken (d : Dev) (u : Lane) (bits : Nat) (c : Fin 4) (t0 : Nat) : Dev :=
  let cfg := R.POS_FRM_CFG_VALUE
  let len := d.frm u c cfg 31 26
  let clk := d.frm u c R.POS_FRM_TIME_VALUE 31 19
  let last := if d.ssiDrives u then t0 + len * clk else d.now
  let d := d.onChan u c fun s => { s with frameAt := none, clockEnd := some last }
  let bits := bits % 2 ^ len
  let lsb := d.frm u c cfg 25 20
  let w := d.frm u c cfg 19 15 + 1
  let f := bits / 2 ^ lsb % 2 ^ w
  let f := if d.frm u c cfg 14 14 = 1 then grayDecode w f else f
  let err := d.frm u c cfg 13 13 = 1 ∧ 1 ≤ lsb ∧ bits / 2 ^ (lsb - 1) % 2 = 1
  if err then d.badFrame u c else d.goodField u c f w t0

/-- SSI_FRAME_COMPLETE (R205, R206): the frame's bits, the last one received in bit 0, which is sampled DELAY after its clock edge. -/
def Dev.ssiFrameComplete (d : Dev) (u : Lane) (bits : Nat) : Dev :=
  match d.chanOf u (· == 5) with
  | none => d
  | some c =>
    match (d.chan u c).frameAt with
    | none => d
    | some t0 =>
      let cfg := R.POS_FRM_CFG_VALUE
      let len := d.frm u c cfg 31 26
      let clk := d.frm u c R.POS_FRM_TIME_VALUE 31 19
      if d.ssiDrives u ∧ d.now < t0 + len * clk + d.frm u c cfg 12 5 then d
      else d.ssiTaken u bits c t0

/-- One nibble through the CRC-4 of R207: polynomial x^4 + x^3 + x^2 + 1. -/
def sentCrcTable (n : Nat) : Nat :=
  let s := fun r => if 8 ≤ r % 16 then Nat.xor (2 * r % 16) 0xD else 2 * r % 16
  s (s (s (s n)))

/-- The CRC-4 over nibbles, with the appended zero nibble or in the legacy form. -/
def sentCrc (legacy : Bool) (ns : List Nat) : Nat :=
  let r := ns.foldl (fun r n => Nat.xor n (sentCrcTable r)) 5
  if legacy then r else sentCrcTable r

/-- The CRC-6 of SAE J2716 over bits: polynomial x^6 + x^4 + x^3 + 1, seed 010101, six zeros appended. -/
def sentCrc6 (bits : List Nat) : Nat :=
  (bits ++ [0, 0, 0, 0, 0, 0]).foldl (fun r b => let t := 2 * r + b
                                                  if 64 ≤ t then Nat.xor (t % 64) 0x19 else t) 0x15

/-- A big-endian number of bits. -/
def bitsNat (bs : List Nat) : Nat := bs.foldl (fun r b => 2 * r + b) 0

/-- A completed serial message: identifier, data, check passed. -/
def slowShort (legacy : Bool) (m : List (Nat × Nat)) : Nat × Nat × Bool :=
  let w := bitsNat (m.map (·.2))
  let id := w / 4096 % 16
  let data := w / 16 % 256
  (id, data, sentCrc legacy [id, data / 16, data % 16] = w % 16)

/-- A completed enhanced message of 18 frames, each as bits 3 and 2 of its status nibble. -/
def slowEnhanced (m : List (Nat × Nat)) : Nat × Nat × Bool :=
  let b3 := m.map (·.1)
  let crc := bitsNat ((m.map (·.2)).take 6)
  let d12 := bitsNat ((m.map (·.2)).drop 6)
  let body := ((m.drop 6).map fun x => [x.2, x.1]).flatten
  let hi := bitsNat ((b3.drop 8).take 4)
  let lo := bitsNat ((b3.drop 13).take 4)
  let ok := sentCrc6 body = crc
  if b3.getD 7 0 = 0 then (hi * 16 + lo, d12, ok) else (hi, lo * 4096 + d12, ok)

/-- The serial message of the slow channel (R209) after one more status nibble. -/
def Dev.sentSlow (d : Dev) (u : Lane) (c : Fin 4) (status : Nat) : Dev :=
  let cfg := R.POS_FRM_CFG_VALUE
  let mode := d.frm u c cfg 21 20
  if mode ≠ 1 ∧ mode ≠ 2 then d
  else
    let bit := (status / 8 % 2, status / 4 % 2)
    let m := (d.chan u c).slow
    let m := if mode = 1 then (if bit.1 = 1 then [bit] else if m = [] then [] else m ++ [bit])
      else
        let m := (m ++ [bit]).drop ((m.length + 1) - 18)
        m
    let full := if mode = 1 then m.length == 16
      else m.length == 18 && ((m.map (·.1)).take 7 == [1, 1, 1, 1, 1, 1, 0]) && (m.getD 12 (1, 1)).1 == 0 && (m.getD 17 (1, 1)).1 == 0
    let d := d.onChan u c fun s => { s with slow := if full then [] else m }
    if !full then d
    else
      let r := if mode = 1 then slowShort (d.frm u c cfg 22 22 == 1) m else slowEnhanced m
      if r.2.2 then ((d.setCh u c R.POS_SLOW_ID r.1).setCh u c R.POS_SLOW_DATA r.2.1).setCh u c R.POS_SLOW_NEW 1
      else d.decodeError u c

/-- A pulse in ticks of its frame, whose tick is the sync pulse divided by 56 (R207). DESIGN CHOICE: it counts as the nearest whole number. -/
def sentTicks (sync pulse : Nat) : Nat := (2 * 56 * pulse + sync) / (2 * max 1 sync)

/-- The channel takes a SENT frame: a bad frame, or its field and its serial message (R207 to R210). DESIGN CHOICE: a pause pulse that is
missing or out of range makes a bad frame too, and a bad frame leaves the bits of a serial message that have come so far (log 121). -/
def Dev.sentTaken (d : Dev) (u : Lane) (sync : Nat) (pulses : List Nat) (pause : Option Nat) (age : Nat) (c : Fin 4) : Dev :=
  let cfg := R.POS_FRM_CFG_VALUE
  let nominal := 56 * 250 * d.frm u c R.POS_FRM_TIME_VALUE 31 24
  let last := (d.chan u c).sync
  let d := d.onChan u c fun s => { s with sync := some sync }
  let pulses := pulses.map (sentTicks sync)
  let pause := pause.map (sentTicks sync)
  let nib := fun k => pulses.getD k 0 - 12
  let n := d.frm u c cfg 31 29
  let data := (List.range n).map fun k => nib (k + 1)
  let far := 4 * sync < 3 * nominal ∨ 5 * nominal < 4 * sync
  let off : Bool := match last with
    | some s => decide (s < 64 * (sync - s)) || decide (s < 64 * (s - sync))
    | none => false
  let range := pulses.length ≠ n + 2 ∨ !(pulses.all fun p => decide (12 ≤ p) && decide (p ≤ 27))
  let pauseBad := d.frm u c cfg 19 19 = 1 ∧ !(match pause with | some p => decide (12 ≤ p) && decide (p ≤ 768) | none => false)
  let crc := sentCrc (d.frm u c cfg 22 22 == 1) data ≠ nib (n + 1)
  if far ∨ off ∨ range ∨ pauseBad ∨ crc ∨ d.now < age then d.badFrame u c
  else
    let d := d.sentSlow u c (nib 0)
    let len := d.frm u c cfg 25 23
    let f := ((data.drop (d.frm u c cfg 28 26)).take len).foldl (fun r x => 16 * r + x) 0
    d.goodField u c f (4 * len) (d.now - age - d.frm u c R.POS_FRM_TIME_VALUE 23 16 * 500)

/-- SENT_FRAME (R207, R208): a fast-channel frame of the unit's first or second SENT port: the sync pulse, the following pulses (status,
data, CRC) and the pause pulse in device ticks, and how long ago its sync pulse began. -/
def Dev.sentFrame (d : Dev) (u : Lane) (second : Bool) (sync : Nat) (pulses : List Nat) (pause : Option Nat) (age : Nat) : Dev :=
  match d.chanOf u (· == if second then 7 else 6) with
  | none => d
  | some c => d.sentTaken u sync pulses pause age c

/-- Four frame intervals, or excitation periods, of a channel in ticks (R226); none while no frame is due. DESIGN CHOICE: a SENT frame's
interval is the longest frame of nominal ticks. -/
def Dev.frameLimit (d : Dev) (u : Lane) (c : Fin 4) : Option Nat :=
  let sent := 4 * (56 + 27 * (d.frm u c R.POS_FRM_CFG_VALUE 31 29 + 2) + 768 * d.frm u c R.POS_FRM_CFG_VALUE 19 19) *
    (250 * d.frm u c R.POS_FRM_TIME_VALUE 31 24)
  match d.chSel u c with
  | 4 => some (16000000 / (max 1 (d.gl u (pgPOS u) R.POS_EXC_FREQ)))
  | 5 =>
    if d.frm u c R.POS_FRM_TIME_VALUE 10 0 ≠ 0 then some (d.frm u c R.POS_FRM_TIME_VALUE 10 0 * 2000)
    else ((d.chanAxes u c).head?).bind fun x =>
      let t := (d.mods.at u).tb (d.axisTb u x)
      if t.running then some (4 * t.per) else none
  | 6 => some sent
  | 7 => some sent
  | _ => none

/-- SENSOR_FRAME_TIMEOUT (R226): four frame intervals, or excitation periods, without a good one: one declaration per silence. -/
def Dev.sensorFrameTimeout (d : Dev) (u : Lane) (c : Fin 4) : Dev :=
  if !d.up (.iface u) then d
  else
    match d.frameLimit u c with
    | some t =>
      if (d.chan u c).goodAt + t ≤ d.now ∧ !(d.chan u c).silent then
        (d.declareInvalid u c).onChan u c fun s => { s with silent := true }
      else d
    | none => d

/-! ## Writes with an effect (R212, R227) -/

/-- POS_SET stands written (R212, R222). -/
def Dev.posSet (d : Dev) (u : Lane) (c : Fin 4) (v : Word) : Dev :=
  ((d.placePos u c v.toInt).onChan u c fun s => { s with dirty := true }).compRejudge u c

/-- SENSE.CLEAR stands written (R227): each named channel's INVALID ends where its cause is gone, and else CLEAR_REFUSED of its
source counts. DESIGN CHOICE: an accepted clear returns GCNT to 0. -/
def Dev.senseClear (d : Dev) (bits : Nat) : Dev :=
  (List.finRange 8).foldl (fun d i =>
    let u : Lane := if i.val < 4 then .a else .b
    let c : Fin 4 := ⟨i.val % 4, by omega⟩
    if bits / 2 ^ i.val % 2 = 0 ∨ !d.up (.iface u) ∨ d.ch u c R.POS_STATE_INVALID = 0 then d
    else if !(d.chan u c).causeGone ∨ d.chFaulty u c then d.inc pgLEDGER R.LEDGER_SRC_CLRREF (136 + i.val)
    else (((d.setCh u c R.POS_STATE_INVALID 0).setCh u c R.POS_STATE_GCNT 0).onChan u c fun s =>
      { s with dirty := true, causeGone := false }).endCause (136 + i.val)) d

/-- An encoder edge counts in WATCH, in the channel that counted as WATCH was entered (R213). -/
def Dev.watchCount (d : Dev) (u : Lane) (a b : Bool) (rate : Nat) : Dev :=
  match (d.pos.at u).watchCh with
  | none => d.onPos u fun s => { s with lvA := a, lvB := b }
  | some c =>
    let p := d.pos.at u
    let d := d.onPos u fun s => { s with lvA := a, lvB := b }
    if 50000 < rate then ((d.setCh u c R.POS_STATE_LOST 1).setCh u c R.POS_STATE_REFD 0).onPos u fun s => { s with watchLost := true }
    else
      let k : Int :=
        if d.chSel u c = 2 then (if a && !p.lvA then (if d.ch u c R.POS_TW_DIRSRC = 1 then -1 else 1) else 0)
        else (quadStep (d.ch u c R.POS_FILT_MULT) (d.ch u c R.POS_FILT_INV == 1) p.lvA p.lvB a b).getD 0
      if k = 0 then d
      else
        let d := d.setCh u c R.POS_REVPOS_REVPOS ((((d.ch u c R.POS_REVPOS_REVPOS : Nat) : Int) + k) % (d.chCpr u c : Nat)).toNat
        let old := d.chS u c R.POS_POS_POS
        d.setChS u c R.POS_POS_POS (clampInt (d.chS u c R.POS_LIM_LO_LIM) (d.chS u c R.POS_LIM_HI_LIM) (old + k))

/-- WATCH_EDGE_COUNT (R213): an encoder edge in the always-on domain of an interface die, with the present edge rate. Counts move
without stamps, index checks or compares; an edge of either land also counts for the speed watch (R96). -/
def Dev.watchEdge (d : Dev) (u : Lane) (a b : Bool) (rate : Nat) : Dev :=
  if d.mode.cur ≠ .watch ∨ !(d.power.aonRunning.at u) then d
  else
    let d := if (d.pos.at u).lvA = a ∧ (d.pos.at u).lvB = b then d else d.speedEdge u
    d.watchCount u a b rate

/-! ## Records (R229 to R231) -/

/-- One more speed in the sums per safety cycle (R464, R483). -/
def addSpeed (now : Nat) (v : Int) (h : List (Nat × Int × Nat)) : List (Nat × Int × Nat) :=
  match h with
  | (c, s, n) :: r => if c = now / 125000 then (c, s + v, n + 1) :: r else ((now / 125000, v, 1) :: h).take 64
  | [] => [(now / 125000, v, 1)]

/-- A channel's record goes out (R229). A Hall angle in it is that at the record's stamp, from which R260 carries it on (log 39). -/
def Dev.recordLeaves (d : Dev) (u : Lane) (c : Fin 4) : Dev :=
  let s := d.chan u c
  let d := d.refreshSpeed u c
  let d := if d.chSel u c = 3 ∧ s.hallAt.isSome then d.setCh u c R.POS_ANGLE_ANGLE (d.hallAngleAt u c 0) else d
  let r : PosRec := { pos := d.chS u c R.POS_POS_POS, revpos := d.ch u c R.POS_REVPOS_REVPOS, stamp := d.ch u c R.POS_EDGE_T_T
                      speed := d.chS u c R.POS_SPEED_SPEED, angle := BitVec.ofNat 32 (d.ch u c R.POS_ANGLE_ANGLE)
                      state := d.word u (pageAddr (pgPOS u) (R.POS_STATE_CMPL.at c.val))
                      fires := d.ch u c R.POS_CCAUSE_FIRE, seq := s.seq }
  let d := d.onChan u c fun s => { s with dirty := false, seq := (s.seq + 1) % 256, sentAt := some d.now, sent := (r :: s.sent).take 4 }
  let k : Fin 8 := ⟨4 * u.idx + c.val, by cases u <;> simp [Lane.idx] <;> omega⟩
  d.onPos u fun p => { p with ifRecs := p.ifRecs.set k { last := some r, at' := d.now, bad := false
                                                         hist := addSpeed d.now r.speed p.ifRecs[k].hist } }

/-- Less than 1 us has passed since the channel's last record. -/
def Dev.recordSoon (d : Dev) (u : Lane) (c : Fin 4) : Bool :=
  match (d.chan u c).sentAt with | some t => decide (d.now < t + 500) | none => false

/-- POS_RECORD_PUBLISH: at most once per 1 us, and the own island takes it at once. -/
def Dev.recordPublish (d : Dev) (u : Lane) (c : Fin 4) : Dev :=
  if !d.up (.iface u) ∨ d.recordSoon u c then d else d.recordLeaves u c

/-- The way of a record from unit `u` to a die of lane `l` stands: the isolated lanes of the control die, and the interface
cross-link between the two lanes. -/
def Dev.recordWay (d : Dev) (l : Lane) (atCtl : Bool) (u : Lane) : Bool :=
  let iso := (d.link (.isoData l true)).live || (d.link (.isoTime l true)).live
  let cross := (d.link (.ifaceCross l)).live
  (if atCtl then d.up (.ctl l) && iso else d.up (.iface l)) && (u == l || cross)

/-- Change what a die of lane `l` holds of a channel. -/
def Dev.onRec (d : Dev) (l : Lane) (atCtl : Bool) (u : Lane) (c : Fin 4) (f : RecSlot → RecSlot) : Dev :=
  let k : Fin 8 := ⟨4 * u.idx + c.val, by cases u <;> simp [Lane.idx] <;> omega⟩
  d.onPos l fun p => if atCtl then { p with ctlRecs := p.ctlRecs.set k (f p.ctlRecs[k]) } else { p with ifRecs := p.ifRecs.set k (f p.ifRecs[k]) }

/-- POS_RECORD_RECEIVE: a record of unit `u` reaches a die of lane `l`. -/
def Dev.recordReceive (d : Dev) (l : Lane) (atCtl : Bool) (u : Lane) (c : Fin 4) (seq : Fin 256) (crcOk : Bool) : Dev :=
  if !d.recordWay l atCtl u then d
  else
    match (d.chan u c).sent.find? (·.seq == seq.val) with
    | none => d
    | some r =>
      if !crcOk then (d.onRec l atCtl u c fun s => { s with bad := true }).raiseBy l 157
      else d.onRec l atCtl u c fun s => { last := some r, at' := d.now, bad := false, hist := addSpeed d.now r.speed s.hist }

/-- The difference of a SENSE pair beyond its tolerance, as the die of lane `l` sees it; none where it is not compared (R231). -/
def Dev.pairBeyond (d : Dev) (l : Lane) (k : Fin 4) : Option Bool :=
  let ca : Fin 4 := ⟨d.gl l pgSENSE R.SENSE_PAIR_CHA k.val % 4, by omega⟩
  let cb : Fin 4 := ⟨d.gl l pgSENSE R.SENSE_PAIR_CHB k.val % 4, by omega⟩
  match (d.pos.at l).ifRecs[(⟨ca.val, by omega⟩ : Fin 8)].last, (d.pos.at l).ifRecs[(⟨4 + cb.val, by omega⟩ : Fin 8)].last with
  | some ra, some rb =>
    if !ra.refd ∨ !rb.refd then none
    else
      let dt := stampDiff rb.stamp ra.stamp
      let xa := if 0 < dt then divNearest (ra.speed * dt) 128000000000 else 0
      let xb := if dt < 0 then divNearest (rb.speed * (-dt)) 128000000000 else 0
      let cpr : Int := d.chCpr .a ca
      let h := cpr / 2
      let e := ((((ra.revpos : Nat) : Int) + xa - rb.revpos - xb + h) % cpr) - h
      some (decide (d.gl l pgSENSE R.SENSE_PAIR_TOL k.val < e.natAbs))
  | _, _ => none

/-- The copies of SENSE compare the pair (R231): POS_DISAGREE is raised at the fourth consecutive comparison beyond the tolerance. -/
def Dev.pairCompared (d : Dev) (k : Fin 4) : Dev :=
  let r := (d.copies pgSENSE).foldl (fun (r : Dev × Bool) l =>
    match r.1.pairBeyond l k with
    | none => r
    | some far =>
      let n := if far then (r.1.pos.at l).pairRun.getD k.val 0 + 1 else 0
      (r.1.onPos l fun p => { p with pairRun := p.pairRun.set k.val n }, r.2 || n == 4)) (d, false)
  if r.2 then (r.1.cause pgSENSE k.val).raise (152 + k.val) else r.1

/-- A write of PAIRk: the comparisons count anew. -/
def Dev.pairRestart (d : Dev) (k : Fin 4) : Dev :=
  d.eachLane fun d l => d.onPos l fun p => { p with pairRun := p.pairRun.set k.val 0 }

/-- SENSE_PAIR_COMPARE (R231): the fourth consecutive comparison beyond the tolerance raises POS_DISAGREE. -/
def Dev.sensePairCompare (d : Dev) (k : Fin 4) : Dev :=
  if d.g pgSENSE R.SENSE_PAIR_EN k.val = 0 then d
  else d.pairCompared k

end Sys2Proof.Machine
end

