-- ==== Sys2Proof/Machine/Motion.lean ====
section
/-! DEFINITION. Chapter 09: the motion units, the segment table, the jerk-limited generator, stepping and its chopper. Each formula is
evaluated in exact fractions and rounded half away from zero to the format of its target (R329). -/

namespace Sys2Proof.Machine

/-! ## Registers at a servo tick -/

/-- The word of a MOTION register as servo tick `tk` uses it: a write counts that reached the page before tk − 96 (R327). -/
def Dev.mWord (d : Dev) (x : Fin 2) (f : Fld) (tk : Nat) : Word :=
  match (d.motion[x].former.filter fun e => e.1 == f.off && decide (tk ≤ e.2.2 + 96)).getLast? with
  | some (_, w, _) => w
  | none => d.word (d.prim (pgMOTION x)) (pageAddr (pgMOTION x) f.off)

/-- One lane's unit remembers the word that a write is about to replace (R327), newest first. A write of the target of the mode that runs
ends the use of resume data, from the servo tick that uses it (R340, R346). -/
def Dev.unitFormer (d : Dev) (x : Fin 2) (off : Nat) : Dev :=
  let w := d.word (d.prim (pgMOTION x)) (pageAddr (pgMOTION x) off)
  d.onMotion x fun m => { m with former := (off, w, d.now) :: m.former.filter fun e => decide (d.now ≤ e.2.2 + 4096)
                                 resumeEnds := if m.useResume ∧ ((off = 0x54 ∧ m.runMode = 2) ∨ (off = 0x58 ∧ m.runMode = 3)) then
                                     (m.resumeEnds).or (some d.now) else m.resumeEnds }

/-- The motion units remember the word that a write is about to replace (R327). -/
def Dev.motionFormer (d : Dev) (x : Fin 2) (off : Nat) : Dev := d.eachUnit x fun d => d.unitFormer x off

/-- The limits in the unit's formats: VMAX in Q32.16, AMAX, DMAX and JMAX as integers. -/
structure Limits where
  vmax : Int
  amax : Int
  dmax : Int
  jmax : Int
  st : Int

/-- The limits that servo tick `tk` uses. -/
def Dev.limits (d : Dev) (x : Fin 2) (tk : Nat) : Limits :=
  { vmax := R.MOTION_VMAX_V.get (d.mWord x R.MOTION_VMAX_V tk) * 256
    amax := R.MOTION_AMAX_A.get (d.mWord x R.MOTION_AMAX_A tk)
    dmax := R.MOTION_DMAX_A.get (d.mWord x R.MOTION_DMAX_A tk)
    jmax := R.MOTION_JMAX_J.get (d.mWord x R.MOTION_JMAX_J tk)
    st := R.MOTION_SERVO_T_T.get (d.mWord x R.MOTION_SERVO_T_T tk) }

/-! ## The segment table (R330 to R336) -/

/-- The words of an entry. -/
def Dev.segWords (d : Dev) (n : Nat) : List Word :=
  let l := d.prim (pgMOTION 0)
  (List.range 4).map fun k => d.word l (rgSEG + 16 * (n % 4096) + 4 * k)

/-- An entry is valid (R331, R332). -/
def segValid (ws : List Word) (vmax : Int) : Bool :=
  let flags := (ws.getD 3 0).toNat
  let v1 := sint (ws.getD 1 0) * 256
  (checkCode 0).over ((ws.flatMap wordBytes).take 15) == flags / 2 ^ 24 && (ws.getD 2 0).toNat % 2 ^ 24 != 0 &&
  (v1 == 0 || (flags / 2 ^ 13 % 4 == 0)) && decide ((v1.natAbs : Int) ≤ vmax)

/-- Load an entry as the executing segment, from a start point and with a duration. -/
def Dev.loadSeg (d : Dev) (x : Fin 2) (n : Nat) (p0 v0 : Int) (dur : Nat) : Dev :=
  let ws := d.segWords n
  let flags := (ws.getD 3 0).toNat
  let d := d.onMotion x fun m => { m with
    entry := n, k := 0, segN := dur, segP0 := p0, segV0 := v0, segP1 := sint (ws.getD 0 0) * 2 ^ 32, segV1 := sint (ws.getD 1 0) * 256,
    segEnd := flags / 2 ^ 14 % 2 == 1, segWait := flags / 2 ^ 13 % 2 == 1, segNext := flags % 4096, nextBad := false, waitGo := false, waitFire := none }
  (d.s (pgMOTION x) R.MOTION_SEG_INDEX n).setAct x actTABLE

/-- DUR of an entry. -/
def Dev.segDur (d : Dev) (n : Nat) : Nat := ((d.segWords n).getD 2 0).toNat % 2 ^ 24

/-- The set-point k periods into a segment (R334): position, velocity, acceleration. -/
def hermite (p0 v0 p1 v1 : Int) (k n st : Int) : Int × Int × Int :=
  let h := 500000000
  let p := (((2 * k ^ 3 - 3 * k ^ 2 * n + n ^ 3) * p0 + (3 * k ^ 2 * n - 2 * k ^ 3) * p1) * h +
            ((k ^ 3 - 2 * k ^ 2 * n + k * n ^ 2) * v0 + (k ^ 3 - k ^ 2 * n) * v1) * n * st * 2 ^ 16)
  let v := (6 * k ^ 2 - 6 * k * n) * (p0 - p1) * h + ((3 * k ^ 2 - 4 * k * n + n ^ 2) * v0 + (3 * k ^ 2 - 2 * k * n) * v1) * n * st * 2 ^ 16
  let a := (12 * k - 6 * n) * (p0 - p1) * h * h + ((6 * k - 4 * n) * v0 + (6 * k - 2 * n) * v1) * n * st * h * 2 ^ 16
  (divRoundAway p (n ^ 3 * h).toNat, divRoundAway v (n ^ 3 * st * 2 ^ 16).toNat, divRoundAway a (n ^ 3 * st ^ 2 * 2 ^ 16).toNat)

/-- Stop the motion (R344): the generator ramps to zero from the present state. -/
def Dev.beginStop (d : Dev) (x : Fin 2) : Dev := (d.recordResume x).setAct x actSTOPPING

/-- The present segment ends (R332, R334): the next servo tick is the first of entry NEXT, unless the unit stops, arrives or waits. -/
def Dev.segEnds (d : Dev) (x : Fin 2) : Dev :=
  let p := pgMOTION x
  let m := d.motion[x]
  let d := (d.cause p 0).onMotion x fun m => { m with p := m.segP1, v := m.segV1 }
  if m.nextBad then
    let d := d.beginStop x
    let rk := d.segDur m.segNext
    let d := d.onMotion x fun m => { m with ridx := m.segNext, rk := rk }
    (d.s p R.MOTION_SEG_RIDX m.segNext).s p R.MOTION_SEGK_K rk
  else if m.segEnd then
    ((d.onMotion x fun m => { m with v := 0, a := 0 }).setAct x actIDLE |>.s p R.MOTION_STAT_ARRIVED 1).cause p 1
  else if m.segWait then (d.onMotion x fun m => { m with v := 0, a := 0 }).setAct x actWAITING
  else d

/-- The segment that a servo tick of the table belongs to: the one after a segment that has ended (R334). -/
def Dev.segGoesOn (d : Dev) (x : Fin 2) : Dev :=
  let m := d.motion[x]
  if 0 < m.k ∧ m.segN ≤ m.k then d.loadSeg x m.segNext m.segP1 m.segV1 (d.segDur m.segNext) else d

/-- One servo tick of the table (R332, R334, R336). -/
def Dev.tableTick (d : Dev) (x : Fin 2) (lim : Limits) : Dev :=
  let p := pgMOTION x
  let d := d.segGoesOn x
  let d := d.onMotion x fun m => { m with k := m.k + 1 }
  let m := d.motion[x]
  let d := if m.k = 1 ∧ !m.segEnd ∧ !segValid (d.segWords m.segNext) lim.vmax then
      (d.onMotion x fun m => { m with nextBad := true }).cause p 2 else d
  let (np, nv, na) := hermite m.segP0 m.segV0 m.segP1 m.segV1 m.k m.segN lim.st
  let d := d.onMotion x fun m => { m with p := np, v := nv, a := na }
  let d := d.s p R.MOTION_SEGK_K (m.k % 2 ^ 24)
  if lim.vmax < nv.natAbs ∨ max lim.amax lim.dmax * 2 ^ 16 < na.natAbs then (d.cause p 3).beginStop x
  else if m.segN ≤ m.k then d.segEnds x else d

/-! ## The generator (R337 to R341) -/

/-- vstop of R337 in Q32.16, for a distance in Q32.32. -/
def vstop (x : Nat) (dmax jmax : Nat) : Nat :=
  if jmax = 0 then 0
  else if dmax ^ 3 * 2 ^ 32 ≤ x * jmax ^ 2 then
    let r := isqrt (4 * (2 ^ 30 * dmax ^ 4 + 2 * dmax * x * jmax ^ 2))
    ((r - 2 ^ 16 * dmax ^ 2) / jmax + 1) / 2
  else (icbrt (jmax * x ^ 2 / 2 ^ 13) + 1) / 2

/-- Sign of an integer, as -1, 0 or 1. -/
def sgn (x : Int) : Int := if x < 0 then -1 else if 0 < x then 1 else 0

/-- One tick of the generator of R338 towards a target velocity: position, velocity and acceleration. -/
def genStep (p v a vt : Int) (lim : Limits) : Int × Int × Int :=
  let h := 500000000
  let dv := vt - v
  let top := if 0 < v * dv ∨ v = 0 then lim.amax else lim.dmax
  let r := divRoundAway (dv * 2 ^ 17 * lim.jmax - a * a.natAbs) (2 ^ 17 * lim.jmax).toNat
  let ag := sgn r * top * 2 ^ 16
  let j := lim.jmax * lim.st * 2 ^ 16
  let an := divRoundAway (a * h + clampInt (-j) j ((ag - a) * h)) h.toNat
  let vn := divRoundAway (v * 2 * h + (a + an) * lim.st) (2 * h).toNat
  let pn := divRoundAway (p * 2 * h + (v + vn) * lim.st * 2 ^ 16) (2 * h).toNat
  (pn, vn, an)

/-- A settling towards a velocity (R339). -/
def settleV (v vt vn an : Int) (lim : Limits) : Int × Int :=
  if (v - vt) * (vn - vt) ≤ 0 ∧ (an.natAbs : Int) * 500000000 ≤ lim.jmax * lim.st * 2 ^ 16 then (vt, 0) else (vn, an)

/-- One servo tick of the generator in POSITION or VELOCITY mode (R338, R339). -/
def Dev.generatorTick (d : Dev) (x : Fin 2) (lim : Limits) (tk : Nat) : Dev :=
  let p := pgMOTION x
  let m := d.motion[x]
  let resumes : Bool := m.useResume && !(m.resumeEnds.any fun t => decide (t + 96 < tk))
  let d := if resumes then d else d.onMotion x fun m => { m with useResume := false, resumeEnds := none }
  if m.runMode = 2 then
    let tgt := (if resumes then m.rTarget else R.MOTION_TARGET_P.getS (d.mWord x R.MOTION_TARGET_P tk)) * 2 ^ 32
    let dist := tgt - m.p
    let vt := sgn dist * min lim.vmax (vstop dist.natAbs lim.dmax.toNat lim.jmax.toNat)
    let (pn, vn, an) := genStep m.p m.v m.a vt lim
    let arrives := sgn dist * sgn (tgt - pn) ≤ 0 ∨ ((tgt - pn).natAbs ≤ 2 ^ 31 ∧ vn.natAbs ≤ 2 ^ 16)
    if arrives then
      (((d.onMotion x fun m => { m with p := tgt, v := 0, a := 0, useResume := false, resumeEnds := none }).setAct x actIDLE).s p R.MOTION_STAT_ARRIVED 1).cause p 1
    else d.onMotion x fun m => { m with p := pn, v := vn, a := an }
  else
    let want := (if resumes then m.rTarget else R.MOTION_VTARGET_V.getS (d.mWord x R.MOTION_VTARGET_V tk)) * 256
    let vt := clampInt (-lim.vmax) lim.vmax want
    let (pn, vn, an) := genStep m.p m.v m.a vt lim
    let (vn, an) := settleV m.v vt vn an lim
    d.onMotion x fun m => { m with p := pn, v := vn, a := an }

/-- One servo tick of a stop (R339, R344). -/
def Dev.stopTick (d : Dev) (x : Fin 2) (lim : Limits) : Dev :=
  let m := d.motion[x]
  let (pn, vn, an) := genStep m.p m.v m.a 0 lim
  let (vn, an) := settleV m.v 0 vn an lim
  let d := d.onMotion x fun m => { m with p := pn, v := vn, a := an }
  if vn = 0 ∧ an = 0 then (d.setAct x actIDLE).cause (pgMOTION x) 4 else d

/-! ## Commands (R342 to R346) -/

/-- A command is refused: STAT.REFUSE and REFUSED_CMD. -/
def Dev.motionRefuse (d : Dev) (x : Fin 2) (code : Nat) : Dev := (d.s (pgMOTION x) R.MOTION_STAT_REFUSE code).cause (pgMOTION x) 5

/-- CMD stands written, its epoch and its axis in order (R342): the command waits for its servo tick in each lane's unit. -/
def Dev.motionCmd (d : Dev) (x : Fin 2) (op : Nat) : Dev := d.eachUnit x fun d =>
  if d.motion[x].pendingCmd.isSome then d.motionRefuse x 1
  else (d.onMotion x fun m => { m with pendingCmd := some (op, d.now) }).s (pgMOTION x) R.MOTION_STAT_PENDING 1

/-- GO on an idle axis: CFG.MODE starts. -/
def Dev.motionStart (d : Dev) (x : Fin 2) (lim : Limits) : Dev :=
  let p := pgMOTION x
  let m := d.motion[x]
  let clear := fun (d : Dev) => ((d.s p R.MOTION_STAT_ARRIVED 0).s p R.MOTION_STAT_RESUMABLE 0).onMotion x fun m =>
    { m with useResume := false, resumeEnds := none, runMode := d.g p R.MOTION_CFG_MODE }
  match d.g p R.MOTION_CFG_MODE with
  | 0 => d
  | 1 =>
    let n := d.g p R.MOTION_START_INDEX
    if segValid (d.segWords n) lim.vmax then (clear d).loadSeg x n m.p m.v (d.segDur n) else d.motionRefuse x 3
  | _ => (clear d).setAct x actGENERATOR

/-- The duration of a resume segment (R346). -/
def resumeDur (rk : Nat) (dp : Nat) (lim : Limits) : Nat :=
  let up := fun (a b : Nat) => (a + b - 1) / max b 1
  let byV := up (3 * dp * 500000000 * 2 ^ 16) (2 * 2 ^ 32 * (lim.vmax * lim.st).toNat)
  let byA := sqrtCeil (up (6 * dp * 500000000 ^ 2) ((lim.st ^ 2 * lim.amax).toNat * 2 ^ 32))
  max 1 (max rk (max byV byA))

/-- The earliest write of the target of a mode that servo tick `tk` does not use yet (R327, R340). -/
def MotionState.targetAfter (m : MotionState) (mode tk : Nat) : Option Nat :=
  ((m.former.filter fun e => decide (tk ≤ e.2.2 + 96) && ((e.1 == 0x54 && mode == 2) || (e.1 == 0x58 && mode == 3))).getLast?).map (·.2.2)

/-- RESUME on an idle axis at servo tick `tk` (R346): a write of the target that this tick does not use yet ends the use of the resume data
in its turn (R340). -/
def Dev.motionResume (d : Dev) (x : Fin 2) (lim : Limits) (tk : Nat) : Dev :=
  let p := pgMOTION x
  let m := d.motion[x]
  if d.g p R.MOTION_STAT_RESUMABLE = 0 then d.motionRefuse x 2
  else if m.rMode = 1 then
    let ws := d.segWords m.ridx
    if segValid ws lim.vmax then
      let dp := (sint (ws.getD 0 0) * 2 ^ 32 - m.p).natAbs
      (((d.s p R.MOTION_STAT_ARRIVED 0).s p R.MOTION_STAT_RESUMABLE 0).onMotion x fun m => { m with runMode := 1 }).loadSeg x m.ridx m.p 0
        (resumeDur m.rk dp lim)
    else d.motionRefuse x 3
  else
    (((d.s p R.MOTION_STAT_ARRIVED 0).s p R.MOTION_STAT_RESUMABLE 0).onMotion x fun m =>
      { m with useResume := true, resumeEnds := m.targetAfter m.rMode tk, runMode := m.rMode }).setAct x actGENERATOR

/-- A command applies at servo tick `tk` (R343): 1 GO, 2 STOP, 3 RESUME, 4 ABORT. -/
def Dev.motionApply (d : Dev) (x : Fin 2) (op : Nat) (lim : Limits) (tk : Nat) : Dev :=
  let p := pgMOTION x
  let a := d.act x
  let keep := fun (d : Dev) => (d.onMotion x fun m => { m with heldCmd := some op }).s p R.MOTION_STAT_PENDING 1
  match op with
  | 1 =>
    if a = actIDLE then d.motionStart x lim
    else if a = actWAITING then d.onMotion x fun m => { m with waitGo := true }
    else if a = actTRACKING then keep d
    else d.motionRefuse x 1
  | 2 => d.unitStop x
  | 3 =>
    if a = actIDLE then d.motionResume x lim tk
    else if a = actTRACKING then (if d.g p R.MOTION_STAT_RESUMABLE = 1 then keep d else d.motionRefuse x 2)
    else d.motionRefuse x 1
  | _ =>
    if a = actIDLE then d.s p R.MOTION_STAT_RESUMABLE 0
    else if a = actTRACKING then
      ((d.s p R.MOTION_STAT_RESUMABLE 0).s p R.MOTION_STAT_PENDING 0).onMotion x fun m => { m with heldCmd := none }
    else d.motionRefuse x 1

/-- Change one chopper. -/
def Dev.onChop (d : Dev) (l : Lane) (n : Fin 3) (f : ChopLeg → ChopLeg) : Dev :=
  d.onMotion 1 fun m => { m with chop := m.chop.put l ((m.chop.at l).set n (f (m.chop.at l)[n])) }

/-- Show the offsets of the ACTIVE lane. -/
def Dev.showOffsets (d : Dev) : Dev :=
  let v := d.motion[(1 : Fin 2)].chop.at ((d.active).getD .a)
  let p := pgMOTION 1
  ((d.sS p R.MOTION_OFS45_OFS4 v[0].ofs).sS p R.MOTION_OFS45_OFS5 v[1].ofs).sS p R.MOTION_OFS6_OFS6 v[2].ofs

/-- Every chopped leg is LOW, and no change of it is due (R351). -/
def Dev.chopLow (d : Dev) : Dev :=
  d.eachLane fun d l => [3, 4, 5].foldl (fun d n => d.onLeg l n fun s => { s with chopHigh := false, chopDue := none }) d

/-- The GO or RESUME that waits at the entry of RUN or STEP (R341, R343): the held command, else one that waits for its servo tick. -/
def MotionState.waiting (m : MotionState) : Option Nat :=
  (m.heldCmd).or ((m.pendingCmd.filter fun c => c.1 == 1 || c.1 == 3).map (·.1))

/-- A unit that begins its RUN with a velocity starts as STOPPING (R341). DEDUCED (log 137): this stop leaves resume data where none stand,
which are the target of CFG.MODE; in TABLE mode no entry is interrupted, and it leaves none (R344). -/
def Dev.entryStop (d : Dev) (x : Fin 2) : Dev :=
  let d := if [2, 3].contains (d.motion[x].runMode) ∧ d.g (pgMOTION x) R.MOTION_STAT_RESUMABLE = 0 then d.recordResume x else d
  d.setAct x actSTOPPING

/-- The axis has entered RUN or STEP (R341, R343, R349, R351): the command that waits applies from the tracked state of the unit, else a
velocity is ramped down. -/
def Dev.unitEnter (d : Dev) (x : Fin 2) : Dev :=
  let step := d.axState x == AxState.step
  let count : Int := if d.g (pgFIELD x) R.FIELD_AXCFG_TPH = 1 then 1024 else 1536
  let d := if step then
      let d := d.onMotion x fun m => { m with p := divRoundAway m.p (count * 2 ^ 32).toNat * count * 2 ^ 32, v := 0, a := 0, stall := 0 }
      let fresh : ChopLeg := { tH := d.g (pgMOTION x) R.MOTION_CHOP_TMIN, due := d.now }
      let d := d.onMotion x fun m => { m with chop := { a := Vector.replicate 3 fresh, b := Vector.replicate 3 fresh } }
      d.chopLow.showOffsets
    else d
  let still := fun (d : Dev) => if d.motion[x].v = 0 then d.setAct x actIDLE else d.entryStop x
  match d.motion[x].waiting with
  | none => still (d.onMotion x fun m => { m with runMode := d.g (pgMOTION x) R.MOTION_CFG_MODE })
  | some op =>
    let d := d.onMotion x fun m => if m.heldCmd.isSome then { m with heldCmd := none } else { m with pendingCmd := none }
    let d := d.s (pgMOTION x) R.MOTION_STAT_PENDING (if d.motion[x].pendingCmd.isSome then 1 else 0)
    let d := (d.setAct x actIDLE).motionApply x op (d.limits x (d.now + 97)) (d.now + 97)
    if d.act x = actIDLE then still d else d

/-- The motion units of an axis that has entered RUN or STEP (R341, R343, R349, R351). -/
def Dev.motionEnter (d : Dev) (x : Fin 2) : Dev := d.eachUnit x fun d => d.unitEnter x

/-- The axis has left RUN, or STEP if `step`: the units track the machine (R329), and no leg of a STEP axis stays HIGH (R351). -/
def Dev.motionLeave (d : Dev) (x : Fin 2) (step : Bool) : Dev :=
  (if step then d.chopLow else d).eachUnit x fun d =>
    (d.onMotion x fun m => { m with axisStop := false, zeroSince := none, stallDue := false }).setAct x actTRACKING

/-- An axis STOP ends: the axis goes to OFF once ACT is IDLE (R343). -/
def Dev.axisStopEnds (d : Dev) (x : Fin 2) : Dev :=
  if d.motion[x].axisStop && d.act x == actIDLE then (d.onMotion x fun m => { m with axisStop := false }).axisGoesOff x else d

/-- What a change of the axes' states during a step means for their motion units. -/
def Dev.followAxes (d0 d : Dev) : Dev :=
  d.eachAxis fun d x =>
    let moving := fun (s : AxState) => s = .run ∨ s = .step
    let was := d0.axState x
    let is := d.axState x
    if moving is ∧ !moving was then d.motionEnter x
    else if moving was ∧ !moving is then d.motionLeave x (was == .step) else d

/-! ## The servo tick (R325 to R329) -/

/-- A period start of timebase t in the lane of a unit is counted by it where it clocks it (R325). -/
def Dev.unitPeriod (d : Dev) (x t : Fin 2) : Dev :=
  let p := pgMOTION x
  if d.g p H.CTRL_ENABLE = 0 ∨ d.g p R.MOTION_CFG_TB ≠ t.val then d
  else
    let m := d.motion[x]
    if !m.started ∨ d.g p R.MOTION_CFG_SDIV ≤ m.count then
      let t0 := ((d.mods.at d.motionLane).tb t).t0
      d.onMotion x fun m => { m with started := true, count := 0, due := !m.ahead, ahead := false
                                     lastServo := if m.ahead then t0 else m.lastServo }
    else d.onMotion x fun m => { m with count := m.count + 1 }

/-- A period start of lane `l`'s timebase t is counted by that lane's motion units (R325). -/
def Dev.motionPeriod (d : Dev) (l : Lane) (t : Fin 2) : Dev :=
  d.eachAxis fun d x => if l = d.motionLane then d.unitPeriod x t else d.ownUnit l x fun d => d.unitPeriod x t

/-- The coming servo tick of a unit: the next period start of its timebase, where it is one (R325). -/
def Dev.nextServo (d : Dev) (x : Fin 2) : Option Nat :=
  let p := pgMOTION x
  let m := d.motion[x]
  let t := (d.mods.at ((d.active).getD .a)).tb (if d.g p R.MOTION_CFG_TB = 1 then 1 else 0)
  if t.running && d.g p H.CTRL_ENABLE == 1 && (!m.started || decide (d.g p R.MOTION_CFG_SDIV ≤ m.count)) then
    some ((t.t0 + t.per : Int) + t.syncAdj).toNat else none

/-- The servo tick whose set-point is computed now (R327): one that has fallen and has none yet, else the coming one, from its latch point
on. -/
def Dev.servoAt (d : Dev) (x : Fin 2) : Option Nat :=
  let m := d.motion[x]
  if m.due then some ((d.mods.at ((d.active).getD .a)).tb (if d.g (pgMOTION x) R.MOTION_CFG_TB = 1 then 1 else 0)).t0
  else if m.ahead then none
  else (d.nextServo x).filter fun tk => decide (tk ≤ d.now + 32)

/-- Publish the set-point (R327, R328) and REMAIN (R345). -/
def Dev.publishSetpoint (d : Dev) (x : Fin 2) (lim : Limits) : Dev :=
  let p := pgMOTION x
  let m := d.motion[x]
  let p16 := divRoundAway m.p 65536
  let d := d.sS p R.MOTION_SP_POS_VALUE (p16 / 65536)
  let d := d.s p R.MOTION_SP_FRAC_VALUE ((p16 % 65536).toNat * 65536)
  let d := (d.sS p R.MOTION_SP_VEL_VALUE (divRoundAway m.v 256)).sS p R.MOTION_SP_ACC_VALUE (divRoundAway m.a 65536)
  let ws := d.segWords m.ridx
  let left := if d.g p R.MOTION_STAT_RESUMABLE = 1 ∧ m.rMode = 1 ∧ segValid ws lim.vmax then
      divRoundAway (sint (ws.getD 0 0) * 2 ^ 32 - m.p) (2 ^ 32) else 0
  d.sS p R.MOTION_REMAIN_D left

/-- A tracking unit follows the machine (R329); on a STEP axis the position holds and the velocity is 0. -/
def Dev.trackTick (d : Dev) (x : Fin 2) : Dev :=
  let l := (d.active).getD .a
  let step := d.g (pgFIELD x) R.FIELD_AXCFG_MODE = 2
  if step then d.onMotion x fun m => { m with v := 0, a := 0 }
  else match d.chSelect l x with
    | some (_, _, r) => d.onMotion x fun m => { m with p := r.pos * 2 ^ 32, v := r.speed * 256, a := 0 }
    | none => d.onMotion x fun m => { m with v := d.rateToCounts l x (d.fieldU l x).rate, a := 0 }

/-- The pending level of the microstep resolution (R348). -/
def Dev.stepLevel (d : Dev) (x : Fin 2) : Dev :=
  let p := pgMOTION x
  let v := d.motion[x].v.natAbs
  let thr := [R.MOTION_MSTHR01_THR_EVEN, R.MOTION_MSTHR01_THR_ODD, R.MOTION_MSTHR23_THR_EVEN, R.MOTION_MSTHR23_THR_ODD,
    R.MOTION_MSTHR45_THR_EVEN, R.MOTION_MSTHR45_THR_ODD, R.MOTION_MSTHR67_THR_EVEN, R.MOTION_MSTHR67_THR_ODD].map fun f => d.g p f * 2 ^ 24
  let up := (thr.filter (· ≤ v)).length
  let dn := (thr.filter fun t => decide (7 * t ≤ 8 * v)).length
  let lv := d.g p R.MOTION_STAT_LEVEL
  if lv < up then d.onMotion x fun m => { m with levelPend := some up }
  else if dn < lv then d.onMotion x fun m => { m with levelPend := some dn } else d

/-- The sensor angle of a STEP axis stands further from the microstep angle than STALL.ANG; not without a sensor angle, or with ANG 0
(R354). -/
def Dev.stallFar (d : Dev) (x : Fin 2) : Bool :=
  let lim := d.g (pgMOTION x) R.MOTION_STALL_ANG
  d.axState x == .step && lim != 0 && d.g (pgFIELD x) R.FIELD_ANGSRC_PRI / 64 != 0 &&
  (match d.sensorAngle ((d.active).getD .a) x with
   | some (a, _, _) => decide (lim * 2 ^ 24 < (angDiff d.motion[x].theta a).natAbs)
   | none => false)

/-- The stall watch of a STEP axis counts consecutive servo ticks, each with the microstep angle of its period start (R354). -/
def Dev.stallWatch (d : Dev) (x : Fin 2) : Dev :=
  let d := d.onMotion x fun m => { m with stallDue := false }
  let n := if d.stallFar x then d.motion[x].stall + 1 else 0
  if 0 < n ∧ d.g (pgMOTION x) R.MOTION_STALL_N ≤ n then (d.onMotion x fun m => { m with stall := 0 }).fRaise x 5
  else d.onMotion x fun m => { m with stall := n }

/-- The set-point of servo tick `tk` is computed and published by a lane's unit (R325 to R345). The stall watch of a tick that is still to
come waits for its microstep angle (R354). -/
def Dev.servoRuns (d : Dev) (x : Fin 2) (tk : Nat) : Dev :=
  let p := pgMOTION x
  let lim := d.limits x tk
  let st := R.MOTION_SERVO_T_T.get (d.mWord x R.MOTION_SERVO_T_T tk)
  let gap := tk - d.motion[x].lastServo
  let drift : Bool := d.motion[x].lastServo != 0 && (decide (st + 1 < gap) || decide (gap + 1 < st))
  let d : Dev := if drift then d.cause p 6 else d
  let was := d.setpointWords (d.prim p) x
  let d := d.onMotion x fun m => { m with due := false, ahead := !m.due, lastServo := tk, spWas := was }
  let d : Dev := match d.motion[x].pendingCmd with
    | some (op, t0) =>
      if tk ≤ t0 + 96 then d
      else
        let d := (d.onMotion x fun m => { m with pendingCmd := none }).s p R.MOTION_STAT_PENDING (if d.motion[x].heldCmd.isSome then 1 else 0)
        d.motionApply x op lim tk
    | none => d
  let goes : Bool := d.motion[x].waitGo || d.motion[x].waitFire.any fun t => decide (t < tk)
  let d : Dev := if d.act x = actWAITING ∧ goes then
      let m := d.motion[x]
      d.loadSeg x m.segNext m.p 0 (d.segDur m.segNext)
    else d
  let a := d.act x
  let d : Dev := if a = actTABLE then d.tableTick x lim
    else if a = actGENERATOR then d.generatorTick x lim tk
    else if a = actSTOPPING then d.stopTick x lim
    else if a = actTRACKING then d.trackTick x else d
  let d := d.onMotion x fun m => { m with zeroSince := if m.v = 0 then (m.zeroSince).or (some tk) else none }
  let d := d.publishSetpoint x lim
  let d : Dev := if d.axState x ≠ AxState.step then d
    else if d.now < tk then d.onMotion x fun m => { m with stallDue := true } else d.stallWatch x
  let d : Dev := if d.axState x = AxState.step then d.stepLevel x else d
  d.axisStopEnds x

/-- A lane's unit computes its servo tick, where one is due. -/
def Dev.unitServo (d : Dev) (x : Fin 2) : Dev :=
  match d.servoAt x with
  | some tk => d.servoRuns x tk
  | none => d

/-- SERVO_TICK (R325 to R345): each lane's unit computes and publishes the set-point of the tick. -/
def Dev.servoTick (d : Dev) (x : Fin 2) : Dev :=
  if d.copies (pgMOTION x) = [] then d else d.eachUnit x fun d => d.unitServo x

/-! ## Stepping (R347 to R352) -/

/-- The STEP axis's unit takes its microstep angle and coil references (R347, R348), and judges the stall of the servo tick that this
period start is (R354). -/
def Dev.stepUpdated (d : Dev) : Dev :=
  let p := pgMOTION 1
  let l := d.motionLane
  let t : Fin 2 := if d.g p R.MOTION_CFG_TB = 1 then 1 else 0
  let at' := ((d.mods.at l).tb t).t0
  let m := d.motion[(1 : Fin 2)]
  let pos := m.p + divRoundAway (m.v * 2 ^ 16 * ((at' : Int) - m.lastServo)) 500000000
  let full := pos / (256 * 2 ^ 32)
  let d := match m.levelPend with
    | some lv =>
      if full ≠ m.fullStep ∨ m.v = 0 then
        (d.onMotion 1 fun m => { m with levelPend := none }).s p R.MOTION_STAT_LEVEL lv
      else d
    | none => d
  let lv := d.g p R.MOTION_STAT_LEVEL
  let two := d.g (pgFIELD 1) R.FIELD_AXCFG_TPH == 1
  let c : Int := if two then 1024 else 1536
  let q := pos / 2 ^ 32 / 2 ^ lv * 2 ^ lv
  let th := angWrap (divRoundAway (q % c * 2 ^ 32) c.toNat)
  let rest : Bool := match m.zeroSince with
    | some z => decide (z + d.g p R.MOTION_CHOP2_HOLD_T * 500000 ≤ at')
    | none => false
  let i : Int := if rest then d.g p R.MOTION_STEPCFG_I_HOLD else d.g p R.MOTION_STEPCFG_I_RUN
  let refs := if two then [cosTimes i th, sinTimes i th, 0]
    else [0, 1, 2].map fun (k : Nat) => cosTimes i (angWrap ((th : Int) - k * 0x55555555))
  let d := d.onMotion 1 fun m => { m with theta := th, refs := refs, fullStep := full }
  let u : MotionState := d.motion[(1 : Fin 2)]
  if u.stallDue && decide (u.lastServo ≤ d.now) then d.stallWatch 1 else d

/-- STEP_UPDATE (R347, R348): at a period start of its timebase the STEP axis takes its microstep angle and coil references. -/
def Dev.stepUpdate (d : Dev) : Dev :=
  if d.axState 1 ≠ .step then d else d.eachUnit 1 Dev.stepUpdated

/-- The chopper of leg 4 + n takes samples in lane `l`: the axis steps, and the leg's converter group runs unwindowed in split mode. -/
def Dev.chopWatches (d : Dev) (l : Lane) (n : Fin 3) : Bool :=
  d.axState 1 == .step && d.up (.ctl l) && !d.gang l 1 && !d.grpWen l 1 n && !(d.g (pgFIELD 1) R.FIELD_AXCFG_TPH == 1 && n == 2)

/-- The leg is LOW and stays so, its word passes its check, and the blanking after the change has passed. -/
def Dev.chopSampleOk (d : Dev) (l : Lane) (n : Fin 3) : Bool :=
  let w := d.word l (pageAddr (pgCONV l 1) (R.CONV_LAST_VALUE.at n.val))
  let c := (d.motion[(1 : Fin 2)].chop.at l)[n]
  let ended : Bool := match ((d.mods.at l).legs[(⟨n.val + 3, by omega⟩ : Fin 6)]).chopDue with | some (_, h) => h | none => false
  !c.high && !ended && resCheck w && !resSat w && !resUns w && decide (c.due + d.g (pgMOTION 1) R.MOTION_CHOP_BLANK ≤ d.now - 30)

/-- A valid sample of a LOW counts, and decides whether the leg goes HIGH (R350 to R353). -/
def Dev.sampleJudged (d : Dev) (l : Lane) (n : Fin 3) : Dev :=
  let p := pgMOTION 1
  let leg : Fin 6 := ⟨n.val + 3, by omega⟩
  let w := d.word l (pageAddr (pgCONV l 1) (R.CONV_LAST_VALUE.at n.val))
  let c := (d.motion[(1 : Fin 2)].chop.at l)[n]
  let stamp := d.now - 30
  let i := resValue w
  let tmin := d.g p R.MOTION_CHOP_TMIN
  let tmax := d.g p R.MOTION_CHOP2_TMAX
  let band : Int := d.g p R.MOTION_CHOP_BAND
  let ref := (d.unitOf l 1).refs.getD n.val 0
  let first := c.iHe.isNone
  let next : Nat := match c.iHs with
    | some hs =>
      let di := i - hs
      if 0 < di then (clampInt tmin tmax (divRoundAway (c.tH * band) di.toNat)).toNat else min (2 * c.tH) tmax
    | none => c.tH
  let d := d.onChop l n fun c => { c with iHe := (c.iHe).or (some i), sum := c.sum + i, n := c.n + 1
                                          tHprev := if first then c.tH else c.tHprev, tH := if first then next else c.tH }
  let c := (d.motion[(1 : Fin 2)].chop.at l)[n]
  if c.due + tmin ≤ stamp ∧ 2 * i ≤ 2 * ref - band + 2 * c.ofs then
    let ofs := match c.iHs, c.iHe with
      | some hs, some he =>
        let den : Int := 2 * ((c.tHprev : Int) + 20 * c.n)
        let num := (c.tHprev : Int) * (hs + he) + 40 * c.sum
        clampInt (-band) band (c.ofs + divRoundAway (ref * den - num) (den * 2 ^ d.g p R.MOTION_CHOP2_KOFS).toNat)
      | _, _ => c.ofs
    let d := d.onChop l n fun c => { c with iHs := some i, iHsPrev := c.iHs, iHe := none, sum := 0, n := 0, ofs := ofs }
    (d.chopSchedule l leg (d.now + 32) true).showOffsets
  else d

/-- CHOPPER_DECISION (R350 to R353): the corrected sample of leg 4 + n, stamped 30 ticks earlier, is ready in lane `l`; `bad` says
that its word fails its check: RESULT_CHECK of converter 1, and the word counts as skipped (R170). -/
def Dev.chopperDecision (d : Dev) (l : Lane) (n : Fin 3) (bad : Bool) : Dev :=
  if !d.chopWatches l n then d
  else if bad then d.resultCheck l 1
  else if !d.chopSampleOk l n then d else d.sampleJudged l n

/-- The chopper of a STEP leg enters HIGH, which ends T_H after its due tick, or LOW (R351). -/
def Dev.chopBegins (d : Dev) (l : Lane) (n : Fin 6) (high : Bool) : Dev :=
  let s := (d.mods.at l).legs[n]
  let k : Fin 3 := ⟨(n.val - 3) % 3, by omega⟩
  let d := d.onChop l k fun c => { c with high := high, due := s.chopChangeAt }
  if high then
    d.chopSchedule l n (s.chopChangeAt + ((d.motion[(1 : Fin 2)].chop.at l)[k]).tH) false
  else d

/-- CHOP_STATE_CHANGE (R351, R387) as the chopper sees it: a HIGH that began ends T_H after its due tick, and a LOW opens a new
measurement. -/
def Dev.chopFollow (d : Dev) (l : Lane) (n : Fin 6) : Dev :=
  match (((d.mods.at l).legs[n]).chopDue) with
  | none => d
  | some (t, high) => if d.now < d.chopAt l n t ∨ n.val < 3 then d.chopChange l n else (d.chopChange l n).chopBegins l n high

end Sys2Proof.Machine
end

