-- ==== Sys2Proof/Machine/Resource.lean ====
section
/-! DEFINITION. Chapter 19, and the writers of chapter 04: who writes (R130 to R137), shared resources with their claims, takes and
guards (R631 to R640), and the AUX inputs (R645). -/

namespace Sys2Proof.Machine

/-! ## Writers -/

/-- The class of a port (R56, R132, R134). -/
def Dev.portClass (d : Dev) (n : Nat) : PortClass :=
  if n = 1 then (if d.host.debugOwner then .owner else .sensor)
  else if n < 10 then PortClass.ofCode ((d.word (d.prim pgHOST) (pageAddr pgHOST 0x4C)).toNat / 4 ^ n)
  else .sensor

/-- A writer as the checks see it: its identity (R130), its class, and whether it is firmware. -/
structure Who where
  ident : Nat
  cls : PortClass
  fw : Bool
  deriving DecidableEq, Repr

/-- Firmware writes as an OWNER would, but for the proxied port of R137. -/
def Dev.who (d : Dev) : Writer → Who
  | .port n => { ident := n.val, cls := d.portClass n.val, fw := false }
  | .laneFw l =>
    match d.host.proxy.at l with
    | some p => { ident := p, cls := d.portClass p, fw := false }
    | none => { ident := 48 + l.idx, cls := .owner, fw := true }
  | .islandFw l => { ident := 50 + l.idx, cls := .owner, fw := true }

/-! ## Resources -/

/-- The indices the table of R631 lists. -/
def resListed (r : Nat) : Bool :=
  r ≤ 13 || (16 ≤ r && r ≤ 80) || (96 ≤ r && r ≤ 159)

/-- The owner of a resource in the coding of R632; 255 is free. -/
def Dev.resOwner (d : Dev) (r : Nat) : Nat :=
  (d.word (d.prim pgRES) (pageAddr pgRES (0x80 + 4 * (r / 4)))).toNat / 256 ^ (r % 4) % 256

/-- Set the owner of a resource in every available copy. -/
def Dev.setOwner (d : Dev) (r o : Nat) : Dev :=
  let f : Fld := ⟨0x80, 4, 40, 8 * (r % 4) + 7, 8 * (r % 4), .ro, 255, .any, false⟩
  d.s pgRES f o (r / 4)

/-- The function whose take of a resource applies. -/
def Dev.resTaker (d : Dev) (r : Nat) : Option Nat := (d.res.takes.find? fun t => t.res == r && t.on).map (·.fn)

/-- Units and queues that accept writes from their owner alone, even while free (R637). -/
def resStrict (r : Nat) : Bool := 16 ≤ r && r < 40

/-- A guarded write of a writer is accepted (R637, R640). -/
def Dev.resOk (d : Dev) (w : Who) (r : Nat) : Bool :=
  let o := d.resOwner r
  if (d.resTaker r).isSome then false
  else if o = w.ident then true
  else o == 255 && !resStrict r && (w.fw || w.cls == .owner)

/-- Report a refused claim or release (R633). -/
def Dev.resRefuse (d : Dev) (r code : Nat) : Dev := (d.s pgRES R.RES_STAT_REFUSE code).s pgRES R.RES_STAT_R r

/-- RESOURCE_BUSY (R633, R634). -/
def Dev.resBusy (d : Dev) (r : Nat) : Dev := ((d.resRefuse r 1).cause pgRES 0).raise 376

/-- RESOURCE_CLAIM (R633): the writer's identity becomes the owner of a free resource. -/
def Dev.resourceClaim (d : Dev) (w : Who) (r : Nat) : Dev :=
  if !resListed r then d.resRefuse r 3
  else if d.resOwner r = 255 then d.setOwner r w.ident
  else d.resBusy r

/-- RESOURCE_RELEASE (R633): by the owner, or by an OWNER port over an owner that is not a device function. -/
def Dev.resourceRelease (d : Dev) (w : Who) (r : Nat) : Dev :=
  let o := d.resOwner r
  if !resListed r then d.resRefuse r 3
  else if o = 255 then (if w.cls = .owner ∧ !w.fw then d else d.resRefuse r 2)
  else if o = w.ident ∨ (!w.fw ∧ w.cls = .owner ∧ o < 0x40) then d.setOwner r 255
  else d.resRefuse r 2

/-- A claim in the name of a device function (R634): refused while another identity holds the resource; a timebase held for CONTROL
also serves STEPPING and MOTION. -/
def Dev.deviceClaim (d : Dev) (r fn : Nat) : Option Dev :=
  let o := d.resOwner r
  if o = fn ∨ (r < 2 ∧ o = 0x43 ∧ 0x43 < fn) then some d
  else if o = 255 then some (d.setOwner r fn)
  else none

/-- The write that removes a device claim's condition releases it (R634). -/
def Dev.deviceRelease (d : Dev) (r fn : Nat) : Dev := if d.resOwner r = fn then d.setOwner r 255 else d

/-! ## Takes -/

/-- A connection entry's field in island i's copy of the table (R505). -/
def Dev.cw (d : Dev) (i : Lane) (n : Nat) (f : Fld) : Nat := f.get (d.word i (rgCONN + f.at n))

/-- A port is named by a produced connection entry (R638). -/
def Dev.producedOn (d : Dev) (port : Nat) : Bool :=
  let i := d.prim pgSLAYER
  d.gl i pgSLAYER R.SLAYER_CFG_EN == 1 && (List.range 1024).any fun n =>
    d.cw i n R.CONN_EN == 1 && d.cw i n R.CONN_DIR == 1 &&
    (d.cw i n R.CONN_P0PORT == port || (d.cw i n R.CONN_DUAL == 1 && d.cw i n R.CONN_P1PORT == port))

/-- The cause of a take stands (R638). -/
def Dev.takeCause (d : Dev) (r fn : Nat) : Bool :=
  match fn with
  | 0x40 => decide (40 ≤ r ∧ r < 56 ∧ r % 4 = 3) && d.producedOn (3 + (r - 40) / 4)
  | 0x41 =>
    if h : 2 ≤ r ∧ r ≤ 7 then
      let b := d.bridges[d.legBridge ⟨r - 2, by omega⟩]
      b.ascL || b.ascH || (d.mods.at ((d.active).getD .a)).protLegs / 2 ^ (r - 2) % 2 == 1
    else false
  | 0x42 =>
    if h : 2 ≤ r ∧ r ≤ 7 then
      let x := d.legAxis ⟨r - 2, by omega⟩
      d.modeIs [.discharge] && (d.mode.method == 1 || d.mode.method == 2) && d.axisExists x &&
      ([AxState.off, .run].contains (d.axState x) ||
       (d.axState x == .hold && !((d.axisBridges x).any fun b => d.bridges[b].ascL || d.bridges[b].ascH)))
    else false
  | 0x43 => decide (8 ≤ r ∧ r ≤ 10) && [(0 : Fin 2), 1].any fun x => d.axes[x].catchWin.isSome
  | _ => false

/-- Cancel the PENDING buffers of a group that is taken, as by TXCANCEL (R640): the buffer on the bus finishes its attempt. -/
def Dev.cancelBuf (d : Dev) (n : Fin 4) (b : Fin 32) : Dev :=
  let u := d.can[n]
  if (u.bufs[b]).state ≠ 1 then d
  else if u.bus = some b then
    { d with can := d.can.set n { u with bufs := u.bufs.set b { u.bufs[b] with cancel := true } } }
  else
    let l : Lane := if n.val < 2 then .a else .b
    let d := { d with can := d.can.set n { u with bufs := u.bufs.set b { u.bufs[b] with state := 3 } } }
    let bit := 2 ^ b.val
    let d := d.sl l (pgCAN n) R.CAN_TXPEND_BUF (d.gl l (pgCAN n) R.CAN_TXPEND_BUF &&& (4294967295 - bit))
    d.sl l (pgCAN n) R.CAN_TXDONE_BUF (d.gl l (pgCAN n) R.CAN_TXDONE_BUF ||| bit)

/-- What the start of a take does (R640). -/
def Dev.takeStarts (d : Dev) (r : Nat) : Dev :=
  let o := d.resOwner r
  let d := if o < 0x40 ∧ !d.res.preempted.contains r then
      ({ d with res := { d.res with preempted := r :: d.res.preempted } }.cause pgRES 1).raise 377
    else d
  if h : 40 ≤ r ∧ r < 56 then
    (List.finRange 8).foldl (fun d k => d.cancelBuf ⟨(r - 40) / 4, by omega⟩ ⟨8 * ((r - 40) % 4) + k.val, by omega⟩) d
  else d

/-- RESOURCE_TAKE (R639): it applies over lower-ranked takes and waits for a higher-ranked one. -/
def Dev.resourceTake (d : Dev) (r fn : Nat) : Dev :=
  if d.copies pgRES = [] ∨ !d.takeCause r fn ∨ d.res.takes.any (fun t => t.res == r && t.fn == fn) then d
  else
    match d.resTaker r with
    | some k =>
      if k < fn then
        ({ d with res := { d.res with takes := { res := r, fn := fn, on := false } :: d.res.takes } }.cause pgRES 2).raise 378
      else
        let ts := d.res.takes.map fun t => if t.res = r then { t with on := false } else t
        { d with res := { d.res with takes := { res := r, fn := fn, on := true } :: ts } }.takeStarts r
    | none => { d with res := { d.res with takes := { res := r, fn := fn, on := true } :: d.res.takes } }.takeStarts r

/-- The highest-ranked take that waits for a resource and whose cause still stands. -/
def Dev.nextTake (d : Dev) (r : Nat) : Option Nat :=
  [0x40, 0x41, 0x42, 0x43, 0x44, 0x45].find? fun f => d.res.takes.any (fun t => t.res == r && t.fn == f) && d.takeCause r f

/-- RESOURCE_TAKE_END (R639): a deferred or suspended take applies. -/
def Dev.resourceTakeEnd (d : Dev) (r fn : Nat) : Dev :=
  if d.takeCause r fn then d
  else
    let d := { d with res := { d.res with takes := d.res.takes.filter fun t => !(t.res == r && t.fn == fn) } }
    if (d.resTaker r).isSome then d
    else
      match d.nextTake r with
      | none => { d with res := { d.res with takes := d.res.takes.filter (·.res != r) } }
      | some f =>
        let ts := d.res.takes.map fun t => if t.res = r ∧ t.fn = f then { t with on := true } else t
        { d with res := { d.res with takes := ts } }.takeStarts r

/-! ## AUX inputs -/

/-- AUX_SAMPLE (R49, R58, R645): each interface die that runs reads the land through its own converter; a digital input compares with
1.65 V, full scale being 2.5 V. -/
def Dev.auxSample (d : Dev) (n : Fin 4) (v : Int) : Dev :=
  match (d.g pgRES R.RES_AUXCFG_F) / 4 ^ n.val % 4 with
  | 1 => d.sS pgRES R.RES_AUXVAL_V (satS 16 v) n.val
  | 2 => d.s pgRES R.RES_AUXVAL_V (decide (1650 * 32768 ≤ 2500 * v)).toNat n.val
  | _ => d

end Sys2Proof.Machine
end

