-- ==== Sys2Proof/Machine/Can.lean ====
section
/-! DEFINITION. Chapter 15, CAN: receive path with filters and queues, transmit buffers, bus states, and Ruling. The error counts of
ERR follow ISO 11898-1, which R526 names (PRESUMED). -/

namespace Sys2Proof.Machine

/-- The lane of a controller's interface die. -/
def canLane (n : Fin 4) : Lane := if n.val < 2 then .a else .b

/-- A field of a controller's page. -/
def Dev.cg (d : Dev) (n : Fin 4) (f : Fld) : Nat := d.gl (canLane n) (pgCAN n) f

/-- Set a field of a controller's page. -/
def Dev.cs (d : Dev) (n : Fin 4) (f : Fld) (v : Nat) : Dev := d.sl (canLane n) (pgCAN n) f v

/-- Set a CAUSE bit of a controller's page. -/
def Dev.canCause (d : Dev) (n : Fin 4) (bit : Nat) : Dev := d.causeL (canLane n) (pgCAN n) (BitVec.ofNat 32 (2 ^ bit))

/-- Change one controller. -/
def Dev.onCan (d : Dev) (n : Fin 4) (f : CanUnit → CanUnit) : Dev := { d with can := d.can.set n (f d.can[n]) }

/-- Change one transmit buffer. -/
def Dev.onBuf (d : Dev) (n : Fin 4) (b : Fin 32) (f : CanBuf → CanBuf) : Dev :=
  d.onCan n fun u => { u with bufs := u.bufs.set b (f u.bufs[b]) }

/-- A controller that is enabled, on a die that runs. -/
def Dev.canOn (d : Dev) (n : Fin 4) : Bool := d.up (.iface (canLane n)) && d.cg n H.CTRL_ENABLE == 1

/-- A controller that takes part in bus traffic. -/
def Dev.canLive (d : Dev) (n : Fin 4) : Bool := d.canOn n && [1, 2, 3].contains (d.cg n R.CAN_STAT_STATE)

/-- Traffic shows that a controller has integrated. -/
def Dev.canIntegrated (d : Dev) (n : Fin 4) : Dev := if d.cg n R.CAN_STAT_STATE = 1 then d.cs n R.CAN_STAT_STATE 2 else d

/-! ## Filters (R529 to R531) -/

/-- The address of word `w` of filter `f`. -/
def filtAddr (n : Fin 4) (f w : Nat) : Nat := rgFILTER + 0x2000 * n.val + 64 * f + 4 * w

/-- The words of a filter, GEN the last of them, as a frame with this start of frame sees them: a write applies from the next start of frame
on. -/
def Dev.filtWords (d : Dev) (n : Fin 4) (f sof : Nat) : List Word :=
  match d.can[n].filtOld.find? (fun e => e.1 == f && decide (sof ≤ e.2.2)) with -- oldest first
  | some (_, ws, _) => ws
  | none => (List.range 10).map fun w => d.word (canLane n) (filtAddr n f w)

/-- A filter's words match a frame (R530). -/
def filtMatch (ws : List Word) (f : CanFrame) : Bool :=
  let w := fun (i : Nat) => (ws.getD i 0)
  let c := w 8
  let eqMask := fun (v m k : Nat) => Nat.land (Nat.xor v m) k == 0
  let bytes := (List.range 4).all fun b =>
    let k := (w 7).toNat / 256 ^ b % 256
    k == 0 || (match f.data[b]? with
      | some x => eqMask x.toNat ((w 6).toNat / 256 ^ b % 256) k
      | none => false)
  R.FILT_EN.get c == 1 && R.FILT_FMT.get c / 2 ^ f.fmt.val % 2 == 1 &&
  eqMask f.id.val (R.FILT_ID_M.get (w 0)) (R.FILT_ID_K.get (w 1)) &&
  (f.fmt.val != 4 || (eqMask (256 * f.sdt.val + f.vcid.val) (R.FILT_XL_M.get (w 2)) (R.FILT_XL_K.get (w 3)) &&
    eqMask f.af.toNat (w 4).toNat (w 5).toNat)) && bytes

/-- The first filter that matches a frame, with its CFG word. -/
def Dev.filterOf (d : Dev) (n : Fin 4) (f : CanFrame) (sof : Nat) : Option (Nat × Word) :=
  (List.range 128).findSome? fun i =>
    let ws := d.filtWords n i sof
    if filtMatch ws f then some (i, ws.getD 8 0) else none

/-- A write to words +0x00 to +0x1C of a filter is held (R531). -/
def Dev.filterHold (d : Dev) (n : Fin 4) (off : Nat) (v : Word) : Dev :=
  d.onCan n fun u => { u with filtHeld := (off, v) :: u.filtHeld.filter (·.1 != off) }

/-- FILTER_UPDATE (R531): the held words and CFG apply together, and GEN counts. -/
def Dev.filterUpdate (d : Dev) (n : Fin 4) (f : Nat) (v : Word) : Dev :=
  let l := canLane n
  let u := d.can[n]
  let old := (List.range 10).map fun w => d.word l (filtAddr n f w)
  let d := (List.range 8).foldl (fun d w =>
    match u.filtHeld.find? (·.1 == 64 * f + 4 * w) with
    | some (_, x) =>
      let keep := ((R.fldsFILT.filter fun g => g.off == 4 * w).map (·.mask)).foldl (· ||| ·) 0
      d.setWord l (filtAddr n f w) (x &&& keep)
    | none => d) d
  let keep := ((R.fldsFILT.filter fun g => g.off == 0x20).map (·.mask)).foldl (· ||| ·) 0
  let d := d.setWord l (filtAddr n f 8) (v &&& keep)
  let g := d.word l (filtAddr n f 9)
  let d := d.setWord l (filtAddr n f 9) (R.FILT_GEN.put g ((R.FILT_GEN.get g + 1) % 256))
  d.onCan n fun u => { u with filtHeld := u.filtHeld.filter fun e => e.1 / 64 != f
                              filtOld := (u.filtOld.filter fun e => decide (d.now ≤ e.2.2 + 50000000)) ++ [(f, old, d.now)] }

/-! ## Queues (R532, R533, R535) -/

/-- A queue of a controller. -/
def CanUnit.q (u : CanUnit) (k : Nat) : CanQueue := if k = 0 then u.q0 else u.q1

/-- Change a queue, and show it in QSTAT. -/
def Dev.onQueue (d : Dev) (n : Fin 4) (k : Nat) (f : CanQueue → CanQueue) : Dev :=
  let q := f (d.can[n].q k)
  let d := d.onCan n fun u => if k = 0 then { u with q0 := q } else { u with q1 := q }
  let h := match q.held with | some (i, _) => i | none => 0
  let d := d.cs n (if k = 0 then R.CAN_QSTAT0_HELD else R.CAN_QSTAT1_HELD) q.held.isSome.toNat
  let d := d.cs n (if k = 0 then R.CAN_QSTAT0_FULL else R.CAN_QSTAT1_FULL) q.full.length
  d.cs n (if k = 0 then R.CAN_QSTAT0_HIDX else R.CAN_QSTAT1_HIDX) h

/-- The first 21 words of a received frame (the window layout of chapter 15). -/
def frameWords (f : CanFrame) (stamp gen fidx epoch : Nat) (noMatch : Bool) : List Word :=
  let ide := f.fmt.val == 1 || f.fmt.val == 3
  let fmt := f.fmt.val / 2
  let len := f.data.length
  [BitVec.ofNat 32 stamp,
   BitVec.ofNat 32 (ide.toNat * 2 ^ 31 + f.rtr.toNat * 2 ^ 30 + f.id.val),
   BitVec.ofNat 32 (fmt * 2 ^ 30 + f.brs.toNat * 2 ^ 29 + f.esi.toNat * 2 ^ 28 + f.sec.toNat * 2 ^ 27 + len * 2 ^ 20 + gen * 256 +
     noMatch.toNat * 128 + fidx),
   BitVec.ofNat 32 (epoch * 2 ^ 24 + f.sdt.val * 256 + f.vcid.val),
   f.af] ++ (List.range 16).map fun m =>
     bytesWord (f.data.getD (4 * m) 0) (f.data.getD (4 * m + 1) 0) (f.data.getD (4 * m + 2) 0) (f.data.getD (4 * m + 3) 0)

/-- RX_OVERFLOW (R533). -/
def Dev.rxOverflow (d : Dev) (n : Fin 4) : Dev := (d.canCause n 5).raise (322 + 4 * n.val)

/-- A frame goes to a queue (R532, R533). -/
def Dev.enqueue (d : Dev) (n : Fin 4) (k : Nat) (ws : List Word) : Dev :=
  let q := d.can[n].q k
  let put := fun (d : Dev) (q : CanQueue) (i : Nat) (rest : List Nat) =>
    let w := BitVec.ofNat 32 (min q.lost 255 * 65536 + i)
    (d.onQueue n k fun _ => { q with free := rest, full := q.full ++ [(i, ws ++ [w])], lost := 0 }).canCause n k
  match q.free with
  | i :: r => put d q i r
  | [] =>
    let d := d.rxOverflow n
    if d.cg n (if k = 0 then R.CAN_CFG_OVF0 else R.CAN_CFG_OVF1) = 0 then d.onQueue n k fun q => { q with lost := q.lost + 1 }
    else
      match q.full with
      | (i, _) :: r => put d { q with full := r, lost := q.lost + 1 } i []
      | [] => d.onQueue n k fun q => { q with lost := q.lost + 1 }

/-- Make the oldest FULL entry HELD where none is. -/
def Dev.queueHold (d : Dev) (n : Fin 4) (k : Nat) : Dev :=
  d.onQueue n k fun q => match q.held, q.full with
    | none, e :: r => { q with held := some e, full := r }
    | _, _ => q

/-- Return the HELD entry to FREE. -/
def Dev.queueFree (d : Dev) (n : Fin 4) (k : Nat) : Dev :=
  d.onQueue n k fun q => match q.held with
    | some (i, _) => { q with held := none, free := q.free ++ [i] }
    | none => q

/-- A queue's window word: of its HELD entry, else 0. -/
def Dev.windowWord (d : Dev) (n : Fin 4) (k w : Nat) : Word :=
  match (d.can[n].q k).held with
  | some (_, ws) => ws.getD w 0
  | none => 0

/-- The resource of a receive queue, and of a buffer's group (R631). -/
def queueRes (n : Fin 4) (k : Nat) : Nat := 32 + 2 * n.val + k
def bufRes (n : Fin 4) (b : Nat) : Nat := 40 + 4 * n.val + b / 8

/-- QUEUE_WINDOW_READ (R535): the word, and what the owner's read does under lock-by-last-word. -/
def Dev.queueWindowRead (d : Dev) (ident : Nat) (n : Fin 4) (k w : Nat) : Word × Dev :=
  let own := d.resOwner (queueRes n k) == ident && (d.resTaker (queueRes n k)).isNone
  if own && d.cg n (if k = 0 then R.CAN_CFG_QMODE0 else R.CAN_CFG_QMODE1) == 0 then
    let d := d.queueHold n k
    (d.windowWord n k w, if w = 21 then d.queueFree n k else d)
  else (d.windowWord n k w, d)

/-- QUEUE_TAKE (R535): refused while an entry is HELD, and from a writer that does not own the queue. -/
def Dev.queueTake (d : Dev) (w : Who) (n : Fin 4) (k : Nat) : Option Dev :=
  if !d.resOk w (queueRes n k) ∨ (d.can[n].q k).held.isSome then none else some (d.queueHold n k)

/-- QUEUE_GIVE (R535). -/
def Dev.queueGive (d : Dev) (w : Who) (n : Fin 4) (k : Nat) : Option Dev :=
  if !d.resOk w (queueRes n k) then none else some (d.queueFree n k)

/-! ## Reception (R529, R532, R534) -/

/-- The identifier of an FD frame names a path of an enabled connection entry on this controller's port (R529). -/
def Dev.safetyPath (d : Dev) (port : Nat) (id : Nat) : Bool :=
  let i := d.prim pgSLAYER
  (List.range 1024).any fun k => d.cw i k R.CONN_EN == 1 &&
    ((d.cw i k R.CONN_P0PORT == port && d.cw i k R.CONN_PATH0_ID % 2 ^ 29 == id) ||
     (d.cw i k R.CONN_DUAL == 1 && d.cw i k R.CONN_P1PORT == port && d.cw i k R.CONN_PATH1_ID % 2 ^ 29 == id))

/-- The cycle time of a controller at a tick (R538). -/
def Dev.cycleTime (d : Dev) (n : Fin 4) (t : Nat) : Option Nat := (d.can[n].refAt).map fun r => t - r

/-- The copy of the mirrored matrix that a controller's cells are read from (R538). -/
def Dev.cellLane (d : Dev) (n : Fin 4) : Lane := if d.up (.iface (canLane n)) then canLane n else (canLane n).other

/-- A cell's field in the copy of the controller's die. -/
def Dev.cellOf (d : Dev) (n : Fin 4) (k : Nat) (f : Fld) : Nat := f.get (d.word (d.cellLane n) (rgRULING + f.at k))

/-- A cell belongs to the present cycle of its controller (R541). -/
def Dev.cellNow (d : Dev) (n : Fin 4) (k : Nat) : Bool :=
  d.cellOf n k R.CELL_EN == 1 && d.cellOf n k R.CELL_CTRL == n.val && d.cg n R.CAN_RULCFG_EN == 1 && d.cg n R.CAN_RULSTAT_REF_OK == 1 &&
  d.cg n R.CAN_RULSTAT_CYC % 2 ^ d.cellOf n k R.CELL_REPX == d.cellOf n k R.CELL_OFFSET

/-- A tick lies in a cell's window. -/
def Dev.cellWindow (d : Dev) (n : Fin 4) (k t : Nat) : Bool :=
  match d.cycleTime n t with
  | some c => decide (d.cellOf n k R.CELL_MARK ≤ c) && decide (c < d.cellOf n k R.CELL_MARK + d.cellOf n k R.CELL_WIN)
  | none => false

/-- RX_CHECK cells that a frame accepted by filter `i` satisfies (R541). -/
def Dev.rxChecks (d : Dev) (n : Fin 4) (i sof : Nat) : List Nat :=
  (List.range 1024).filter fun k => d.cellOf n k R.CELL_EN == 1 && d.cellOf n k R.CELL_KIND == 2 && d.cellOf n k R.CELL_FILT == i &&
    d.cellNow n k && d.cellWindow n k sof

/-- A controller whose two error counts lie below 128 is error-active again (R528). -/
def Dev.errorsFall (d : Dev) (n : Fin 4) : Dev :=
  if d.cg n R.CAN_STAT_STATE = 3 ∧ d.cg n R.CAN_ERR_TEC < 128 ∧ d.cg n R.CAN_ERR_REC < 128 then
    (d.cs n R.CAN_STAT_STATE 2).endCause (321 + 4 * n.val)
  else d

/-- A good frame takes the controller onto the bus and lowers its receive error counter (R527, R528). -/
def Dev.canHeard (d : Dev) (n : Fin 4) : Dev :=
  let d := d.canIntegrated n
  let rec' := d.cg n R.CAN_ERR_REC
  (d.cs n R.CAN_ERR_REC (if 127 < rec' then 127 else rec' - 1)).errorsFall n

/-- The formats of a frame that a controller takes: FD and XL only where they are enabled (R526). -/
def Dev.canTakes (d : Dev) (n : Fin 4) (f : CanFrame) : Bool :=
  d.canLive n && !((f.fmt.val == 2 || f.fmt.val == 3) && d.cg n R.CAN_CFG_FDEN == 0) && !(f.fmt.val == 4 && d.cg n R.CAN_CFG_XLEN == 0)

/-- An FD frame whose identifier names a safety path of the controller's port (R529). -/
def Dev.canSafety (d : Dev) (n : Fin 4) (f : CanFrame) : Bool :=
  (f.fmt.val == 2 || f.fmt.val == 3) && d.safetyPath (3 + n.val) f.id.val

/-- A frame that does not reach the filters: one of a safety path, one of a safety port (R529). -/
def Dev.canDiverted (d : Dev) (n : Fin 4) (f : CanFrame) : Bool := d.canSafety n f || d.portClass (3 + n.val) == .safety

/-! ## Bus states (R528) -/

/-- BUS_OFF. -/
def Dev.busOff (d : Dev) (n : Fin 4) : Dev :=
  if !d.canLive n then d
  else ((d.cs n R.CAN_STAT_STATE 4).canCause n 3).raiseCond (320 + 4 * n.val)

/-- ERROR_PASSIVE: the change from error-active. Where the transmit count has not reached 128, receive errors have taken the other one
there: to which value is open (log 140). -/
def Dev.errorPassive (d : Dev) (n : Fin 4) : Dev :=
  if !d.canOn n ∨ (d.cg n R.CAN_STAT_STATE ≠ 2 ∧ d.cg n R.CAN_STAT_STATE ≠ 1) then d
  else
    let d := if d.cg n R.CAN_ERR_TEC < 128 then
        (d.cs n R.CAN_ERR_REC (128 + (Config.freeWord d.freeCtr).toNat % 128)).fresh
      else d
    ((d.cs n R.CAN_STAT_STATE 3).canCause n 4).raiseCond (321 + 4 * n.val)

/-- A controller is error-active again: both counts are 0, and both conditions have gone. -/
def Dev.errorActive (d : Dev) (n : Fin 4) (st : Nat) : Dev :=
  ((((d.cs n R.CAN_STAT_STATE st).cs n R.CAN_ERR_TEC 0).cs n R.CAN_ERR_REC 0).endCause (320 + 4 * n.val)).endCause (321 + 4 * n.val)

/-- BUS_OFF_RECOVERY: with AUTORECOV the controller rejoins. -/
def Dev.busOffRecovery (d : Dev) (n : Fin 4) : Dev :=
  if !d.canOn n ∨ d.cg n R.CAN_STAT_STATE ≠ 4 ∨ d.cg n R.CAN_CFG_AUTORECOV = 0 then d else d.errorActive n 2

/-- CTRL.ENABLE of a controller is set or cleared: it integrates anew, or stops (R528). -/
def Dev.canEnable (d : Dev) (n : Fin 4) (on : Bool) : Dev :=
  let d := (d.errorActive n on.toNat).cs n R.CAN_STAT_TXBUSY 0
  d.onCan n fun u => { u with bus := none, refOut := none, pdus := [], busPdu := false }

/-! ## Transmit buffers (R536, R537) -/

/-- What an identity holds at a controller. -/
def Dev.canHold (d : Dev) (n : Fin 4) (ident : Nat) : CanHold :=
  (d.can[n].holds.find? (·.ident == ident)).getD { ident := ident, sel := 0, words := [] }

/-- Keep what an identity holds. -/
def Dev.setHold (d : Dev) (n : Fin 4) (h : CanHold) : Dev :=
  d.onCan n fun u => { u with holds := h :: u.holds.filter (·.ident != h.ident) }

/-- The buffer an identity's TXSEL names. -/
def Dev.txSel (d : Dev) (n : Fin 4) (ident : Nat) : Fin 32 := ⟨(d.canHold n ident).sel % 32, by omega⟩

/-- A buffer that is guarded against a writer, or PENDING (R536, R637). -/
def Dev.bufShut (d : Dev) (w : Who) (n : Fin 4) (b : Fin 32) : Bool :=
  !d.resOk w (bufRes n b.val) || (d.can[n].bufs[b]).state == 1

/-- A write of TXSEL. The words held for another buffer stay held (log 129). -/
def Dev.txSelect (d : Dev) (w : Who) (n : Fin 4) (b : Fin 32) : Option Dev :=
  if d.bufShut w n b then none else some (d.setHold n { d.canHold n w.ident with sel := b.val })

/-- The bits of word `k` of TXWIN that take a write. -/
def txMask (k : Nat) : Word :=
  match k with
  | 1 => 0xDFFFFFFF
  | 2 => 0xEFF00000
  | 3 => 0x0000FFFF
  | _ => 0xFFFFFFFF

/-- A transmit buffer's words as they read: data bytes beyond LEN read 0. -/
def txShown (ws : List Word) : List Word :=
  let len := (ws.getD 2 0).toNat / 2 ^ 20 % 128
  ws.take 5 ++ ((ws.drop 5).zipIdx.map fun (w, m) => BitVec.ofNat 32 (w.toNat % 256 ^ min 4 (len - 4 * m)))

/-- Four other identities hold words for a controller, so that this one may not write TXWIN (R536). -/
def Dev.fifthHolder (d : Dev) (n : Fin 4) (ident : Nat) : Bool :=
  (d.canHold n ident).words.isEmpty && decide (4 ≤ (d.can[n].holds.filter fun e => e.ident != ident && !e.words.isEmpty).length)

/-- A write to w0 to w20 of TXWIN is held; a fifth identity holds nothing. -/
def Dev.txHold (d : Dev) (w : Who) (n : Fin 4) (k : Nat) (v : Word) : Option Dev :=
  let h := d.canHold n w.ident
  if d.bufShut w n (d.txSel n w.ident) ∨ d.fifthHolder n w.ident then none
  else some (d.setHold n { h with words := (32 * h.sel + k, v &&& txMask k) :: h.words.filter (·.1 != 32 * h.sel + k) })

/-- The lengths a format permits (R536). -/
def lenOk (fmt len : Nat) : Bool :=
  match fmt with
  | 0 => decide (len ≤ 8)
  | 1 => decide (len ≤ 8) || [12, 16, 20, 24, 32, 48, 64].contains len
  | 2 => decide (1 ≤ len) && decide (len ≤ 64)
  | _ => false

/-- The words a commit would give a buffer. -/
def Dev.txWords (d : Dev) (n : Fin 4) (ident : Nat) : List Word :=
  let h := d.canHold n ident
  let old := (d.can[n].bufs[d.txSel n ident]).words
  (List.range 21).map fun k => match h.words.find? (·.1 == 32 * (d.txSel n ident).val + k) with
    | some (_, v) => v
    | none => old.getD k 0

/-- A buffer may serve as the reference buffer with TIMEIN (R538). -/
def refWordsOk (ws : List Word) : Bool :=
  let c := (ws.getD 2 0).toNat
  c / 2 ^ 30 == 1 && decide (12 ≤ c / 2 ^ 20 % 128)

/-- TX_BUFFER_ARM (R536): ARM commits the words held for the buffer and w21; without ARM they are discarded. -/
def Dev.txBufferArm (d : Dev) (w : Who) (n : Fin 4) (v : Word) : Except Result Dev :=
  let b := d.txSel n w.ident
  let h := d.canHold n w.ident
  let h := { h with words := h.words.filter (·.1 / 32 != b.val) }
  if d.bufShut w n b ∨ d.fifthHolder n w.ident then .error .block
  else if v.toNat < 2 ^ 31 then .ok (d.setHold n h)
  else
    let ws := d.txWords n w.ident
    let c := (ws.getD 2 0).toNat
    let ref := d.cg n R.CAN_RULCFG_TIMEIN == 1 && d.cg n R.CAN_RULCFG_REFBUF == b.val
    let rtr := (ws.getD 1 0).toNat / 2 ^ 30 % 2 == 1
    if !lenOk (c / 2 ^ 30) (c / 2 ^ 20 % 128) ∨ (ref ∧ !refWordsOk ws) ∨ (rtr ∧ c / 2 ^ 30 ≠ 0) then .error .value
    else
      let u := d.can[n]
      let d := d.setHold n h
      let d := d.onBuf n b fun _ => { words := ws, keep := v.toNat / 2 ^ 30 % 2 == 1, ruling := v.toNat / 2 ^ 29 % 2 == 1
                                      oneshot := v.toNat / 2 ^ 28 % 2 == 1, attempts := 0, state := 1, order := u.arms, cancel := false }
      let d := d.onCan n fun u => { u with arms := u.arms + 1 }
      .ok (d.cs n R.CAN_TXPEND_BUF (d.cg n R.CAN_TXPEND_BUF ||| 2 ^ b.val))

/-- A buffer leaves PENDING with a state, or is shown done (R537). -/
def Dev.bufDone (d : Dev) (n : Fin 4) (b : Fin 32) (st : Nat) : Dev :=
  let d := d.onBuf n b fun u => { u with state := st, cancel := false }
  let d := if st = 1 then d else d.cs n R.CAN_TXPEND_BUF (d.cg n R.CAN_TXPEND_BUF &&& (4294967295 - 2 ^ b.val))
  d.cs n R.CAN_TXDONE_BUF (d.cg n R.CAN_TXDONE_BUF ||| 2 ^ b.val)

/-- TXCANCEL (R537): refused where a named buffer's group is guarded against the writer (R631). -/
def Dev.txCancel (d : Dev) (w : Who) (n : Fin 4) (v : Word) : Option Dev :=
  let bs := (List.finRange 32).filter fun b => v.toNat / 2 ^ b.val % 2 == 1
  if bs.any fun b => !d.resOk w (bufRes n b.val) then none
  else some (bs.foldl (fun d b => d.cancelBuf n b) d)

/-- The arbitration field of a buffer as the bus compares it: lower wins. -/
def arbKey (ws : List Word) : Nat :=
  let w := (ws.getD 1 0).toNat
  let id := w % 2 ^ 29
  let rtr := w / 2 ^ 30 % 2
  if w / 2 ^ 31 = 1 then id / 2 ^ 18 * 2 ^ 21 + 3 * 2 ^ 19 + id % 2 ^ 18 * 2 + rtr
  else id % 2 ^ 11 * 2 ^ 21 + rtr * 2 ^ 20

/-- The cells of a kind that have acted in the present cycle, whose action is still open and whose window holds this tick. -/
def Dev.openCells (d : Dev) (n : Fin 4) (kind : Nat) : List Nat :=
  let u := d.can[n]
  u.acted.filter fun k => d.cg n R.CAN_RULSTAT_REF_OK == 1 && !u.ended.contains k && d.cellOf n k R.CELL_KIND == kind && d.cellWindow n k d.now

/-- The buffer of a cell. -/
def Dev.cellBuf (d : Dev) (n : Fin 4) (k : Nat) : Fin 32 := ⟨d.cellOf n k R.CELL_BUF % 32, by omega⟩

/-- A buffer waits for its Ruling cell. -/
def Dev.rulingReady (d : Dev) (n : Fin 4) (b : Fin 32) : Bool :=
  let u := d.can[n].bufs[b]
  u.state == 1 && u.ruling

/-- A buffer goes on the bus. -/
def Dev.busStart (d : Dev) (n : Fin 4) (b : Fin 32) : Dev :=
  let d := (d.canIntegrated n).onBuf n b fun u => { u with attempts := satInc 255 u.attempts }
  (d.onCan n fun u => { u with bus := some b }).cs n R.CAN_STAT_TXBUSY 1

/-- Cycle time lies in the window of an EXCLUSIVE cell of a controller (R541). -/
def Dev.exclusiveNow (d : Dev) (n : Fin 4) : Bool :=
  (List.range 1024).any fun k => d.cellOf n k R.CELL_EN == 1 && d.cellOf n k R.CELL_KIND == 0 && d.cellNow n k && d.cellWindow n k d.now

/-- A buffer's format is enabled (R526). -/
def Dev.bufEnabled (d : Dev) (n : Fin 4) (b : Fin 32) : Bool :=
  match ((d.can[n].bufs[b]).words.getD 2 0).toNat / 2 ^ 30 with
  | 1 => d.cg n R.CAN_CFG_FDEN == 1
  | 2 => d.cg n R.CAN_CFG_XLEN == 1
  | _ => true

/-- The buffer a controller offers next (R537, R541). -/
def Dev.offered (d : Dev) (n : Fin 4) : Option (Fin 32) :=
  let u := d.can[n]
  let due := fun (b : CanBuf) =>
    let t := b.words.getD 0 0
    t == 0 || decide (0 ≤ stampDiff d.now t.toNat)
  let exclusive := d.exclusiveNow n
  let arb := (d.openCells n 1).map (d.cellBuf n)
  let can := (List.finRange 32).filter fun b =>
    let x := u.bufs[b]
    x.state == 1 && d.bufEnabled n b && ((!x.ruling && !exclusive && due x) || (x.ruling && arb.contains b))
  let less := fun (x y : Fin 32) =>
    if d.cg n R.CAN_CFG_TXORD = 1 then decide ((u.bufs[x]).order < (u.bufs[y]).order)
    else decide (arbKey (u.bufs[x]).words < arbKey (u.bufs[y]).words)
  can.foldl (fun best b => match best with
    | none => some b
    | some c => if less b c then some b else some c) none

/-- An exclusive cell whose buffer waits for the bus: the one with the earliest mark, of equal ones the lowest index (R541). -/
def Dev.exclusiveDue (d : Dev) (n : Fin 4) : Option Nat :=
  (((d.openCells n 0).filter fun k => d.rulingReady n (d.cellBuf n k) && d.bufEnabled n (d.cellBuf n k)).foldl (fun m k => match m with
    | none => some k
    | some x =>
      let mx := d.cellOf n x R.CELL_MARK
      let mk := d.cellOf n k R.CELL_MARK
      some (if mk < mx ∨ (mk = mx ∧ k < x) then k else x)) none)

/-- A controller may start a frame: it takes part in traffic, has none on the bus, and is neither in restricted operation nor in bus
monitoring, which send no data frame (R526). -/
def Dev.canSends (d : Dev) (n : Fin 4) : Bool :=
  d.canLive n && (d.can[n]).bus.isNone && !(d.can[n]).busPdu && d.cg n R.CAN_CFG_OPMODE != 1 && d.cg n R.CAN_CFG_OPMODE != 2

/-- The oldest safety frame of a controller goes on the bus. -/
def Dev.pduStart (d : Dev) (n : Fin 4) : Dev :=
  ((d.canIntegrated n).onCan n fun u => { u with busPdu := true }).cs n R.CAN_STAT_TXBUSY 1

/-- CAN_TRANSMIT (R537, R541): the bus is idle. DESIGN CHOICE (log 138): outside the windows of EXCLUSIVE cells a frame of the safety layer
goes before the buffers. -/
def Dev.canTransmit (d : Dev) (n : Fin 4) : Dev :=
  if !d.canSends n then d
  else
    match d.exclusiveDue n with
    | some k => (d.busStart n (d.cellBuf n k)).onCan n fun u => { u with ended := k :: u.ended }
    | none =>
      if !(d.can[n]).pdus.isEmpty ∧ !d.exclusiveNow n then d.pduStart n
      else
        match d.offered n with
        | some b => d.busStart n b
        | none => d

/-- A miss of a cell (R541). -/
def Dev.cellMiss (d : Dev) (n : Fin 4) (k : Nat) : Dev :=
  let f := R.CELL_MISS
  let d := [Lane.a, Lane.b].foldl (fun d i =>
    if d.up (.iface i) then
      let a := rgRULING + f.at k
      let w := d.word i a
      d.setWord i a (f.put w (satInc 255 (f.get w)))
    else d) d
  (d.canCause n 6).onCan n fun u => { u with ended := k :: u.ended.filter (· != k) }

/-- The exclusive cell whose one attempt has the buffer on the bus. -/
def Dev.cellOnBus (d : Dev) (n : Fin 4) (b : Fin 32) : Option Nat :=
  let u := d.can[n]
  u.acted.find? fun k => u.ended.contains k && d.cellOf n k R.CELL_KIND == 0 && d.cellBuf n k == b

/-- The attempt on the bus is over, with what it means for the error counts (R528): a frame sent lowers TEC, an error raises it. -/
def Dev.busOver (d : Dev) (n : Fin 4) (r : TxOutcome) : Dev :=
  let d := (d.onCan n fun u => { u with bus := none, refOut := none, busPdu := false }).cs n R.CAN_STAT_TXBUSY 0
  match r with
  | .sent => (d.cs n R.CAN_ERR_TEC (d.cg n R.CAN_ERR_TEC - 1)).errorsFall n
  | .error e f => ((d.cs n R.CAN_ERR_LEC e.val).cs n R.CAN_ERR_DLEC f.val).cs n R.CAN_ERR_TEC (min 255 (d.cg n R.CAN_ERR_TEC + 8))
  | .lostArbitration => d

/-- The frame of buffer `b` was sent (R537): the buffer takes the stamp and is done. -/
def Dev.canSent (d : Dev) (n : Fin 4) (b : Fin 32) (stamp : Nat) : Dev :=
  let x := d.can[n].bufs[b]
  let d := d.busOver n .sent
  let d := d.onBuf n b fun u => { u with words := stamp32 stamp :: u.words.drop 1 }
  let arb := (d.openCells n 1).filter fun k => d.cellBuf n k == b
  let d := d.onCan n fun u => { u with ended := arb ++ u.ended }
  d.bufDone n b (if x.ruling && x.keep then 1 else 2)

/-- The attempt of buffer `b` was lost or failed (R537, R528): an error counts; a cancelled, one-shot or cell attempt ends, any
other is repeated. -/
def Dev.canNotSent (d : Dev) (n : Fin 4) (b : Fin 32) (r : TxOutcome) : Dev :=
  let x := d.can[n].bufs[b]
  let cell := if x.ruling then d.cellOnBus n b else none
  let d := d.busOver n r
  let d := match cell with | some k => d.cellMiss n k | none => d
  if x.cancel then d.bufDone n b 3
  else if cell.isSome then (if x.keep then d else d.bufDone n b 4)
  else if x.oneshot then d.bufDone n b 4
  else d

/-! ## Ruling (R538 to R541) -/

/-- Cells that wait for a reference of a controller apply (R540). -/
def Dev.cellsApply (d : Dev) (n : Fin 4) : Dev :=
  let (mine, rest) := d.ruling.wait.partition fun e => R.CELL_CTRL.get (e.2.getD 7 0) == n.val
  let d := { d with ruling := { d.ruling with wait := rest } }
  mine.foldl (fun d e =>
    [Lane.a, Lane.b].foldl (fun d i =>
      if d.up (.iface i) then
        (List.range 8).foldl (fun d w =>
          let a := rgRULING + 32 * e.1 + 4 * w
          let keep := ((R.fldsCELL.filter fun g => g.off == 4 * w && g.acc == .rw).map (·.mask)).foldl (· ||| ·) 0
          d.setWord i a ((e.2.getD w 0 &&& keep) ||| (d.word i a &&& ~~~keep))) d
      else d) d) d

/-- A reference message starts a cycle (R538). -/
def Dev.cycleStarts (d : Dev) (n : Fin 4) (sof c : Nat) : Dev :=
  let d := (d.cs n R.CAN_RULSTAT_CYC (c % 64)).cs n R.CAN_RULSTAT_REF_OK 1
  (d.onCan n fun u => { u with refBefore := u.lastRef, refAt := some sof, lastRef := some sof, refGone := false, acted := [], ended := [] }).cellsApply n

/-- A reference of another node arrives (R538, R539): a master that hears one acts as a slave. -/
def Dev.referenceTaken (d : Dev) (n : Fin 4) (f : CanFrame) (sof : Nat) : Dev :=
  let d := if d.cg n R.CAN_RULSTAT_MASTER = 1 then (d.cs n R.CAN_RULSTAT_MASTER 0).raise (323 + 4 * n.val) else d
  d.cycleStarts n sof ((f.data.getD 0 0).toNat % 64 % 2 ^ d.cg n R.CAN_RULCFG_CYCX)

/-! ### Where a received frame goes, and how an attempt ends -/

/-- A frame that no filter takes (R532): counted, and queued as NOMATCH says. -/
def Dev.canNoMatch (d : Dev) (n : Fin 4) (f : CanFrame) (stamp : Nat) : Dev :=
  let d := d.cs n R.CAN_RXCNT_NOMATCH (satInc 65535 (d.cg n R.CAN_RXCNT_NOMATCH))
  match d.cg n R.CAN_CFG_NOMATCH with
  | 1 => d.enqueue n 0 (frameWords f (stamp % 2 ^ 32) 0 0 0 true)
  | 2 => d.enqueue n 1 (frameWords f (stamp % 2 ^ 32) 0 0 0 true)
  | _ => d

/-- A frame that filter `i` with configuration `c` takes (R531 to R533): its hits count, and it is queued, or acts as a reference. -/
def Dev.canMatch (d : Dev) (n : Fin 4) (f : CanFrame) (sof stamp i : Nat) (c : Word) : Dev :=
  let l := canLane n
  let a := R.FILT_ACTION.get c
  if a = 0 then d
  else
    let h := d.word l (filtAddr n i 10)
    let d := d.setWord l (filtAddr n i 10) (BitVec.ofNat 32 (satInc 4294967295 h.toNat))
    let d := d.onCan n fun u => { u with ended := d.rxChecks n i sof ++ u.ended }
    let gen := R.FILT_GEN.get ((d.filtWords n i sof).getD 9 0)
    let ws := frameWords f (stamp % 2 ^ 32) gen i (R.FILT_EPOCH.get c) false
    if a = 1 then d.enqueue n 0 ws
    else if a = 2 then d.enqueue n 1 ws
    else if a = 3 ∧ i = d.cg n R.CAN_RULCFG_REFFILT ∧ d.cg n R.CAN_RULCFG_EN = 1 then d.referenceTaken n f sof
    else d

/-- A frame that a controller takes, but for what the safety layer does with it (R526, R529 to R534). -/
def Dev.canFrameTaken (d : Dev) (n : Fin 4) (f : CanFrame) (sof : Nat) : Dev :=
  let d := d.canHeard n
  let stamp := if d.cg n R.CAN_CFG_TSPOINT = 0 then sof else d.now
  if f.fmt.val = 4 ∧ 64 < f.data.length then d.cs n R.CAN_RXCNT_OVERSIZE (satInc 65535 (d.cg n R.CAN_RXCNT_OVERSIZE))
  else if d.canDiverted n f then d
  else
    match d.filterOf n f sof with
    | none => d.canNoMatch n f stamp
    | some (i, c) => d.canMatch n f sof stamp i c

/-- The frame is a reference of a controller with Ruling on: no safety frame, and accepted by REFFILT with ACTION 3 (R538). -/
def Dev.canReference (d : Dev) (n : Fin 4) (f : CanFrame) (sof : Nat) : Bool :=
  d.cg n R.CAN_RULCFG_EN == 1 && !d.canDiverted n f &&
  match d.filterOf n f sof with
  | some (i, c) => i == d.cg n R.CAN_RULCFG_REFFILT && R.FILT_ACTION.get c == 3
  | none => false

/-- A controller is in internal loopback (R526): what it sends reaches itself and not the bus (DEDUCED, log 140). -/
def Dev.canLoops (d : Dev) (n : Fin 4) : Bool := d.cg n R.CAN_CFG_OPMODE == 3

/-- The frame that a transmit buffer's words spell. -/
def bufFrame (ws : List Word) : CanFrame :=
  let w := fun (i : Nat) => (ws.getD i 0).toNat
  let k := w 2 / 2 ^ 30
  { fmt := if k = 0 then (if w 1 / 2 ^ 31 = 1 then 1 else 0) else if k = 1 then (if w 1 / 2 ^ 31 = 1 then 3 else 2) else 4
    rtr := w 1 / 2 ^ 30 % 2 == 1, brs := w 2 / 2 ^ 29 % 2 == 1, esi := w 2 / 2 ^ 28 % 2 == 1, sec := w 2 / 2 ^ 27 % 2 == 1
    id := ⟨w 1 % 536870912, by omega⟩, sdt := ⟨w 3 / 256 % 256, by omega⟩, vcid := ⟨w 3 % 256, by omega⟩, af := ws.getD 4 0
    data := ((ws.drop 5).flatMap wordBytes).take (w 2 / 2 ^ 20 % 128) }

/-- The frame that a controller has on the bus. -/
def Dev.canOnBus (d : Dev) (n : Fin 4) : Option CanFrame :=
  let u := d.can[n]
  if u.busPdu then u.pdus.head? else u.bus.map fun b => bufFrame (u.bufs[b]).words

/-- The attempt on the bus ends, but for what a loopback receives (R534, R537, R541): a safety frame that was not sent is tried again, and a
reference that was sent starts its cycle (R538). -/
def Dev.txEnds (d : Dev) (n : Fin 4) (r : TxOutcome) (sofAge : Nat) : Dev :=
  let u := d.can[n]
  match u.bus with
  | none =>
    if !u.busPdu then d
    else (d.busOver n r).onCan n fun u => { u with pdus := if r = .sent then u.pdus.drop 1 else u.pdus }
  | some b =>
    match r with
    | .sent =>
      let d := d.canSent n b (if d.cg n R.CAN_CFG_TSPOINT = 0 then d.now - sofAge else d.now)
      match u.refOut with
      | some c => d.cycleStarts n (d.now - sofAge) c
      | none => d
    | r => d.canNotSent n b r

/-! ### References and cells -/

/-- Put a byte into the data of a buffer. -/
def setDataByte (ws : List Word) (i v : Nat) : List Word :=
  let k := 5 + i / 4
  let f : Fld := ⟨0, 4, 1, 8 * (i % 4) + 7, 8 * (i % 4), .rw, 0, .any, false⟩
  ws.set k (f.put (ws.getD k 0) v)

/-- The master sends its reference of cycle `c` (R539): the cycle number, and with TIMEIN the time of the last one, go into it. The first one
has no previous reference, and the spec states no time for it: a free value (log 130). -/
def Dev.refSends (d : Dev) (n : Fin 4) (b : Fin 32) (c : Nat) : Dev :=
  let free := (Config.freeWord d.freeCtr).toNat + 2 ^ 32 * (Config.freeWord (d.freeCtr + 1)).toNat
  let prev := (d.can[n]).lastRef.getD free
  let d := if (d.can[n]).lastRef.isNone ∧ d.cg n R.CAN_RULCFG_TIMEIN = 1 then d.fresh.fresh else d
  let d := d.onBuf n b fun x =>
    let b0 := (x.words.getD 5 0).toNat % 256
    let ws := setDataByte x.words 0 (b0 / 64 * 64 + c)
    let ws := if d.cg n R.CAN_RULCFG_TIMEIN = 1 then
        (List.range 8).foldl (fun ws i => setDataByte ws (4 + i) (prev / 256 ^ i % 256)) ws
      else ws
    { x with words := ws }
  (d.busStart n b).onCan n fun u => { u with refOut := some c }

/-- RULING_REFERENCE_SEND (R538): the master's reference buffer starts on the bus; its cycle starts when it has been sent. -/
def Dev.rulingReferenceSend (d : Dev) (n : Fin 4) : Dev :=
  let b : Fin 32 := ⟨d.cg n R.CAN_RULCFG_REFBUF % 32, by omega⟩
  let u := d.can[n]
  let early : Bool := match u.refAt with | some t => decide (d.now < t + d.cg n R.CAN_RULCYC_T) && d.cg n R.CAN_RULSTAT_REF_OK == 1 | none => false
  if !d.canSends n ∨ d.cg n R.CAN_RULCFG_EN = 0 ∨ d.cg n R.CAN_RULSTAT_MASTER = 0 ∨ early ∨ (u.bufs[b]).state ≠ 1 ∨ !d.bufEnabled n b then d
  else d.refSends n b ((d.cg n R.CAN_RULSTAT_CYC + 1) % 2 ^ d.cg n R.CAN_RULCFG_CYCX)

/-- REF_LOST (R539). -/
def Dev.refLost (d : Dev) (n : Fin 4) : Dev :=
  let u := d.can[n]
  match u.refAt with
  | none => d
  | some t =>
    if !d.canOn n ∨ d.cg n R.CAN_RULCFG_EN = 0 ∨ d.cg n R.CAN_RULSTAT_MASTER = 1 ∨ u.refGone ∨ 2 * (d.now - t) < 3 * d.cg n R.CAN_RULCYC_T then d
    else (((d.cs n R.CAN_RULSTAT_REF_OK 0).onCan n fun u => { u with refGone := true, acted := [], ended := [] }).canCause n 7).raise (323 + 4 * n.val)

/-- RULING_BACKUP_TAKEOVER (R539): the standby master acts as master; its first reference is then due. -/
def Dev.rulingTakeover (d : Dev) (n : Fin 4) : Dev :=
  match d.can[n].refAt with
  | none => d
  | some t =>
    if !d.canLive n ∨ d.cg n R.CAN_RULCFG_EN = 0 ∨ d.cg n R.CAN_RULCFG_ROLE ≠ 2 ∨ d.cg n R.CAN_RULSTAT_MASTER = 1 ∨
        d.now < t + d.cg n R.CAN_RULCYC_T + d.cg n R.CAN_RULBK_T then d
    else d.cs n R.CAN_RULSTAT_MASTER 1

/-- RULCFG was written: EN and ROLE decide who is master, and the time for a first reference starts (R538, R539). -/
def Dev.rulingConfig (d : Dev) (n : Fin 4) : Dev :=
  let en := d.cg n R.CAN_RULCFG_EN
  let d := d.cs n R.CAN_RULSTAT_MASTER (if en = 1 ∧ d.cg n R.CAN_RULCFG_ROLE = 1 then 1 else 0)
  let d := d.cs n R.CAN_RULSTAT_REF_OK 0
  d.onCan n fun u => { u with refAt := if en = 1 then some d.now else none, refBefore := none, lastRef := none, refGone := false, acted := [], ended := [] }

/-- A write to a cell's words but ACT is held (R540). -/
def Dev.cellHold (d : Dev) (off : Nat) (v : Word) : Dev :=
  { d with ruling := { d.ruling with held := (off, v) :: d.ruling.held.filter (·.1 != off) } }

/-- The eight words a write of ACT would give a cell: those held, else those that wait for the reference, else those in use. -/
def Dev.cellWords (d : Dev) (k : Nat) (act : Word) : List Word :=
  let i : Lane := if d.up (.iface .a) then .a else .b
  (List.range 8).map fun w =>
    if w = 7 then act
    else match d.ruling.held.find? (·.1 == 32 * k + 4 * w), d.ruling.wait.find? (·.1 == k) with
      | some (_, v), _ => v
      | none, some (_, ws) => ws.getD w 0
      | none, none => d.word i (rgRULING + 32 * k + 4 * w)

/-- RULING_CELL_WRITE (R540): the cell waits for the next reference of the controller it names. -/
def Dev.rulingCellWrite (d : Dev) (k : Nat) (act : Word) : Except Result Dev :=
  let ws := d.cellWords k act
  let rep := R.CELL_REPX.get (ws.getD 2 0)
  if 6 < rep ∨ 2 ^ rep ≤ R.CELL_OFFSET.get (ws.getD 2 0) ∨ 3 < R.CELL_KIND.get act then .error .value
  else .ok { d with ruling := { held := d.ruling.held.filter fun e => e.1 / 32 != k
                                wait := (k, ws) :: d.ruling.wait.filter (·.1 != k) } }

/-- A cell that has reached its mark acts: an EVENT at once, another one opens its window. Its buffer starts when the bus is idle, with
CAN_TRANSMIT. -/
def Dev.cellActs (d : Dev) (n : Fin 4) (k : Nat) : Dev :=
  let d := d.onCan n fun u => { u with acted := k :: u.acted }
  if d.cellOf n k R.CELL_KIND = 3 then (d.canCause n 8).onCan n fun u => { u with ended := k :: u.ended } else d

/-- A cell has reached its mark in the present cycle and has not acted yet. -/
def Dev.cellReady (d : Dev) (n : Fin 4) (k : Nat) : Bool :=
  let here : Bool := match d.cycleTime n d.now with | some c => decide (d.cellOf n k R.CELL_MARK ≤ c) | none => false
  d.cellNow n k && !(d.can[n]).acted.contains k && here && (d.cellOf n k R.CELL_KIND == 3 || d.cellWindow n k d.now)

/-- RULING_CELL_MARK (R541): the cell acts, and with it every other cell of the controller with the same mark. -/
def Dev.rulingCellMark (d : Dev) (n : Fin 4) (k : Nat) : Dev :=
  if !d.canOn n ∨ !d.cellReady n k then d
  else ((List.range 1024).filter fun j => d.cellOf n j R.CELL_MARK == d.cellOf n k R.CELL_MARK && d.cellReady n j).foldl
    (fun d j => d.cellActs n j) d

/-- RULING_MISS (R541): the window ends without the cell's action. -/
def Dev.rulingMiss (d : Dev) (n : Fin 4) (k : Nat) : Dev :=
  let u := d.can[n]
  let past : Bool := match d.cycleTime n d.now with
    | some c => decide (d.cellOf n k R.CELL_MARK + d.cellOf n k R.CELL_WIN ≤ c)
    | none => false
  if !d.canOn n ∨ d.cg n R.CAN_RULSTAT_REF_OK = 0 ∨ !u.acted.contains k ∨ u.ended.contains k ∨ !past then d
  else
    let d := d.cellMiss n k
    let b := d.cellBuf n k
    if d.cellOf n k R.CELL_KIND = 0 ∧ d.rulingReady n b ∧ !(u.bufs[b]).keep ∧ u.bus ≠ some b then d.bufDone n b 4 else d

end Sys2Proof.Machine
end

