-- ==== Sys2Proof/Machine/RigEth.lean ====
section
/-! DEFINITION. Chapter 15: the Rigraong link's cycle, slots and events, the Ethernet lane, and the TIME page. Register requests over
the link stand in HostAccess.lean. -/

namespace Sys2Proof.Machine

/-! ## Rigraong link (R542 to R548) -/

/-- A field of a link page. -/
def Dev.rg (d : Dev) (l : Lane) (f : Fld) : Nat := d.gl l (pgLINK l) f

/-- Set a field of a link page. -/
def Dev.rs (d : Dev) (l : Lane) (f : Fld) (v : Nat) : Dev := d.sl l (pgLINK l) f v

/-- Set a CAUSE bit of a link page. -/
def Dev.rigCause (d : Dev) (l : Lane) (bit : Nat) : Dev := d.causeL l (pgLINK l) (BitVec.ofNat 32 (2 ^ bit))

/-- Change one link port. -/
def Dev.onRig (d : Dev) (l : Lane) (f : RigUnit → RigUnit) : Dev := { d with rig := d.rig.put l (f (d.rig.at l)) }

/-- Ledger source of a link port: 0 HEAD_LOST, 1 HEAD_CONFLICT, 2 SLOT_COLLISION, 3 FRAME_ERROR, 4 ROLE_MISMATCH (R556). -/
def rigSrc (l : Lane) (k : Nat) : Nat := 336 + 5 * l.idx + k

/-- A link port that is enabled, on a die that runs. -/
def Dev.rigOn (d : Dev) (l : Lane) : Bool := d.up (.iface l) && d.rg l H.CTRL_ENABLE == 1

/-- A frame as it goes over the line (R543): its header, its payload, and the CRC-32 over both. -/
def Dev.rigBytes (d : Dev) (l : Lane) (f : RigFrame) : List Byte :=
  let h := f.typ % 16 * 2 ^ 36 + d.rg l R.LINK_NODE_ADDR * 2 ^ 30 + f.dst % 64 * 2 ^ 24 + f.epoch % 256 * 2 ^ 16 +
    f.payload.length % 1024 * 2 ^ 6
  let b := leBytes 5 h ++ f.payload
  b ++ leBytes 4 ((checkCode 2).over b)

/-- The frames that a link port has put on the line. -/
def Dev.rigSends (d : Dev) (l : Lane) (fs : List RigFrame) (ends : Nat) : Dev :=
  d.onRig l fun r => { r with sent := fs, line := fs.map (d.rigBytes l), lineEnd := ends }

/-- Queue a frame at a link port. -/
def Dev.rigQueue (d : Dev) (l : Lane) (typ dst epoch : Nat) (payload : List Byte) : Dev :=
  d.onRig l fun r => { r with queue := r.queue ++ [{ typ := typ, dst := dst, epoch := epoch, payload := payload, at' := d.now }] }

/-- A node was heard in the present cycle. -/
def Dev.rigHeard (d : Dev) (l : Lane) (src : Nat) : Dev := d.onRig l fun r => { r with heard := src :: r.heard.filter (· != src) }

/-- A cycle starts at a link port: LIVE shows the nodes of the previous one. -/
def Dev.rigCycle (d : Dev) (l : Lane) (src : Nat) : Dev :=
  let h := (d.rig.at l).heard
  let bits := fun (lo : Nat) => (h.filter fun n => decide (lo ≤ n ∧ n < lo + 32)).foldl (fun a n => a + 2 ^ (n - lo)) 0
  let d := (d.rs l R.LINK_LIVE0_NODE (bits 0)).rs l R.LINK_LIVE1_NODE (bits 32)
  let d := (d.rs l R.LINK_STAT_HEADADDR src).rs l R.LINK_STAT_HEADOK 1
  d.onRig l fun r => { r with cycAt := some d.now, headAt := some d.now, heard := [src], stopped := false }

/-- Ticks a frame lasts: 13 + LEN byte times of ten bits (R542, R543). -/
def Dev.rigTicks (d : Dev) (l : Lane) (f : RigFrame) : Nat :=
  (13 + f.payload.length) * (if d.rg l R.LINK_CFG_RATE = 1 then 25 else 50)

/-- The head starts a cycle (R544): the count goes up, the slots begin and CYCLE_START leaves. -/
def Dev.headCycle (d : Dev) (l : Lane) : Dev :=
  let c := (d.rg l R.LINK_CYCCNT_N + 1) % 2 ^ 32
  let d := (d.rs l R.LINK_CYCCNT_N c).rigCycle l (d.rg l R.LINK_NODE_ADDR)
  let f : RigFrame := { typ := 0, dst := 0, epoch := d.rg l R.LINK_NODE_EPOCH, payload := leBytes 4 c ++ leBytes 8 d.now, at' := d.now }
  d.rigSends l [f] (d.now + d.rigTicks l f)

/-- LINK_CYCLE_START (R544): the head sends CYCLE_START with its cycle count and device time. -/
def Dev.linkCycleStart (d : Dev) (l : Lane) : Dev :=
  let early : Bool := match (d.rig.at l).cycAt with | some t => decide (d.now < t + d.rg l R.LINK_CYCLE_CYC * 500) | none => false
  if !d.rigOn l ∨ d.rg l R.LINK_STAT_ISHEAD = 0 ∨ early then d
  else d.headCycle l

/-- CYCLE_START_RECEIVE (R544, R547): a head gives way to a lower address and keeps its role against a higher one. -/
def Dev.cycleStartReceive (d : Dev) (l : Lane) (src : Nat) (count : Word) : Dev :=
  if !d.rigOn l then d
  else
    let own := d.rg l R.LINK_NODE_ADDR
    if d.rg l R.LINK_STAT_ISHEAD = 1 ∧ own ≤ src then d.rigHeard l src
    else
      let d := if d.rg l R.LINK_STAT_ISHEAD = 1 then ((d.rs l R.LINK_STAT_ISHEAD 0).rigCause l 3).raise (rigSrc l 1) else d
      ((d.rs l R.LINK_CYCCNT_N count.toNat).rigCycle l src).endCause (rigSrc l 0)

/-- The order in which a slot sends its frames (R544): REG_RSP, NOTICE, SAFETY_PDU, SYNC_EVENT; the head's REG_REQ goes before them,
which the rule leaves open (DEDUCED). -/
def rigOrder : List Nat := [1, 2, 4, 3, 5]

/-- What a slot sends, what waits, and how many frames found no room: a frame that does not fit waits, and its kind with it. -/
def rigFill (ticks : RigFrame → Nat) (ready : RigFrame → Bool) : List RigFrame → Nat → List Nat → List RigFrame × List RigFrame × Nat
  | [], _, _ => ([], [], 0)
  | f :: r, room, shut =>
    if !ready f || shut.contains f.typ then
      let (s, w, n) := rigFill ticks ready r room shut
      (s, f :: w, n)
    else if ticks f ≤ room then
      let (s, w, n) := rigFill ticks ready r (room - ticks f) shut
      (f :: s, w, n)
    else
      let (s, w, n) := rigFill ticks ready r room (f.typ :: shut)
      (s, f :: w, n + 1)

/-- A readback mismatch stops the node for the rest of its slot (R545). -/
def Dev.rigCollides (d : Dev) (l : Lane) : Dev :=
  (((d.onRig l fun r => { r with stopped := true }).rs l R.LINK_ERR_COLL (satInc 255 (d.rg l R.LINK_ERR_COLL))).rigCause l 5).raise (rigSrc l 2)

/-- A node's slot opens (R545): after the frames that are on the line already, those that fit leave in their order, the rest wait and those
held back count; a collision ends the slot after `k` frames. -/
def Dev.slotFills (d : Dev) (l : Lane) (t start : Nat) (collision : Option Nat) : Dev :=
  let len := 5 * d.rg l R.LINK_SLOT_LEN
  let q := (d.rig.at l).queue.filter fun f => f.typ != 2 || decide (d.rigTicks l f ≤ len)
  let sorted := rigOrder.flatMap fun k => q.filter fun f => f.typ == k
  let at' := max d.now (d.rig.at l).lineEnd
  let (go, wait, n) := rigFill (d.rigTicks l) (fun f => f.typ != 2 || decide (f.at' < t)) sorted (start + len - at') []
  let ends := fun (fs : List RigFrame) => at' + (fs.map (d.rigTicks l)).foldl (· + ·) 0
  let d := d.rs l R.LINK_ERR_OVERRUN (min 255 (d.rg l R.LINK_ERR_OVERRUN + n))
  match collision with
  | none => (d.onRig l fun r => { r with queue := wait }).rigSends l go (ends go)
  | some k => ((d.onRig l fun r => { r with queue := go.drop k ++ wait }).rigSends l (go.take k) (ends (go.take k))).rigCollides l

/-- LINK_SLOT (R544, R545): the node sends what its slot holds; a readback mismatch ends the transmission after some frames, and no frame
follows in the slot. A mismatch while the head's own CYCLE_START is on the line stops that. -/
def Dev.linkSlot (d : Dev) (l : Lane) (collision : Option Nat) : Dev :=
  match (d.rig.at l).cycAt with
  | none => d
  | some t =>
    let start := t + 5 * d.rg l R.LINK_SLOT_START
    let len := 5 * d.rg l R.LINK_SLOT_LEN
    let opening := d.rg l R.LINK_STAT_ISHEAD == 1 && decide (d.now < (d.rig.at l).lineEnd) && (d.rig.at l).sent.any (·.typ == 0)
    if !d.rigOn l ∨ (d.rig.at l).stopped then d
    else if opening ∧ collision.isSome then (d.rigSends l [] d.now).rigCollides l
    else if d.now < start ∨ start + len ≤ d.now ∨ (d.rg l R.LINK_STAT_HEADOK = 0 ∧ d.rg l R.LINK_STAT_ISHEAD = 0) then d
    else d.slotFills l t start collision

/-- FRAME_ERROR (R543). -/
def Dev.frameError (d : Dev) (l : Lane) : Dev :=
  if !d.rigOn l then d
  else ((d.rs l R.LINK_ERR_CRC (satInc 255 (d.rg l R.LINK_ERR_CRC))).rigCause l 4).raise (rigSrc l 3)

/-- The time since the last CYCLE_START is at least so many cycles. -/
def Dev.rigSilent (d : Dev) (l : Lane) (n : Nat) : Bool :=
  match (d.rig.at l).headAt with
  | some t => decide (t + n * d.rg l R.LINK_CYCLE_CYC * 500 ≤ d.now)
  | none => false

/-- HEAD_LOST (R547). -/
def Dev.headLost (d : Dev) (l : Lane) : Dev :=
  if !d.rigOn l ∨ d.rg l R.LINK_STAT_ISHEAD = 1 ∨ !d.rigSilent l 2 then d
  else ((d.rs l R.LINK_STAT_HEADOK 0).rigCause l 1).raiseCond (rigSrc l 0)

/-- HEAD_TAKEOVER (R547): a standby head continues the cycle count. -/
def Dev.headTakeover (d : Dev) (l : Lane) : Dev :=
  if !d.rigOn l ∨ d.rg l R.LINK_CFG_HEAD ≠ 2 ∨ d.rg l R.LINK_STAT_ISHEAD = 1 ∨ !d.rigSilent l 4 then d
  else ((((d.rs l R.LINK_STAT_ISHEAD 1).rigCause l 2).endCause (rigSrc l 0)).onRig l fun r => { r with cycAt := none }).linkCycleStart l

/-- CTRL.ENABLE of a link port is set or cleared: a head acts as one from then on, and the silence of R547 counts from here. -/
def Dev.rigEnable (d : Dev) (l : Lane) (on : Bool) : Dev :=
  let d := (d.rs l R.LINK_STAT_ISHEAD (on && d.rg l R.LINK_CFG_HEAD == 1).toNat).rs l R.LINK_STAT_HEADOK 0
  d.onRig l fun r => { r with cycAt := none, headAt := if on then some d.now else none, queue := [], heard := [], lineEnd := 0, stopped := false
                              events := [] }

/-- SYNCTX (R548): a SYNC_EVENT is queued with the due tick of SYNCTX_T. -/
def Dev.syncTx (d : Dev) (l : Lane) (evt : Nat) : Dev :=
  d.rigQueue l 5 0 (d.rg l R.LINK_NODE_EPOCH) (leBytes 1 evt ++ leBytes 4 (d.rg l R.LINK_SYNCTX_T_T))

/-- SYNC_EVENT (R548): a frame that arrives before its due tick waits for it, and the next command for it is that tick; any other acts at
once, late where the tick has passed. Its sender counts as heard on arrival. -/
def Dev.syncEvent (d : Dev) (l : Lane) (src evt : Nat) (due : Word) : Dev :=
  if !d.rigOn l then d
  else
    let waits := (d.rig.at l).events.contains (src, evt, due)
    let d := if waits ∨ src = d.rg l R.LINK_NODE_ADDR then d else d.rigHeard l src
    if stampDiff d.now due.toNat < 0 then
      if waits then d else d.onRig l fun r => { r with events := r.events ++ [(src, evt, due)] }
    else
      let d := d.onRig l fun r => { r with events := r.events.erase (src, evt, due) }
      let d := ((d.rs l R.LINK_SYNCRX_SRC src).rs l R.LINK_SYNCRX_EVT evt).rs l R.LINK_SYNCRX_LATE
        (!waits && decide (0 < stampDiff d.now due.toNat)).toNat
      d.rigCause l 6

/-! ## Ethernet lane (R549 to R552) -/

/-- A field of the ETH page. -/
def Dev.eg (d : Dev) (f : Fld) : Nat := d.gl .a pgETH f

/-- Set a field of the ETH page. -/
def Dev.es (d : Dev) (f : Fld) (v : Nat) : Dev := d.sl .a pgETH f v

/-- Set a CAUSE bit of the ETH page. -/
def Dev.ethCause (d : Dev) (bit : Nat) : Dev := d.causeL .a pgETH (BitVec.ofNat 32 (2 ^ bit))

/-- The lane is enabled and its die runs. -/
def Dev.ethOn (d : Dev) : Bool := d.up (.iface .a) && d.eg H.CTRL_ENABLE == 1

/-- The six bytes of an address register pair. -/
def Dev.ethAddr (d : Dev) (lo hi : Fld) : List Byte := leBytes 4 (d.eg lo) ++ leBytes 2 (d.eg hi)

/-- A safety frame's stream tag (R551): EtherType 0x88B5, then the tag. -/
def ethTag (b : List Byte) : Option Nat :=
  if b.getD 12 0 = 0x88#8 ∧ b.getD 13 0 = 0xB5#8 then some (256 * (b.getD 14 0).toNat + (b.getD 15 0).toNat) else none

/-- The tag names a path of an enabled connection entry on ETH. -/
def Dev.ethPath (d : Dev) (tag : Nat) : Bool :=
  let i := d.prim pgSLAYER
  (List.range 1024).any fun k => d.cw i k R.CONN_EN == 1 &&
    ((d.cw i k R.CONN_P0PORT == 9 && d.cw i k R.CONN_PATH0_ID % 65536 == tag) ||
     (d.cw i k R.CONN_DUAL == 1 && d.cw i k R.CONN_P1PORT == 9 && d.cw i k R.CONN_PATH1_ID % 65536 == tag))

/-- A frame that ETH keeps (R551): its own address, an enabled broadcast or multicast address, and no safety path. -/
def Dev.ethTakes (d : Dev) (b : List Byte) : Bool :=
  let dst := b.take 6
  let forUs := dst == d.ethAddr R.ETH_MAC_LO_ADDR R.ETH_MAC_HI_ADDR || (d.eg R.ETH_CFG_BCAST == 1 && dst.all (· == 0xFF#8)) ||
    (d.eg R.ETH_CFG_MCEN == 1 && dst == d.ethAddr R.ETH_MC_LO_ADDR R.ETH_MC_HI_ADDR)
  forUs && !(match ethTag b with | some t => d.ethPath t | none => false)

/-- A frame that the lane takes, its FCS and length as the lane carries them (R549). -/
def Dev.ethGood (d : Dev) (b : List Byte) (fcsOk : Bool) : Bool :=
  d.ethOn && d.eg R.ETH_STAT_LINK == 1 && fcsOk && decide (60 ≤ b.length ∧ b.length ≤ 1518)

/-- A frame arrives, but for what the safety layer does with it (R549, R133): a frame whose FCS or length is not as the lane carries it
counts in RXERR. -/
def Dev.ethFrameTaken (d : Dev) (b : List Byte) (fcsOk : Bool) (age : Nat) : Dev :=
  if !d.ethOn ∨ d.eg R.ETH_STAT_LINK = 0 then d
  else if !fcsOk ∨ b.length < 60 ∨ 1518 < b.length then d.es R.ETH_CNT_RXERR (satInc 65535 (d.eg R.ETH_CNT_RXERR))
  else
    if !d.ethTakes b then d
    else if 16384 < (d.eth.rx.map (·.2.length)).foldl (· + ·) 0 + b.length then
      ((d.es R.ETH_CNT_RXDROP (satInc 65535 (d.eg R.ETH_CNT_RXDROP))).ethCause 3).raise 347
    else { d with eth := { d.eth with rx := d.eth.rx ++ [(d.now - age, b)] } }.ethCause 0

/-- ETH_RXDATA_READ (R550): the next four bytes of the oldest frame; the read of its last byte releases it. -/
def Dev.ethRead (d : Dev) : Word × Dev :=
  match d.eth.rx with
  | [] => (0, d)
  | (_, b) :: r =>
    let p := d.eth.pos
    let g := fun (k : Nat) => b.getD (p + k) 0
    (bytesWord (g 0) (g 1) (g 2) (g 3),
      if b.length ≤ p + 4 then { d with eth := { d.eth with rx := r, pos := 0 } } else { d with eth := { d.eth with pos := p + 4 } })

/-- A writer may touch the transmit side: resource 80 (R631), and no other identity holds a frame (R550). -/
def Dev.ethTxOk (d : Dev) (w : Who) : Bool :=
  d.resOk w 80 && (match d.eth.tx with | some (i, _) => i == w.ident | none => true)

/-- ETH_TXDATA (R550). -/
def Dev.ethTxdata (d : Dev) (w : Who) (v : Word) : Option Dev :=
  if !d.ethTxOk w then none
  else some { d with eth := { d.eth with tx := some (w.ident, (match d.eth.tx with | some (_, b) => b | none => []) ++ wordBytes v) } }

/-- A body with its FCS. -/
def ethFcs (b : List Byte) : List Byte := b ++ leBytes 4 ((checkCode 2).over b)

/-- The frame of the transmit buffer leaves (R550): cut to its length, padded with what the spec leaves open, and its FCS appended. -/
def Dev.ethSends (d : Dev) (len : Nat) : Dev :=
  let b := (match d.eth.tx with | some (_, b) => b | none => []).take len
  let miss := len - b.length
  let body := b ++ (List.range miss).map fun k => BitVec.ofNat 8 (Config.freeWord (d.freeCtr + k)).toNat
  let body := body ++ List.replicate (60 - len) 0
  let d := { d with freeCtr := d.freeCtr + miss }
  { d with eth := { d.eth with tx := none, sending := true, sent := some (ethFcs body) } }

/-- ETH_TXLEN (R550): LEN bytes go out with padding and FCS. Bytes that were not written are left open by the rule. -/
def Dev.ethTxlen (d : Dev) (w : Who) (len : Nat) : Except Result Dev :=
  if !d.ethTxOk w then .error .block
  else if len < 14 ∨ 1518 < len then .error .value
  else .ok (d.ethSends len)

/-- The frame of a safety PDU leaves at once, or waits for the end of the frame on its way (R551). -/
def Dev.ethPdu (d : Dev) (b : List Byte) : Dev :=
  if d.eg R.ETH_STAT_LINK = 0 then d
  else if d.eth.sending then { d with eth := { d.eth with pdus := d.eth.pdus ++ [b] } }
  else { d with eth := { d.eth with sent := some (ethFcs b) } }

/-- ETH_TXDONE (R550): the safety frames that waited leave. -/
def Dev.ethTxdone (d : Dev) : Dev :=
  if !d.eth.sending then d
  else
    let sent := match d.eth.pdus.getLast? with | some b => some (ethFcs b) | none => d.eth.sent
    { d with eth := { d.eth with sending := false, sent := sent, pdus := [] } }.ethCause 1

/-- ETH_LINK_DOWN (R559). -/
def Dev.ethLinkDown (d : Dev) : Dev :=
  if !d.up (.iface .a) ∨ d.eg R.ETH_STAT_LINK = 0 then d
  else
    let d := (((d.es R.ETH_STAT_LINK 0).es R.ETH_STAT_AN_DONE 0).es R.ETH_STAT_PTPLOCK 0).ethCause 2
    if d.eg H.CTRL_ENABLE = 1 then d.raiseCond 346 else d

/-- ETH_LINK_UP (R559). -/
def Dev.ethLinkUp (d : Dev) : Dev :=
  if !d.ethOn ∨ d.eg R.ETH_STAT_LINK = 1 then d
  else (((d.es R.ETH_STAT_LINK 1).es R.ETH_STAT_AN_DONE (d.eg R.ETH_CFG_AN)).ethCause 2).endCause 346

/-- MDIO_GO (R549): the access starts with the fields written. -/
def Dev.mdioGo (d : Dev) (v : Word) : Dev :=
  d.setWord .a (pageAddr pgETH 0x74)
    (v &&& (R.ETH_MDIO_GO.mask ||| R.ETH_MDIO_READ.mask ||| R.ETH_MDIO_PHYAD.mask ||| R.ETH_MDIO_REG.mask ||| R.ETH_MDIO_DATA.mask))

/-- MDIO_DONE. -/
def Dev.mdioDone (d : Dev) (data : Nat) : Dev :=
  if !d.up (.iface .a) ∨ d.eg R.ETH_MDIO_GO = 0 then d
  else
    let d := if d.eg R.ETH_MDIO_READ = 1 then d.es R.ETH_MDIO_DATA data else d
    (d.es R.ETH_MDIO_GO 0).ethCause 4

/-- CFG.PTP was cleared: nothing is synchronised any more (R552). -/
def Dev.ptpStops (d : Dev) : Dev :=
  { d with eth := { d.eth with syncAt := none, delay := none, gptp := none } }.es R.ETH_STAT_PTPLOCK 0

/-- PTP_MESSAGE (R552): a peer-delay request is issued or answered, whose frames IEEE 802.1AS lays out; Sync and Follow_Up give the synchronised time at the Sync's stamp, with the link delay of the last completed
peer-delay exchange (the computation of IEEE 802.1AS: PRESUMED). -/
def Dev.ptpMessage (d : Dev) (m : PtpMessage) (age : Nat) : Dev :=
  if !d.ethOn ∨ d.eg R.ETH_STAT_LINK = 0 ∨ d.eg R.ETH_CFG_PTP = 0 then d
  else
    match m with
    | .sync => { d with eth := { d.eth with syncAt := some (d.now - age) } }
    | .followUp ns =>
      match d.eth.syncAt, d.eth.delay with
      | some s, some y => { d with eth := { d.eth with gptp := some ((ns + y).toNat, s) } }.es R.ETH_STAT_PTPLOCK 1
      | _, _ => d
    | .requestSent => { d with eth := { d.eth with ptpSent := d.eth.ptpSent ++ [.request (d.now - age)] } }
    | .requestTaken => { d with eth := { d.eth with ptpSent := d.eth.ptpSent ++ [.answer (d.now - age)] } }
    | .peerDelay t1 t2 t3 t4 => { d with eth := { d.eth with delay := some ((((t4 : Int) - t1) - ((t3 : Int) - t2)) / 2) } }

/-! ## Time (R553 to R555) -/

/-- A field of the TIME page. -/
def Dev.tg (d : Dev) (f : Fld) : Nat := d.g pgTIME f

/-- The domain time and the device's own stamp of a source event (R553); none where the source has no event to pair: a link, ETH, the CAN
controller and TIMEREF give none while their die does not run (R49). -/
def Dev.sourcePair (d : Dev) (domain age : Nat) : Option (Int × Int) :=
  let s : Int := (d.now - age : Nat)
  match d.tg R.TIME_CFG_SRC with
  | 1 => d.eth.gptp.map fun p => (((p.1 / 2 : Nat) : Int), (p.2 : Int))
  | 2 => if d.rigOn .a then some ((domain : Int) + divOpen (d.rg .a R.LINK_TIMING_PDLY) 2, s) else none
  | 3 => if d.rigOn .b then some ((domain : Int) + divOpen (d.rg .b R.LINK_TIMING_PDLY) 2, s) else none
  | 4 =>
    let n : Fin 4 := ⟨d.tg R.TIME_CFG_CANSEL % 4, by omega⟩
    if d.canOn n ∧ d.cg n R.CAN_RULCFG_TIMEIN = 1 then (d.can[n]).refBefore.map fun t => ((domain : Int), (t : Int)) else none
  | 5 => if d.up (.iface .b) then some (divNearest s 500000000 * 500000000, s) else none
  | _ => none

/-- Nothing forbids a step of the device time (R554). -/
def Dev.stepAllowed (d : Dev) : Bool :=
  d.tg R.TIME_CFG_STEPEN == 1 && d.modeIs [.standby, .maintenance] &&
  ([Lane.a, Lane.b].all fun l => !d.up (.ctl l) || (d.gl l (pgMOD l) R.MOD_TB0_CFG_EN == 0 && d.gl l (pgMOD l) R.MOD_TB1_CFG_EN == 0)) &&
  [Lane.a, Lane.b].all fun i => !d.up (.iface i) || (List.range 1024).all fun k => d.cw i k R.CONN_CSTATE != 1 && d.cw i k R.CONN_CSTATE != 2

/-- TIME_STEP (R554): device time steps forward at the next multiple of 4,096 ticks, in every die at once. -/
def Dev.timeStep (d : Dev) (o : Nat) : Dev :=
  let t := (d.now + 4095) / 4096 * 4096 + o
  let d := { d with now := t }
  let d := (d.s pgTIME R.TIME_STEPCNT_N ((d.tg R.TIME_STEPCNT_N + 1) % 65536)).s pgTIME R.TIME_STAT_STEPWAIT 0
  let d := d.cause pgTIME 2
  d.eachLane fun d u => d.onPos u fun p => { p with chans := p.chans.map fun c => { c with steps := [] } }

/-- TIME takes a pair of source and local time (R553 to R556): offset and rate, the count of good and bad events, SYNC and AHEAD, and
the step where one is due. -/
def Dev.timeTaken (d : Dev) (dd s : Int) : Dev :=
  let o := dd - s
  let tol : Int := d.tg R.TIME_TOL_T
  let sync := d.tg R.TIME_STAT_SYNC
  let d := (d.sS pgTIME R.TIME_OFS_O (sat32 o)).s pgTIME R.TIME_STAT_VALID 1
  let d := match d.time.lastEvent with
    | some t =>
      let lim : Int := d.tg R.TIME_CFG_MAXSLEW * 1000
      if (t : Int) < s then d.sS pgTIME R.TIME_TRIM_R (clampInt (-lim) lim (divOpen (o * 1000000000) (16 * (s - t).toNat))) else d
    | none => d
  let within := decide ((o.natAbs : Int) ≤ tol)
  let d := { d with time := { d.time with lastEvent := some s.toNat, good := if within then d.time.good + 1 else 0
                                          bad := if within then 0 else d.time.bad + 1 } }
  let d := if sync = 0 ∧ 8 ≤ d.time.good then (d.s pgTIME R.TIME_STAT_SYNC 1).cause pgTIME 0
    else if sync = 1 ∧ 4 ≤ d.time.bad then ((d.s pgTIME R.TIME_STAT_SYNC 0).cause pgTIME 1).raise 348
    else d
  let d := if o < -tol then ((d.s pgTIME R.TIME_STAT_AHEAD 1).cause pgTIME 3).raise 349 else d.s pgTIME R.TIME_STAT_AHEAD 0
  if sync = 0 ∧ tol < o then (if d.stepAllowed then d.timeStep o.toNat else d.s pgTIME R.TIME_STAT_STEPWAIT 1)
  else d

/-- TIME_SOURCE_EVENT (R553 to R555). -/
def Dev.timeSourceEvent (d : Dev) (domain age : Nat) : Dev :=
  match d.sourcePair domain age with
  | none => d
  | some (dd, s) =>
    if d.copies pgTIME = [] ∨ d.tg H.CTRL_ENABLE = 0 then d
    else d.timeTaken dd s

/-- TIME_EVENT_TIMEOUT (R555). -/
def Dev.timeEventTimeout (d : Dev) : Dev :=
  match d.time.lastEvent with
  | none => d
  | some t =>
    if d.copies pgTIME = [] ∨ d.tg H.CTRL_ENABLE = 0 ∨ d.now < t + 4 * d.tg R.TIME_EXPINT_T * 500 then d
    else
      let d := (d.s pgTIME R.TIME_STAT_VALID 0)
      let d := { d with time := { d.time with lastEvent := none, good := 0, bad := 0 } }
      if d.tg R.TIME_STAT_SYNC = 1 then ((d.s pgTIME R.TIME_STAT_SYNC 0).cause pgTIME 1).raise 348 else d

/-- NOW_LO_READ (R559): NOW_HI is latched for the same reader. -/
def Dev.nowLoRead (d : Dev) (ident : Nat) : Word × Dev :=
  (stamp32 d.now, { d with time := { d.time with hi := (ident, BitVec.ofNat 32 (d.now / 2 ^ 32)) :: d.time.hi.filter (·.1 != ident) } })

/-- TIMEREF_PULSE (R559): the edge that PPSPOL names is stamped. -/
def Dev.timerefPulse (d : Dev) (rising : Bool) (age : Nat) : Dev :=
  if !d.up (.iface .b) ∨ rising == (d.tg R.TIME_CFG_PPSPOL == 1) then d
  else (d.s pgTIME R.TIME_PPS_T_T ((d.now - age) % 2 ^ 32)).cause pgTIME 4

end Sys2Proof.Machine
end

