-- ==== Sys2Proof/Machine/Islands.lean ====
section
/-! DEFINITION. Chapter 13: the safety islands: STO channels, safe inputs, safety states, monitors, the Assayer and the safe brake.
Torque and power are formed in integers of 1 uNm and 1 uW, which is finer than the binary32 precision R488 asks for. -/

namespace Sys2Proof.Machine

/-- Source k of an island (R502). -/
def islandSrc (i : Lane) (k : Nat) : Nat := 288 + 16 * i.idx + k

/-- Raise an island's source: a condition by its change, an event each time. -/
def Dev.islandRaise (d : Dev) (i : Lane) (k : Nat) : Dev :=
  if conditionSource (islandSrc i k) then d.raiseCond (islandSrc i k) else d.raise (islandSrc i k)

/-- A bit of SAFE_x.CAUSE. -/
def Dev.safeCause (d : Dev) (i : Lane) (bit : Nat) : Dev := d.causeL i (pgSAFE i) (BitVec.ofNat 32 (2 ^ bit))

/-- An island that runs and is in service. -/
def Dev.islandOn (d : Dev) (i : Lane) : Bool := d.up (.iface i) && (d.islands.at i).inService

/-- A field of an axis on a SAFE page. -/
def Dev.sf (d : Dev) (i : Lane) (x : Fin 2) (f : Fld) : Nat := d.gl i (pgSAFE i) f x.val

/-- A field of an axis on the ASSAY page, in island i's copy. -/
def Dev.af (d : Dev) (i : Lane) (x : Fin 2) (f : Fld) : Nat := d.gl i pgASSAY f x.val

/-- The safety state of an axis as an island has it. -/
def Dev.safeState (d : Dev) (i : Lane) (x : Fin 2) : Nat := d.sf i x R.SAFE_ASTATE_STATE

/-! ## STO (R469 to R475) -/

/-- The STO cause of an axis in HOLD stands while a land channel is active or an island holds STO (R474, R475). -/
def Dev.stoStands (d : Dev) (x : Fin 2) : Bool :=
  d.stoLand .a || d.stoLand .b || [Lane.a, Lane.b].any fun i => d.islandOn i && d.safeState i x == 4

/-- Take the STO cause of both axes anew. -/
def Dev.stoAnew (d : Dev) : Dev :=
  d.eachAxis fun d x => if d.stoStands x then d else d.onAxis x fun s => { s with causes := { s.causes with sto := false } }

/-- A new level of an STO channel at an island (R469, R474), which reaches the driver dies over the hardware path (R40, R63, R470). -/
def Dev.stoChannelTurns (d : Dev) (ch : Lane) (i : Lane) (active : Bool) : Dev :=
  let was := match ch with | .a => (d.islands.at i).stoA | .b => (d.islands.at i).stoB
  if was == active then d
  else
    let d := d.onIsland i fun s => match ch with | .a => { s with stoA := active } | .b => { s with stoB := active }
    let s := d.islands.at i
    let d := d.sl i (pgSAFE i) R.SAFE_STATE_STO (2 * s.stoB.toNat + s.stoA.toNat)
    let d := d.onIsland i fun s => { s with stoDiffAt := if s.stoA == s.stoB then none else some d.now, stoSeen := s.stoSeen || active }
    let d := if s.stoA == s.stoB then d.endCause (islandSrc i 4) else d
    let d := (List.finRange 8).foldl (fun d k => d.stoPath k i) d
    if active then d.eachAxis fun d x =>
      (d.onAxis x fun s => { s with afterSto := true }).hold x fun c => { c with sto := true }
    else d.stoAnew

/-- A level of an STO land has held throughout STO.FILT, in 0.125 µs (R469). -/
def Dev.stoFiltered (d : Dev) (i : Lane) (held : Nat) : Bool := decide (d.gl i (pgSAFE i) R.SAFE_STO_FILT * 125 ≤ 2 * held)

/-- STO_CHANNEL_CHANGE (R469, R472, R474): the filter of an interface die passes a level of a channel that has held for `held` ticks. -/
def Dev.stoChannelChange (d : Dev) (ch : Lane) (i : Lane) (active : Bool) (held : Nat) : Dev :=
  if !d.up (.iface i) ∨ !d.stoFiltered i held then d
  else d.viaInput i true (.sto ch) (.sto ch active) fun d => d.stoChannelTurns ch i active

/-- The discrepancy of island `i` is latched (R472): every island in service requests STO on both axes. -/
def Dev.stoDiscLatched (d : Dev) (i : Lane) : Dev :=
  let d := (d.islandRaise i 4).safeCause i 2
  d.eachLane fun d k => if d.islandOn k then
      let d := d.onIsland k fun s => { s with stoDisc := true }
      d.eachAxis fun d x => Dev.noSide (d.islandSto k x true)
    else d

/-- STO_DISCREPANCY (R472): the channels have differed for DISC ms; both islands request STO for every axis. -/
def Dev.stoDiscrepancy (d : Dev) (i : Lane) : Dev :=
  match (d.islands.at i).stoDiffAt with
  | none => d
  | some t =>
    if !d.islandOn i ∨ d.now < t + d.gl i (pgSAFE i) R.SAFE_STO_DISC * 500000 then d
    else d.stoDiscLatched i

/-! ## Safe inputs (R476, R477) -/

/-- What the two channels of an input say: some demand, or none for an invalid combination. -/
def sdinSays (anti : Bool) (c1 c2 : Bool) : Option Bool :=
  if anti then (if !c1 && c2 then some true else if c1 && !c2 then some false else none)
  else if !c1 && !c2 then some true else if c1 && c2 then some false else none

/-- An input counts as demanding. -/
def Dev.sdinDemands (d : Dev) (i : Lane) (n : Fin 2) : Bool :=
  let s := d.islands.at i
  s.sdiDemand.getD n.val false || s.sdiFault.getD n.val false

/-- An input names an axis and has a function. -/
def Dev.sdinFor (d : Dev) (i : Lane) (n : Fin 2) (x : Fin 2) (f : Nat) : Bool :=
  d.gl i (pgSAFE i) R.SAFE_SDIN_FUNC n.val == f && d.gl i (pgSAFE i) R.SAFE_SDIN_AXES n.val / 2 ^ x.val % 2 == 1

/-- What SAFE_x.REQ asks for an axis. -/
def Dev.safeReq (d : Dev) (i : Lane) (x : Fin 2) : Nat := d.gl i (pgSAFE i) (if x = 0 then R.SAFE_REQ_AX1 else R.SAFE_REQ_AX2)

/-- Requests by state code for an axis beside its monitors (R478): SDIN inputs, REQ, safety PDUs, R467, and STO through the
lands, a discrepancy or a source of class CUT. Those that stand now, and with `seen` those of the cycle too (R464). -/
def Dev.safeRequests (d : Dev) (i : Lane) (x : Fin 2) (seen : Bool) : List Nat :=
  let s := d.islands.at i
  let a := s.ax x
  let sdin := [(0 : Fin 2), 1].flatMap fun n => [1, 2, 3, 4].filterMap fun f =>
    if (d.sdinDemands i n || (seen && s.sdiSeen.getD n.val false)) && d.sdinFor i n x f then some (5 - f) else none
  let land := if d.supervisor || s.stoA || s.stoB || (seen && s.stoSeen) || s.stoDisc || a.cut.any d.uncl then [4] else []
  sdin ++ [d.safeReq i x, if seen then a.reqSeen else 0] ++ a.pduReq.map (·.2) ++ land ++ (if s.degradedReact then [3] else [])

/-- A write to REQ leaves its requests seen in the cycle (R464). -/
def Dev.reqSeen (d : Dev) (i : Lane) (v : Word) : Dev :=
  (d.onSafeAx i 0 fun s => { s with reqSeen := max s.reqSeen (R.SAFE_REQ_AX1.get v) }).onSafeAx i 1 fun s =>
    { s with reqSeen := max s.reqSeen (R.SAFE_REQ_AX2.get v) }

/-- A new cycle has seen what stands at its start (R464). -/
def Dev.seenAnew (d : Dev) (i : Lane) : Dev :=
  let d := d.onIsland i fun s => { s with stoSeen := s.stoA || s.stoB, sdiSeen := [d.sdinDemands i 0, d.sdinDemands i 1] }
  d.eachAxis fun d x => d.onSafeAx i x fun s => { s with reqSeen := d.safeReq i x }

/-- SS2 and SOS act as SS1 on an axis whose motion unit is off (R479). -/
def Dev.asMotion (d : Dev) (x : Fin 2) (r : Nat) : Nat :=
  if (r = 1 ∨ r = 2) ∧ d.g (pgMOTION x) R.MOTION_CFG_MODE = 0 then 3 else r

/-- An acknowledgement is awaited before STO can end (R475). -/
def Dev.ackNeeded (d : Dev) (i : Lane) (x : Fin 2) : Bool :=
  let a := (d.islands.at i).ax x
  (a.needAck || a.byViol || d.gl i (pgSAFE i) R.SAFE_CFG_RESTART == 1) && !a.acked

/-- A cause of STO stands for an axis in an island's view (R475). -/
def Dev.stoWanted (d : Dev) (i : Lane) (x : Fin 2) : Bool :=
  (d.safeRequests i x false).contains 4 || ((d.islands.at i).ax x).stoViol

/-- A cause of STO that rises after an acknowledgement makes it void (R475). -/
def Dev.acksFollow (d0 d : Dev) : Dev :=
  d.eachLane fun d i => d.eachAxis fun d x =>
    if d.stoWanted i x ∧ !d0.stoWanted i x ∧ ((d.islands.at i).ax x).acked then d.onSafeAx i x fun s => { s with acked := false } else d

/-- An acknowledgement reaches an island for some axes: it counts where the last cause has gone (R475). -/
def Dev.ackIsland (d : Dev) (i : Lane) (xs : List (Fin 2)) : Dev :=
  if !d.islandOn i then d
  else xs.foldl (fun d x =>
    if d.safeState i x = 4 ∧ !d.stoWanted i x then d.onSafeAx i x fun s => { s with acked := true } else d) d

/-- SAFE_ACK (R475): the key acknowledges for both islands. -/
def Dev.safeAck (d : Dev) (key : Nat) : Dev :=
  if key = 0xA9 then (d.ackIsland .a [0, 1]).ackIsland .b [0, 1] else d

/-- Show the inputs' demands. -/
def Dev.showSdin (d : Dev) (i : Lane) : Dev :=
  d.sl i (pgSAFE i) R.SAFE_STATE_SDIN (2 * (d.sdinDemands i 1).toNat + (d.sdinDemands i 0).toNat)

/-- The end of a demand on an input acknowledges with function 6 (R477); `was` says that the input demanded. -/
def Dev.sdinEnds (d : Dev) (i : Lane) (n : Fin 2) (was : Bool) : Dev :=
  if was && !d.sdinDemands i n then d.ackIsland i ([(0 : Fin 2), 1].filter fun x => d.sdinFor i n x 6) else d

/-- An input's demand is reassessed (R476, R477). -/
def Dev.sdinJudge (d : Dev) (i : Lane) (n : Fin 2) : Dev :=
  let s := d.islands.at i
  let level := sdinSays (d.gl i (pgSAFE i) R.SAFE_SDIN_ANTI n.val == 1) (s.sdi.getD (2 * n.val) true) (s.sdi.getD (2 * n.val + 1) true)
  let was := d.sdinDemands i n
  match level with
  | none => d.onIsland i fun s => { s with sdiBadAt := s.sdiBadAt.set n.val (some ((s.sdiBadAt.getD n.val none).getD d.now)) }
  | some v =>
    let d := d.onIsland i fun s => { s with sdiBadAt := s.sdiBadAt.set n.val none, sdiDemand := s.sdiDemand.set n.val v
                                            sdiSeen := s.sdiSeen.set n.val (v || s.sdiSeen.getD n.val false) }
    let d := if (d.islands.at i).sdiBadAt.all (·.isNone) then d.endCause (islandSrc i 5) else d
    (d.sdinEnds i n was).showSdin i

/-- A channel of a safe input takes a level (R476, R477). -/
def Dev.sdinTaken (d : Dev) (i : Lane) (n ch : Fin 2) (high : Bool) : Dev :=
  (d.onIsland i fun s => { s with sdi := s.sdi.set (2 * n.val + ch.val) high }).sdinJudge i n

/-- A level of a channel of an input has held for its FILT, in 0.1 ms (R476). -/
def Dev.sdinFiltered (d : Dev) (i : Lane) (n : Fin 2) (held : Nat) : Bool := decide (d.gl i (pgSAFE i) R.SAFE_SDIN_FILT n.val * 50000 ≤ held)

/-- SDIN_CHANGE (R476, R477): a channel of an input has a level that has held for `held` ticks; the end of a demand acknowledges with
function 6. An invalid combination keeps the last demand (DEDUCED). -/
def Dev.sdinChange (d : Dev) (i : Lane) (n ch : Fin 2) (high : Bool) (held : Nat) : Dev :=
  if !d.up (.iface i) ∨ !d.sdinFiltered i n held then d
  else d.viaInput i true (.sdi n) (.sdi n ch high) fun d => d.sdinTaken i n ch high

/-- SDIN_DISCREPANCY (R476): the input counts as demanding until the fault is cleared. -/
def Dev.sdinDiscrepancy (d : Dev) (i : Lane) (n : Fin 2) : Dev :=
  match (d.islands.at i).sdiBadAt.getD n.val none with
  | none => d
  | some t =>
    if !d.islandOn i ∨ d.now ≤ t + d.gl i (pgSAFE i) R.SAFE_SDIN_DISC n.val * 500000 then d
    else
      let d := d.onIsland i fun s => { s with sdiFault := s.sdiFault.set n.val true }
      (((d.islandRaise i 5).safeCause i 2)).showSdin i

/-! ## Safety speed and position (R483, R484) -/

/-- What a safety axis reads of its machine: speed, whether it is known, position, the record in use, relayed. -/
structure SafeView where
  v : Int
  known : Bool
  pos : Option Int
  chan : Option (Lane × Fin 4 × PosRec)
  sec : Bool
  relayed : Bool

/-- A channel is valid in an island's view. -/
def Dev.safeChan (d : Dev) (i : Lane) (code : Nat) : Option (Lane × Fin 4 × PosRec × RecSlot) :=
  match angChan code with
  | none => none
  | some (u, c, k) =>
    let s := (d.pos.at i).ifRecs[k]
    match s.last with
    | some r => if r.invalid ∨ s.bad ∨ s.at' + 250000 < d.now then none else some (u, c, r, s)
    | none => none

/-- The mean SPEED of the last SPDF cycles, rounded to integer counts/s. -/
def safeMean (h : List (Nat × Int × Nat)) (now spdf : Nat) (last : Int) : Int :=
  let k := h.filter fun e => decide (now / 125000 ≤ e.1 + spdf) && decide (e.1 < now / 125000 ∨ now % 125000 ≠ 0)
  let n := (k.map (·.2.2)).foldl (· + ·) 0
  let s := (k.map (·.2.1)).foldl (· + ·) 0
  if n = 0 then divNearest last 256 else divNearest s (256 * n)

/-- The relayed values that arrived within a safety cycle (R468). -/
def Dev.relayOk (d : Dev) (i : Lane) : Option RelayValues :=
  match (d.islands.at i).relay with
  | some v => if d.now ≤ (d.islands.at i).relayAt + 125000 then some v else none
  | none => none

/-- The relayed values of one axis. -/
def relayAx (v : RelayValues) (x : Fin 2) : RelayAxis := if x = 0 then v.ax1 else v.ax2

/-- A relayed value of an axis, usable where it arrived within a safety cycle and passed its own check (R42, R468). -/
def Dev.relayed {α : Type} (d : Dev) (i : Lane) (x : Fin 2) (f : RelayAxis → Option α) : Option α :=
  (d.relayOk i).bind fun v => f (relayAx v x)

/-- A control die's DC-link reading at an island; the other die's never stands in for it (R42). -/
def relayVdc (v : RelayValues) : Lane → Option Int
  | .a => v.vdcA
  | .b => v.vdcB

/-- The view of an axis. -/
def Dev.safeView (d : Dev) (i : Lane) (x : Fin 2) : SafeView :=
  let use := fun (q : Lane × Fin 4 × PosRec × RecSlot) (sec : Bool) =>
    ({ v := safeMean q.2.2.2.hist d.now (d.sf i x R.SAFE_AXCFG_SPDF) q.2.2.1.speed, known := true, pos := some q.2.2.1.pos
       chan := some (q.1, q.2.1, q.2.2.1), sec := sec, relayed := false } : SafeView)
  match d.safeChan i (d.sf i x R.SAFE_AXCFG_PRI) with
  | some q => use q false
  | none =>
    match d.safeChan i (d.sf i x R.SAFE_AXCFG_SEC) with
    | some q => use q true
    | none =>
      match (if d.sf i x R.SAFE_AXCFG_RELAY = 1 then d.relayed i x (·.rate) else none) with
      | some rate =>
        let cpr := match angChan (d.sf i x R.SAFE_AXCFG_PRI) with
          | some (u, c, _) => d.chCpr u c
          | none => 1
        { v := divNearest (sint rate * cpr * 500000000) (65536 * d.af i x R.ASSAY_MACH_SPP * 2 ^ 32)
          known := true, pos := none, chan := none, sec := false, relayed := true }
      | none => { v := d.glS i (pgSAFE i) R.SAFE_SPEED_V x.val, known := false, pos := none, chan := none, sec := false, relayed := false }

/-! ## The Assayer (R487 to R490) -/

/-- Winding sets of an axis as the Assayer has them: fields of phases a and b, and the legs of the three phases. -/
def Dev.assaySets (d : Dev) (i : Lane) (x : Fin 2) : List (Nat × Nat × List (Fin 6)) :=
  let m := fun (fa fb : Fld) => d.af i x (match i with | .a => fa | .b => fb)
  let legs := fun (f : Nat) => (d.framePhases f).filterMap (·.head?)
  let s1 := (m R.ASSAY_MAP_A_S1PA R.ASSAY_MAP_B_S1PA, m R.ASSAY_MAP_A_S1PB R.ASSAY_MAP_B_S1PB, legs ((d.axisFrames x).headD 0))
  if d.powerCfg = 1 ∧ x = 0 then
    [s1, (m R.ASSAY_MAP_A_S2PA R.ASSAY_MAP_B_S2PA, m R.ASSAY_MAP_A_S2PB R.ASSAY_MAP_B_S2PB, legs 1)]
  else [s1]

/-- The current of a mapped channel in uA. -/
def Dev.assayCurrent (d : Dev) (i : Lane) (u : List Int) (v : Nat) : Int :=
  let n := 3 * i.idx + v / 2
  let gain := d.gl i pgASSAY (if v % 2 = 0 then R.ASSAY_GAIN_GAIN0 else R.ASSAY_GAIN_GAIN1) n
  let ofs := d.glS i pgASSAY (if v % 2 = 0 then R.ASSAY_OFS_OFS0 else R.ASSAY_OFS_OFS1) n
  divRoundAway ((gain : Int) * (u.getD v 0 * 25000 - ofs * 32768) * 1000000) 327680000

/-- The electrical angle at this tick: of the safety channel, or the relayed one (R488). -/
def Dev.assayAngle (d : Dev) (i : Lane) (x : Fin 2) (w : SafeView) : Option Nat :=
  match w.chan with
  | some (u, c, r) =>
    let spp := d.af i x R.ASSAY_MACH_SPP
    let cpr := d.chCpr u c
    let rate := divNearest (r.speed * spp * 2 ^ 40) (cpr * 500000000)
    some (angWrap ((r.revpos * spp % cpr * 2 ^ 32 / cpr : Nat) + d.af i x R.ASSAY_AOFS_OFS + rate * stampDiff d.now r.stamp / 65536))
  | none => (d.relayed i x (·.angle)).map (·.toNat)

/-- i_d and i_q of a set in uA. -/
def assayDq (ia ib : Int) (th : Nat) : Int × Int :=
  let be := divRoundAway ((ia + 2 * ib) * 1000000000000) 1732050807569
  let (c, s) := cosSin th
  (divRoundAway (ia * c + be * s) (2 ^ 30), divRoundAway (be * c - ia * s) (2 ^ 30))

/-- The torque of a set in uNm (R488). -/
def Dev.assayTorque (d : Dev) (i : Lane) (x : Fin 2) (id iq : Int) : Int :=
  let pp : Int := d.af i x R.ASSAY_MACH_PP
  let psi : Int := d.af i x R.ASSAY_MACH_PSI
  let dl : Int := (d.af i x R.ASSAY_LD_L : Int) - d.af i x R.ASSAY_LQ_L
  divRoundAway (3 * pp * (psi * iq * 10 ^ 10 + dl * id * iq)) (2 * 10 ^ 15)

/-- The power that the legs of a winding set draw from the link, in uW (R490): the ACTIVE lane's Vdc, the legs' relayed compares and
periods and the island's own currents. None where one of these values is excluded. -/
def Dev.linkPower (d : Dev) (i : Lane) (legs : List (Fin 6)) (cur : List Int) : Option Int :=
  match d.relayOk i, d.active with
  | some v, some l => (legs.zip cur).foldl (fun p li =>
      match p, relayVdc v l, v.compares.getD li.1.val none, v.periods.getD li.1.val none with
      | some p, some vdc, some c, some per => some (p + divRoundAway (vdc * c * li.2) (32768 * max 1 per))
      | _, _, _, _ => none) (some 0)
  | _, _ => none

/-- One sample of an axis at an electrical angle: torque, power from the link, squares of the currents. -/
def Dev.assaySample (d : Dev) (i : Lane) (x : Fin 2) (u : List Int) (th : Nat) : Int × Option Int × Int :=
  (d.assaySets i x).zipIdx.foldl (fun acc sk =>
    let (pa, pb, legs) := sk.1
    let ia := d.assayCurrent i u pa
    let ib := d.assayCurrent i u pb
    let (id, iq) := assayDq ia ib (angWrap ((th : Int) - sk.2 * 357913941))
    let link := (d.linkPower i legs [ia, ib, -(ia + ib)]).bind fun p => acc.2.1.map (· + p)
    (acc.1 + d.assayTorque i x id iq, link, acc.2.2 + id * id + iq * iq)) (0, some 0, 0)

/-- A sample joins those of the cycle. -/
def Dev.keepSample (d : Dev) (i : Lane) (x : Fin 2) (s : Int × Option Int × Int) : Dev :=
  d.onIsland i fun t => if x = 0 then { t with samples1 := s :: t.samples1 } else { t with samples2 := s :: t.samples2 }

/-- A torque value of an axis's Assayer is added to its samples (R487). Where a phase is unconnected, or neither a safety channel nor
a relayed angle is at hand, the spec states no torque: free values (log 93). -/
def Dev.assayAdds (d : Dev) (i : Lane) (u : List Int) (x : Fin 2) : Dev :=
  let unmapped := (d.assaySets i x).any fun s => s.1 == 7 || s.2.1 == 7
  match (if unmapped then none else d.assayAngle i x (d.safeView i x)) with
  | some th => d.keepSample i x (d.assaySample i x u th)
  | none => d.fresh.fresh.fresh.keepSample i x
      (sint (Config.freeWord d.freeCtr), some (sint (Config.freeWord (d.freeCtr + 1))), sint (Config.freeWord (d.freeCtr + 2)))

/-- ISEC_SAMPLE (R487, R488): the six channels of an island at a multiple of 5,000 ticks. A set whose phases a and b are not both
mapped gives a torque the spec leaves open. -/
def Dev.isecSample (d : Dev) (i : Lane) (u : List Int) : Dev :=
  if !d.islandOn i ∨ d.now % 5000 ≠ 0 ∨ d.gl i pgASSAY R.ASSAY_CFG_EN = 0 then d
  else d.eachAxis fun d x => d.assayAdds i u x

/-- A relayed value is left out where its check failed (R42). -/
def checked {α : Type} (failed : BitVec 22) (n : Nat) (v : α) : Option α := if failed.getLsbD n then none else some v

/-- What ACTIVE lane `l` relays of an axis (R468): TCMD, the axis state, rate and angle in use, at bit `n` of the failed checks and above. -/
def Dev.relayAxis (d : Dev) (l : Lane) (x : Fin 2) (failed : BitVec 22) (n : Nat) : RelayAxis :=
  let p := pgFIELD x
  { tcmd := checked failed n (BitVec.ofInt 32 (d.glS l p R.FIELD_TCMD_T))
    axstate := checked failed (n + 1) ⟨d.gl l p R.FIELD_STATE_AXSTATE % 8, by omega⟩
    rate := checked failed (n + 2) (BitVec.ofInt 32 (d.fieldU l x).rate)
    angle := checked failed (n + 3) (BitVec.ofNat 32 (d.fieldU l x).angle) }

/-- The values that ACTIVE lane `l` relays, with those left out whose check failed (R42, R468): bits 0 and 1 stand for the DC-link readings of
A and B, bits 2 to 5 and 6 to 9 for axes 1 and 2, bits 10 to 15 for the legs' active compares and bits 16 to 21 for their periods. -/
def Dev.relayValues (d : Dev) (l : Lane) (failed : BitVec 22) : RelayValues :=
  let vdc := fun (m : Lane) => if d.up (.ctl m) then (d.laneVdc m).bind (checked failed m.idx) else none
  { vdcA := vdc .a, vdcB := vdc .b
    ax1 := d.relayAxis l 0 failed 2, ax2 := d.relayAxis l 1 failed 6
    compares := (List.finRange 6).map fun n => checked failed (10 + n.val) ((d.mods.at l).legs[n]).acmp
    periods := (List.finRange 6).map fun n => checked failed (16 + n.val) (d.per32 l n) }

/-- An island's own control die delivers the values (R468): its lane is ACTIVE, or it is STANDBY and takes them from the cross-link. Either
isolated lane carries them where the other one is lost (R31). -/
def Dev.relayOwn (d : Dev) (i : Lane) : Bool :=
  let r := (d.lanes.at i).role
  d.up (.ctl i) && ((d.link (.isoData i false)).live || (d.link (.isoTime i false)).live) && (r == .active || (r == .standby && (d.link (.ctlCross i)).live))

/-- The values reach an island (R468): from its own control die, or, where its lane is failed or has lost the cross-link, through the
other island. -/
def Dev.relayArrives (d : Dev) (i : Lane) : Bool :=
  let r := (d.lanes.at i).role
  d.relayOwn i || (r != .active && (r != .standby || !(d.link (.ctlCross i)).live) && partnerLink d i && d.relayOwn i.other)
where
  /-- The other interface die runs and its cross-link is live at island `i`. -/
  partnerLink (d : Dev) (i : Lane) : Bool := d.up (.iface i.other) && (d.link (.ifaceCross i)).live

/-- An island takes relayed values; one whose check failed is reported (R42). -/
def Dev.relayTaken (d : Dev) (i : Lane) (v : RelayValues) (failed : BitVec 22) : Dev :=
  let d := d.onIsland i fun s => { s with
    relay := some v, relayAt := d.now
    tcmds1 := (v.ax1.tcmd.map sint).toList ++ s.tcmds1
    tcmds2 := (v.ax2.tcmd.map sint).toList ++ s.tcmds2 }
  if failed = 0 then d else d.raise 157

/-- The ACTIVE lane's values reach an island by one of its paths (R42, R468). -/
def Dev.relayReached (d : Dev) (i : Lane) (failed : BitVec 22) : Dev :=
  match d.active with
  | some l => if d.up (.iface i) ∧ d.relayArrives i then d.relayTaken i (d.relayValues l failed) failed else d
  | none => d

/-- ACTIVE_VALUE_RELAY (R42, R437, R468). -/
def Dev.activeRelay (d : Dev) (i : Lane) (failed : BitVec 22) : Dev :=
  d.viaInput i true .frame (.relay failed) fun d => d.relayReached i failed

/-- Mean of a list, rounded. -/
def meanOf (l : List Int) : Int := divRoundAway (l.foldl (· + ·) 0) (max 1 l.length)

/-- The power balance of a cycle in uW (R490): P_link and the residual. None where no sample had every value that P_link takes. -/
def Dev.powerBalance (d : Dev) (i : Lane) (x : Fin 2) (w : SafeView) (t : Int) (ss : List (Int × Option Int × Int)) : Option (Int × Int) :=
  let links := ss.filterMap (·.2.1)
  let link := meanOf links
  let cpr : Int := match w.chan with
    | some (u, c, _) => d.chCpr u c
    | none => (match angChan (d.sf i x R.SAFE_AXCFG_PRI) with | some (u, c, _) => d.chCpr u c | none => 1)
  let mech := divRoundAway (t * 2 * 3141592653589793 * w.v * d.af i x R.ASSAY_MACH_SPP) (10 ^ 15 * cpr * d.af i x R.ASSAY_MACH_PP).toNat
  let cu := divRoundAway (3 * d.af i x R.ASSAY_RS_R * meanOf (ss.map (·.2.2))) (2 * 10 ^ 12)
  if links = [] then none else some (link, link - mech - cu)

/-- The Assayer at a cycle end (R489, R490): counts, and the violations 5 and 7 that it finds. DESIGN CHOICE (log 93): an excluded
axis state counts as every other state than RUN and STEP, no command at hand as the command 0, and a cycle without a P_link as one
that does not fail. -/
def Dev.assayCycle (d : Dev) (i : Lane) (x : Fin 2) (w : SafeView) : Dev × List Nat :=
  let s := d.islands.at i
  let ss := if x = 0 then s.samples1 else s.samples2
  if d.gl i pgASSAY R.ASSAY_CFG_EN = 0 ∨ ss = [] then (d, [])
  else
    let t := meanOf (ss.map (·.1))
    let got := if x = 0 then s.tcmds1 else s.tcmds2
    let cmds := if got = [] then ((d.relayed i x (·.tcmd)).map sint).toList else got
    let tc := divRoundAway (meanOf cmds * d.af i x R.ASSAY_TFS_T * 100000) (2 ^ 30)
    let st := ((d.relayed i x (·.axstate)).map (·.val)).getD 0
    let abs : Int := d.af i x R.ASSAY_TOL_TOL_ABS * 1000000
    let overG := d.af i x R.ASSAY_TLIM_TLIM_G * 1000000 < t.natAbs
    let bad : Bool := if st = 3 ∨ st = 4 then
        decide (256 * abs + d.af i x R.ASSAY_TOL_TOL_REL * (tc.natAbs : Int) < 256 * ((t - tc).natAbs : Int)) ||
        (if 0 ≤ t * w.v then decide (d.af i x R.ASSAY_TLIM_TLIM_M * 1000000 < t.natAbs) else decide overG)
      else (decide (abs < (t.natAbs : Int)) && decide (0 < t * w.v)) || decide overG
    let n := if bad then satInc 65535 (d.af i x R.ASSAY_ASTAT_VCNT) else 0
    let d := d.sl i pgASSAY R.ASSAY_ASTAT_VCNT n x.val
    let d := d.sS pgASSAY (match i with | .a => R.ASSAY_TEST_T_A | .b => R.ASSAY_TEST_T_B) (divRoundAway t 1000000) x.val
    let slt := decide (1 ≤ n) && decide (4 * d.af i x R.ASSAY_TOL_TT ≤ n)
    let runs := d.gl i pgASSAY R.ASSAY_CFG_PBEN = 1 ∧ st = 3 ∧ d.g (pgFIELD x) R.FIELD_AXCFG_MODE = 0
    match (if runs then d.powerBalance i x w t ss else none) with
    | none => (d.sl i pgASSAY R.ASSAY_ASTAT_PCNT 0 x.val, if slt then [5] else [])
    | some (link, res) =>
      let fail : Bool := decide (256 * ((d.af i x R.ASSAY_PB_PB_ABS : Int) * 100000000) + d.af i x R.ASSAY_PB_PB_REL * (link.natAbs : Int) <
        256 * (res.natAbs : Int))
      let k := if fail then satInc 65535 (d.af i x R.ASSAY_ASTAT_PCNT) else 0
      let d := d.sl i pgASSAY R.ASSAY_ASTAT_PCNT k x.val
      let d := d.slS i pgASSAY R.ASSAY_PBAL_PLINK (satS 16 (divRoundAway link 100000000)) x.val
      let d := d.slS i pgASSAY R.ASSAY_PBAL_RESID (satS 16 (divRoundAway res 100000000)) x.val
      let pb := decide (1 ≤ k) && decide (4 * d.af i x R.ASSAY_PB_PB_T ≤ k)
      (d, (if slt then [5] else []) ++ (if pb then [7] else []))

/-! ## Monitors (R480 to R486) -/

/-- Outside the ramp bound of R480 at this tick. -/
def Dev.rampViolated (d : Dev) (i : Lane) (x : Fin 2) (v : Int) : Bool :=
  let a := (d.islands.at i).ax x
  let h : Int := 500000000
  let dec : Int := d.sf i x R.SAFE_SSDEC_DECEL
  let v0 : Int := a.v0.natAbs
  let bound := if dec = 0 then v0 * h else max (d.sf i x R.SAFE_VZERO_V * h) (v0 * h - dec * ((d.now : Int) - a.t0))
  decide (bound + d.sf i x R.SAFE_SSTOL_VTOL * h < (v.natAbs : Int) * h)

/-- SLS is active for an axis in the cycle (R464, R485). -/
def Dev.slsActive (d : Dev) (i : Lane) (x : Fin 2) : Bool :=
  d.sf i x R.SAFE_SLSCFG_EN == 1 ||
    [(0 : Fin 2), 1].any fun n => (d.sdinDemands i n || (d.islands.at i).sdiSeen.getD n.val false) && d.sdinFor i n x 5

/-- Limit n of an axis. -/
def Dev.slsLimit (d : Dev) (i : Lane) (x : Fin 2) (n : Nat) : Nat :=
  d.sf i x (match n with | 0 => R.SAFE_SLS0_LIMIT | 1 => R.SAFE_SLS1_LIMIT | 2 => R.SAFE_SLS2_LIMIT | _ => R.SAFE_SLS3_LIMIT)

/-- The limit set in use follows its selection; a lower limit waits for GRACE (R485). -/
def Dev.slsFollow (d : Dev) (i : Lane) (x : Fin 2) : Dev :=
  let a := (d.islands.at i).ax x
  let want := a.slsPdu.getD (d.sf i x R.SAFE_SLSCFG_SET)
  let d := if want = a.slsSet then d
    else d.onSafeAx i x fun s => { s with slsSet := want
                                          slsOld := if d.slsLimit i x want < d.slsLimit i x a.slsSet then some (a.slsSet, d.now) else none }
  match ((d.islands.at i).ax x).slsOld with
  | some (_, t) => if t + d.sf i x R.SAFE_SLSCFG_GRACE * 500000 ≤ d.now then d.onSafeAx i x fun s => { s with slsOld := none } else d
  | none => d

/-- The most advanced position in the allowed direction (R486). -/
def Dev.dirFollow (d : Dev) (i : Lane) (x : Fin 2) (w : SafeView) : Dev :=
  if d.sf i x R.SAFE_DIR_EN = 0 then d.onSafeAx i x fun s => { s with dirRef := none }
  else
    match w.pos with
    | none => d
    | some p =>
      let down := d.sf i x R.SAFE_DIR_ALLOW = 1
      d.onSafeAx i x fun s => { s with dirRef := some (match s.dirRef with
        | none => p
        | some r => if down then min r p else max r p) }

/-- The monitors' violations of a cycle as VIOL codes. -/
def Dev.monitors (d : Dev) (i : Lane) (x : Fin 2) (w : SafeView) : List Nat :=
  let a := (d.islands.at i).ax x
  let st := d.safeState i x
  let vz := d.sf i x R.SAFE_VZERO_V < w.v.natAbs
  let ramp := (st = 2 ∨ st = 3) ∧ d.rampViolated i x w.v
  let sos : Bool := decide (st = 1) && (decide vz || (match w.pos with
    | some p => decide (d.sf i x R.SAFE_SOS_POSTOL < (p - d.glS i (pgSAFE i) R.SAFE_POSREF_P x.val).natAbs)
    | none => true))
  let lim := d.slsLimit i x (match a.slsOld with | some (o, _) => o | none => a.slsSet)
  let sls := d.slsActive i x ∧ lim < w.v.natAbs
  let dir : Bool := d.sf i x R.SAFE_DIR_EN == 1 && (match w.pos, a.dirRef with
    | some p, some r =>
      let behind := if d.sf i x R.SAFE_DIR_ALLOW = 1 then p - r else r - p
      decide ((d.sf i x R.SAFE_DIR_TOL : Int) < behind)
    | _, _ => true)
  (if ramp then [1] else []) ++ (if sos then [2] else []) ++ (if sls then [3] else []) ++ (if dir then [4] else []) ++ (if w.known then [] else [6])

/-- The request that a violation makes, as a state code, 0 for none. -/
def Dev.violationReact (d : Dev) (i : Lane) (x : Fin 2) (v : Nat) : Nat :=
  let react := fun (n : Nat) => match n with | 0 => 4 | 1 => 3 | _ => 2
  match v with
  | 3 => react (d.sf i x R.SAFE_SLSCFG_REACT)
  | 4 => react (d.sf i x R.SAFE_DIR_REACT)
  | 6 => if d.sf i x R.SAFE_AXCFG_LOSTR = 1 then 3 else 4
  | 7 => (match d.gl i pgASSAY R.ASSAY_CFG_PBREACT with | 1 => 3 | 2 => 4 | _ => 0)
  | _ => 4

/-- Ledger source of a VIOL code. -/
def violSource (v : Nat) : Nat :=
  match v with | 1 => 7 | 2 => 8 | 3 => 9 | 4 => 10 | 5 => 11 | 6 => 6 | _ => 12

/-! ## Safety states (R478 to R482) -/

/-- Show internal STO and the acknowledgement that is awaited (R503). -/
def Dev.showInternal (d : Dev) (i : Lane) : Dev :=
  let int := fun (x : Fin 2) => (d.safeState i x == 4).toNat
  let wait := [(0 : Fin 2), 1].any fun x => d.safeState i x == 4 && d.ackNeeded i x
  (d.sl i (pgSAFE i) R.SAFE_STATE_INTSTO (2 * int 1 + int 0)).sl i (pgSAFE i) R.SAFE_STATE_ACKPEND wait.toNat

/-- Enter a safety state other than STO. A state reached through a violation stays one until STO ends (R478). -/
def Dev.safeEnter (d : Dev) (i : Lane) (x : Fin 2) (st : Nat) (viol : Bool) (w : SafeView) : Dev :=
  let p := pgSAFE i
  let d := (d.sl i p R.SAFE_ASTATE_STATE st x.val).safeCause i 0
  let d := d.onSafeAx i x fun s => { s with t0 := d.now, v0 := w.v, slow := 0, byViol := viol || (s.byViol && st != 0), stopReq := st == 2 || st == 3
                                            needAck := false, acked := false, followed := false }
  let d := if st = 3 then d else d.onAxis x fun s => { s with ss1Req := s.ss1Req.put i false }
  if st = 1 then d.slS i p R.SAFE_POSREF_P (w.pos.getD 0) x.val else d

/-- Enter STO. -/
def Dev.safeSto (d : Dev) (i : Lane) (x : Fin 2) (viol : Bool) : Dev :=
  let d := d.onAxis x fun s => { s with ss1Req := s.ss1Req.put i false }
  (Dev.noSide (d.islandSto i x viol)).onSafeAx i x fun s => { s with stopReq := false, followed := false }

/-- SS1 ends in STO, and SS2 in SOS (R481). -/
def Dev.stopEnds (d : Dev) (i : Lane) (x : Fin 2) (w : SafeView) : Dev :=
  let a := (d.islands.at i).ax x
  let d := if d.safeState i x = 3 then d.safeSto i x a.byViol else d.safeEnter i x 1 a.byViol w
  d.onSafeAx i x fun s => { s with followed := a.followed, ss2Done := true }

/-- STO ends for an axis in an island's view (R475): the axis stays in HOLD until CLR. -/
def Dev.stoEnds (d : Dev) (i : Lane) (x : Fin 2) (w : SafeView) : Dev := ((d.safeEnter i x 0 false w).showInternal i).stoAnew

/-- The other island is in service and the interface cross-link stands. -/
def Dev.partnerOn (d : Dev) (i : Lane) : Bool := d.islandOn i.other && (d.link (.ifaceCross i)).live

/-- A state taken over from the partner's decision stands as long as the partner's last word holds it (R466). -/
def Dev.partnerHolds (d : Dev) (i : Lane) (x : Fin 2) : Bool :=
  ((d.islands.at i).ax x).followed && d.partnerOn i && (match (d.islands.at i).received with
    | some w => decide (d.safeState i x ≤ (if x = 0 then w.state1.val else w.state2.val))
    | none => false)

/-- The transition of an axis at a cycle end (R478). -/
def Dev.safeStep (d : Dev) (i : Lane) (x : Fin 2) (w : SafeView) (req vreq : Nat) : Dev :=
  let st := d.safeState i x
  let r := max req vreq
  let viol := decide (vreq = r ∧ r ≠ 0)
  let a := (d.islands.at i).ax x
  if r = 4 then (if st = 4 then d.onSafeAx i x fun s => { s with acked := s.acked && !d.stoWanted i x, needAck := s.needAck || viol, followed := false }
    else d.safeSto i x viol)
  else if st = 4 then (if d.ackNeeded i x || d.partnerHolds i x then d else d.stoEnds i x w)
  else if r = 3 ∧ st < 3 then d.safeEnter i x 3 viol w
  else if r = 2 ∧ st < 2 then d.safeEnter i x 2 viol w
  else if r = 1 ∧ st = 0 then d.safeEnter i x (if w.v.natAbs ≤ d.sf i x R.SAFE_VZERO_V then 1 else 2) false w
  else if r = 0 ∧ (st = 1 ∨ st = 2) ∧ !a.byViol ∧ !d.partnerHolds i x then d.safeEnter i x 0 false w
  else if st = 2 ∨ st = 3 then
    let n := if w.v.natAbs ≤ d.sf i x R.SAFE_VZERO_V then a.slow + 1 else 0
    let d := d.onSafeAx i x fun s => { s with slow := n }
    if d.sf i x R.SAFE_AXCFG_EARLY = 1 ∧ 4 ≤ n then d.stopEnds i x w else d
  else d

/-- SS_DELAY_EXPIRY (R481): SS1 ends in STO, and SS2 in SOS. -/
def Dev.ssExpiry (d : Dev) (i : Lane) (x : Fin 2) : Dev :=
  let a := (d.islands.at i).ax x
  if !d.islandOn i ∨ d.now < a.t0 + d.sf i x R.SAFE_SS_DELAY * 500000 then d
  else
    if d.safeState i x = 3 ∨ d.safeState i x = 2 then d.stopEnds i x (d.safeView i x) else d

/-- SAFE_STOP_REQUEST (R479): the request reaches the lanes. -/
def Dev.safeStop (d : Dev) (i : Lane) (x : Fin 2) : Dev :=
  if !d.islandOn i ∨ !((d.islands.at i).ax x).stopReq then d
  else
    let d := d.onSafeAx i x fun s => { s with stopReq := false }
    match d.safeState i x with
    | 3 => (d.onAxis x fun s => { s with ss1Req := s.ss1Req.put i true }).axisStop x (d.sf i x R.SAFE_SS_RAMP)
    | 2 => d.motionStop x
    | _ => d

/-! ## Brake (R491 to R493) -/

/-- Something keeps the brake output from being released (R492, R493). -/
def Dev.brakeWanted (d : Dev) (i : Lane) : Bool :=
  let p := pgSAFE i
  d.gl i p R.SAFE_SBC_EN == 0 || d.gl i p R.SAFE_REQ_BRAKE == 1 || (d.islands.at i).pduBrake || d.gl i p R.SAFE_SBCSTAT_FAULT == 1 ||
  [(0 : Fin 2), 1].any fun x => d.gl i p R.SAFE_SBC_AXES / 2 ^ x.val % 2 == 1 && d.safeState i x == 4

/-- The island decides to engage (R492): DLY after a named axis entered STO, or at REQ.BRAKE. It is the SBC command of its decision word
(R466). -/
def Dev.brakeDecided (d : Dev) (i : Lane) : Bool :=
  let p := pgSAFE i
  d.gl i p R.SAFE_REQ_BRAKE == 1 || (d.islands.at i).pduBrake ||
  [(0 : Fin 2), 1].any fun x => d.gl i p R.SAFE_SBC_AXES / 2 ^ x.val % 2 == 1 && d.safeState i x == 4 &&
    decide (((d.islands.at i).ax x).t0 + d.gl i p R.SAFE_SBC_DLY * 5000000 ≤ d.now)

/-- Both switches of a brake output closed, or both open; a test and a low current end with it. -/
def Dev.setBrake (d : Dev) (i : Lane) (released : Bool) : Dev :=
  let p := pgSAFE i
  let v := released.toNat
  let d := d.onIsland i fun s => { s with sbcTesting := false, sbcLowAt := none }
  ((d.sl i p R.SAFE_SBCSTAT_RELEASED v).sl i p R.SAFE_SBCSTAT_HS v).sl i p R.SAFE_SBCSTAT_LS v

/-- SBC_ENGAGE (R492): DLY after a named axis entered STO, at REQ.BRAKE, or where the other island commands it. -/
def Dev.sbcEngage (d : Dev) (i : Lane) : Dev :=
  if d.up (.iface i) ∧ (d.brakeDecided i ∨ (d.islands.at i).brakeAsked ∨ !(d.islands.at i).inService) then d.setBrake i false else d

/-- SBC_FAULT: the fault latches. -/
def Dev.sbcFault (d : Dev) (i : Lane) : Dev :=
  ((d.sl i (pgSAFE i) R.SAFE_SBCSTAT_FAULT 1).safeCause i 3).islandRaise i 13

/-- The switch that a brake test opens (R493): high side and low side in turn. -/
def Dev.sbcSwitch (d : Dev) (i : Lane) : Fld := if (d.islands.at i).sbcTestHigh then R.SAFE_SBCSTAT_HS else R.SAFE_SBCSTAT_LS

/-- A brake test opens its switch. -/
def Dev.sbcTestStarts (d : Dev) (i : Lane) : Dev :=
  (d.sl i (pgSAFE i) (d.sbcSwitch i) 0).onIsland i fun s => { s with sbcTesting := true, sbcTestAt := d.now }

/-- A brake test ends (R493): the switch closes again where the readback has shown the opening within TPW; else the fault latches, and the
other switch opens too. -/
def Dev.sbcTestEnds (d : Dev) (i : Lane) (seen : Option Nat) : Dev :=
  let ok := match seen with | some t => decide (t ≤ d.gl i (pgSAFE i) R.SAFE_SBC_TPW) | none => false
  let d := (d.sl i (pgSAFE i) (d.sbcSwitch i) 1).onIsland i fun s => { s with sbcTesting := false, sbcTestHigh := !s.sbcTestHigh }
  if ok then d else (d.setBrake i false).sbcFault i

/-- SBC_TEST (R493): every TPER a released output opens one switch, and closes it TPW µs later with what its readback has shown. -/
def Dev.sbcTest (d : Dev) (i : Lane) (seen : Option Nat) : Dev :=
  let s := d.islands.at i
  if !d.islandOn i ∨ d.gl i (pgSAFE i) R.SAFE_SBCSTAT_RELEASED = 0 then d
  else if s.sbcTesting then
    (if d.now < s.sbcTestAt + d.gl i (pgSAFE i) R.SAFE_SBC_TPW * 500 then d else d.sbcTestEnds i seen)
  else if d.now < s.sbcTestAt + d.gl i (pgSAFE i) R.SAFE_SBC_TPER * 500000000 then d
  else d.sbcTestStarts i

/-- A coil current is read (R493): below IMIN for 10 ms while the output is released it is a fault. -/
def Dev.sbcCoilRead (d : Dev) (i : Lane) (ma : Nat) : Dev :=
  let d := d.sl i (pgSAFE i) R.SAFE_SBCSTAT_I (min ma 65535)
  if d.gl i (pgSAFE i) R.SAFE_SBCSTAT_RELEASED = 1 ∧ ma < d.gl i (pgSAFE i) R.SAFE_SBC2_IMIN ∧ d.gl i (pgSAFE i) R.SAFE_SBCSTAT_FAULT = 0 then
    let t := (d.islands.at i).sbcLowAt.getD d.now
    let d := d.onIsland i fun s => { s with sbcLowAt := some t }
    if t + 5000000 ≤ d.now then d.sbcFault i else d
  else d.onIsland i fun s => { s with sbcLowAt := none }

/-- SBC_COIL_CHECK (R493). -/
def Dev.sbcCoil (d : Dev) (i : Lane) (ma : Nat) : Dev := if d.islandOn i then d.sbcCoilRead i ma else d

/-! ## Islands together (R464 to R468) -/

/-- Follow the partner (R467): SAFETY_DEGRADED while the island decides alone. -/
def Dev.followPartner (d : Dev) (i : Lane) : Dev :=
  let on := d.partnerOn i
  let d := d.sl i (pgSAFE i) R.SAFE_STATE_PARTNER on.toNat
  if on then
    let d := d.onIsland i fun s => { s with partner := true, degradedAt := none, degradedReact := false }
    d.endCause (islandSrc i 2)
  else
    let new := (d.islands.at i).degradedAt.isNone
    let d := d.onIsland i fun s => { s with partner := false, degradedAt := some (s.degradedAt.getD d.now), brakeAsked := false
                                            degradedReact := s.degradedReact || d.gl i (pgSAFE i) R.SAFE_CFG_DEGR == 2 }
    if new then (d.islandRaise i 2).safeCause i 4 else d

/-- SAFETY_DEGRADED_TIMEOUT (R467): DEGR_T minutes have passed. -/
def Dev.degradedTimeout (d : Dev) (i : Lane) : Dev :=
  match (d.islands.at i).degradedAt with
  | none => d
  | some t =>
    if d.islandOn i ∧ d.gl i (pgSAFE i) R.SAFE_CFG_DEGR = 1 ∧ t + d.gl i (pgSAFE i) R.SAFE_CFG_DEGR_T * 30000000000 ≤ d.now then
      d.onIsland i fun s => { s with degradedReact := true } else d

/-- Latches that end with the clear of their Ledger source (R472, R476, R493, R574). -/
def Dev.islandLatches (d : Dev) (i : Lane) : Dev :=
  let was := d.sdinDemands i
  let d := d.onIsland i fun s => { s with
    stoDisc := s.stoDisc && (s.stoA || s.stoB || d.uncl (islandSrc i 4) || d.uncl (islandSrc i.other 4)),
    sdiFault := s.sdiFault.map (· && d.uncl (islandSrc i 5)) }
  let d := d.eachAxis fun d x => d.onSafeAx i x fun s => { s with cut := s.cut.filter d.uncl }
  let d := if d.gl i (pgSAFE i) R.SAFE_SBCSTAT_FAULT = 1 ∧ !d.uncl (islandSrc i 13) then d.sl i (pgSAFE i) R.SAFE_SBCSTAT_FAULT 0 else d
  ((d.sdinEnds i 0 (was 0)).sdinEnds i 1 (was 1)).showSdin i

/-- One axis at a cycle end. An SS2 request that has led to SOS asks for SOS until it is withdrawn (log 128). -/
def Dev.safeAxisCycle (d : Dev) (i : Lane) (x : Fin 2) : Dev :=
  let p := pgSAFE i
  let w := d.safeView i x
  let d := d.slS i p R.SAFE_SPEED_V w.v x.val
  let d := (d.sl i p R.SAFE_ASTATE_SPDVALID w.chan.isSome.toNat x.val).sl i p R.SAFE_ASTATE_SRC w.sec.toNat x.val
  let d := d.sl i p R.SAFE_ASTATE_RELAYED w.relayed.toNat x.val
  let d := if w.known then d.endCause (islandSrc i 6) else d
  let (d, av) := d.assayCycle i x w
  let d := (d.slsFollow i x).dirFollow i x w
  let d := (d.sl i p R.SAFE_ASTATE_SLS_ACT (d.slsActive i x).toNat x.val).sl i p R.SAFE_ASTATE_DIR_ACT (d.sf i x R.SAFE_DIR_EN) x.val
  let vs := d.monitors i x w ++ av
  let old := ((d.islands.at i).ax x).viol
  let d := vs.foldl (fun d v =>
    let d := if old.contains v then d
      else ((d.islandRaise i (violSource v)).safeCause i 1).sl i p R.SAFE_ASTATE_VIOL v x.val
    if old.contains v then d
    else if v = 5 then d.causeL i pgASSAY (BitVec.ofNat 32 (2 ^ x.val))
    else if v = 7 then d.causeL i pgASSAY (BitVec.ofNat 32 (2 ^ (2 + x.val))) else d) d
  let vr := (vs.map (d.violationReact i x)).map fun r => d.asMotion x r
  let rs := d.safeRequests i x true
  let mapped := rs.any fun r => d.asMotion x r != r
  let d := d.sl i p R.SAFE_ASTATE_NOMOTION (mapped || (vs.any fun v => d.asMotion x (d.violationReact i x v) != d.violationReact i x v)).toNat x.val
  let d := d.onSafeAx i x fun s => { s with viol := vs, stoViol := vr.contains 4 }
  let asked := (rs.map (d.asMotion x)).foldl max 0
  let served := ((d.islands.at i).ax x).ss2Done && asked == 2
  let d := d.onSafeAx i x fun s => { s with ss2Done := served }
  let req := if served then 1 else asked
  let d := d.safeStep i x w req (vr.foldl max 0)
  d.onSafeAx i x fun s => { s with own := if s.followed then max req (vr.foldl max 0) else d.safeState i x }

/-- The decision word of an island (R466): each axis with the state the island itself decides on. -/
def Dev.decisionOf (d : Dev) (i : Lane) : DecisionWord :=
  let p := pgSAFE i
  let st := fun (x : Fin 2) => (⟨((d.islands.at i).ax x).own % 5, by omega⟩ : Fin 5)
  let b := fun (f : Fld) (x : Fin 2) => d.gl i p f x.val
  { state1 := st 0, state2 := st 1
    monitors := ⟨(b R.SAFE_ASTATE_SLS_ACT 0 + 2 * b R.SAFE_ASTATE_DIR_ACT 0 + 4 * b R.SAFE_ASTATE_SLS_ACT 1 + 8 * b R.SAFE_ASTATE_DIR_ACT 1) % 16, by omega⟩
    viol1 := ⟨b R.SAFE_ASTATE_VIOL 0 % 16, by omega⟩, viol2 := ⟨b R.SAFE_ASTATE_VIOL 1 % 16, by omega⟩
    brake := d.brakeDecided i
    inputs := ⟨((d.islands.at i).stoA.toNat + 2 * (d.islands.at i).stoB.toNat + 4 * flagBits (d.islands.at i).sdi) % 64, by omega⟩ }

/-- The values of the ACTIVE lane did not reach the island within the cycle: they are excluded and reported (R42, R468). -/
def Dev.relayMissing (d : Dev) (i : Lane) : Dev :=
  if d.active.isSome ∧ (d.relayOk i).isNone then d.raise 157 else d

/-- An island's cycle (R466 to R470): it follows its partner and its latches, judges both axes, shows its state, wants its brake
released or engaged, and forms its decision word. -/
def Dev.safetyCycle (d : Dev) (i : Lane) : Dev :=
  let d := ((d.followPartner i).islandLatches i).relayMissing i
  let d := d.eachAxis fun d x => d.safeAxisCycle i x
  let p := pgSAFE i
  let d := d.showInternal i
  let own := d.brakeWanted i
  let d := if !own ∧ !(d.islands.at i).brakeAsked ∧ d.gl i p R.SAFE_SBCSTAT_RELEASED = 0 then
      let half := match i with | .a => 0 | .b => d.gl i p R.SAFE_SBC_TPER * 250000000
      (d.setBrake i true).onIsland i fun s => { s with sbcTestAt := d.now + half }
    else if d.gl i p R.SAFE_SBC_EN = 0 then d.setBrake i false
    else d
  let d := d.seenAnew i
  d.onIsland i fun s => { s with decided := some (d.decisionOf i), decidedAt := d.now, samples1 := [], samples2 := [], tcmds1 := [], tcmds2 := [] }

/-- SAFETY_CYCLE_END (R464): an island evaluates every safety function and acts. -/
def Dev.safetyCycleEnd (d : Dev) (i : Lane) : Dev :=
  if !d.islandOn i ∨ d.now % 125000 ≠ 0 then d
  else d.safetyCycle i

/-- The partner's decision word is compared with the own one and followed (R466): XCNT differing words in a row raise the source,
an axis takes the partner's state where it is the safer, and a state taken over ends with the word that ends it. -/
def Dev.decisionTaken (d : Dev) (i : Lane) (w : DecisionWord) : Dev :=
  let own := (d.islands.at i).decided
  let same : Bool := match own with
    | some o => o.state1 == w.state1 && o.state2 == w.state2 && o.monitors == w.monitors && o.viol1 == w.viol1 && o.viol2 == w.viol2 && o.brake == w.brake
    | none => true
  let n := if same then 0 else (d.islands.at i).differ + 1
  let d := d.onIsland i fun s => { s with received := some w, differ := n, brakeAsked := w.brake }
  let d := if n = d.gl i (pgSAFE i) R.SAFE_CFG_XCNT then (d.islandRaise i 1).safeCause i 5 else d
  d.eachAxis fun d x =>
    let r := if x = 0 then w.state1.val else w.state2.val
    let st := d.safeState i x
    let a := (d.islands.at i).ax x
    if st < r then
      (if r = 4 then d.safeSto i x false else d.safeEnter i x r false (d.safeView i x)).onSafeAx i x fun s => { s with followed := true }
    else if !a.followed ∨ r = st ∨ st = 3 then d
    else if st = 4 then (if d.ackNeeded i x ∨ a.own = 4 then d else d.stoEnds i x (d.safeView i x))
    else if a.own = 0 then (d.safeEnter i x r false (d.safeView i x)).onSafeAx i x fun s => { s with followed := r != 0 }
    else d

/-- A decision word is the one that the other island has sent for the cycle that island `i` itself has last decided (R466). -/
def Dev.decisionMeets (d : Dev) (i : Lane) (w : DecisionWord) : Bool :=
  (d.islands.at i.other).decided == some w && (d.islands.at i).decided.isSome && (d.islands.at i.other).decidedAt == (d.islands.at i).decidedAt

/-- A decision word arrives (R466): the more restrictive decision applies on arrival. -/
def Dev.decisionArrives (d : Dev) (i : Lane) (w : DecisionWord) : Dev :=
  if !d.islandOn i ∨ !d.partnerOn i ∨ !d.decisionMeets i w then d
  else d.decisionTaken i w

/-- DECISION_WORD_RECEIVE (R437, R466). -/
def Dev.decisionReceive (d : Dev) (i : Lane) (w : DecisionWord) : Dev :=
  d.viaInput i true .frame (.decision w) fun d => d.decisionArrives i w

/-- An island leaves service (R48, R465): it starts anew, its requests are withdrawn, its brake output opens. -/
def Dev.islandOut (d : Dev) (i : Lane) : Dev :=
  let d := d.onIsland i fun s => { ({} : Island) with stoA := s.stoA, stoB := s.stoB, stoDiffAt := s.stoDiffAt, sdi := s.sdi, received := s.received }
  let d := d.eachAxis fun d x => (d.sl i (pgSAFE i) R.SAFE_ASTATE_STATE 0 x.val).onAxis x fun s => { s with ss1Req := s.ss1Req.put i false }
  let d := ((d.setBrake i false).showInternal i).stoAnew
  if d.islandOn i.other then d.followPartner i.other else d

/-- ISLAND_LOCKSTEP (R435, R465): the island leaves service, withdraws its requests and opens its brake output. -/
def Dev.islandLockstep (d : Dev) (i : Lane) : Dev :=
  if !d.islandOn i then d
  else (d.islandRaise i 0).islandOut i

end Sys2Proof.Machine
end

