-- ==== Sys2Proof/Machine/SafetyLayer.lean ====
section
/-! DEFINITION. Chapter 14: the safety layer over networks: connection entries, the checks of a safety PDU, dual paths, timeout and
recovery, production and re-binding. Entries lie in the mirrored connection table (R505). -/

namespace Sys2Proof.Machine

/-! ## Entries -/

/-- Set a field of entry `n` in island i's copy. -/
def Dev.cwSet (d : Dev) (i : Lane) (n : Nat) (f : Fld) (v : Nat) : Dev :=
  let a := rgCONN + f.at n
  d.setWord i a (f.put (d.word i a) v)

/-- A field of the SLAYER page in island i's copy. -/
def Dev.yg (d : Dev) (i : Lane) (f : Fld) : Nat := d.gl i pgSLAYER f

/-- A CAUSE bit of SLAYER in island i's copy. -/
def Dev.slCause (d : Dev) (i : Lane) (bit : Nat) : Dev := d.causeL i pgSLAYER (BitVec.ofNat 32 (2 ^ bit))

/-- The running data of an entry. -/
def Dev.slE (d : Dev) (i : Lane) (n : Nat) : SlEntry := ((d.slay.at i).entries.find? (·.idx == n)).getD { idx := n }

/-- Keep the entries in rising order. -/
def slInsert (e : SlEntry) : List SlEntry → List SlEntry
  | [] => [e]
  | x :: r => if e.idx < x.idx then e :: x :: r else if e.idx = x.idx then e :: r else x :: slInsert e r

/-- Change the running data of an entry. -/
def Dev.onSlE (d : Dev) (i : Lane) (n : Nat) (f : SlEntry → SlEntry) : Dev :=
  { d with slay := d.slay.put i { d.slay.at i with entries := slInsert (f (d.slE i n)) (d.slay.at i).entries } }

/-- The layer runs on an island. -/
def Dev.slOn (d : Dev) (i : Lane) : Bool := d.islandOn i && d.yg i R.SLAYER_CFG_EN == 1

/-- The state of an entry: 0 OFF, 1 BINDING, 2 RUN, 3 FAULT, 4 TIMEOUT. -/
def Dev.cst (d : Dev) (i : Lane) (n : Nat) : Nat := d.cw i n R.CONN_CSTATE

/-- The CRC-32C over bytes +0x00 to +0x2F of an entry (R505). -/
def Dev.entryCrc (d : Dev) (i : Lane) (n : Nat) : Nat :=
  crc32cWords ((List.range 12).map fun k => d.word i (rgCONN + 64 * n + 4 * k))

/-- An entry passes its check (R506): the device has an identity, and the ECRC of an entry in use matches. -/
def Dev.entryOk (d : Dev) (i : Lane) (n : Nat) : Bool :=
  d.yg i R.SLAYER_DEVID_ID != 0 && (d.cw i n R.CONN_EN == 0 || d.cw i n R.CONN_ECRC == d.entryCrc i n)

/-- The axes an entry acts on. -/
def Dev.slAxes (d : Dev) (i : Lane) (n : Nat) : List (Fin 2) :=
  [(0 : Fin 2), 1].filter fun x => d.cw i n R.CONN_AXES / 2 ^ x.val % 2 == 1

/-- What an entry asks of an axis now, as a state code: the latest COMMAND while it is in RUN (R520), TOREACT while it is in TIMEOUT or
FAULT (R517). -/
def Dev.slRequest (d : Dev) (i : Lane) (n : Nat) (x : Fin 2) : Nat :=
  if !(d.slAxes i n).contains x then 0
  else
    match d.cst i n with
    | 2 =>
      if d.cw i n R.CONN_DIR = 0 ∧ d.cw i n R.CONN_USE = 1 then
        match (d.slE i n).payload with
        | some p => (p.getD 0 0).toNat / 16 ^ x.val % 8
        | none => 0
      else 0
    | 3 => d.cw i n R.CONN_TOREACT
    | 4 => d.cw i n R.CONN_TOREACT
    | _ => 0

/-- Byte 1 of the latest COMMAND of an entry in RUN. -/
def Dev.slByte1 (d : Dev) (i : Lane) (n : Nat) : Nat :=
  if d.cst i n = 2 ∧ d.cw i n R.CONN_DIR = 0 ∧ d.cw i n R.CONN_USE = 1 then
    (match (d.slE i n).payload with | some p => (p.getD 1 0).toNat | none => 0)
  else 0

/-- Take the requests of all entries anew (R517, R520). Of several entries that select SLS sets the lowest one decides (DEDUCED). -/
def Dev.slApply (d : Dev) (i : Lane) : Dev :=
  let ns := (d.slay.at i).entries.map (·.idx)
  let d := d.eachAxis fun d x =>
    let rs := ns.filterMap fun n => if 0 < d.slRequest i n x then some (n, d.slRequest i n x) else none
    let set := (ns.find? fun n => d.slByte1 i n / 16 % 2 == 1 && (d.slAxes i n).contains x).map fun n => d.slByte1 i n / 4 ^ x.val % 4
    d.onSafeAx i x fun s => { s with pduReq := rs, slsPdu := set }
  d.onIsland i fun s => { s with pduBrake := ns.any fun n => d.slByte1 i n / 64 % 2 == 1 }

/-- The causes of SL_TIMEOUT and SL_INTEGRITY that have gone (R516, R519). -/
def Dev.slCauses (d : Dev) (i : Lane) : Dev :=
  let es := (d.slay.at i).entries
  let stands := fun (st : Nat) => es.any fun e => d.cst i e.idx == st && (e.entryCheck || decide (e.good < d.cw i e.idx R.CONN_RECOV_N))
  let d := if stands 4 then d else d.endCause (islandSrc i 14)
  if stands 3 || es.any (·.differ) then d else d.endCause (islandSrc i 15)

/-- Record the first rejection since FIRSTERR was cleared (R515). -/
def Dev.firstErr (d : Dev) (i : Lane) (n kind stamp : Nat) : Dev :=
  if d.yg i R.SLAYER_FIRSTERR_VALID = 1 then d
  else
    let d := (d.sl i pgSLAYER R.SLAYER_FIRSTERR_VALID 1).sl i pgSLAYER R.SLAYER_FIRSTERR_KIND kind
    (d.sl i pgSLAYER R.SLAYER_FIRSTERR_IDX n).sl i pgSLAYER R.SLAYER_FIRSTERR_T_T (stamp % 2 ^ 32)

/-- An entry goes to FAULT (R515), or begins its recovery there anew. -/
def Dev.slFault (d : Dev) (i : Lane) (n : Nat) (check : Bool) : Dev :=
  let d := d.cwSet i n R.CONN_CSTATE 3
  let d := d.onSlE i n fun e => { e with bad := 0, good := 0, resync := false, entryCheck := check, taken := [] }
  (((d.slCause i 1).islandRaise i 15).slCauses i).slApply i

/-- The end of an entry's window as a device time, in RUN and BINDING (R510, R514). -/
def Dev.slEnd (d : Dev) (i : Lane) (n : Nat) : Option Nat :=
  match d.cst i n with
  | 1 => some ((d.slE i n).bindAt + d.cw i n R.CONN_BINDT * 500000)
  | 2 => some ((d.slE i n).lastAt + d.cw i n R.CONN_WMAX * 500)
  | _ => none

/-- An entry times out (R511): it leaves OPERATING, its causes are shown and its effect is applied. -/
def Dev.slTimesOut (d : Dev) (i : Lane) (n : Nat) : Dev :=
  let d := (d.cwSet i n R.CONN_CSTATE 4).onSlE i n fun e => { e with
    bad := 0, good := 0, resync := false, entryCheck := false, taken := [] }
  (((d.slCause i 0).islandRaise i 14).slCauses i).slApply i

/-- A consumed entry whose window has ended by a tick goes to TIMEOUT (R514). -/
def Dev.slExpire (d : Dev) (i : Lane) (n t : Nat) : Dev :=
  match d.slEnd i n with
  | some e =>
    if d.cw i n R.CONN_DIR = 1 ∨ t < e then d
    else d.slTimesOut i n
  | none => d

/-- SL_TIMEOUT (R514). -/
def Dev.slTimeout (d : Dev) (i : Lane) (n : Nat) : Dev := if d.slOn i then d.slExpire i n d.now else d

/-! ## PDUs (R507, R508) -/

/-- A byte of a PDU. -/
def pduB (b : List Byte) (k : Nat) : Nat := (b.getD k 0).toNat

/-- LEN of a PDU. -/
def pduLen (b : List Byte) : Nat := pduB b 1 % 64

/-- KIND of a PDU. -/
def pduKind (b : List Byte) : Nat := pduB b 0 % 16

/-- SEQ and TIME of a PDU. -/
def pduSeq (b : List Byte) : Nat := pduB b 4 + 256 * pduB b 5
def pduTime (b : List Byte) : Nat := leNat ((b.drop 6).take 4)

/-- PAYLOAD of a PDU. -/
def pduPayload (b : List Byte) : List Byte := (b.drop 10).take (pduLen b)

/-- The safety CRC over the prefix of R508 and the PDU's bytes before its CRC. -/
def safetyCrc (connid src dst : Nat) (b : List Byte) : Nat :=
  (checkCode 3).over (leBytes 4 connid ++ leBytes 4 src ++ leBytes 4 dst ++ b)

/-- A COMMAND payload is laid out as R520 gives. -/
def commandOk (p : List Byte) : Bool :=
  let b0 := (p.getD 0 0).toNat
  decide (8 ≤ p.length) && b0 / 128 == 0 && b0 / 8 % 2 == 0 && decide (b0 / 16 % 8 ≤ 4) && decide (b0 % 8 ≤ 4) &&
  decide ((p.getD 1 0).toNat < 128) && (p.drop 2).all (· == 0)

/-- Check 1 of R510. -/
def Dev.pduFormat (d : Dev) (i : Lane) (n : Nat) (b : List Byte) : Bool :=
  let len := pduLen b
  let use := d.cw i n R.CONN_USE
  decide (14 + len ≤ b.length) && pduB b 0 / 16 == 1 && decide (pduKind b ≤ 1) && pduB b 1 / 64 == 0 && pduB b 3 / 2 == 0 &&
  (len == d.cw i n R.CONN_LEN || (pduKind b == 1 && len == 2)) && (b.drop (14 + len)).all (· == 0) &&
  (pduKind b == 1 || use != 1 || commandOk (pduPayload b))

/-- Check 2 of R510. -/
def Dev.pduCrcOk (d : Dev) (i : Lane) (n : Nat) (b : List Byte) : Bool :=
  let len := pduLen b
  leNat ((b.drop (10 + len)).take 4) ==
    safetyCrc (d.cw i n R.CONN_CONNID) (d.cw i n R.CONN_PEERID) (d.yg i R.SLAYER_DEVID_ID) (b.take (10 + len))

/-- Check 6 of R510 (R511). -/
def Dev.pduAge (d : Dev) (i : Lane) (n : Nat) (b : List Byte) (stamp : Nat) : Bool :=
  if d.cw i n R.CONN_TSCHK = 0 ∨ d.gl i pgTIME R.TIME_STAT_SYNC = 0 then true
  else
    let a := stampDiff stamp (pduTime b)
    decide (-((d.cw i n R.CONN_SKEW * 500 : Nat) : Int) ≤ a) && decide (a < (d.cw i n R.CONN_AGEMAX * 500 : Nat)) &&
    (match (d.slE i n).lastTime with | some t => decide (0 < stampDiff (pduTime b) t) | none => true)

/-- The sequence step of a PDU from the last accepted one. -/
def Dev.slStep (d : Dev) (i : Lane) (n : Nat) (b : List Byte) : Nat := (pduSeq b + 65536 - d.cw i n R.CONN_LASTSEQ) % 65536

/-- Checks 1 to 3 of R510: the kind of the first that fails, 0 for none. -/
def Dev.firstChecks (d : Dev) (i : Lane) (n : Nat) (b : List Byte) : Nat :=
  if !d.pduFormat i n b then 1
  else if !d.pduCrcOk i n b then 2
  else if pduB b 2 ≠ d.cw i n R.CONN_EPOCH then 3
  else 0

/-- Checks 4 to 6: a first PDU after a bind, a timeout or a fault takes any SEQ and passes check 6 alone (R516, R523). -/
def Dev.lastChecks (d : Dev) (i : Lane) (n : Nat) (b : List Byte) (stamp : Nat) : Nat :=
  let st := d.cst i n
  let anew := st == 1 || ((st == 3 || st == 4) && !(d.slE i n).resync)
  let step := d.slStep i n b
  if !anew ∧ (step = 0 ∨ d.cw i n R.CONN_GAP < step) then 4
  else if !anew ∧ stamp < (d.slE i n).lastAt + d.cw i n R.CONN_WMIN * 500 then 5
  else if !d.pduAge i n b stamp then 6
  else 0

/-! ## Receiving (R509 to R516) -/

/-- A rejection ends a run of accepted PDUs (R516), and one of a kind other than EPOCH counts towards ERRLIM (R512, R515). -/
def Dev.slReject (d : Dev) (i : Lane) (n kind stamp : Nat) : Dev :=
  let d := (d.firstErr i n kind stamp).cwSet i n R.CONN_REJECT (satInc 65535 (d.cw i n R.CONN_REJECT))
  if kind = 3 then
    let d := (d.cwSet i n R.CONN_MISM (satInc 255 (d.cw i n R.CONN_MISM))).slCause i 2
    d.onSlE i n fun e => { e with good := if d.cw i n R.CONN_RECOV_N ≤ e.good then e.good else 0 }
  else
    let e := d.slE i n
    let d := d.onSlE i n fun e => { e with bad := e.bad + 1, good := if d.cw i n R.CONN_RECOV_N ≤ e.good then e.good else 0 }
    if d.cw i n R.CONN_ERRLIM ≤ e.bad + 1 then d.slFault i n e.entryCheck else d

/-- An EPOCH rejection makes a notice due where one may be sent (R512). -/
def Dev.slMismatch (d : Dev) (i : Lane) (n epoch : Nat) : Dev :=
  let r := d.cw i n R.CONN_REPLY
  if d.cw i n R.CONN_REPLY_EN = 1 ∧ d.cw i r R.CONN_EN = 1 ∧ d.cw i r R.CONN_DIR = 1 then
    d.onSlE i n fun e => { e with notice := some epoch }
  else d

/-- A second copy did not come (R513): a degradation flag only. -/
def Dev.slMissing (d : Dev) (i : Lane) (n : Nat) : Dev :=
  let d := (d.cwSet i n R.CONN_DMISS (satInc 65535 (d.cw i n R.CONN_DMISS))).slCause i 4
  d.onSlE i n fun e => { e with copy := e.copy.map fun c => { c with waits := false } }

/-- An accepted PDU (R510, R512, R513, R516, R520). -/
def Dev.slAccept (d : Dev) (i : Lane) (n : Nat) (path : Fin 2) (b : List Byte) (stamp : Nat) : Dev :=
  let st := d.cst i n
  let e := d.slE i n
  let step := d.slStep i n b
  let anew := st == 1 || ((st == 3 || st == 4) && !e.resync)
  let d := match e.copy with
    | some c => if c.waits ∧ c.at' + d.cw i n R.CONN_CMPW * 500 ≤ stamp then d.slMissing i n else d
    | none => d
  let d := if !anew ∧ 1 < step then d.cwSet i n R.CONN_REJECT (min 65535 (d.cw i n R.CONN_REJECT + (step - 1))) else d
  let d := (d.cwSet i n R.CONN_LASTSEQ (pduSeq b)).cwSet i n R.CONN_LAST_T (stamp % 2 ^ 32)
  let d := if st = 1 then d.cwSet i n R.CONN_CSTATE 2 else d
  let was := match e.payload with | some p => (p.getD 1 0).toNat / 32 % 2 == 1 | none => true
  let cyclic := pduKind b == 0
  let p := pduPayload b
  let d := d.onSlE i n fun e => { e with
    lastAt := stamp, lastTime := some (pduTime b), bad := 0, resync := true
    good := min (d.cw i n R.CONN_RECOV_N) (e.good + 1)
    payload := if cyclic then some p else e.payload
    copy := if d.cw i n R.CONN_DUAL = 1 then
        some { seq := pduSeq b, time := pduTime b, payload := p, path := path, at' := stamp, waits := true } else none
    taken := if d.cw i n R.CONN_DUAL = 1 then (pduSeq b, path) :: e.taken.filter (·.1 != pduSeq b) else [] }
  let d := if cyclic then d else d.slCause i 3
  let d := (d.slCauses i).slApply i
  let ack := cyclic && d.cst i n == 2 && d.cw i n R.CONN_USE == 1 && !was && (p.getD 1 0).toNat / 32 % 2 == 1
  if ack then d.ackIsland i (d.slAxes i n) else d

/-- A late copy of a sequence number that an earlier PDU of the other path has brought (R513). A number that the next PDU may carry is
none. -/
def Dev.slLate (d : Dev) (i : Lane) (n : Nat) (path : Fin 2) (b : List Byte) : Bool :=
  let step := d.slStep i n b
  !(1 ≤ step && step ≤ d.cw i n R.CONN_GAP) && (d.slE i n).taken.any fun t => t.1 == pduSeq b && t.2 != path

/-- The copy of an accepted sequence number on the other path (R513); answers none where the PDU is no such copy. Of two copies with one
stamp PATH0's counts as the accepted one. -/
def Dev.slSecond (d : Dev) (i : Lane) (n : Nat) (path : Fin 2) (b : List Byte) (stamp : Nat) : Option Dev :=
  let late := if d.slLate i n path b then some d else none
  match (d.slE i n).copy with
  | none => late
  | some c =>
    if c.path = path ∨ c.seq ≠ pduSeq b ∨ d.cw i n R.CONN_LASTSEQ ≠ pduSeq b ∨ stamp < c.at' then late
    else if c.at' + d.cw i n R.CONN_CMPW * 500 ≤ stamp then some (if c.waits then d.slMissing i n else d)
    else if c.time = pduTime b ∧ c.payload = pduPayload b then
      let p := if stamp = c.at' then 0 else c.path
      some (d.onSlE i n fun e => { e with
        copy := some { c with waits := false, path := p }, taken := (c.seq, p) :: e.taken.filter (·.1 != c.seq) })
    else
      let d := (d.firstErr i n 7 stamp).cwSet i n R.CONN_REJECT (satInc 65535 (d.cw i n R.CONN_REJECT))
      let d := d.onSlE i n fun e => { e with copy := some { c with waits := false } }
      some ((d.slCause i 5).slFault i n (d.slE i n).entryCheck)

/-- One entry takes a PDU that came on one of its paths. -/
def Dev.slTake (d : Dev) (i : Lane) (n : Nat) (path : Fin 2) (b : List Byte) (stamp : Nat) : Dev :=
  let d := d.slExpire i n stamp
  if d.cst i n = 0 then d
  else
    match d.firstChecks i n b with
    | 0 =>
      match (if d.cw i n R.CONN_DUAL = 1 then d.slSecond i n path b stamp else none) with
      | some d' => d'
      | none =>
        match d.lastChecks i n b stamp with
        | 0 => d.slAccept i n path b stamp
        | k => d.slReject i n k stamp
    | 3 => (d.slReject i n 3 stamp).slMismatch i n (pduB b 2)
    | k => d.slReject i n k stamp

/-- A path's identifier as its transport forms it (R505): 29 bits on CAN; node and channel on the link; the stream tag on Ethernet. -/
def pathId (port v : Nat) : Nat :=
  if port ≤ 6 then v % 2 ^ 29 else if port ≤ 8 then v / 256 % 64 * 256 + v % 64 else v % 65536

/-- The paths of a consumed entry that a frame matches. -/
def Dev.slPaths (d : Dev) (i : Lane) (n port id : Nat) : List (Fin 2) :=
  if d.cw i n R.CONN_EN = 0 ∨ d.cw i n R.CONN_DIR = 1 then []
  else
    (if d.cw i n R.CONN_P0PORT = port ∧ pathId port (d.cw i n R.CONN_PATH0_ID) = id then [0] else []) ++
    (if d.cw i n R.CONN_DUAL = 1 ∧ d.cw i n R.CONN_P1PORT = port ∧ pathId port (d.cw i n R.CONN_PATH1_ID) = id then [1] else [])

/-- The island on whose die a port sits (R56): SERVICE, CAN2, CAN3 and LINKB are on IB. -/
def portLane (port : Nat) : Lane := if port = 2 ∨ port = 5 ∨ port = 6 ∨ port = 8 then .b else .a

/-- The page of a network port. -/
def portPage (port : Nat) : Nat :=
  if port ≤ 6 then 0x24 + (port - 3) else if port = 7 then pgLINK .a else if port = 8 then pgLINK .b else pgETH

/-- The arrival stamp of a frame of a port whose start came `age` ticks ago (R510, R534). -/
def Dev.arrivalStamp (d : Dev) (port age : Nat) : Nat :=
  if port ≤ 6 ∧ d.gl (portLane port) (portPage port) R.CAN_CFG_TSPOINT = 1 then d.now else d.now - age

/-- A network port that carries safety PDUs: its page is enabled on a die that runs, and a CAN port has CAN FD on (R529). -/
def Dev.portCarries (d : Dev) (port : Nat) : Bool :=
  let l := portLane port
  decide (3 ≤ port ∧ port ≤ 9) && d.up (.iface l) && d.gl l (portPage port) H.CTRL_ENABLE == 1 &&
  (decide (6 < port) || d.gl l (portPage port) R.CAN_CFG_FDEN == 1)

/-- A frame of a port reaches an island: its own die's, or relayed over the interface cross-link (R510). -/
def Dev.pduReaches (d : Dev) (i : Lane) (port : Nat) : Bool :=
  d.portCarries port && [PortClass.safety, .operator, .owner].contains (d.portClass port) &&
  (portLane port == i || (d.link (.ifaceCross i)).live)

/-- An island takes a PDU that has reached it: every consumed entry with a path that its frame names checks it (R510). -/
def Dev.islandPdu (d : Dev) (i : Lane) (port id : Nat) (b : List Byte) (stamp : Nat) : Dev :=
  if !d.slOn i ∨ !d.pduReaches i port then d
  else
    (List.range 1024).foldl (fun d n => (d.slPaths i n port id).foldl (fun d p => d.slTake i n p b stamp) d) d

/-- SAFETY_PDU_RECEIVE (R510): the PDU of one frame reaches one island. Its source counts as heard on a link (R558). -/
def Dev.safetyPduReceive (d : Dev) (i : Lane) (port id : Nat) (b : List Byte) (age : Nat) : Dev :=
  let l := portLane port
  let d := if (port = 7 ∨ port = 8) ∧ l = i ∧ d.rigOn l then d.rigHeard l (id % 64) else d
  d.islandPdu i port id b (d.arrivalStamp port age)

/-- A frame of a port hands its PDU to the layer of both islands (R509, R510). -/
def Dev.pduArrives (d : Dev) (port id : Nat) (b : List Byte) (stamp : Nat) : Dev :=
  d.eachLane fun d i => d.islandPdu i port id b stamp

/-- A frame that a CAN controller has taken goes to the layer or through the filters (R529). -/
def Dev.canArrives (d : Dev) (n : Fin 4) (f : CanFrame) (age : Nat) : Dev :=
  let e := d.canFrameTaken n f (d.now - age)
  if d.canSafety n f then e.pduArrives (3 + n.val) f.id.val f.data (d.arrivalStamp (3 + n.val) age) else e

/-- CAN_FRAME_RECEIVE (R526, R529 to R534). In internal loopback a controller takes nothing from the bus. -/
def Dev.canFrameReceive (d : Dev) (n : Fin 4) (f : CanFrame) (sofAge : Nat) : Dev :=
  if !d.canTakes n f ∨ d.canLoops n then d else d.canArrives n f sofAge

/-- RULING_REFERENCE_RECEIVE (R538, R539): the frame is a reference, accepted by REFFILT with ACTION 3. -/
def Dev.rulingReferenceReceive (d : Dev) (n : Fin 4) (f : CanFrame) (sofAge : Nat) : Dev :=
  if d.canReference n f (d.now - sofAge) then d.canFrameReceive n f sofAge else d

/-- TX_COMPLETE (R534, R537, R541): in internal loopback the controller receives the frame that it has sent (R526). -/
def Dev.txComplete (d : Dev) (n : Fin 4) (r : TxOutcome) (sofAge : Nat) : Dev :=
  let e := d.txEnds n r sofAge
  match d.canOnBus n with
  | some f => if r = .sent ∧ d.canLoops n ∧ d.canTakes n f then e.canArrives n f sofAge else e
  | none => e

/-- ETH_FRAME_RECEIVE (R133, R549, R551): a good safety frame hands its PDU to the layer, any other frame goes to the buffer. DESIGN CHOICE
(log 139): a safety frame is recognised by its EtherType and stream tag, whatever its destination. -/
def Dev.ethFrameReceive (d : Dev) (b : List Byte) (fcsOk : Bool) (age : Nat) : Dev :=
  let e := d.ethFrameTaken b fcsOk age
  match ethTag b with
  | some t => if d.ethGood b fcsOk ∧ d.ethPath t then e.pduArrives 9 t (b.drop 16) (d.now - age) else e
  | none => e

/-- DUAL_MISSING (R513). -/
def Dev.dualMissing (d : Dev) (i : Lane) (n : Nat) : Dev :=
  match (d.slE i n).copy with
  | some c => if d.slOn i ∧ c.waits ∧ c.at' + d.cw i n R.CONN_CMPW * 500 ≤ d.now then d.slMissing i n else d
  | none => d

/-- A write of an entry's index to CLR in one island (R516). -/
def Dev.slClear (d : Dev) (i : Lane) (n : Nat) : Dev :=
  let st := d.cst i n
  if !d.slOn i ∨ (st ≠ 3 ∧ st ≠ 4) then d
  else if !(d.slE i n).entryCheck ∧ d.cw i n R.CONN_RECOV_N ≤ (d.slE i n).good then
    (((d.cwSet i n R.CONN_CSTATE 2).onSlE i n fun e => { e with bad := 0, good := 0 }).slCauses i).slApply i
  else (d.slCause i 7).inc pgLEDGER R.LEDGER_SRC_CLRREF (islandSrc i (if st = 4 then 14 else 15))

/-- SLAYER_CLEAR (R516): the page is mirrored, so the write reaches both islands. -/
def Dev.slayerClear (d : Dev) (v : Word) : Dev :=
  if R.SLAYER_CLR_KEY.get v ≠ 0x4D then d
  else d.eachLane fun d i => if d.up (.iface i) then d.slClear i (R.SLAYER_CLR_IDX.get v) else d

/-! ## Binding and checking (R506, R522, R523) -/

/-- Bind an entry at this tick: a consumed one opens its first window, a produced one restarts at SEQ 0. -/
def Dev.slBind (d : Dev) (i : Lane) (n : Nat) : Dev :=
  let d := d.onSlE i n fun e => { e with bindAt := d.now, seq := 0, bad := 0, good := 0, resync := false, copy := none, lastTime := none
                                         entryCheck := false, taken := [] }
  d.cwSet i n R.CONN_CSTATE (if d.cw i n R.CONN_DIR = 1 then 2 else 1)

/-- An entry that fails its check is in FAULT of kind ENTRY_CHECK (R506): while DEVID is 0 any entry does. -/
def Dev.slCheck (d : Dev) (i : Lane) (n : Nat) : Dev :=
  if d.entryOk i n ∨ (d.cst i n = 3 ∧ (d.slE i n).entryCheck) then d
  else (d.firstErr i n 8 d.now).slFault i n true

/-- Verify every entry of an island (R506). -/
def Dev.slVerify (d : Dev) (i : Lane) : Dev := (List.range 1024).foldl (fun d n => d.slCheck i n) d

/-- ENTRY_CHECK_VERIFY (R506). -/
def Dev.entryCheckVerify (d : Dev) (i : Lane) : Dev := if d.slOn i then d.slVerify i else d

/-- REBIND (R522): the writer's class is given by `owner`. -/
def Dev.rebind (d : Dev) (owner : Bool) (v : Word) : Dev :=
  if R.SLAYER_REBIND_KEY.get v ≠ 0x7B then d
  else
    let n := R.SLAYER_REBIND_IDX.get v
    let e := R.SLAYER_REBIND_EPOCH.get v
    let i := d.prim pgSLAYER
    let code := if d.cw i n R.CONN_REBIND_OK = 0 ∨ d.cw i n R.CONN_EN = 0 then 1
      else if e = d.cw i n R.CONN_EPOCH then 2
      else if !owner then 3
      else if (d.slay.at i).rebind.isSome then 4 else 0
    let d := d.s pgSLAYER R.SLAYER_REBSTAT_REFUSE code
    if code ≠ 0 then d
    else
      let peer := d.word i (pageAddr pgSLAYER 0x4C)
      let d := (d.s pgSLAYER R.SLAYER_REBSTAT_PEND 1).s pgSLAYER R.SLAYER_REBSTAT_IDX n
      (d.copies pgSLAYER).foldl (fun d i => { d with slay := d.slay.put i { d.slay.at i with rebind := some (n, peer, e) } }) d

/-- A re-bind takes effect in an island (R523). -/
def Dev.rebindNow (d : Dev) (i : Lane) (n : Nat) (peer : Word) (epoch : Nat) : Dev :=
  let d := (d.cwSet i n R.CONN_PEERID peer.toNat).cwSet i n R.CONN_EPOCH epoch
  let d := d.cwSet i n R.CONN_ECRC (d.entryCrc i n)
  let st := d.cst i n
  let d := if d.cw i n R.CONN_DIR = 1 then (if st = 0 ∨ (st = 3 ∧ (d.slE i n).entryCheck) then d else d.slBind i n)
    else if st = 1 ∨ st = 2 then d.slBind i n
    else if st = 3 ∨ st = 4 then d.onSlE i n fun e => { e with good := 0, bad := 0, resync := false, taken := [] }
    else d
  let d := { d with slay := d.slay.put i { d.slay.at i with rebind := none } }
  ((d.sl i pgSLAYER R.SLAYER_REBSTAT_PEND 0).slCause i 6).slApply i

/-- An accepted re-bind of an island takes effect (R523). -/
def Dev.rebindDue (d : Dev) (i : Lane) : Dev :=
  match (d.slay.at i).rebind with
  | some (n, peer, e) => d.rebindNow i n peer e
  | none => d

/-- Bind what waits in an island: entries in use that are still OFF (when a connection starts is not stated beside the re-bind:
DEDUCED), and an accepted re-bind. -/
def Dev.slBindAll (d : Dev) (i : Lane) : Dev :=
  ((List.range 1024).foldl (fun d n =>
    if d.cst i n ≠ 0 then d else if !d.entryOk i n then d.slCheck i n else if d.cw i n R.CONN_EN = 1 then d.slBind i n else d) d).rebindDue i

/-- BIND_TICK (R523): a safety cycle starts. A re-bind takes effect also where the layer does not run. -/
def Dev.bindTick (d : Dev) : Dev :=
  if d.now % 125000 ≠ 0 then d
  else d.eachLane fun d i => if d.slOn i then d.slBindAll i else if d.up (.iface i) then d.rebindDue i else d

/-- The configuration of an entry was written (R506): one that is no longer in use is OFF, and a valid entry ends a FAULT of kind
ENTRY_CHECK. -/
def Dev.slWritten (d : Dev) (n : Nat) : Dev :=
  d.eachLane fun d i =>
    if !d.up (.iface i) then d
    else if (d.cw i n R.CONN_EN = 0 ∧ (d.cst i n ≠ 3 ∨ d.yg i R.SLAYER_DEVID_ID ≠ 0)) ∨ ((d.slE i n).entryCheck ∧ d.entryOk i n) then
      let d := d.cwSet i n R.CONN_CSTATE 0
      let d := { d with slay := d.slay.put i { d.slay.at i with entries := (d.slay.at i).entries.filter (·.idx != n) } }
      (d.slCauses i).slApply i
    else d

/-- DEVID was written (R506, R525): at 0 every entry is in FAULT of kind ENTRY_CHECK; at another value an entry out of use is OFF again
(DEDUCED, log 138). -/
def Dev.devidWritten (d : Dev) : Dev :=
  d.eachLane fun d i =>
    if !d.slOn i then d
    else if d.yg i R.SLAYER_DEVID_ID = 0 then d.slVerify i
    else
      let back := ((d.slay.at i).entries.filter fun e => e.entryCheck && d.cw i e.idx R.CONN_EN == 0).map (·.idx)
      let d := back.foldl (fun d n => d.cwSet i n R.CONN_CSTATE 0) d
      let d := { d with slay := d.slay.put i { d.slay.at i with entries := (d.slay.at i).entries.filter fun e => !back.contains e.idx } }
      (d.slCauses i).slApply i

/-- SLAYER.CFG.EN was cleared: every entry is OFF. -/
def Dev.slStop (d : Dev) : Dev :=
  d.eachLane fun d i =>
    if !d.up (.iface i) ∨ d.yg i R.SLAYER_CFG_EN = 1 then d
    else
      let d := (List.range 1024).foldl (fun d n => d.cwSet i n R.CONN_CSTATE 0) d
      let d := { d with slay := d.slay.put i {} }
      ((d.sl i pgSLAYER R.SLAYER_REBSTAT_PEND 0).slCauses i).slApply i

/-! ## Producing (R512, R519, R521) -/

/-- A PDU with its CRC (R507, R508). -/
def buildPdu (connid src dst kind epoch path seq time : Nat) (payload : List Byte) : List Byte :=
  let b := leBytes 1 (16 + kind) ++ leBytes 1 payload.length ++ leBytes 1 epoch ++ leBytes 1 path ++ leBytes 2 seq ++ leBytes 4 time ++ payload
  b ++ leBytes 4 (safetyCrc connid src dst b)

/-- The PDU of a produced entry for a path. -/
def Dev.entryPdu (d : Dev) (i : Lane) (n kind path seq : Nat) (payload : List Byte) : List Byte :=
  buildPdu (d.cw i n R.CONN_CONNID) (d.yg i R.SLAYER_DEVID_ID) (d.cw i n R.CONN_PEERID) kind (d.cw i n R.CONN_EPOCH) path seq
    (d.now % 2 ^ 32) payload

/-- The smallest CAN FD data length that holds so many bytes. -/
def fdLength (n : Nat) : Nat := ((List.range 9 ++ [12, 16, 20, 24, 32, 48, 64]).find? fun k => decide (n ≤ k)).getD 64

/-- The CAN FD frame of a PDU (R509). Its identifier's format and its bit-rate switch are open (log 138). -/
def pduCanFrame (id : Nat) (b : List Byte) : CanFrame :=
  let id' : Fin 536870912 := ⟨id % 536870912, by omega⟩
  { fmt := if 2048 ≤ id'.val ∨ Config.pduExtended id then 3 else 2, rtr := false, brs := Config.pduFast id, esi := false, sec := false
    id := id', sdt := 0, vcid := 0, af := 0, data := b ++ List.replicate (fdLength b.length - b.length) 0 }

/-- The Ethernet frame of a PDU without its FCS (R551): DESIGN CHOICE (log 139), its source address is `MAC`. -/
def Dev.pduEthFrame (d : Dev) (tag : Nat) (b : List Byte) : List Byte :=
  let f := d.ethAddr R.ETH_SLDA_LO_ADDR R.ETH_SLDA_HI_ADDR ++ d.ethAddr R.ETH_MAC_LO_ADDR R.ETH_MAC_HI_ADDR ++
    [0x88, 0xB5, BitVec.ofNat 8 (tag / 256), BitVec.ofNat 8 tag] ++ b
  f ++ List.replicate (60 - f.length) 0

/-- Hand a PDU to the port of a path (R509, R551): the link sends it in the next slot, a CAN controller when the bus is free, and the
Ethernet lane after the frame on its way. -/
def Dev.portSends (d : Dev) (port id : Nat) (b : List Byte) : Dev :=
  let l := portLane port
  if port = 7 ∨ port = 8 then d.rigQueue l 3 0 (d.rg l R.LINK_NODE_EPOCH) (leBytes 1 (id / 256 % 64) ++ b)
  else if port = 9 then d.ethPdu (d.pduEthFrame id b)
  else d.onCan ⟨(port - 3) % 4, Nat.mod_lt _ (by decide)⟩ fun u => { u with pdus := u.pdus ++ [pduCanFrame id b] }

/-- Send a PDU on the paths that lie on an island's own die (R519). -/
def Dev.sendPdu (d : Dev) (i : Lane) (n kind seq : Nat) (payload : List Byte) : Dev :=
  let one := fun (d : Dev) (path port id : Nat) =>
    if portLane port ≠ i ∨ !d.portCarries port then d
    else
      let b := d.entryPdu i n kind path seq payload
      (d.onSlE i n fun e => if path = 0 then { e with out0 := some b } else { e with out1 := some b }).portSends port id b
  let d := one d 0 (d.cw i n R.CONN_P0PORT) (d.cw i n R.CONN_PATH0_ID)
  if d.cw i n R.CONN_DUAL = 1 then one d 1 (d.cw i n R.CONN_P1PORT) (d.cw i n R.CONN_PATH1_ID) else d

/-- The payload of a STATUS entry (R521). -/
def Dev.statusPayload (d : Dev) (i : Lane) : List Byte :=
  let st := fun (x : Fin 2) => d.safeState i x
  let s := d.islands.at i
  let rel := fun (l : Lane) => d.gl l (pgSAFE l) R.SAFE_SBCSTAT_RELEASED
  let speed := fun (x : Fin 2) => leBytes 4 (intField 32 (d.glS i (pgSAFE i) R.SAFE_SPEED_V x.val))
  let viol := fun (x : Fin 2) => d.gl i (pgSAFE i) R.SAFE_ASTATE_VIOL x.val
  let deg := (d.uncl 290 || d.uncl 306).toNat
  leBytes 1 (st 0 + 16 * st 1) ++
  leBytes 1 (s.stoA.toNat + 2 * s.stoB.toNat + 4 * (d.sdinDemands i 0).toNat + 8 * (d.sdinDemands i 1).toNat + 16 * rel .a + 32 * rel .b + 64 * deg) ++
  speed 0 ++ speed 1 ++ leBytes 1 (viol 0 + 16 * viol 1) ++ List.replicate 5 0

/-- A payload with as many bytes as an entry sends. -/
def fitPayload (n : Nat) (p : List Byte) : List Byte := p.take n ++ List.replicate (n - p.length) 0

/-- A produced entry sends the PDU of its payload (R519, R520): alone while its partner is out of service, else only when the
partner formed the same CRC; a difference raises the source. -/
def Dev.pduSends (d : Dev) (i : Lane) (n : Nat) (payload : List Byte) (partner : Option Word) : Dev :=
  let e := d.slE i n
  let p := fitPayload (d.cw i n R.CONN_LEN) (if d.cw i n R.CONN_USE = 2 then d.statusPayload i else payload)
  let b := d.entryPdu i n 0 0 e.seq p
  let own := leNat (b.drop (10 + p.length))
  let d := d.onSlE i n fun e => { e with seq := (e.seq + 1) % 65536 }
  if !d.partnerOn i then d.sendPdu i n 0 e.seq p
  else
    match partner with
    | none => d
    | some c =>
      if c.toNat = own then ((d.onSlE i n fun e => { e with differ := false }).slCauses i).sendPdu i n 0 e.seq p
      else ((d.onSlE i n fun e => { e with differ := true }).slCause i 1).islandRaise i 15

/-- SAFETY_PDU_PRODUCE (R519): the copy goes out where the partner's CRC, computed with PATH 0, equals its own, or where the partner
is out of service. -/
def Dev.safetyPduProduce (d : Dev) (i : Lane) (n : Nat) (payload : List Byte) (partner : Option Word) : Dev :=
  let e := d.slE i n
  let per := d.cw i n R.CONN_PERIOD
  let k := (d.now - e.bindAt) / 125000
  if !d.slOn i ∨ d.cw i n R.CONN_EN = 0 ∨ d.cw i n R.CONN_DIR = 0 ∨ d.cst i n ≠ 2 ∨ d.now % 125000 ≠ 0 ∨ k = 0 ∨ per = 0 ∨ k % per ≠ 0 then d
  else d.pduSends i n payload partner

/-- The notices that are due at a safety cycle end (R512): at most one per connection and 16 cycles. -/
def Dev.slNotices (d : Dev) (i : Lane) : Dev :=
  if !d.slOn i then d
  else
    (d.slay.at i).entries.foldl (fun d e =>
      match e.notice with
      | none => d
      | some ep =>
        let soon : Bool := match e.noticeAt with | some t => decide (d.now < t + 16 * 125000) | none => false
        if soon then d.onSlE i e.idx fun e => { e with notice := none }
        else
          let r := d.cw i e.idx R.CONN_REPLY
          let q := d.slE i r
          let d := d.onSlE i e.idx fun e => { e with notice := none, noticeAt := some d.now }
          let d := d.onSlE i r fun q => { q with seq := (q.seq + 1) % 65536 }
          d.sendPdu i r 1 q.seq (leBytes 1 ep ++ leBytes 1 (d.cw i e.idx R.CONN_EPOCH))) d

end Sys2Proof.Machine
end

