-- ==== Sys2Proof/Machine/Services.lean ====
section
/-! DEFINITION. Chapter 16: the Hallmark check units, the commands of Ledger, and Tinker. -/

namespace Sys2Proof.Machine

/-! ## Hallmark (R563 to R571) -/

/-- A field of Hallmark unit u. -/
def Dev.hm (d : Dev) (u : Nat) (f : Fld) : Nat := d.g pgHALLMARK f u

/-- Set a field of Hallmark unit u in both copies. -/
def Dev.hmSet (d : Dev) (u : Nat) (f : Fld) (v : Nat) : Dev := d.s pgHALLMARK f v u

/-- The code of a unit. -/
def Dev.hmCode (d : Dev) (u : Nat) : CheckCode := checkCode (d.hm u R.HALLMARK_CFG_CODE)

/-- A STRIP unit that is paired (R569), with its partner. -/
def Dev.hmPair (d : Dev) (u : Nat) : Option Nat :=
  if d.hm u R.HALLMARK_CFG_EN = 1 ∧ d.hm u R.HALLMARK_CFG_MODE = 2 ∧ d.hm u R.HALLMARK_CFG_PAIREN = 1 then
    some (d.hm u R.HALLMARK_CFG_PAIR)
  else none

/-- A unit is the partner of some pair (R569). -/
def Dev.hmPartner (d : Dev) (u : Nat) : Bool := (List.range 16).any fun v => d.hmPair v == some u

/-- Every pair has an enabled APPEND unit of its own, which is not itself paired (R569). -/
def Dev.hmPairsOk (d : Dev) : Bool :=
  (List.range 16).all fun v =>
    match d.hmPair v with
    | none => true
    | some p =>
      p != v && d.hm p R.HALLMARK_CFG_EN == 1 && d.hm p R.HALLMARK_CFG_MODE == 1 && d.hm p R.HALLMARK_CFG_PAIREN == 0 &&
      (List.range 16).all fun w => w == v || d.hmPair w != some p

/-- Feed bytes into one enabled unit (R564, R561). -/
def Dev.hmFeed (d : Dev) (u : Nat) (bs : List Byte) : Dev :=
  if d.hm u R.HALLMARK_CFG_EN = 0 then d
  else
    let c := d.hmCode u
    let d := d.hmSet u R.HALLMARK_VALUE_V (c.feedAll (d.hm u R.HALLMARK_VALUE_V % 2 ^ c.width) bs)
    d.hmSet u R.HALLMARK_STAT_BYTES (min 65535 (d.hm u R.HALLMARK_STAT_BYTES + bs.length))

/-- A DATA write (R564, R569); none is BLOCK. -/
def Dev.hmData (d : Dev) (u : Nat) (bs : List Byte) : Option Dev :=
  if d.hmPartner u then none
  else some (match d.hmPair u with
    | some p => (d.hmFeed u bs).hmFeed p bs
    | none => d.hmFeed u bs)

/-- HALLMARK_START (R564). -/
def Dev.hmStart (d : Dev) (u : Nat) : Dev :=
  if d.hm u R.HALLMARK_CFG_EN = 0 then d
  else
    let d := d.hmSet u R.HALLMARK_VALUE_V (d.hmCode u).init
    let d := d.hmSet u R.HALLMARK_STAT_BYTES 0
    let d := d.hmSet u R.HALLMARK_CFG_RXSYNC 1
    (d.hmSet u R.HALLMARK_STAT_RESULT 0).hmSet u R.HALLMARK_STAT_DISCARDED 0

/-- Reload VALUE and clear BYTES after a close (R565, R566). -/
def Dev.hmReload (d : Dev) (u : Nat) : Dev :=
  (d.hmSet u R.HALLMARK_VALUE_V (d.hmCode u).init).hmSet u R.HALLMARK_STAT_BYTES 0

/-- Width of the alive counter of a unit, 0 for none. -/
def Dev.hmAlive (d : Dev) (u : Nat) : Nat :=
  match d.hm u R.HALLMARK_CFG_AW with | 1 => 4 | 2 => 8 | _ => 0

/-- The finished check of a unit after an alive value was fed, where it has a counter (R565, R566). -/
def Dev.hmFinish (d : Dev) (u alive : Nat) : Nat :=
  let c := d.hmCode u
  let w := d.hmAlive u
  let v := d.hm u R.HALLMARK_VALUE_V % 2 ^ c.width
  c.finish (if w = 0 then v else c.feed v (BitVec.ofNat 8 (alive % 2 ^ w)))

/-- APPEND_CLOSE (R565). -/
def Dev.hmAppend (d : Dev) (u : Nat) : Dev :=
  let w := d.hmAlive u
  let atx := d.hm u R.HALLMARK_CFG_ATX
  let d := (d.hmSet u R.HALLMARK_OUT_C (d.hmFinish u atx)).hmSet u R.HALLMARK_STAT_DISCARDED 0
  let d := if w = 0 then d else d.hmSet u R.HALLMARK_CFG_ATX ((atx + 1) % 2 ^ w)
  d.hmReload u

/-- A received alive value is accepted (R567). -/
def Dev.hmAliveOk (d : Dev) (u alive : Nat) : Bool :=
  let w := d.hmAlive u
  let diff := (alive % 2 ^ w + 2 ^ w - d.hm u R.HALLMARK_CFG_ARX % 2 ^ w) % 2 ^ w
  d.hm u R.HALLMARK_CFG_RXSYNC == 1 || (1 ≤ diff && diff < d.hm u R.HALLMARK_CFG_GAP + 1)

/-- A STRIP close begins: the partner closes first (R569). -/
def Dev.hmPartnerCloses (d : Dev) (u : Nat) : Dev := match d.hmPair u with | some p => d.hmAppend p | none => d

/-- The finished check of a STRIP unit equals the CHECKIN it holds (R566). -/
def Dev.hmStripGood (d : Dev) (u alive : Nat) : Bool :=
  d.hmFinish u alive == d.hm u R.HALLMARK_CHECKIN_C % 2 ^ (d.hmCode u).width

/-- The received alive counter of a STRIP unit is one that R567 accepts; a unit without one accepts always. -/
def Dev.hmStripLive (d : Dev) (u alive : Nat) : Bool := d.hmAlive u == 0 || d.hmAliveOk u alive

/-- The unit's verdict of a STRIP close is shown, and an accepted alive counter taken. -/
def Dev.hmStripShown (d : Dev) (u alive res : Nat) : Dev :=
  let w := d.hmAlive u
  let d := if res = 1 ∧ w ≠ 0 then (d.hmSet u R.HALLMARK_CFG_ARX (alive % 2 ^ w)).hmSet u R.HALLMARK_CFG_RXSYNC 0 else d
  (d.hmSet u R.HALLMARK_STAT_RESULT res).hmReload u

/-- The partner of a STRIP unit that failed withdraws its check: OUT reads 0, DISCARDED is set, its alive counter is as it was (R569). -/
def Dev.hmPartnerDiscards (d : Dev) (pair : Option Nat) (atx : Nat) : Dev :=
  match pair with
  | some p => ((d.hmSet p R.HALLMARK_OUT_C 0).hmSet p R.HALLMARK_STAT_DISCARDED 1).hmSet p R.HALLMARK_CFG_ATX atx
  | none => d

/-- A STRIP close that failed counts and marks its unit (R568). -/
def Dev.hmStripFails (d : Dev) (u : Nat) : Dev :=
  let d := d.inc pgHALLMARK R.HALLMARK_STAT_FAILCNT u
  d.s pgHALLMARK R.HALLMARK_FAILSUM_U (d.g pgHALLMARK R.HALLMARK_FAILSUM_U ||| 2 ^ u)

/-- STRIP_CLOSE (R566 to R569): the partner closes first; CHECKIN is the word held. -/
def Dev.hmStrip (d : Dev) (u alive : Nat) : Dev :=
  let pair := d.hmPair u
  let atx := match pair with | some p => d.hm p R.HALLMARK_CFG_ATX | none => 0
  let d := d.hmPartnerCloses u
  if !d.hmStripGood u alive then (((d.hmStripShown u alive 2).hmPartnerDiscards pair atx).hmStripFails u).raise 364
  else if !d.hmStripLive u alive then (((d.hmStripShown u alive 3).hmPartnerDiscards pair atx).hmStripFails u).raise 365
  else d.hmStripShown u alive 1

/-- A CLOSE write with OP = CLOSE, as the unit's mode gives it; none is BLOCK (R565, R566, R569). -/
def Dev.hmClose (d : Dev) (u alive : Nat) : Option Dev :=
  if d.hmPartner u then none
  else if d.hm u R.HALLMARK_CFG_EN = 0 then some d
  else
    match d.hm u R.HALLMARK_CFG_MODE with
    | 1 => some (d.hmAppend u)
    | 2 => some (d.hmStrip u alive)
    | _ => some d

/-! ## Ledger (R572 to R581) -/

/-- LEDGER_RAISE (R572, R573): any block raises a source. -/
def Dev.ledgerRaise (d : Dev) (n age detail : Nat) : Dev :=
  if d.copies pgLEDGER = [] then d else d.raiseAt n (d.now - age) detail

/-- A raise of the source was recorded at the present tick (R577). -/
def Dev.raisedNow (d : Dev) (n : Nat) : Bool := d.ledger.raisedAt.any fun p => p.1 == n && p.2 == d.now

/-- SOURCE_CLEAR (R576, R577): refused while the cause stands, which for an event source is the tick of its event (R572). -/
def Dev.sourceClear (d : Dev) (n : Nat) : Dev :=
  if !d.uncl n then d
  else if d.srcLive n ∨ (d.raisedNow n ∧ !conditionSource n) then (d.inc pgLEDGER R.LEDGER_SRC_CLRREF n).cause pgLEDGER 2
  else if d.raisedNow n then d
  else d.s pgLEDGER R.LEDGER_SRC_STATUS 0 n

/-- CLRALL (R576): every source. -/
def Dev.clrall (d : Dev) (key : Nat) : Dev := if key = 0xD2 then d.uncleared.foldl Dev.sourceClear d else d

/-- A writer may change FORCE (R578). -/
def mayForce (w : Who) : Bool := w.fw || w.cls == .owner

/-- SOURCE_FORCE (R578): a write of 1 raises, a write of 0 ends the forced cause. -/
def Dev.sourceForce (d : Dev) (n : Nat) (on : Bool) : Dev :=
  if (srcDefault n).isNone then d
  else
    let d := d.s pgLEDGER R.LEDGER_SRC_FORCE on.toNat n
    if on then d.raiseN 4 n d.now 0 true else d

/-- FIRST_REARM (R579). -/
def Dev.firstRearm (d : Dev) : Dev :=
  ((d.s pgLEDGER R.LEDGER_FIRST_VALID 0).s pgLEDGER R.LEDGER_FIRST_TIE 0).s pgLEDGER R.LEDGER_FIRST_FINAL 0

/-- CNTCLR (R583). -/
def Dev.cntclr (d : Dev) (n : Nat) : Dev :=
  if (srcDefault n).isNone then d else (d.s pgLEDGER R.LEDGER_SRC_COUNT 0 n).s pgLEDGER R.LEDGER_SRC_CLRREF 0 n

/-- A CLASS write keeps to the floor (R575, R583). -/
def Dev.classOk (d : Dev) (n code : Nat) : Bool :=
  let floor := d.g pgLEDGER R.LEDGER_SRC_FLOOR n
  code ≤ 6 && floor ≤ code && (floor != 6 || code == d.g pgLEDGER R.LEDGER_SRC_CLASS n)

/-! ## Tinker (R584 to R590) -/

/-- The lane of an interface or control die. -/
def dieLane : Die → Option Lane
  | .iface l => some l
  | .ctl l => some l
  | .drv _ => none

/-- The Ledger source of a die's failure (R582). -/
def tinkerSrc (x : Die) : Nat :=
  match dieLane x with | some .a => 360 | some .b => 361 | none => 362

/-- A die has a slice (R585): CAN controllers and link ports are tested on the die that holds them, an output's slice on its driver
die. -/
def sliceOn (x : Die) (s : Nat) : Bool :=
  match x with
  | .iface l => s < 16 || (s < 20 && 16 ≤ s && (if l = .a then s < 18 else 18 ≤ s)) || s == 20 + l.idx || s == 22 || s == 23 || s == 47
  | .ctl _ => (24 ≤ s && s < 32) || s == 46
  | .drv k => (if h : 32 ≤ s ∧ s < 46 then outDie ⟨s - 32, by omega⟩ == k else false) || s == 48

/-- Length of a slice in ticks at full speed (R585). -/
def sliceBase (s : Nat) : Nat :=
  if s < 16 then 400 else if s < 22 then 4000 else if s = 22 then 20000 else if s = 23 then 600 else if s < 28 then 1000
  else if s = 28 then 1500 else if s < 31 then 600 else if s = 31 then 2000 else if s < 46 then 300 else if s < 48 then 50000 else 200000

/-- The factor of a THROT field (R598, R603): 1 without throttling. -/
def throtFactor (v : Nat) : Nat := if v / 4 = 0 then 1 else match v % 4 with | 0 => 2 | 1 => 4 | _ => 8

/-- Length of a slice that starts now, with Tinker's throttling (R598). -/
def Dev.sliceLen (d : Dev) (s : Nat) : Nat := sliceBase s * throtFactor (d.g pgTEMP R.TEMP_THROT_TINKER)

/-- The tick from which the next trigger of a Quill entry can come, none where none comes (R585). -/
def Dev.nextTrig (d : Dev) (l : Lane) (e : Fin 2) : Option Nat :=
  let p := pgQUILL l
  let u := d.quill.at l
  let last := if e = 0 then u.trigAt.a else u.trigAt.b
  if d.gl l p H.CTRL_ENABLE = 0 ∨ d.gl l p R.QUILL_TRIG_EN e.val = 0 then none
  else if d.gl l p R.QUILL_TRIG_SRC e.val = 0 then
    let groups := d.gl l p R.QUILL_TRIG_GROUPS e.val
    let waits := (List.finRange 6).filter fun n => groups / 2 ^ n.val % 2 == 1 &&
      d.grpWen l (if n.val < 3 then 0 else 1) ⟨n.val % 3, by omega⟩ &&
      (match (d.meas.at l).words[n].at', last with | some t, some k => decide (t ≤ k) | none, _ => true | some _, none => false)
    let ends := waits.map fun n =>
      let c : Fin 2 := if n.val < 3 then 0 else 1
      let tb := (d.mods.at l).tb (if d.gl l (pgCONV l c) R.CONV_MODE_TB = 1 then 1 else 0)
      let g : Fin 3 := ⟨n.val % 3, by omega⟩
      let s := (d.meas.at l).convs[c].groups[g]
      let fin := (d.windowOf l c g).2 + 32
      match s.prev with
      | some (_, e, _) => e + 32
      | none => if s.closed ∨ fin < d.now then fin + tb.per else fin
    some (ends.foldl max d.now)
  else
    let tb := (d.mods.at l).tb (if d.gl l p R.QUILL_TRIG_TB e.val = 1 then 1 else 0)
    let at' := tb.t0 + d.gl l p R.QUILL_TRIG_COUNT e.val
    if !tb.running then none else some (if d.now < at' then at' else at' + tb.per)

/-- Lane l's Quill stands between runs for a slice (R585). -/
def Dev.betweenRuns (d : Dev) (l : Lane) (s : Nat) : Bool :=
  (d.quill.at l).run.isNone && [(0 : Fin 2), 1].all fun e =>
    match d.nextTrig l e with | some t => d.now + d.sliceLen s + 64 ≤ t | none => true

/-- The accelerator is busy: a verification or a quote is under way (R585, R610, R628). -/
def Dev.accelBusy (d : Dev) : Bool := d.g pgNVM R.NVM_QUOTE_BUSY == 1 || d.g pgNVM R.NVM_UPDSTAT_STATE == 4

/-- A slice of a die is idle (R585): what its row of the table asks for. -/
def Dev.sliceIdle (d : Dev) (x : Die) (s : Nat) : Bool :=
  match x with
  | .iface l =>
    if s < 16 then d.hm s R.HALLMARK_CFG_EN == 0
    else if s < 20 then d.gl l (0x24 + (s - 16)) H.CTRL_ENABLE == 0
    else if s < 22 then d.gl l (pgLINK l) H.CTRL_ENABLE == 0
    else if s = 22 then !d.accelBusy else true
  | .ctl l =>
    if s < 30 then d.betweenRuns l s
    else if s = 30 then (d.quill.at l).swapAt.isNone
    else d.gl l (pgMOD l) R.MOD_TB0_CFG_EN == 0 || d.gl l (pgMOD l) R.MOD_TB1_CFG_EN == 0
  | .drv _ => if h : 32 ≤ s ∧ s < 46 then !(d.outs[s - 32]'(by omega)).on && (d.outs[s - 32]'(by omega)).clamp else false

/-- A slice takes part in online testing: its enable bit. -/
def Dev.sliceOnline (d : Dev) (s : Nat) : Bool :=
  if s < 32 then d.g pgTINKER R.TINKER_EN0_S / 2 ^ s % 2 == 1 else s < 46 && d.g pgTINKER R.TINKER_EN1_S / 2 ^ (s - 32) % 2 == 1

/-- Change Tinker's state. -/
def Dev.onTinker (d : Dev) (f : TinkerState → TinkerState) : Dev := { d with tinker := f d.tinker }

/-- TINKER_SLICE_START (R584 to R586): the die's next eligible slice in ascending order after the last one. -/
def Dev.tinkerSliceStart (d : Dev) (x : Die) : Dev :=
  let t := d.tinker
  let next := match t.turn.find? (·.1 == x) with | some p => p.2 + 1 | none => 0
  let early := t.starts.any fun p => p.1 == x && d.now < p.2 + 500 * d.g pgTINKER R.TINKER_CFG_GAP
  if d.g pgTINKER H.CTRL_ENABLE = 0 ∨ !d.up x ∨ t.sweep.isSome ∨ early ∨ t.tests.any (·.1 == x) then d
  else
    let ok := fun s => sliceOn x s && decide (s < 46) && d.sliceOnline s && d.sliceIdle x s
    match ((List.range 46).map fun k => (next + k) % 46).find? ok with
    | none => d
    | some s => d.onTinker fun t => { t with tests := (x, s, d.now + d.sliceLen s) :: t.tests
                                             starts := (x, d.now) :: t.starts.filter (·.1 != x)
                                             turn := (x, s) :: t.turn.filter (·.1 != x) }

/-- A field of a slice's register: the slices 46 to 48 have their own group. -/
def sliceFld (f m : Fld) (s : Nat) : Fld × Nat := if s < 46 then (f, s) else (m, s - 46)

/-- Change a count or flag of a slice's register. -/
def Dev.sliceSet (d : Dev) (f m : Fld) (s v : Nat) : Dev := d.s pgTINKER (sliceFld f m s).1 v (sliceFld f m s).2

/-- Increment a count of a slice's register. -/
def Dev.sliceInc (d : Dev) (f m : Fld) (s : Nat) : Dev := d.inc pgTINKER (sliceFld f m s).1 (sliceFld f m s).2

/-- LASTOK of a slice. -/
def Dev.sliceOk (d : Dev) (s : Nat) : Bool :=
  d.g pgTINKER (sliceFld R.TINKER_SLICE_LASTOK R.TINKER_SLICEM_LASTOK s).1 (sliceFld R.TINKER_SLICE_LASTOK R.TINKER_SLICEM_LASTOK s).2 == 1

/-- Set or clear a slice's FAIL bit in FAIL0 or FAIL1 and in its own register. -/
def Dev.sliceFail (d : Dev) (s : Nat) (v : Bool) : Dev :=
  let w := d.g pgTINKER R.TINKER_FAIL_S (s / 32)
  let bit := 2 ^ (s % 32)
  let d := d.s pgTINKER R.TINKER_FAIL_S (if v then w ||| bit else w &&& (4294967295 - bit)) (s / 32)
  d.sliceSet R.TINKER_SLICE_FAIL R.TINKER_SLICEM_FAIL s v.toNat

/-- A completed test (R587). -/
def Dev.sliceDone (d : Dev) (x : Die) (s : Nat) (ok : Bool) : Dev :=
  let d := d.sliceInc R.TINKER_SLICE_RUNS R.TINKER_SLICEM_RUNS s
  let d := d.sliceSet R.TINKER_SLICE_LASTOK R.TINKER_SLICEM_LASTOK s ok.toNat
  if ok then d
  else
    let d := (d.sliceFail s true).sliceInc R.TINKER_SLICE_FAILCNT R.TINKER_SLICEM_FAILCNT s
    d.raise (tinkerSrc x)

/-- The online sweep is complete once every enabled online slice was tested (R588). -/
def Dev.sweepJudge (d : Dev) : Dev :=
  if (List.range 46).all fun s => !d.sliceOnline s || d.tinker.seen.contains s then
    let d := (d.inc pgTINKER R.TINKER_SWEEPCNT_ONLINE).cause pgTINKER 2
    d.onTinker fun t => { t with seen := [], sweptAt := d.now }
  else d

/-- Dies in the order of a MAINTENANCE sweep (R589): lane A's, the driver dies with them, then lane B's. -/
def sweepDies : List Die := [.iface .a, .ctl .a] ++ (List.finRange 8).map Die.drv ++ [.iface .b, .ctl .b]

/-- Show the sweep's present slice, or end it (R589). -/
def Dev.sweepShow (d : Dev) (rest : List (Die × Nat)) : Dev :=
  match rest with
  | (x, s) :: _ =>
    (d.onTinker fun t => { t with sweep := some rest, tests := [(x, s, d.now + d.sliceLen s)] }).s pgTINKER R.TINKER_STAT_CUR s
  | [] =>
    let aborted := d.tinker.abort
    let d := (d.onTinker fun t => { t with sweep := none, tests := [], abort := false }).s pgTINKER R.TINKER_STAT_BUSY 0
    if aborted then d else d.cause pgTINKER 1

/-- TINKER_SWEEP (R589); none is BLOCK. -/
def Dev.tinkerSweep (d : Dev) : Option Dev :=
  if d.mode.cur ≠ .maintenance ∨ d.tinker.sweep.isSome then none
  else
    let all := sweepDies.filter d.up |>.flatMap fun x => ((List.range 49).filter (sliceOn x)).map fun s => (x, s)
    let d := (d.s pgTINKER R.TINKER_STAT_BUSY 1).s pgTINKER R.TINKER_STAT_DONE 0
    some (d.sweepShow all)

/-- TINKER_ABORT (R589): the sweep ends after the current slice. -/
def Dev.tinkerAbort (d : Dev) : Dev := if d.tinker.sweep.isSome then d.onTinker fun t => { t with abort := true } else d

/-- The sweep goes on after its current slice. -/
def Dev.sweepNext (d : Dev) : Dev :=
  match d.tinker.sweep with
  | some (_ :: rest) => d.sweepShow (if d.tinker.abort then [] else rest)
  | _ => d

/-- A slice's test ends with a result (R587 to R589); a sweep counts it and goes on. -/
def Dev.sliceEnds (d : Dev) (x : Die) (s : Nat) (sigOk : Bool) : Dev :=
  let d := d.onTinker fun t => { t with tests := t.tests.filter fun k => !(k.1 == x && k.2.1 == s) }
  let d := d.sliceDone x s sigOk
  let d := (d.onTinker fun t => { t with seen := if t.seen.contains s then t.seen else s :: t.seen }).sweepJudge
  if d.tinker.sweep.isSome then
    (d.s pgTINKER R.TINKER_STAT_DONE (satInc 255 (d.g pgTINKER R.TINKER_STAT_DONE))).sweepNext
  else d

/-- TINKER_SLICE_END (R587 to R589). -/
def Dev.tinkerSliceEnd (d : Dev) (x : Die) (s : Nat) (sigOk : Bool) : Dev :=
  if !d.up x ∨ !(d.tinker.tests.any fun t => t.1 == x && t.2.1 == s && decide (t.2.2 ≤ d.now)) then d
  else
    d.sliceEnds x s sigOk

/-- A block needs a slice during its test: the test is abandoned (R586). -/
def Dev.tinkerNeed (d : Dev) (x : Die) (s : Nat) : Dev :=
  if d.tinker.tests.any fun t => t.1 == x && t.2.1 == s then
    let d := d.onTinker fun t => { t with tests := t.tests.filter fun k => !(k.1 == x && k.2.1 == s) }
    (d.sliceInc R.TINKER_SLICE_ABANDON R.TINKER_SLICEM_ABANDON s).sweepNext
  else d

/-- `Dev.tinkerNeed` on both lanes' dies of a kind. -/
def Dev.tinkerNeedBoth (d : Dev) (onInterface : Bool) (s : Nat) : Dev :=
  d.eachLane fun d l => d.tinkerNeed (if onInterface then .iface l else .ctl l) s

/-- A trigger of lane l's Quill needs its slices (R586). -/
def Dev.tinkerQuill (d : Dev) (l : Lane) : Dev := [24, 25, 26, 27, 28, 29].foldl (fun d s => d.tinkerNeed (.ctl l) s) d

/-- An edge message or a priority symbol arrives for an output (R586). -/
def Dev.tinkerOut (d : Dev) (k : DieIx) (n : Nat) : Dev :=
  match dieOut k n with
  | some o => d.tinkerNeed (.drv k) (32 + o.val)
  | none => d

/-- A refused clear of FAIL counts at the failure sources of the lanes that have the slice (R576, R587). -/
def sliceSrcs (s : Nat) : List Nat :=
  sweepDies.foldl (fun l x => if sliceOn x s ∧ !l.contains (tinkerSrc x) then tinkerSrc x :: l else l) []

/-- TINKER_FAIL_CLEAR (R587): FAIL clears only while LASTOK = 1. -/
def Dev.tinkerFailClear (d : Dev) (n : Nat) (v : Word) : Dev :=
  (List.range 32).foldl (fun d j =>
    let s := 32 * n + j
    if v.getLsbD j = false ∨ 48 < s ∨ d.g pgTINKER R.TINKER_FAIL_S n / 2 ^ j % 2 = 0 then d
    else if d.sliceOk s then d.sliceFail s false
    else ((sliceSrcs s).foldl (fun d k => d.inc pgLEDGER R.LEDGER_SRC_CLRREF k) d).cause pgLEDGER 2) d

end Sys2Proof.Machine
end

