-- ==== Sys2Proof/Machine/Thermal.lean ====
section
/-! DEFINITION. Chapter 17: temperature readings, exclusion, the warning, the shutdown at 170 degrees and its retry. Temperatures are
in 1/16 degree. -/

namespace Sys2Proof.Machine

/-- The die of a sensor (R591). -/
def sensDie (s : Nat) : Die :=
  if s < 2 then .iface .a else if s < 4 then .iface .b else if s < 7 then .ctl .a else if s < 10 then .ctl .b
  else if h : s < 16 then .drv ⟨s - 10, by omega⟩ else if s < 18 then .drv 6 else .drv 7

/-- The comparison group of a sensor: LV, CTL, HS, LS (R591). -/
def sensGroup (s : Nat) : Nat := if s < 4 then 0 else if s < 10 then 1 else if s < 16 then 2 else 3

/-- A sensor is available (R593): its die is out of reset, and the links that carry its readings live. -/
def Dev.sensAvail (d : Dev) (s : Nat) : Bool :=
  d.up (sensDie s) &&
  match sensDie s with
  | .iface _ => true
  | .ctl l => (d.link (.isoData l false)).live || (d.link (.isoTime l false)).live
  | .drv k => [Lane.a, Lane.b].any fun l =>
      (d.link (.drvMaster l k)).live && d.up (.ctl l) && ((d.link (.isoData l false)).live || (d.link (.isoTime l false)).live)

/-- The latest reading of a sensor. -/
def Dev.sensValue (d : Dev) (s : Nat) : Option Int := (d.sensors.toList.getD s {}).value

/-- EXCL of a sensor. -/
def Dev.excluded (d : Dev) (s : Nat) : Bool := d.g pgTEMP R.TEMP_SENS_EXCL s == 1

/-- A valid sensor (R597): available, read, and not excluded. -/
def Dev.sensValid (d : Dev) (s : Nat) : Bool := d.sensAvail s && !d.excluded s && (d.sensValue s).isSome

/-- Put a number into a rising list. -/
def insertInt (v : Int) : List Int → List Int
  | [] => [v]
  | a :: r => if v ≤ a then v :: a :: r else a :: insertInt v r

/-- Twice the median of a list of at least two numbers. -/
def median2 (vs : List Int) : Int :=
  let ws := vs.foldr insertInt []
  let n := ws.length
  ws.getD ((n - 1) / 2) 0 + ws.getD (n / 2) 0

/-- Twice the median of the others of a sensor's group, where at least two exist (R594). -/
def Dev.groupMedian2 (d : Dev) (s : Nat) : Option Int :=
  let others := (List.range 20).filter fun k => k != s && sensGroup k == sensGroup s && d.sensValid k
  if others.length < 2 then none else some (median2 (others.map fun k => (d.sensValue k).getD 0))

/-- The sensors of a die. -/
def dieSensors (x : Die) : List Nat := (List.range 20).filter fun s => sensDie s == x

/-- A die is blind (R596): its available sensors are all excluded. -/
def Dev.blind (d : Dev) (x : Die) : Bool :=
  let av := (dieSensors x).filter d.sensAvail
  !av.isEmpty && av.all d.excluded

/-- The dies that carry sensors. -/
def sensorDies : List Die := [.iface .a, .iface .b, .ctl .a, .ctl .b] ++ (List.finRange 8).map Die.drv

/-- Change one sensor. -/
def Dev.onSensor (d : Dev) (s : Fin 20) (f : TempSensor → TempSensor) : Dev := { d with sensors := d.sensors.set s (f d.sensors[s]) }

/-- The causes of DIE_BLIND and SENSOR_EXCLUDED end with the last of each (R596, R602). -/
def Dev.thermalEnds (d : Dev) : Dev :=
  let d := if sensorDies.any d.blind then d else d.endCause 354
  if (List.range 20).any d.excluded then d else d.endCause 353

/-- TEMP_WARN with its 5 K, of a reading's stamp (R597). -/
def Dev.tempWarn (d : Dev) (stamp : Nat) : Dev :=
  let warn : Int := 16 * d.g pgTEMP R.TEMP_CFG_WARN
  let vs := ((List.range 20).filter d.sensValid).map fun s => (d.sensValue s).getD 0
  if vs.any fun v => decide (warn ≤ v) then
    (if d.g pgLEDGER R.LEDGER_SRC_LIVE 352 = 1 then d else (d.cause pgTEMP 0).raiseAt 352 stamp 0)
  else if vs.all fun v => decide (v ≤ warn - 80) then d.endCause 352
  else d

/-- The outcome of the speed rule for one axis (R600): an axis that is not OFF enters HOLD, where R269 and R271 decide; one in OFF
takes ASC where the rule asks for it. -/
def Dev.thermalAxis (d : Dev) (x : Fin 2) : Dev :=
  if !d.thermal.active ∨ d.thermal.done.contains x ∨ !d.axisExists x then d
  else
    let d := { d with thermal := { d.thermal with done := x :: d.thermal.done } }
    if d.axState x = .off then
      (if d.g (pgFIELD x) R.FIELD_STATE_RULE = 1 then Dev.noSide (d.wantAsc x) else d)
    else d.hold x fun c => { c with device := true }

/-- The timebase of an axis, by its first leg. -/
def Dev.axisTimebase (d : Dev) (l : Lane) (x : Fin 2) : Fin 2 :=
  if d.gl l (pgMOD l) R.MOD_LEG_CFG_TB ((d.axisLegs x).headD 0).val = 1 then 1 else 0

/-- Period starts of the ACTIVE lane's timebase t let the axes on it take their outcome (R600). -/
def Dev.thermalPeriod (d : Dev) (l : Lane) (t : Fin 2) : Dev :=
  if d.active = some l then d.eachAxis fun d x => if d.axisTimebase l x = t then d.thermalAxis x else d else d

/-- Axes whose timebase stands take their outcome at once. -/
def Dev.thermalStopped (d : Dev) : Dev :=
  d.eachAxis fun d x =>
    match d.active with
    | some l => if ((d.mods.at l).tb (d.axisTimebase l x)).running then d else d.thermalAxis x
    | none => d.thermalAxis x

/-- A lane's TEMP field, in a copy that an always-on domain keeps. -/
def Dev.aonSet (d : Dev) (f : Fld) (v : Nat) : Dev :=
  d.eachLane fun d l => if d.power.aonRunning.at l then d.sl l pgTEMP f v else d

/-- THERMAL_SHUTDOWN (R600, R601). Of readings with one stamp the record names the lowest sensor. -/
def Dev.thermalTrigger (d : Dev) (s : Nat) (v : Int) (stamp : Nat) (isBlind : Bool) : Dev :=
  let r : ThermalRec := { time := stamp, sensor := s, temp := v, mode := d.mode.cur.code, blind := isBlind }
  if d.thermal.active then
    match d.thermal.pend with
    | some p => if p.time = stamp ∧ s < p.sensor ∧ d.thermal.written = [] then { d with thermal := { d.thermal with pend := some r } } else d
    | none => d
  else
    let d := (d.cause pgTEMP 2).raiseAt 355 stamp 0
    let d := d.installCut
    let d := if d.mode.pendingReq.isSome then
        (({ d with mode := { d.mode with pendingReq := none } }).s pgSYS R.SYS_MODE_REFUSE 13).cause pgSYS 1 else d
    let d := { d with thermal := { d.thermal with active := true, pend := some r, written := [], done := [] } }
    let n := satInc 255 (d.g pgTEMP R.TEMP_SHUT_COUNT)
    ((d.aonSet R.TEMP_SHUT_LATCH 1).aonSet R.TEMP_SHUT_COUNT n).thermalStopped

/-- Judge a reading against its group (R594, R595); the flag says that it excluded its sensor. -/
def Dev.judgeSensor (d : Dev) (s : Fin 20) (v : Int) (stamp : Nat) : Dev × Bool :=
  match d.groupMedian2 s.val with
  | none => (d.onSensor s fun q => { q with off := 0, near := 0 }, false)
  | some m =>
    if 384 < (2 * v - m).natAbs then
      let d := d.onSensor s fun q => { q with off := q.off + 1, near := 0 }
      if 4 ≤ (d.sensors[s]).off ∧ !d.excluded s.val then
        let d := (d.s pgTEMP R.TEMP_SENS_EXCL 1 s.val).cause pgTEMP 1
        (d.raiseCondAt 353 stamp, true)
      else (d, false)
    else (d.onSensor s fun q => { q with off := 0, near := min 64 (q.near + 1) }, false)

/-- A sensor's reading is taken (R594 to R606): its value, its judgement, the warnings, and the shutdown it may trigger. -/
def Dev.tempTaken (d : Dev) (s : Fin 20) (v : Int) (age : Nat) : Dev :=
  let x := sensDie s.val
  let wasBlind := d.blind x
  let d := (d.onSensor s fun q => { q with value := some v }).sS pgTEMP R.TEMP_SENS_VALUE v s.val
  let (d, _) := d.judgeSensor s v (d.now - age)
  let d := d.tempWarn (d.now - age)
  if d.blind x ∧ !wasBlind then
    let low := ((dieSensors x).head?).getD s.val
    (d.raiseCondAt 354 (d.now - age)).thermalTrigger low ((d.sensValue low).getD v) (d.now - age) true
  else if d.sensValid s.val ∧ 2720 ≤ v then d.thermalTrigger s.val v (d.now - age) false
  else d

/-- The reading that a count of a sensor's ring oscillator stands for (R592), in 1/16 °C: the line through the trim counts at 25 °C and
125 °C of the calibration set (R609). Between two steps the rounding is open; without a set, and where its two counts are equal, so is the
reading (log 141). -/
def Dev.tempOf (d : Dev) (s count : Nat) : Int :=
  match d.cal.sensors.find? (·.1 == s) with
  | some (_, a, b) =>
    let run : Int := (b.toNat : Int) - a.toNat
    if run = 0 then Config.sensorTemp s count else 400 + divOpen (1600 * ((count : Int) - a.toNat) * run.sign) run.natAbs
  | none => Config.sensorTemp s count

/-- TEMP_READING (R592 to R600): the count of a sensor's window, which ended `age` ticks ago. -/
def Dev.tempReading (d : Dev) (s : Fin 20) (count : Nat) (age : Nat) : Dev :=
  if d.modeIs [.dormant, .watch] ∨ !d.sensAvail s.val ∨ d.copies pgTEMP = [] then d
  else d.tempTaken s (satS 16 (d.tempOf s.val count)) age

/-- TEMP_CLEAR (R595): per sensor named. -/
def Dev.tempClear (d : Dev) (w : Word) : Dev :=
  let d := (List.finRange 20).foldl (fun d s =>
    if w.getLsbD s.val = false ∨ !d.excluded s.val then d
    else if 64 ≤ (d.sensors[s]).near then (d.s pgTEMP R.TEMP_SENS_EXCL 0 s.val).onSensor s fun q => { q with off := 0, near := 0 }
    else (d.inc pgLEDGER R.LEDGER_SRC_CLRREF 353).cause pgLEDGER 2) d
  d.thermalEnds.tempWarn d.now

/-- An interface die has written the shutdown record (R607): it is in its NVM and in its TEMP.REC registers. -/
def Dev.recordStored (d : Dev) (l : Lane) (r : ThermalRec) : Dev :=
  let d := { d with nvm := d.nvm.put l { d.nvm.at l with recs := r :: (d.nvm.at l).recs }
                    thermal := { d.thermal with written := l :: d.thermal.written } }
  let d := ((d.sl l pgTEMP R.TEMP_REC_MODE r.mode).sl l pgTEMP R.TEMP_REC_BLIND r.blind.toNat).sl l pgTEMP R.TEMP_REC_SENSOR r.sensor
  let d := d.slS l pgTEMP R.TEMP_REC_TEMP r.temp
  (d.sl l pgTEMP R.TEMP_REC_T_LO_T (r.time % 4294967296)).sl l pgTEMP R.TEMP_REC_T_HI_T (r.time / 4294967296 % 4294967296)

/-- THERMAL_RECORD_WRITTEN (R600): the record stands in the die's NVM, and TEMP.REC shows it. -/
def Dev.thermalRecordWritten (d : Dev) (l : Lane) : Dev :=
  match d.thermal.pend with
  | none => d
  | some r =>
    if !d.thermal.active ∨ !d.up (.iface l) ∨ d.thermal.written.contains l then d
    else
      d.recordStored l r

/-- Every axis may be off (R600): the speed rule gives OFF, and no ASC stands that R271 keeps. -/
def Dev.thermalOff (d : Dev) : Bool :=
  [(0 : Fin 2), 1].all fun x => !d.axisExists x ||
    (d.thermal.done.contains x && d.g (pgFIELD x) R.FIELD_STATE_RULE != 1 &&
     (d.axisBridges x).all fun b => !d.bridges[b].ascL && !d.bridges[b].ascH && d.bridges[b].waitHigh.isNone)

/-- THERMAL_DORMANT_ENTRY (row 1 of R92, R600). -/
def Dev.thermalDormantEntry (d : Dev) : Dev :=
  let ifs := [Lane.a, Lane.b].filter fun l => d.up (.iface l)
  if !d.thermal.active ∨ !ifs.all (d.thermal.written.contains ·) ∨ !d.thermalOff then d
  else
    let wait := 500000000 * d.g pgTEMP R.TEMP_CFG_RETRY
    let d := d.goMode .dormant true
    { d with thermal := { d.thermal with active := false, pend := none, written := [], done := [], since := d.now, retry := wait } }

/-- SHUT.LATCH of an always-on domain (R601). -/
def Dev.thermalLatch (d : Dev) : Bool :=
  [Lane.a, Lane.b].any fun l => d.power.aonRunning.at l && d.gl l pgTEMP R.TEMP_SHUT_LATCH == 1

/-- Every valid sensor of a round reads below 150 degrees. -/
def roundCool (vs : List (Option Int)) : Bool := vs.all fun v => match v with | some t => decide (t < 2400) | none => true

/-- A retry after a thermal shutdown (R610): two cool rounds end the latch; otherwise the device goes down again. -/
def Dev.retryJudged (d : Dev) (first second : List (Option Int)) : Dev :=
  let d := d.wakeDies.resetCause R.SYS_RESET_CAUSE_WAKE
  if roundCool first ∧ roundCool second then (d.resetCause R.SYS_RESET_CAUSE_THERMAL).aonSet R.TEMP_SHUT_LATCH 0
  else
    let d := (d.raise 356).fastDown
    { d with thermal := { d.thermal with since := d.now } }

/-- THERMAL_RETRY_WAKE (R601): the retry's own wake, or the start-up of another wake, with what the sensors read in both rounds.
Refused, the device returns to DORMANT. -/
def Dev.thermalRetryWake (d : Dev) (first second : List (Option Int)) : Dev :=
  let woken := [Lane.a, Lane.b].any fun l => d.up (.iface l)
  if d.mode.cur ≠ .dormant ∨ !d.thermalLatch ∨ (!woken ∧ d.now < d.thermal.since + d.thermal.retry) then d
  else
    d.retryJudged first second

end Sys2Proof.Machine
end

