-- ==== Sys2Proof/Machine/Flags.lean ====
section
/-! DEFINITION. Every flag and status field that a read computes from the device's state: the page header (R115, R145), the interrupt
tree (R144), and the read-only fields of the chapters that no stored word keeps. -/

namespace Sys2Proof.Machine

/-- Put values into fields of a word. -/
def putAll (w : Word) (l : List (Fld × Nat)) : Word := l.foldl (fun w fv => fv.1.put w fv.2) w

/-! ## CAUSE and the interrupt tree -/

/-- The forced CAUSE bits of lane `l`'s copy (R146), which the model keeps at FORCE's own address, a write-only register. -/
def Dev.forced (d : Dev) (l : Lane) (p : Nat) : Word := d.word l (pageAddr p 0x14)

/-- CAUSE bits of a page that follow something else: the block summaries of R145, and the uncleared sources of the driver dies. -/
def summaryMask (p : Nat) : Word :=
  match (pageKind p).1 with
  | 0x05 => 1 | 0x06 => 1 | 0x07 => 1 | 0x24 => 4 | 0x28 => 1 | 0x1A => 0xF | 0x1E => 0xFF
  | _ => 0

/-- A source of a driver die is uncleared. -/
def Dev.dieUncleared (d : Dev) (k : Nat) : Bool := (List.range 8).any fun j => d.uncl (224 + 8 * k + j)

/-- Those bits as they stand in lane `l`'s copy. -/
def Dev.summaryBits (d : Dev) (l : Lane) (p : Nat) : Word :=
  let has := fun (f : Fld) (n : Nat) => (List.range n).any fun i => d.gl l p f i != 0
  let v : Nat := match (pageKind p).1 with
    | 0x05 => (has R.LEDGER_RAISED_R 12).toNat
    | 0x06 => (has R.TINKER_FAIL_S 2).toNat
    | 0x07 => (has R.HALLMARK_FAILSUM_U 1).toNat
    | 0x24 => 4 * (has R.CAN_TXDONE_BUF 1).toNat
    | 0x28 => (has R.LINK_NOTICE0_NODE 1 || has R.LINK_NOTICE1_NODE 1).toNat
    | 0x1A => flagBits ((List.range 4).map fun c =>
        d.gl l p R.POS_CCAUSE_BEHIND c != 0 || d.gl l p R.POS_CCAUSE_FIRE c != 0)
    | 0x1E => flagBits ((List.range 8).map d.dieUncleared)
    | _ => 0
  BitVec.ofNat 32 v

/-- CAUSE of a page in lane `l`'s copy: the bits its events set, the block summaries, and the bits that FORCE holds set. -/
def Dev.causeWord (d : Dev) (l : Lane) (p : Nat) : Word :=
  (d.word l (pageAddr p 0x0C) &&& ~~~summaryMask p) ||| d.summaryBits l p ||| d.forced l p

/-- The copy of a page that an interface die of lane `l` sees. -/
def Dev.seenCopy (d : Dev) (l : Lane) (p : Nat) : Option Lane :=
  match pageHolder p with
  | some h => if d.pageUp h p then some h else none
  | none => if d.pageUp l p then some l else if d.pageUp l.other p then some l.other else none

/-- The summary bit of a page (R144). -/
def Dev.pageSummary (d : Dev) (l : Lane) (p : Nat) : Bool :=
  match d.seenCopy l p with
  | none => false
  | some c => (d.causeWord c p &&& d.word c (pageAddr p 0x10)) != 0 && d.gl c p H.EVENT_SUMMARY == 1

/-- SUMMARY0 or SUMMARY1 as the interface die of lane `l` computes it (R144, R147). -/
def Dev.summary (d : Dev) (l : Lane) (half : Fin 2) : Word :=
  BitVec.ofNat 32 (if half = 0 then flagBits ((List.range 32).map (d.pageSummary l))
                   else flagBits ((List.range 13).map fun k => d.pageSummary l (0x20 + k)))

/-- An interface die drives IRQ_N low (R144). -/
def Dev.irqDrives (d : Dev) (l : Lane) : Bool :=
  d.up (.iface l) && d.gl l pgIRQ R.IRQ_PIN_EN == 1 &&
  ((d.summary l 0 &&& d.word l (pageAddr pgIRQ 0x48)) ||| (d.summary l 1 &&& d.word l (pageAddr pgIRQ 0x4C))) != 0

/-- The IRQ_N land reads low: some interface die drives it (R59), unless something outside holds the land (R147). -/
def Dev.irqLow (d : Dev) : Bool := d.lands.irqHeld.getD (d.irqDrives .a || d.irqDrives .b)

/-! ## STATUS -/

/-- No page: SEAL_MISMATCH belongs to whichever page failed its check, and shows there as CAUSE.SEAL (R128). -/
def noPage : Nat := 45

/-- The page a Ledger source belongs to (R228, R283, R323, R388, R430, R461, R502, R524, R556, R582, R602, R629, R644). -/
def srcPage (n : Nat) : Nat :=
  if n < 32 then (if n % 16 < 4 then pgCLK else if n % 16 < 6 then pgPWR else noPage)
  else if n < 64 then (if [0, 1, 2, 3, 5].contains (n % 16) then 0x0C + (n - 32) / 16 else pgLANE)
  else if n < 96 then 0x0E + (n - 64) / 16
  else if n < 128 then 0x14 + (n - 96) / 8
  else if n < 152 then 0x1A + (n - 128) / 4 % 2
  else if n < 156 then pgSENSE
  else if n < 160 then 0x1A
  else if n < 192 then 0x10 + (n - 160) / 16
  else if n < 224 then 0x1C + (n - 192) / 16
  else if n < 288 then (if n = 275 ∨ n = 283 ∨ n = 278 ∨ n = 286 then pgPROT else pgGATE)
  else if n < 320 then (if 14 ≤ n % 16 then pgSLAYER else 0x20 + (n - 288) / 16)
  else if n < 336 then 0x24 + (n - 320) / 4
  else if n < 346 then 0x28 + (n - 336) / 5
  else if n < 348 then pgETH
  else if n < 352 then pgTIME
  else if n < 360 then pgTEMP
  else if n < 364 then pgTINKER
  else if n < 368 then pgHALLMARK
  else if n < 376 then pgNVM
  else pgRES

/-- The main clock that a page of lane `l`'s copy runs on. -/
def Dev.pageClock (d : Dev) (l : Lane) : Bool := (d.clocks.at l).main

/-- Values of lane `l`'s modulator that a latch point has taken and no period start has made active yet (R43). -/
def Dev.takenOf (d : Dev) (l : Lane) : List (Nat × Word) := (d.mods.at l).tb0.taken ++ (d.mods.at l).tb1.taken

/-- The staged value of a register in lane `l`'s copy: the one that waits, else the one on its way to a period start (R43, R123). -/
def Dev.stagedWord (d : Dev) (l : Lane) (a : Nat) : Option Word :=
  (cellsGet d.staged (regKey l a)).or (((d.takenOf l).find? (·.1 == a)).map (·.2))

/-- A page of lane `l`'s copy holds a staged value that is not active yet (R123). -/
def Dev.hasStaged (d : Dev) (l : Lane) (p : Nat) : Bool :=
  (d.staged.any fun kw => kw.1 / 0x1000 == regKey l (pageAddr p 0) / 0x1000) ||
  (p == pgMOD l && !(d.takenOf l).isEmpty)

/-- A commit of a page is in progress: it waits for its commit point, its group for a period start, or its block for a driver die. -/
def Dev.pageBusy (d : Dev) (p : Nat) : Bool :=
  d.commitWaits p || (p == pgGATE && d.gateSent != 0) ||
  [Lane.a, Lane.b].any fun l => p == pgMOD l &&
    !((d.mods.at l).groups ++ (d.mods.at l).tb0.takenGroups ++ (d.mods.at l).tb1.takenGroups).isEmpty

/-- STATUS of a page in lane `l`'s copy (R115). -/
def Dev.statusWord (d : Dev) (l : Lane) (p : Nat) : Word :=
  let clk := d.pageClock l && (d.gl l p H.CTRL_CLKREQ == 1 || d.gl l p H.CTRL_ENABLE == 1)
  let busy := d.pageBusy p
  putAll 0 [(H.STATUS_FORCED, (d.forced l p != 0).toNat),
            (H.STATUS_FAULT, (d.word l (pageAddr p 0x0C) &&& 0x80000000 != 0 || d.uncleared.any fun n => srcPage n == p).toNat),
            (H.STATUS_LOCKED, d.gl l p H.LOCK_LOCKED),
            (H.STATUS_STAGED, (d.hasStaged l p).toNat),
            (H.STATUS_CLKON, clk.toNat),
            (H.STATUS_BUSY, busy.toNat),
            (H.STATUS_READY, (d.gl l p H.CTRL_ENABLE == 1 && clk && !busy).toNat)]

/-! ## Read-only fields of the pages -/

/-- SYS, PWR and CLK (R108). -/
def Dev.roSys (d : Dev) (o : Nat) (w : Word) : Word :=
  if o = 0x40 then
    putAll w [(R.SYS_MODE_PREV, d.mode.prev.code), (R.SYS_MODE_TRANS, d.mode.pendingReq.isSome.toNat), (R.SYS_MODE_MODE, d.mode.cur.code)]
  else w

/-- PWR.SUPPLY. -/
def Dev.roPwr (d : Dev) (o : Nat) (w : Word) : Word :=
  let ok := fun u => (d.supplyOk u).toNat
  if o = 0x40 then
    putAll w [(R.PWR_SUPPLY_HS, flagBits ((List.finRange 6).map fun n => d.supplyOk (.vpos n))), (R.PWR_SUPPLY_VNEG_L, ok .vnegL),
              (R.PWR_SUPPLY_VPOS_L, ok .vposL), (R.PWR_SUPPLY_VCTL_B, ok (.vctl .b)), (R.PWR_SUPPLY_VCTL_A, ok (.vctl .a)),
              (R.PWR_SUPPLY_VIO_3V3, (d.power.vioLevel == some 2).toNat), (R.PWR_SUPPLY_VIO, ok .vio),
              (R.PWR_SUPPLY_VSUP_B, ok (.vsup .b)), (R.PWR_SUPPLY_VSUP_A, ok (.vsup .a))]
  else w

/-- CLK.STATUS. -/
def Dev.roClk (d : Dev) (o : Nat) (w : Word) : Word :=
  let a := d.clocks.a
  let b := d.clocks.b
  if o = 0x44 then
    putAll w [(R.CLK_STATUS_PLL_CB, b.pllC.toNat), (R.CLK_STATUS_PLL_IB, b.pllI.toNat), (R.CLK_STATUS_AON_XTAL_B, b.aonXtal.toNat),
              (R.CLK_STATUS_REF_XTAL_B, b.refXtal.toNat), (R.CLK_STATUS_PLL_CA, a.pllC.toNat), (R.CLK_STATUS_PLL_IA, a.pllI.toNat),
              (R.CLK_STATUS_AON_XTAL_A, a.aonXtal.toNat), (R.CLK_STATUS_REF_XTAL_A, a.refXtal.toNat)]
  else w

/-- HOST.ALIVE and the DEBUG class (R134, R143). -/
def Dev.roHost (d : Dev) (o : Nat) (w : Word) : Word :=
  if o = 0x44 then
    putAll w [(R.HOST_ALIVE_RALIVE, d.host.ralive), (R.HOST_ALIVE_EXP, match d.host.lastAlive with | some a => (a + 1) % 256 | none => 0)]
  else if o = 0x4C then R.HOST_PORT_CLASS_P1.put w (if d.host.debugOwner then 3 else 0)
  else w

/-- The IRQ page. -/
def Dev.roIrq (d : Dev) (l : Lane) (o : Nat) (w : Word) : Word :=
  if o = 0x40 then d.summary l 0
  else if o = 0x44 then d.summary l 1
  else if o = 0x50 then R.IRQ_PIN_LEVEL.put w d.irqLow.toNat
  else w

/-- The Ledger page (R583). -/
def Dev.roLedger (d : Dev) (l : Lane) (o : Nat) (w : Word) : Word :=
  let st := fun (n : Nat) => d.gl l pgLEDGER R.LEDGER_SRC_STATUS n == 1
  if o = 0x4C then
    let us := (List.range 384).filter st
    putAll w [(R.LEDGER_UNCLEARED_TOP, us.foldl (fun m n => max m (d.classAt n).code) 0), (R.LEDGER_UNCLEARED_COUNT, us.length)]
  else if 0x80 ≤ o ∧ o < 0xB0 then
    BitVec.ofNat 32 (flagBits ((List.range 32).map fun j => st (8 * (o - 0x80) + j)))
  else if 0x200 ≤ o ∧ o < 0x800 then
    R.LEDGER_SRC_LIVE.put w (R.LEDGER_SRC_LIVE.get w ||| R.LEDGER_SRC_FORCE.get w)
  else w

/-- TINKER.SWEEPCNT.AGE. -/
def Dev.roTinker (d : Dev) (o : Nat) (w : Word) : Word :=
  if o = 0x4C then R.TINKER_SWEEPCNT_AGE.put w (min 0xFFFF ((d.now - d.tinker.sweptAt) / 500000000)) else w

/-- HALLMARK.ENSTAT. -/
def Dev.roHallmark (d : Dev) (l : Lane) (o : Nat) (w : Word) : Word :=
  if o = 0x44 then BitVec.ofNat 32 (flagBits ((List.range 16).map fun u => d.gl l pgHALLMARK R.HALLMARK_CFG_EN u == 1)) else w

/-- The hottest valid sensor, the lowest of equal ones, with its reading. -/
def Dev.hottest (d : Dev) : Option (Nat × Int) :=
  (List.range 20).foldl (fun m s =>
    if d.sensValid s then
      match d.sensValue s, m with
      | some v, some (_, w) => if w < v then some (s, v) else m
      | some v, none => some (s, v)
      | none, _ => m
    else m) none

/-- TEMP.MAX and AVAIL. -/
def Dev.roTemp (d : Dev) (o : Nat) (w : Word) : Word :=
  if o = 0x5C then
    (match d.hottest with
     | some (s, v) => putAll w [(R.TEMP_MAX_SENSOR, s), (R.TEMP_MAX_VALUE, intField 16 v)]
     | none => w)
  else if 0x80 ≤ o ∧ o < 0xD0 then R.TEMP_SENS_AVAIL.put w (d.sensAvail ((o - 0x80) / 4)).toNat
  else w

/-- TIME.NOW_LO, and NOW_HI as latched for a reader (R559). -/
def Dev.roTime (d : Dev) (ident : Nat) (o : Nat) (w : Word) : Word :=
  if o = 0x58 then stamp32 d.now
  else if o = 0x5C then
    (match d.time.hi.find? (·.1 == ident) with
     | some (_, v) => v
     | none => BitVec.ofNat 32 (d.now / 2 ^ 32))
  else w

/-- The NVM page: which banks run, the boot state, the OTP counter and the identity of the die (R630). -/
def Dev.roNvm (d : Dev) (l : Lane) (o : Nat) (w : Word) : Word :=
  let n := d.nvm.at l
  let all0 := fun (f : Nat → Byte) => (List.range 32).all fun i => f i == 0
  if o = 0x40 then
    putAll w [(R.NVM_BANK_RUN_B, d.boot.run.b.getD 0), (R.NVM_BANK_RUN_A, d.boot.run.a.getD 0),
              (R.NVM_BANK_TRY_B, d.nvm.b.try'.isSome.toNat), (R.NVM_BANK_TRY_A, d.nvm.a.try'.isSome.toNat), (R.NVM_BANK_PREF, n.pref)]
  else if o = 0x58 then R.NVM_SVN_OTP.put w n.svn
  else if o = 0x5C then R.NVM_UNLOCK_DBG.put w d.host.debugOwner.toNat
  else if o = 0x64 then
    putAll w [(R.NVM_IDSTAT_ROOT, (!all0 (Config.rootHash l.idx)).toNat), (R.NVM_IDSTAT_UKEY, (!all0 (Config.unlockHash l.idx)).toNat),
              (R.NVM_IDSTAT_SET, n.identSet.toNat)]
  else w

/-- The four status bits of a lane in LANE.STAT. -/
def Dev.laneBits (d : Dev) (l : Lane) : Nat :=
  let s := d.lanes.at l
  flagBits [s.up, s.role == .failed, s.eligible, s.stOk]

/-- Both receivers of an isolated lane of lane `l` stand. -/
def Dev.isoBits (d : Dev) (l : Lane) : Nat :=
  flagBits [(d.link (.isoData l true)).live && (d.link (.isoData l false)).live,
            (d.link (.isoTime l true)).live && (d.link (.isoTime l false)).live]

/-- The LANE page (R462). -/
def Dev.roLane (d : Dev) (o : Nat) (w : Word) : Word :=
  if o = 0x48 then
    putAll w [(R.LANE_STAT_ACTIVE, match d.active with | some l => l.idx + 1 | none => 0), (R.LANE_STAT_SW_PEND, d.handover.isSome.toNat),
              (R.LANE_STAT_LANE_B, d.laneBits .b), (R.LANE_STAT_LANE_A, d.laneBits .a)]
  else if o = 0x64 then
    putAll w [(R.LANE_XSTAT_XI_OK, ((d.link (.ifaceCross .a)).live && (d.link (.ifaceCross .b)).live).toNat),
              (R.LANE_XSTAT_XC_OK, ((d.link (.ctlCross .a)).live && (d.link (.ctlCross .b)).live).toNat),
              (R.LANE_XSTAT_ISO_B, d.isoBits .b), (R.LANE_XSTAT_ISO_A, d.isoBits .a)]
  else w

/-- CONV_x.STAT.WOPEN (R189). -/
def Dev.roConv (d : Dev) (l : Lane) (c : Fin 2) (o : Nat) (w : Word) : Word :=
  if o = 0x78 then R.CONV_STAT_WOPEN.put w (flagBits ((List.finRange 3).map fun g => d.windowOpen l c g d.now)) else w

/-- SPEED with its quality, and the Hall angle, as they stand now (R201, R216). -/
def Dev.roPos (d : Dev) (u : Lane) (o : Nat) (w : Word) : Word :=
  if o < 0x50 ∨ 0x2F0 ≤ o then w
  else
    let c : Fin 4 := ⟨(o - 0x50) / 0xA8 % 4, Nat.mod_lt _ (by decide)⟩
    let q := (o - 0x50) % 0xA8
    if q = 0x38 then BitVec.ofInt 32 (d.speedNow u c).1
    else if q = 0x3C then R.POS_STATE_SPDQ.put w (d.speedNow u c).2
    else if q = 0x54 ∧ d.chSel u c = 3 then BitVec.ofNat 32 (d.hallAngle u c)
    else w

/-- MOD_x: counts, forced legs, compares and commanded levels (R389). -/
def Dev.roMod (d : Dev) (l : Lane) (o : Nat) (w : Word) : Word :=
  let m := d.mods.at l
  let cnt := fun (t : TimebaseState) => if t.running then min 0xFFFFF (d.now - t.t0) else 0
  if o = 0x48 then R.MOD_TB0_CNT_CNT.put w (cnt m.tb0)
  else if o = 0x54 then R.MOD_TB1_CNT_CNT.put w (cnt m.tb1)
  else if o = 0x74 then R.MOD_TRIPSTAT_FORCED.put w (flagBits ((List.finRange 6).map fun n => d.tripForced l n))
  else if o < 0x80 ∨ 0x140 ≤ o then w
  else
    let n : Fin 6 := ⟨(o - 0x80) / 0x20 % 6, Nat.mod_lt _ (by decide)⟩
    let q := (o - 0x80) % 0x20
    if q = 0x14 then R.MOD_LEG_ACMP_C.put w m.legs[n].acmp
    else if q = 0x18 then
      putAll w [(R.MOD_LEG_STAT_FORCED, (d.tripForced l n).toNat), (R.MOD_LEG_STAT_HS, (legLevel m.legs[n] true d.now).toNat),
                (R.MOD_LEG_STAT_LS, (legLevel m.legs[n] false d.now).toNat)]
    else w

/-- The GATE page: what the driver dies report (R431). -/
def Dev.roGate (d : Dev) (o : Nat) (w : Word) : Word :=
  if 0x100 ≤ o ∧ o < 0x480 then
    let i : OutIx := ⟨(o - 0x100) / 0x40 % 14, Nat.mod_lt _ (by decide)⟩
    let s := d.outs[i]
    let q := (o - 0x100) % 0x40
    if q = 0x30 then
      putAll w [(R.GATE_ASTATE_OFF1, adaptCode (s.adapt.getD 3 128)), (R.GATE_ASTATE_ON1, adaptCode (s.adapt.getD 2 128)),
                (R.GATE_ASTATE_OFF0, adaptCode (s.adapt.getD 1 128)), (R.GATE_ASTATE_ON0, adaptCode (s.adapt.getD 0 128))]
    else if q = 0x34 then
      putAll w [(R.GATE_MEAS_TPL, min 255 s.tpl), (R.GATE_MEAS_DV_ON, s.dvOn), (R.GATE_MEAS_DV_OFF, s.dvOff)]
    else if q = 0x38 then
      putAll w [(R.GATE_OSTAT_CFG, s.cfg.isSome.toNat), (R.GATE_OSTAT_LEVEL, s.gateOn.toNat), (R.GATE_OSTAT_CLAMP, s.clamp.toNat),
                (R.GATE_OSTAT_WARN, s.warn.toNat), (R.GATE_OSTAT_SUP, s.supFault.toNat), (R.GATE_OSTAT_GMON, s.gmon.toNat),
                (R.GATE_OSTAT_SC, s.shortKind.isSome.toNat), (R.GATE_OSTAT_CUT_B, s.cutB.toNat), (R.GATE_OSTAT_CUT_A, s.cutA.toNat)]
    else if q = 0x3C then putAll w [(R.GATE_OCNT_DESAT, s.cntDesat), (R.GATE_OCNT_PW, s.cntPw)]
    else w
  else if 0x480 ≤ o ∧ o < 0x500 then
    let k : DieIx := ⟨(o - 0x480) / 0x10 % 8, Nat.mod_lt _ (by decide)⟩
    let s := d.dies[k]
    let q := (o - 0x480) % 0x10
    if q = 0 then
      putAll w [(R.GATE_DSTAT_NOFALLBACK, s.fallback.isNone.toNat), (R.GATE_DSTAT_TIME_SKEW, s.timeSkew.toNat),
                (R.GATE_DSTAT_ROLE_CONFLICT, s.roleConflict.toNat), (R.GATE_DSTAT_CFG_MISMATCH, s.cfgMismatch.toNat),
                (R.GATE_DSTAT_CFG_OK, s.applied.isSome.toNat), (R.GATE_DSTAT_ACTIVE, (s.activePort == some .b).toNat),
                (R.GATE_DSTAT_LIVE_B, (d.link (.drvDie .b k)).live.toNat), (R.GATE_DSTAT_LIVE_A, (d.link (.drvDie .a k)).live.toNat)]
    else if q = 4 then (match s.applied with | some ws => BitVec.ofNat 32 (crc32cWords ws) | none => 0)
    else if q = 8 then putAll w [(R.GATE_DERR_CFGREJ, s.cfgRej), (R.GATE_DERR_DISCARD, s.discard)]
    else w
  else w

/-- One bridge in PROT.ASCSTAT. -/
def Dev.ascBits (d : Dev) (b : Fin 2) : Nat :=
  flagBits [d.sidePermitted b false, d.sidePermitted b true, d.sideTripped b false, d.sideTripped b true, d.bridges[b].ascL,
            d.bridges[b].ascH]

/-- The PROT page (R432). -/
def Dev.roProt (d : Dev) (l : Lane) (o : Nat) (w : Word) : Word :=
  let p := d.prot.at l
  if o = 0x44 then putAll w [(R.PROT_ASCSTAT_B1, d.ascBits 1), (R.PROT_ASCSTAT_B0, d.ascBits 0)]
  else if o = 0x54 then
    putAll w [(R.PROT_CHOPSTAT_ON, p.chOn.toNat), (R.PROT_CHOPSTAT_LIMIT, p.limit.toNat), (R.PROT_CHOPSTAT_E, min 0xFFF (p.energy / 100000000000))]
  else if o = 0x5C then
    (if d.mode.cur = .discharge then
       putAll w [(R.PROT_DISCHSTAT_ACTIVE, 1), (R.PROT_DISCHSTAT_TIME, min 0xFFFF ((d.now - d.mode.dischargeAt) / 500000))]
     else w)
  else if o = 0x68 then R.PROT_SCSTAT_SC.put w (flagBits ((List.finRange 14).map fun i => d.outs[i].shortKind.isSome))
  else w

/-- SENSE.VALID (R227). DESIGN CHOICE (log 121): the channels of an interface die that does not run read valid, by that die's STATE words
at reset; R234 does not say what they read. -/
def Dev.roSense (d : Dev) (o : Nat) (w : Word) : Word :=
  if o = 0x40 then
    R.SENSE_VALID_CH.put w (flagBits ([Lane.a, Lane.b].flatMap fun u => (List.range 4).map fun c =>
      d.gl u (pgPOS u) R.POS_STATE_INVALID c == 0))
  else w

/-- SLAYER.STAT and RXDATA (R525). -/
def Dev.roSlayer (d : Dev) (i : Lane) (o : Nat) (w : Word) : Word :=
  if o = 0x48 then
    let n := fun (f : Nat → Bool) => ((List.range 1024).filter fun k => f (d.cst i k)).length
    putAll w [(R.SLAYER_STAT_RUN, n (· == 2)), (R.SLAYER_STAT_BAD, n fun c => c == 3 || c == 4)]
  else if 0x60 ≤ o ∧ o < 0x90 then
    (match (d.slE i (d.gl i pgSLAYER R.SLAYER_RXSEL_IDX)).payload with
     | some b => (bytesWords b).getD ((o - 0x60) / 4) 0
     | none => 0)
  else w

/-- The CAN pages: TXSEL and the windows as an identity sees them (R535, R536). -/
def Dev.roCan (d : Dev) (ident : Nat) (n : Fin 4) (o : Nat) (w : Word) : Word :=
  if o = 0x68 then BitVec.ofNat 32 (d.txSel n ident).val
  else if 0x100 ≤ o ∧ o < 0x158 then d.windowWord n 0 ((o - 0x100) / 4)
  else if 0x180 ≤ o ∧ o < 0x1D8 then d.windowWord n 1 ((o - 0x180) / 4)
  else if 0x200 ≤ o ∧ o < 0x254 then (txShown (d.txWords n ident)).getD ((o - 0x200) / 4) 0
  else if o = 0x254 then
    let b := d.can[n].bufs[d.txSel n ident]
    BitVec.ofNat 32 (2 ^ 30 * b.keep.toNat + 2 ^ 29 * b.ruling.toNat + 2 ^ 28 * b.oneshot.toNat + 256 * min 255 b.attempts + b.state)
  else w

/-- ETH.RXLEN and RXTS (R550). -/
def Dev.roEth (d : Dev) (o : Nat) (w : Word) : Word :=
  match d.eth.rx with
  | [] => w
  | (t, b) :: _ =>
    if o = 0x60 then putAll w [(R.ETH_RXLEN_VALID, 1), (R.ETH_RXLEN_LEN, b.length)]
    else if o = 0x64 then stamp32 t
    else if o = 0x68 then d.ethRead.1
    else w

/-- RES.RINFO and TAKEN (R640). -/
def Dev.roRes (d : Dev) (l : Lane) (o : Nat) (w : Word) : Word :=
  if o = 0x4C then
    let r := d.gl l pgRES R.RES_RSEL_R
    putAll w [(R.RES_RINFO_PREEMPTED, (d.res.preempted.contains r).toNat), (R.RES_RINFO_WAIT, (d.nextTake r).getD 255),
              (R.RES_RINFO_TAKER, (d.resTaker r).getD 255), (R.RES_RINFO_OWNER, if r < 160 then d.resOwner r else 255)]
  else if 0x50 ≤ o ∧ o < 0x64 then
    BitVec.ofNat 32 (flagBits ((List.range 32).map fun j => (d.resTaker (8 * (o - 0x50) + j)).isSome))
  else w

/-- A block register of a page as lane `l`'s copy shows it: the stored word with its computed fields. -/
def Dev.blockWord (d : Dev) (ident : Nat) (l : Lane) (p o : Nat) : Word :=
  let w := d.word l (pageAddr p o)
  let u : Lane := if p % 2 = 0 then .a else .b
  match (pageKind p).1 with
  | 0x00 => d.roSys o w
  | 0x01 => d.roPwr o w
  | 0x02 => d.roClk o w
  | 0x03 => d.roHost o w
  | 0x04 => d.roIrq l o w
  | 0x05 => d.roLedger l o w
  | 0x06 => d.roTinker o w
  | 0x07 => d.roHallmark l o w
  | 0x08 => d.roTemp o w
  | 0x09 => d.roTime ident o w
  | 0x0A => d.roNvm l o w
  | 0x0B => d.roLane o w
  | 0x14 => d.roConv (if p < 0x16 then .a else .b) (if p % 2 = 0 then 0 else 1) o w
  | 0x1A => d.roPos u o w
  | 0x1C => d.roMod u o w
  | 0x1E => d.roGate o w
  | 0x1F => d.roProt l o w
  | 0x23 => d.roSlayer l o w
  | 0x24 => d.roCan ident ⟨(p - 0x24) % 4, Nat.mod_lt _ (by decide)⟩ o w
  | 0x2A => d.roEth o w
  | 0x2B => d.roSense o w
  | 0x2C => d.roRes l o w
  | _ => w

/-! ## Reads -/

/-- The fields of the register at an offset of a page. -/
def regFlds (p o : Nat) : List Fld := ((if o < 0x40 then fldsHdr else pageFlds p).filter (·.holds o))

/-- The bits of a register whose fields have one of some access types. -/
def accMask (l : List Fld) (t : Acc → Bool) : Word := (l.filter fun f => t f.acc).foldl (fun m f => m ||| f.mask) 0

/-- Counters that a chapter makes writable, and that the block counts up (R115 holds them while FREEZE = 1). -/
def countFlds : List (Nat × Fld) :=
  [(0x03, R.HOST_ERRCNT_ALIVE_ERR), (0x03, R.HOST_ERRCNT_CRC_ERR), (0x06, R.TINKER_SWEEPCNT_ONLINE), (0x06, R.TINKER_SLICE_FAILCNT),
   (0x06, R.TINKER_SLICE_ABANDON), (0x06, R.TINKER_SLICE_RUNS), (0x06, R.TINKER_SLICEM_FAILCNT), (0x06, R.TINKER_SLICEM_ABANDON),
   (0x06, R.TINKER_SLICEM_RUNS), (0x07, R.HALLMARK_STAT_FAILCNT), (0x0B, R.LANE_SWCNT_DIAG), (0x0B, R.LANE_SWCNT_CMD),
   (0x0B, R.LANE_ECMP_STAT_MAXDEV), (0x0B, R.LANE_ECMP_STAT_MISMATCH), (0x0C, R.CPU_LSSTAT_AGREE_ERR), (0x0C, R.CPU_ECCCNT_CORR),
   (0x0E, R.QUILL_PEAK_HALT), (0x0E, R.QUILL_PEAK_STAGE), (0x0E, R.QUILL_ERRCNT_ECC), (0x0E, R.QUILL_ERRCNT_DEADLINE),
   (0x0E, R.QUILL_ERRCNT_OVERRUN), (0x0E, R.QUILL_ERRCNT_SHADOW), (0x0E, R.QUILL_SATCNT_TOTAL), (0x10, R.FIELD_ROLE_MISMATCH),
   (0x1A, R.POS_IDX_CORR_COUNT), (0x1A, R.POS_ERRCNT_MISM), (0x1A, R.POS_ERRCNT_DEC), (0x1C, R.MOD_LINK_ERR_LATE),
   (0x1C, R.MOD_LINK_ERR_SEQ), (0x1C, R.MOD_LINK_ERR_CONG), (0x1C, R.MOD_LINK_ERR_CALSTEP), (0x1E, R.GATE_OCNT_DESAT),
   (0x1E, R.GATE_OCNT_PW), (0x1E, R.GATE_DERR_CFGREJ), (0x1E, R.GATE_DERR_DISCARD), (0x24, R.CAN_RXCNT_NOMATCH),
   (0x24, R.CAN_RXCNT_OVERSIZE), (0x28, R.LINK_NODE_MISMATCH), (0x28, R.LINK_ERR_CRC), (0x28, R.LINK_ERR_COLL),
   (0x28, R.LINK_ERR_OVERRUN), (0x2A, R.ETH_CNT_RXDROP), (0x2A, R.ETH_CNT_RXERR)]

/-- What a register shows from the words that a set FREEZE has kept: its read-only fields and its counters. -/
def Dev.frozenShow (d : Dev) (l : Lane) (p o : Nat) (w : Word) : Word :=
  if o < 0x40 ∨ d.frozen.isEmpty then w
  else match cellsGet d.frozen (regKey l (pageAddr p o)) with
    | none => w
    | some v =>
      let m := accMask (regFlds p o) (· == .ro) |||
        ((countFlds.filter fun kf => kf.1 == (pageKind p).1 && kf.2.holds o).foldl (fun m kf => m ||| kf.2.mask) 0)
      (w &&& ~~~m) ||| (v &&& m)

/-- A register of a page as lane `l`'s copy shows it to a reader: staged values of RWS fields (R123), nothing of write-only fields. -/
def Dev.pageWord (d : Dev) (ident : Nat) (l : Lane) (p o : Nat) : Word :=
  if o = 0x08 then d.statusWord l p
  else if o = 0x0C then d.causeWord l p
  else if o < 0x40 then d.word l (pageAddr p o) &&& ~~~accMask (regFlds p o) (· == .wo)
  else
    let fs := regFlds p o
    let w := d.frozenShow l p o (d.blockWord ident l p o)
    let w := match d.stagedWord l (pageAddr p o) with
      | some v => let m := accMask fs (· == .rws); (w &&& ~~~m) ||| (v &&& m)
      | none => w
    w &&& ~~~accMask fs (· == .wo)

/-- A word of a table region as lane `l`'s copy shows it: program window (R313), coefficients 0 to 31 with the FIELD pages (R287). -/
def Dev.regionWord (d : Dev) (l : Lane) (a : Nat) : Word :=
  if rgQUILL ≤ a ∧ a < rgRULING then
    let o := a - rgQUILL
    if o < 0x8000 then
      let act := d.qBank l
      let b := if d.gl l (pgQUILL l) R.QUILL_PROG_WIN = 1 then act else 1 - act
      (d.quill.at l).half b (o / 8) (o / 4 % 2)
    else if o < 0xC000 then d.word l a
    else if o < 0xE000 then d.word l (qCoefAddr ((o - 0xC000) / 8) + o % 8)
    else 0
  else d.word l a

/-- A word of the register space as lane `l`'s copy shows it. -/
def Dev.showWord (d : Dev) (ident : Nat) (l : Lane) (a : Nat) : Word :=
  if a < 0x2D000 then d.pageWord ident l (a / 0x1000) (a % 0x1000) else d.regionWord l a

end Sys2Proof.Machine
end

