-- ==== Sys2Proof/Machine/Nvm.lean ====
section
/-! DEFINITION. The NVM page (chapter 18): installs (R616 to R618), SETPREF and COMMIT_SVN (R622), the signed unlock (R623 to R626),
identities and quotes (R627, R628). The activations of R619 are in Boot.lean. -/

namespace Sys2Proof.Machine

/-- The outside facts of a command: those it carries; for the others, which the spec leaves open, free values. -/
def Dev.openFacts (d : Dev) : Facts :=
  let w := fun (k : Nat) => Config.freeWord (d.freeCtr + k)
  d.boot.given.getD
    { passA := (w 0).getLsbD 0, passB := (w 0).getLsbD 1, halves := (w 1).toNat % 16384, healthy := (w 0).getLsbD 2
      entropy := if (w 0).getLsbD 3 then some ((List.range 8).map fun k => w (2 + k)) else none }

/-! ## Banks -/

/-- Change what the available interface dies keep in NVM and OTP. -/
def Dev.onNvm (d : Dev) (f : Lane → NvmDie → NvmDie) : Dev :=
  d.eachLane fun d l => if d.up (.iface l) then { d with nvm := d.nvm.put l (f l (d.nvm.at l)) } else d

/-- The interface dies that are available. -/
def Dev.nvmDies (d : Dev) : List Lane := [Lane.a, Lane.b].filter fun l => d.up (.iface l)

/-- BANK.ERRb as R610 and R611 give it: 0 where the bank is valid on every available die with one MESSAGE hash, 9 where the copies
differ. -/
def Dev.bankCode (d : Dev) (b : Nat) : Nat :=
  match d.nvmDies with
  | [] => 8
  | [l] => (d.nvm.at l).verify l b
  | _ =>
    let ca := d.nvm.a.verify .a b
    let cb := d.nvm.b.verify .b b
    if ca ≠ cb then 9
    else if ca ≠ 0 then ca
    else if d.nvm.a.messageHash b = d.nvm.b.messageHash b then 0 else 9

/-- The fields of a bank: VALID, ERR, SVN. -/
def bankFlds (b : Nat) : Fld × Fld × Fld :=
  if b = 0 then (R.NVM_BANK_VALID0, R.NVM_BANK_ERR0, R.NVM_SVN_SVN0) else (R.NVM_BANK_VALID1, R.NVM_BANK_ERR1, R.NVM_SVN_SVN1)

/-- Show a bank's code with its VERSION and SVN, which read 0 when it is not valid. -/
def Dev.bankShow (d : Dev) (b code : Nat) : Dev :=
  let n := d.nvm.at (d.nvmDies.headD .a)
  let (fv, fe, fs) := bankFlds b
  let d := (d.s pgNVM fv (code == 0).toNat).s pgNVM fe code
  let d := d.s pgNVM R.NVM_VER_VERSION (if code = 0 then n.num b 8 4 else 0) b
  d.s pgNVM fs (if code = 0 then n.num b 12 2 else 0)

/-- VALID of a bank. -/
def Dev.bankValid (d : Dev) (b : Nat) : Bool := d.g pgNVM (bankFlds b).1 == 1

/-- UPDSTAT.STATE. -/
def Dev.updState (d : Dev) : Nat := d.g pgNVM R.NVM_UPDSTAT_STATE

/-- Set UPDSTAT.STATE. -/
def Dev.setUpd (d : Dev) (st : Nat) : Dev := d.s pgNVM R.NVM_UPDSTAT_STATE st

/-- Report the outcome of an UPD operation: 0 for an accepted one, or the code of its refusal. -/
def Dev.updRefuse (d : Dev) (code : Nat) : Dev := d.s pgNVM R.NVM_UPDSTAT_REFUSE code

/-- A bank that a running lane runs. -/
def Dev.bankRuns (d : Dev) (b : Nat) : Bool := [Lane.a, Lane.b].any fun l => (d.lanes.at l).up && d.boot.run.at l == some b

/-- The bank that a running lane runs. -/
def Dev.runBank (d : Dev) (l : Lane) : Option Nat := if d.laneRuns l then d.boot.run.at l else none

/-- PREF as the available dies hold it. -/
def Dev.bankPref (d : Dev) : Nat := (d.nvm.at (d.nvmDies.headD .a)).pref

/-! ## Installs (R616 to R618) -/

/-- UPD_BEGIN. -/
def Dev.updBegin (d : Dev) (b : Nat) : Dev :=
  if d.updState ≠ 0 then d.updRefuse 1
  else if d.mode.cur = .discharge then d.updRefuse 2
  else if d.bankRuns b ∨ d.bankPref = b then d.updRefuse 4
  else
    let d := d.onNvm fun _ n => { n with full := n.full.set b false }
    ({ d with boot := { d.boot with bank := b } }.bankShow b 8 |>.updRefuse 0).setUpd 1

/-- ERASE_COMPLETE: STATE reaches OPEN. -/
def Dev.eraseComplete (d : Dev) : Dev :=
  if d.updState ≠ 1 then d
  else
    let b := d.boot.bank
    let d := d.onNvm fun _ n => { n with words := n.words.filter fun kw => kw.1 / 0x80000 != b }
    (d.s pgNVM R.NVM_WADDR_PAGE 0).setUpd 2

/-- Put words into a bank from a word address on; an erased word is not listed. -/
def NvmDie.program (n : NvmDie) (k : Nat) (ws : List Word) : NvmDie :=
  { n with words := (ws.zipIdx.foldl (fun c wi =>
      if wi.1 = 0xFFFFFFFF#32 then cellsErase c (k + wi.2) else cellsPut c (k + wi.2) wi.1) n.words) }

/-- PAGE_PROGRAM (R617): WBUF stands written, WBUF63 last. -/
def Dev.pageProgram (d : Dev) : Dev :=
  if d.updState ≠ 2 then d
  else
    let p := d.g pgNVM R.NVM_WADDR_PAGE
    let ws := (List.range 64).map fun i => d.word (d.prim pgNVM) (pageAddr pgNVM (0x100 + 4 * i))
    let d := d.onNvm fun _ n => n.program (0x80000 * d.boot.bank + 64 * p) ws
    (d.s pgNVM R.NVM_WADDR_PAGE ((p + 1) % 8192)).setUpd 3

/-- PROGRAM_COMPLETE. -/
def Dev.programComplete (d : Dev) : Dev := if d.updState = 3 then d.setUpd 2 else d

/-- UPD_FINISH (R618): outside OPEN nothing can be finished; an operation in progress makes it BUSY. -/
def Dev.updFinish (d : Dev) : Dev :=
  if d.updState = 2 then (d.updRefuse 0).setUpd 4
  else if d.updState = 0 then d
  else d.updRefuse 1

/-- VERIFY_COMPLETE (R618): until the verification ends, the bank is EMPTY, and an install cut short leaves it so. -/
def Dev.verifyComplete (d : Dev) : Dev :=
  if d.updState = 4 then
    let d := d.onNvm fun _ n => { n with full := n.full.set d.boot.bank true }
    ((d.bankShow d.boot.bank (d.bankCode d.boot.bank)).setUpd 0).cause pgNVM 0
  else d

/-- UPD_ABORT (R618): the bank of an install stays EMPTY. -/
def Dev.updAbort (d : Dev) : Dev :=
  if 1 ≤ d.updState ∧ d.updState ≤ 4 then
    ((d.onNvm fun _ n => { n with full := n.full.set d.boot.bank false }).bankShow d.boot.bank 8 |>.updRefuse 0).setUpd 0
  else d

/-- UPD_SETPREF (R622). -/
def Dev.updSetpref (d : Dev) (b : Nat) : Dev :=
  if d.bankValid b then (d.onNvm fun _ n => { n with pref := b }).updRefuse 0 else d.updRefuse 4

/-- UPD_COMMIT_SVN (R622). -/
def Dev.updCommitSvn (d : Dev) : Dev :=
  match d.runBank .a, d.runBank .b with
  | some x, some y =>
    let l := d.nvmDies.headD .a
    let v := (d.nvm.at l).num x 12 2
    if x ≠ y ∨ v ≤ (d.nvm.at l).svn then d.updRefuse 6
    else (d.onNvm fun _ n => { n with svn := v }).updRefuse 0
  | _, _ => d.updRefuse 6

/-- UPD_PROVISION (R627): each available die generates its own key pair, whose serial number the model keeps. -/
def Dev.updProvision (d : Dev) (healthy : Bool) : Dev :=
  if d.mode.cur ≠ .maintenance then d.updRefuse 2
  else if d.nvmDies.any fun l => (d.nvm.at l).identSet then d.updRefuse 7
  else if !healthy then d.updRefuse 8
  else
    let k := d.freeCtr
    let d := d.onNvm fun l n => { n with identSet := true, key := 2 * k + l.idx }
    d.fresh.updRefuse 0

/-! ## Signed unlock (R623 to R626) -/

/-- UNLOCK_CHALLENGE (R623): a failed health test sends ENTROPY_FAIL, and CHAL reads 0. -/
def Dev.challenge (d : Dev) (e : Option (List Word)) : Dev :=
  let show' := fun (d : Dev) (ws : List Word) =>
    (List.range 8).foldl (fun d i => d.s pgNVM R.NVM_CHAL_C (ws.getD i 0).toNat i) d
  match e with
  | some ws => show' { d with boot := { d.boot with chal := some ((List.range 8).map fun i => ws.getD i 0, d.now) } } ws
  | none => (show' { d with boot := { d.boot with chal := none } } []).raise 373

/-- Word `i` of the token. -/
def Dev.tokenWord (d : Dev) (i : Nat) : Word := ((d.boot.token.find? (·.1 == i)).map (·.2)).getD 0

/-- Words of the token as bytes. -/
def Dev.tokenBytes (d : Dev) (i n : Nat) : List Byte := (List.range n).flatMap fun k => wordBytes (d.tokenWord (i + k))

/-- SERIAL, the same on both dies. -/
def serialBytes : List Byte := (List.range 8).map Config.serial

/-- ACTION and ARG of a token are defined (R624, R625, R133): port and class of ACTION 2 name a port whose class is not fixed. -/
def actionOk (action arg : Nat) : Bool :=
  match action with
  | 1 => true
  | 2 => decide (arg < 1024) && (arg % 256 == 0 || (2 ≤ arg % 256 && arg % 256 ≤ 9)) &&
      (arg / 256 != 1 || arg % 256 == 4 || arg % 256 == 6)
  | 3 => true
  | _ => false

/-- What the die of lane `l` answers to a token: 0, or the code of the first check of R625 that fails. -/
def Dev.tokenCheck (d : Dev) (l : Lane) : Nat :=
  let hash := (List.range 32).map (Config.unlockHash l.idx)
  let pk := d.tokenBytes 0 328
  let body := d.tokenBytes 328 12
  let action := leNat ((body.drop 40).take 4)
  let fresh := match d.boot.chal with
    | some (ws, t) => decide (d.now ≤ t + 30000000000) && ws.flatMap wordBytes == body.take 32
    | none => false
  if hash.all (· == 0) then 1
  else if sha3 pk ≠ hash then 2
  else if !fresh then 3
  else if (body.drop 32).take 8 ≠ serialBytes then 5
  else if !Config.mldsaVerify pk body (d.tokenBytes 340 605) then 4
  else if action = 1 ∧ !d.modeIs [.standby, .maintenance] then 6
  else if !actionOk action (leNat (body.drop 44)) then 7
  else 0

/-- The right that an accepted token raises (R624). -/
def Dev.tokenAct (d : Dev) : Dev :=
  let body := d.tokenBytes 328 12
  let arg := leNat (body.drop 44)
  match leNat ((body.drop 40).take 4) with
  | 1 => { d with host := { d.host with debugOwner := true } }
  | 2 =>
    let n := arg % 256
    d.s pgHOST ⟨0x4C, 4, 1, 2 * n + 1, 2 * n, .rw, 0, .any, false⟩ (arg / 256)
  | _ => d.s pgHOST R.HOST_CFG_LINKA_RELAY 1

/-- UNLOCK_SUBMIT (R625): both available dies verify, the challenge is used up in every case. -/
def Dev.submit (d : Dev) : Dev :=
  let code := ((d.nvmDies.map d.tokenCheck).find? (· != 0)).getD 0
  let acted := if code = 0 then d.tokenAct else d
  let d := { acted with boot := { acted.boot with chal := none } }
  let d := (d.s pgNVM R.NVM_UNLOCK_RESULT code).cause pgNVM 2
  if code = 0 then d else d.raise 372

/-- The boundary-scan chain is closed (R62): it runs through both interface dies, and opens when either is unpowered. -/
def Dev.chainClosed (d : Dev) : Bool := d.supplyOk (.vsup .a) && d.supplyOk (.vsup .b)

/-- JTAG_CHALLENGE (R626): the register reads the challenge, and Update-DR issues a new one. -/
def Dev.jtagChallenge (d : Dev) (e : Option (List Word)) : Dev :=
  if !d.chainClosed ∨ d.nvmDies = [] then d
  else
    let old := (List.range 8).map fun i => BitVec.ofNat 32 (d.g pgNVM R.NVM_CHAL_C i)
    { d with host := { d.host with readData := old } }.challenge e

/-- JTAG_TOKEN_SUBMIT (R626). -/
def Dev.jtagToken (d : Dev) (ws : List Word) : Dev :=
  if !d.chainClosed ∨ d.nvmDies = [] then d
  else { d with boot := { d.boot with token := (List.range 945).map fun i => (i, ws.getD i 0) } }.submit

/-! ## Objects and quotes -/

/-- Word `i` of the object that OBJSEL names (R630); words past an object's end read 0. -/
def Dev.objWord (d : Dev) : Word :=
  let i := d.g pgNVM R.NVM_OBJSEL_IDX
  let l : Lane := if d.g pgNVM R.NVM_OBJSEL_DIE = 1 then .b else .a
  match d.g pgNVM R.NVM_OBJSEL_OBJ with
  | 0 => d.tokenWord i
  | 1 => (d.boot.lists.at l).getD i 0
  | 2 => (d.boot.sigs.at l).getD i 0
  | _ =>
    let n := d.nvm.at l
    if n.identSet ∧ i < 328 then
      let b := fun k => Config.mldsaPublic n.key (4 * i + k)
      bytesWord (b 0) (b 1) (b 2) (b 3)
    else 0

/-- Advance OBJSEL.IDX, as each access to OBJDATA does. -/
def Dev.objNext (d : Dev) : Dev := d.s pgNVM R.NVM_OBJSEL_IDX ((d.g pgNVM R.NVM_OBJSEL_IDX + 1) % 1024)

/-- A write to OBJDATA of the unlock token. -/
def Dev.objWrite (d : Dev) (v : Word) : Dev :=
  let i := d.g pgNVM R.NVM_OBJSEL_IDX
  ({ d with boot := { d.boot with token := if i < 945 then (i, v) :: d.boot.token.filter (·.1 != i) else d.boot.token } }).objNext

/-- QUOTE with GO (R628). -/
def Dev.quoteGo (d : Dev) : Dev :=
  let l : Lane := if d.g pgNVM R.NVM_QUOTE_DIE = 1 then .b else .a
  if !(d.nvm.at l).identSet then d.s pgNVM R.NVM_QUOTE_RESULT 2
  else if !d.up (.iface l) then d.s pgNVM R.NVM_QUOTE_RESULT 3
  else if d.boot.quote.isSome then d.s pgNVM R.NVM_QUOTE_RESULT 4
  else
    let nonce := (List.range 8).map fun i => BitVec.ofNat 32 (d.g pgNVM R.NVM_QNONCE_N i)
    ({ d with boot := { d.boot with quote := some (l, nonce) } }.s pgNVM R.NVM_QUOTE_BUSY 1).s pgNVM R.NVM_QUOTE_RESULT 0

/-- A word as the interface die of lane `l` reads it; 0 where no copy is available. -/
def Dev.seenWord (d : Dev) (l : Lane) (p o : Nat) : Word :=
  match d.seenCopy l p with
  | some c => d.pageWord 63 c p o
  | none => 0

/-- The measurement list of the die of lane `l` (R628): eight hashes of 32 bytes. -/
def Dev.measurement (d : Dev) (l : Lane) : List Byte :=
  let n := d.nvm.at l
  let zeros : List Byte := List.replicate 32 0
  let runs := fun (k : Lane) => match d.runBank k with | some b => (d.nvm.at k).message b | none => zeros
  let svn := leBytes 8 (2 ^ n.svn - 1)
  let otp := (List.range 32).map (Config.rootHash l.idx) ++ (List.range 32).map (Config.unlockHash l.idx) ++ svn ++ serialBytes
  let seals := (List.range 45).flatMap fun p => wordBytes (d.seenWord l p 0x20)
  let host := wordBytes (d.seenWord l pgHOST 0x4C) ++ wordBytes (d.seenWord l pgHOST 0x40) ++ leBytes 4 d.host.debugOwner.toNat
  (List.range 32).map Config.romHash ++ sha3 otp ++ sha3 (runs .a) ++ sha3 (runs .b) ++
    sha3 ((d.quill.at l).bankBytes (d.qBank l)) ++ sha3 seals ++ sha3 host ++ sha3 zeros

/-- A quote is signed (R630): the measured list and the signature over it and the nonce are stored. -/
def Dev.quoteMade (d : Dev) (l : Lane) (nonce : List Word) : Dev :=
  let m := d.measurement l
  let msg := sha3 (m ++ nonce.flatMap wordBytes)
  let sig := bytesWords ((List.range 2420).map (Config.mldsaSign (d.nvm.at l).key msg))
  let d := { d with boot := { d.boot with lists := d.boot.lists.put l (bytesWords m), sigs := d.boot.sigs.put l sig } }
  (d.s pgNVM R.NVM_QUOTE_RESULT 1).cause pgNVM 3

/-- QUOTE_COMPLETE (R628): the list, and the signature over SHA3-256 of the list and the nonce. -/
def Dev.quoteComplete (d : Dev) : Dev :=
  match d.boot.quote with
  | none => d
  | some (l, nonce) =>
    let d := { d with boot := { d.boot with quote := none } }.s pgNVM R.NVM_QUOTE_BUSY 0
    if !d.up (.iface l) then d.s pgNVM R.NVM_QUOTE_RESULT 3
    else
      d.quoteMade l nonce

end Sys2Proof.Machine
end

