-- ==== Sys2Proof/Machine/Plan.lean ====
section
/-! DEFINITION. What each register adds to the checks of R116: the block conditions and field values its chapter gives, the claims
and guards of R631, and what a write of it sets off. -/

namespace Sys2Proof.Machine

/-- A write as the checks see it: who writes, where (page, offset in the page or in its region), the word, the present word, and the
bits of RW, RWS and RWL fields. -/
structure Wr where
  raw : Writer
  who : Who
  page : Nat
  o : Nat
  v : Word
  cur : Word
  mask : Word
  deriving DecidableEq, Repr

/-- The value a write gives a field. -/
def Wr.f (w : Wr) (f : Fld) : Nat := f.get w.v

/-- The value the field has. -/
def Wr.c (w : Wr) (f : Fld) : Nat := f.get w.cur

/-- The write changes the field (R116). -/
def Wr.ch (w : Wr) (f : Fld) : Bool := w.f f != w.c f

/-- The write changes no field. -/
def Wr.same (w : Wr) : Bool := (w.v ^^^ w.cur) &&& w.mask == 0

/-- OWNER ports and firmware. -/
def Wr.priv (w : Wr) : Bool := w.who.fw || w.who.cls == .owner

/-- OWNER ports alone. -/
def Wr.ownerPort (w : Wr) : Bool := !w.who.fw && w.who.cls == .owner

/-- What a register adds to the checks, and what its write does beyond the plain store: `oper` admits OPERATOR ports whatever CLASSES
holds, `cls` is a further class condition, `claims` are resources whose device claims the write may change, `ignore` lets the write
pass without effect, `keep` are bits that the plain store leaves alone, `refuseCls` and `refuseBlk` are what a refusal leaves
behind, `run` is what follows the store. -/
structure Plan where
  oper : Bool := false
  cls : Bool := true
  refuseCls : Dev → Dev := id
  claims : List Nat := []
  ignore : Bool := false
  lock : Bool := true
  stag : Bool := true
  block : Bool := true
  refuseBlk : Dev → Dev := id
  value : Bool := true
  keep : Word := 0
  run : Dev → Dev := id

/-! ## Claims of device functions, and guards (R631 to R637) -/

/-- The lanes whose control die is available. -/
def Dev.ctlLanes (d : Dev) : List Lane := [Lane.a, Lane.b].filter fun l => d.dieUp l false

/-- SRC and TB of a leg in some modulator. -/
def Dev.legHas (d : Dev) (n : Nat) (srcs : List Nat) (tb : Option Nat) : Bool :=
  d.ctlLanes.any fun l => srcs.contains (d.gl l (pgMOD l) R.MOD_LEG_CFG_SRC n) &&
    (match tb with | some t => d.gl l (pgMOD l) R.MOD_LEG_CFG_TB n == t | none => true)

/-- The device functions whose condition of R631 holds for a resource, highest first. -/
def Dev.devWants (d : Dev) (r : Nat) : List Nat :=
  let pick := fun (l : List (Bool × Nat)) => (l.filter (·.1)).map (·.2)
  if r < 2 then
    pick [((List.range 6).any fun n => d.legHas n [1, 2] (some r), 0x43),
      ([(0 : Fin 2), 1].any fun x => d.g (pgFIELD x) R.FIELD_AXCFG_EN == 1 && d.g (pgMOTION x) R.MOTION_CFG_TB == r, 0x44),
      ((List.range 6).any fun n => d.legHas n [3] (some r), 0x45)]
  else if r < 8 then pick [(d.legHas (r - 2) [1, 2] none, 0x43), (d.legHas (r - 2) [3] none, 0x45)]
  else if r < 14 then
    let c : Fin 2 := if r < 11 then 0 else 1
    let f := match (r - 8) % 3 with | 0 => R.CONV_GRP0_WEN | 1 => R.CONV_GRP1_WEN | _ => R.CONV_GRP2_WEN
    pick [(d.ctlLanes.any fun l => d.gl l (pgCONV l c) f == 1, 0x43),
      (c == 1 && d.g (pgFIELD 1) R.FIELD_AXCFG_EN == 1 && d.g (pgFIELD 1) R.FIELD_AXCFG_MODE == 2, 0x45)]
  else if r = 72 then pick [(d.ctlLanes.any fun l => d.gl l (pgMOD l) R.MOD_TB0_CFG_SYNCIN == 1, 0x43)]
  else if r = 73 then pick [(d.ctlLanes.any fun l => d.gl l (pgMOD l) R.MOD_SYNC_OUTEN == 1, 0x43)]
  else if 96 ≤ r then
    pick [([(0 : Fin 2), 1].any fun x => d.g (pgMOTION x) R.MOTION_WAITSRC_EN == 1 &&
      96 + 32 * d.g (pgMOTION x) R.MOTION_WAITSRC_UNIT + 8 * d.g (pgMOTION x) R.MOTION_WAITSRC_CH +
        d.g (pgMOTION x) R.MOTION_WAITSRC_CMP == r, 0x44)]
  else []

/-- The resource whose claim a write would make and cannot (R634): `a` is the device with the word stored. A claim that the same
write ends does not stand in its way. -/
def Dev.claimFails (d a : Dev) (rs : List Nat) : Option Nat :=
  rs.find? fun r =>
    let new := (a.devWants r).filter fun f => !(d.devWants r).contains f
    let ends := (d.devWants r).filter fun g => !(a.devWants r).contains g
    new.any fun f => !ends.contains (d.resOwner r) && (d.deviceClaim r f).isNone

/-- Claims that a write ends are released, and those it makes are taken (R634): `d0` is the device before the write. -/
def Dev.reclaim (d0 d : Dev) (rs : List Nat) : Dev :=
  rs.foldl (fun d r =>
    let now := d.devWants r
    let d := ((d0.devWants r).filter fun f => !now.contains f).foldl (fun d f => d.deviceRelease r f) d
    now.foldl (fun d f => (d.deviceClaim r f).getD d) d) d

/-- The guard of a register that itself holds the condition of a device claim: while the device function owns the resource, the
configuration can still be taken back by OWNER ports and firmware (DEDUCED: R634 releases a claim by such a write). -/
def Dev.guardHeld (d : Dev) (w : Wr) (r : Nat) : Bool :=
  d.resOk w.who r || ((d.resTaker r).isNone && 0x40 ≤ d.resOwner r && d.resOwner r != 255 && w.priv)

/-! ## Modes -/

/-- STANDBY and MAINTENANCE, in which configuration is writable. -/
def Dev.cfgMode (d : Dev) : Bool := d.modeIs [.standby, .maintenance]

/-- READY, RUN, HOLD and DISCHARGE (R120, R168, R289). -/
def Dev.liveMode (d : Dev) : Bool := d.modeIs [.ready, .run, .hold, .discharge]

/-! ## Pages 0x00 to 0x04 -/

/-- BLOCK is selected on an axis for which R236 asks for a small configuration. -/
def Dev.blockAxis (d : Dev) : Bool :=
  [(0 : Fin 2), 1].any fun x => d.g (pgFIELD x) R.FIELD_AXCFG_MODE == 1 && !(x == 1 && d.powerCfg == 3)

/-- Some leg has BOOT = 1. -/
def Dev.anyBoot (d : Dev) : Bool :=
  d.ctlLanes.any fun l => (List.range 6).any fun n => d.gl l (pgMOD l) R.MOD_LEG_CFG_BOOT n == 1

/-- SYS: mode and reset requests (R117), configuration and VNOM (R5, R109). -/
def planSys (d a : Dev) (w : Wr) : Plan :=
  match w.o with
  | 0x44 => { oper := true, run := fun d => d.modeReq w.who.cls (w.f R.SYS_MODE_REQ_TARGET) }
  | 0x48 =>
    let size := w.f R.SYS_CONFIG_SIZE
    { block := !(w.ch R.SYS_CONFIG_POWER || w.ch R.SYS_CONFIG_SIZE) || d.cfgMode
      value := !w.ch R.SYS_CONFIG_SIZE || match size with
        | 1 => decide (d.g pgSYS R.SYS_VNOM_V ≤ 150)
        | 2 => !([(0 : Fin 2), 1].any fun x => d.g (pgFIELD x) R.FIELD_AXCFG_EN == 1 && d.g (pgFIELD x) R.FIELD_AXCFG_MODE != 1)
        | _ => !d.anyBoot && !a.blockAxis
      run := fun d =>
        let d := if w.ch R.SYS_CONFIG_SIZE ∧ size = 0 then (d.s (pgFIELD 0) R.FIELD_FW_EN 1).s (pgFIELD 1) R.FIELD_FW_EN 1 else d
        if w.ch R.SYS_CONFIG_DISCH_ON_HVIL then d.auto else d }
  | 0x4C => { run := fun d => d.resetReq w.v }
  | 0x60 =>
    { block := !w.ch R.SYS_VNOM_V || d.cfgMode
      value := !(d.g pgSYS R.SYS_CONFIG_SIZE == 1 && 150 < w.f R.SYS_VNOM_V) }
  | _ => {}

/-- CLK.SRC (R81): the always-on domains go back to their RC where it is selected. -/
def planClk (w : Wr) : Plan :=
  match w.o with
  | 0x40 => { run := fun d => if w.f R.CLK_SRC_AON_SEL = 1 then
      { d with clocks := { a := { d.clocks.a with aonXtal := false }, b := { d.clocks.b with aonXtal := false } } } else d }
  | _ => {}

/-- The port as which lane `l`'s core is checked (R137). -/
def Dev.setProxy (d : Dev) (l : Lane) (p : Option Nat) : Dev := { d with host := { d.host with proxy := d.host.proxy.put l p } }

/-- HOST: link relay, port classes and the proxied port (R132 to R137). -/
def planHost (w : Wr) : Plan :=
  match w.o with
  | 0x40 => { value := !(w.f R.HOST_CFG_LINKA_RELAY == 1 && w.c R.HOST_CFG_LINKA_RELAY == 0) }
  | 0x4C =>
    let cl := fun (x : Word) (n : Nat) => x.toNat / 4 ^ n % 4
    let ports := [0, 2, 3, 4, 5, 6, 7, 8, 9]
    { cls := w.ownerPort
      value := ports.all fun n => decide (cl w.v n ≤ cl w.cur n) && (cl w.v n != 1 || n == 4 || n == 6)
      run := fun d => d.releaseHolders fun i => ports.contains i && cl w.v i < 2 && 2 ≤ cl w.cur i }
  | 0x50 =>
    let fw : Bool := match w.raw with | .laneFw _ => true | _ => false
    { cls := fw || !w.ch R.HOST_PROXY_EN
      value := [0, 3, 4, 5, 6, 9].contains (w.f R.HOST_PROXY_PORT) &&
        !(w.f R.HOST_PROXY_EN == 1 && w.f R.HOST_PROXY_PORT == 0)
      run := fun d => match w.raw with
        | .laneFw l => d.setProxy l (if w.f R.HOST_PROXY_EN = 1 then some (w.f R.HOST_PROXY_PORT) else none)
        | _ => d }
  | _ => {}

/-! ## Measurement (chapter 05) -/

/-- CONV_xx: R156, R160, R162, R168. -/
def planConv (d : Dev) (l : Lane) (c : Fin 2) (w : Wr) : Plan :=
  let grp := fun (g : Fin 3) (fi : Fld) =>
    let r := 8 + 3 * c.val + g.val
    ({ claims := [r], block := w.same || d.guardHeld w r, value := inputCode c (w.f fi)
       run := fun d => if w.ch fi then d.inputChanged l c g (w.c fi) else d } : Plan)
  match w.o with
  | 0x40 =>
    { block := !(w.ch R.CONV_MODE_TB || w.ch R.CONV_MODE_GANG || w.ch R.CONV_MODE_PHASE) || d.cfgMode
      run := fun d => if w.ch R.CONV_MODE_GANG then d.restartRotation l c else d }
  | 0x44 =>
    { block := !(w.c R.CONV_REF_EN == 1 && w.f R.CONV_REF_EN == 0 && d.liveMode)
      run := fun d => if w.ch R.CONV_REF_EN then d.refEnable l c (w.f R.CONV_REF_EN == 1) else d }
  | 0x48 => { run := fun d => if w.c R.CONV_CAL_AUTO = 0 ∧ w.f R.CONV_CAL_AUTO = 1 then d.restartTurn l c else d }
  | 0x4C => grp 0 R.CONV_GRP0_INPUT
  | 0x50 => grp 1 R.CONV_GRP1_INPUT
  | 0x54 => grp 2 R.CONV_GRP2_INPUT
  | o =>
    if 0x58 ≤ o ∧ o < 0x70 then { block := w.same || d.resOk w.who (8 + 3 * c.val + (o - 0x58) / 8) }
    else if 0xC0 ≤ o ∧ o < 0xE4 then { block := w.same || w.who.fw || d.gl l (pgCONV l c) R.CONV_CAL_AUTO == 0 }
    else {}

/-- SEQ_x: R162, R184, R190. -/
def planSeq (d : Dev) (l : Lane) (w : Wr) : Plan :=
  let conv := fun (n : Nat) => if n = 1 then (1 : Fin 2) else 0
  match w.o with
  | 0x40 => { run := fun d => if w.f R.SEQ_SEQCFG_START = 1 then d.seqStart l else d }
  | 0x54 =>
    { block := !(w.f R.SEQ_URGENT3_REQ == 1 && d.gl l (pgSEQ l) R.SEQ_URGENT3_REQ == 1)
      value := inputCode (conv (w.f R.SEQ_URGENT3_CONV)) (w.f R.SEQ_URGENT3_INPUT), keep := 0x80000000#32
      run := fun d => d.urgentWrite l w.v }
  | o =>
    if 0x100 ≤ o ∧ o < 0x300 ∧ o % 8 = 0 then
      { value := inputCode (conv (w.f R.SEQ_ENTRY_CFG_CONV)) (w.f R.SEQ_ENTRY_CFG_INPUT) }
    else {}

/-! ## Position (chapter 06) -/

/-- The axes that use a position channel are in neither RUN nor STEP (R212). -/
def Dev.chanFree (d : Dev) (u : Lane) (c : Fin 4) : Bool :=
  (d.chanAxes u c).all fun x => !([AxState.run, .step].contains (d.axState x))

/-- Values of FRM_CFG for a source (R664), and of FRM_TIME. -/
def frmCfgOk (sel : Nat) (v : Word) : Bool :=
  let b := fun (hi lo : Nat) => v.toNat / 2 ^ lo % 2 ^ (hi + 1 - lo)
  match sel with
  | 3 => (List.range 6).all fun i => decide (b (3 * i + 2) (3 * i) ≤ 5)
  | 4 => decide (b 23 20 ≤ 4)
  | 5 => decide (8 ≤ b 31 26) && decide (b 31 26 ≤ 48)
  | 6 => decide (1 ≤ b 31 29) && decide (b 31 29 ≤ 6) && decide (1 ≤ b 25 23) && decide (b 25 23 ≤ 6) &&
      decide (b 28 26 + b 25 23 ≤ b 31 29) && b 21 20 != 3
  | 7 => decide (1 ≤ b 31 29) && decide (b 31 29 ≤ 6) && decide (1 ≤ b 25 23) && decide (b 25 23 ≤ 6) &&
      decide (b 28 26 + b 25 23 ≤ b 31 29) && b 21 20 != 3
  | _ => true

def frmTimeOk (sel : Nat) (v : Word) : Bool :=
  let b := fun (hi lo : Nat) => v.toNat / 2 ^ lo % 2 ^ (hi + 1 - lo)
  match sel with
  | 5 => decide (50 ≤ b 31 19) && decide (b 31 19 ≤ 5000) && decide (1 ≤ b 18 11)
  | 6 => decide (6 ≤ b 31 24) && decide (b 31 24 ≤ 180)
  | 7 => decide (6 ≤ b 31 24) && decide (b 31 24 ≤ 180)
  | _ => true

/-- Bits of FRM_CFG, and of FRM_TIME, that a source's layout leaves reserved (R664). -/
def frmCfgKeep (sel : Nat) : Word :=
  match sel with
  | 4 => 0xF#32
  | 5 => 0x1F#32
  | 6 => 0x7FFFF#32
  | 7 => 0x7FFFF#32
  | _ => 0

def frmTimeKeep (sel : Nat) : Word :=
  match sel with
  | 6 => 0xFFFF#32
  | 7 => 0xFFFF#32
  | _ => 0

/-- The port that SEL names, by the lowest SEL that names it: quadrature and pulse train share the encoder port (R191). -/
def selPort (sel : Nat) : Nat := if sel = 2 then 1 else sel

/-- A source register of channel c (the first channel's stands apart in the table). -/
def planSel (d : Dev) (u : Lane) (c : Fin 4) (w : Wr) : Plan :=
  let sel := w.f R.POS_SRC0_SEL
  { block := !w.ch R.POS_SRC0_SEL || d.cfgMode
    value := sel == 0 || [(0 : Fin 4), 1, 2, 3].all fun k => k == c || selPort (d.chSel u k) != selPort sel
    run := fun d => if w.ch R.POS_SRC0_SEL then d.sourceSelect u c sel else d }

/-- POS_x: R192, R199, R211, R212, R223 to R225, R233, R664. A change of a role ends a takeover of its port: the new role is the port's
role (R232). R199 gives a tooth wheel a CPR of 8 to 1,024 and has a larger one refused; DESIGN CHOICE (log 107): a CPR below 8 is
accepted whatever KIND is. DESIGN CHOICE (log 135): a write of CPR reduces REVPOS modulo the new CPR (R211 keeps it below CPR). -/
def planPos (d : Dev) (u : Lane) (w : Wr) : Plan :=
  if w.o = 0x40 then
    { block := !([R.POS_CFG_SSI_ROLE, R.POS_CFG_RES_ROLE, R.POS_CFG_SSI_TERM, R.POS_CFG_ENC_TERM].any w.ch) || d.cfgMode
      run := fun d => d.onPos u fun p => { p with resDrive := p.resDrive && !w.ch R.POS_CFG_RES_ROLE
                                                  ssiDrive := p.ssiDrive && !w.ch R.POS_CFG_SSI_ROLE } }
  else if w.o < 0x50 ∨ 0x2F0 ≤ w.o then {}
  else
    let c : Fin 4 := ⟨(w.o - 0x50) / 0xA8 % 4, by omega⟩
    let q := (w.o - 0x50) % 0xA8
    let guard := fun (n : Nat) => w.same || d.resOk w.who (96 + 32 * u.idx + 8 * c.val + n)
    match q with
    | 0x00 => planSel d u c w
    | 0x08 =>
      { value := d.ch u c R.POS_TW_KIND == 0 || decide (w.f R.POS_CPR_CPR ≤ 1024)
        run := fun d => d.setCh u c R.POS_REVPOS_REVPOS (d.ch u c R.POS_REVPOS_REVPOS % max 1 (d.chCpr u c)) }
    | 0x0C =>
      { run := fun d => if w.ch R.POS_IDX_CFG_EN ∧ w.f R.POS_IDX_CFG_EN = 1 ∧ d.chSel u c = 1 ∧ (d.pos.at u).faultZ then
          d.declareInvalid u c else d }
    | 0x14 => { value := decide (w.v.toInt ≤ d.chS u c R.POS_LIM_HI_LIM) }
    | 0x18 => { value := decide (d.chS u c R.POS_LIM_LO_LIM ≤ w.v.toInt) }
    | 0x20 => { value := w.f R.POS_TW_KIND == 0 || decide (d.chCpr u c ≤ 1024) }
    | 0x24 => { value := frmCfgOk (d.chSel u c) w.v, keep := frmCfgKeep (d.chSel u c) }
    | 0x28 => { value := frmTimeOk (d.chSel u c) w.v, keep := frmTimeKeep (d.chSel u c) }
    | 0x58 => { block := d.chanFree u c, run := fun d => d.posSet u c w.v }
    | _ =>
      if 0x64 ≤ q ∧ q < 0x84 then
        let n : Fin 8 := ⟨(q - 0x64) / 4 % 8, by omega⟩
        { block := guard n.val, run := fun d => d.compWritten u c n none }
      else if 0x84 ≤ q ∧ q < 0xA4 then
        let n : Fin 8 := ⟨(q - 0x84) / 4 % 8, by omega⟩
        { block := guard n.val, value := !(w.f R.POS_CCFG0_MODE == 2 && n.val % 2 == 1)
          run := fun d => d.compWritten u c n (some (w.c R.POS_CCFG0_MODE)) }
      else {}

/-! ## Field and motion (chapters 07 and 09) -/

/-- The legs of an axis name one timebase in both modulators (R361). -/
def Dev.axisOneTb (d : Dev) (x : Fin 2) : Bool :=
  let tbs := d.ctlLanes.flatMap fun l => (d.axisLegs x).map fun n => d.gl l (pgMOD l) R.MOD_LEG_CFG_TB n.val
  tbs.all (· == 0) || tbs.all (· == 1)

/-- A channel code of ANGSRC and AXCFG: bits 4 to 2 are 0 (R284, R503). -/
def angCodeOk (code : Nat) : Bool := code / 4 % 8 == 0

/-- FIELD_n: R236, R253, R255, R272, R287, R641. -/
def planField (d : Dev) (x : Fin 2) (w : Wr) : Plan :=
  match w.o with
  | 0x40 =>
    let en := w.f R.FIELD_AXCFG_EN
    let mode := w.f R.FIELD_AXCFG_MODE
    let size := d.g pgSYS R.SYS_CONFIG_SIZE
    let split2 := x == 1 && d.powerCfg == 3
    { claims := [0, 1, 11, 12, 13]
      block := w.same || d.axState x == .off
      value := (mode != 1 || split2 || size != 0) && (mode != 2 || split2) && !(size == 2 && en == 1 && mode != 1) &&
        !(en == 1 && !d.axisOneTb x) && !(en == 1 && !d.axisExists x) }
  | 0x44 =>
    let op := w.f R.FIELD_CMD_OP
    let epochOk := w.f R.FIELD_CMD_EPOCH == d.g (pgFIELD x) R.FIELD_ROLE_EPOCH
    let shut := d.thermal.active && (op == 1 || op == 4)
    let r : Option Dev := match op with
      | 1 => if d.anyUncleared .stop then none else d.axisStart x
      | 2 => d.axisStopCmd x
      | 3 => d.axisOff x
      | _ => d.axisClr x
    let act : Dev → Option Dev := fun d => match op with
      | 1 => d.axisStart x
      | 2 => d.axisStopCmd x
      | 3 => d.axisOff x
      | _ => d.axisClr x
    { block := epochOk && (op == 0 || 4 < op || (!shut && r.isSome))
      refuseBlk := fun d => if !epochOk then d.epochMismatch x else if op = 1 ∧ !shut then d.startRefused x else d
      run := fun d => (act d).getD d }
  | 0x50 => { run := fun d => d.tcmdTouch x }
  | 0x60 => { value := angCodeOk (w.f R.FIELD_ANGSRC_PRI) && angCodeOk (w.f R.FIELD_ANGSRC_SEC) }
  | 0x6C => { value := decide (w.f R.FIELD_BAND_HB_LO < w.f R.FIELD_BAND_HB_HI) }
  | 0x88 => { run := fun d => if w.f R.FIELD_MAPCFG_SWAP = 1 then d.mapSwapReq x else d }
  | 0x98 => { value := !(w.f R.FIELD_FW_EN == 0 && d.g pgSYS R.SYS_CONFIG_SIZE == 0) }
  | o =>
    if 0x100 ≤ o ∧ o < 0x180 then
      { keep := 0xFFFFFFFF#32
        run := fun d => d.ctlLanes.foldl (fun d l => d.coefWrite l (16 * x.val + (o - 0x100) / 8) (o % 8 == 4) w.v) d }
    else {}

/-- A change of WAITSRC moves the claim of its compare. -/
def waitRes (w : Word) : Nat :=
  96 + 32 * R.MOTION_WAITSRC_UNIT.get w + 8 * R.MOTION_WAITSRC_CH.get w + R.MOTION_WAITSRC_CMP.get w

/-- MOTION_n: R325, R327, R339, R342. -/
def planMotion (d : Dev) (x : Fin 2) (w : Wr) : Plan :=
  match w.o with
  | 0x40 =>
    let clk := w.ch R.MOTION_CFG_SDIV || w.ch R.MOTION_CFG_TB
    { claims := [0, 1]
      block := !(clk || w.ch R.MOTION_CFG_MODE) || [actIDLE, actTRACKING].contains (d.act x)
      run := fun d => if clk then d.eachUnit x fun d => d.onMotion x fun m => { m with started := false } else d }
  | 0x44 =>
    let op := w.f R.MOTION_CMD_OP
    let epochOk := w.f R.MOTION_CMD_EPOCH == d.g (pgFIELD x) R.FIELD_ROLE_EPOCH
    { block := epochOk && d.axisExists x
      refuseBlk := fun d => if epochOk then d else d.epochMismatch x
      run := fun d => d.motionCmd x op }
  | 0x6C => { claims := [waitRes w.cur, waitRes w.v] }
  | 0xA4 => { value := decide (d.g (pgMOTION x) R.MOTION_CHOP_TMIN ≤ w.f R.MOTION_CHOP2_TMAX) }
  | o => if 0x5C ≤ o ∧ o ≤ 0x68 then { value := w.v != 0 } else {}

/-! ## Quill (chapter 08) -/

/-- QUILL_x: R296, R314, R322. -/
def planQuill (d : Dev) (l : Lane) (w : Wr) : Plan :=
  let off := w.same || d.gl l (pgQUILL l) H.CTRL_ENABLE == 0
  match w.o with
  | 0x44 => { block := off, value := !(d.powerCfg == 2 && 2 ≤ w.f R.QUILL_TRIG_FRAMES) }
  | 0x48 => { block := off, value := !(d.powerCfg == 2 && 2 ≤ w.f R.QUILL_TRIG_FRAMES) }
  | 0x4C => { keep := 2, run := fun d => if w.f R.QUILL_PROG_SWAP = 1 then (d.tinkerNeedBoth false 30).progSwap else d }
  | 0x50 => { block := w.same || d.qBank l != 0 }
  | 0x54 => { block := w.same || d.qBank l != 1 }
  | 0x58 => { block := off }
  | 0x5C => { block := off, value := decide (w.f R.QUILL_EXPORT_DM_BASE + w.f R.QUILL_EXPORT_DM_COUNT ≤ 4096) }
  | 0x60 => { block := off }
  | 0x64 => { block := off }
  | _ => {}

/-! ## Modulator (chapter 10) -/

/-- Every commit group has members of one timebase only (R366). -/
def Dev.groupsOk (d : Dev) (l : Lane) : Bool :=
  (List.range 4).all fun g => (d.groupAddrs l 0 g).isEmpty || (d.groupAddrs l 1 g).isEmpty

/-- No leg with SRC = Quill is on a timebase in ratio mode (R370). -/
def Dev.ratioOk (d : Dev) (l : Lane) : Bool :=
  (List.range 6).all fun n => !(d.gl l (pgMOD l) R.MOD_LEG_CFG_SRC n == 1 &&
    d.gl l (pgMOD l) (tbUpd (if d.gl l (pgMOD l) R.MOD_LEG_CFG_TB n = 1 then 1 else 0)) == 2)

/-- A commit that no latch point has taken yet holds the member at an address (R366). -/
def Dev.memberFree (d : Dev) (l : Lane) (a : Nat) : Bool :=
  (d.mods.at l).groups.all fun g => !(d.groupAddrs l 0 g).contains a && !(d.groupAddrs l 1 g).contains a

/-- A leg's registers. -/
def planLeg (d a : Dev) (l : Lane) (n : Fin 6) (w : Wr) : Plan :=
  let same := w.same
  let src := d.gl l (pgMOD l) R.MOD_LEG_CFG_SRC n.val
  let mine : Bool := match w.raw with | .islandFw _ => true | _ => src == 0
  let stag := d.memberFree l (pageAddr (pgMOD l) w.o)
  let due := fun (d : Dev) => d.autoDue l (d.legTb l n) (pageAddr (pgMOD l) w.o)
  match (w.o - 0x80) % 0x20 with
  | 0x00 =>
    { claims := [0, 1, 2 + n.val]
      block := same || (!d.modeIs [.run] && d.guardHeld w (2 + n.val))
      value := (same || ([(0 : Fin 2), 1].all fun x => a.g (pgFIELD x) R.FIELD_AXCFG_EN == 0 || a.axisOneTb x) && a.groupsOk l && a.ratioOk l)
        && !(w.f R.MOD_LEG_CFG_BOOT == 1 && d.g pgSYS R.SYS_CONFIG_SIZE == 0) }
  | 0x04 =>
    { stag := stag, block := same || (mine && d.resOk w.who (2 + n.val)), value := decide (w.f R.MOD_LEG_MODE_MODE ≤ 5), run := due }
  | 0x08 =>
    let t : Fin 2 := if d.gl l (pgMOD l) R.MOD_LEG_CFG_TB n.val = 1 then 1 else 0
    { stag := stag, block := same || (mine && d.resOk w.who (2 + n.val))
      value := d.gl l (pgMOD l) (tbUpd t) != 2 || decide (w.f R.MOD_LEG_CMP_VALUE < 65536), run := due }
  | 0x0C => { stag := stag, block := same || d.resOk w.who (2 + n.val), run := due }
  | 0x10 => { block := same || d.resOk w.who (2 + n.val) }
  | _ => {}

/-- MOD_x: R357, R358, R360, R366, R370, R378, R382. -/
def planMod (d a : Dev) (l : Lane) (w : Wr) : Plan :=
  let p := pgMOD l
  let same := w.same
  match w.o with
  | 0x40 =>
    let cfg := w.ch R.MOD_TB0_CFG_SYNCIN || w.ch R.MOD_TB0_CFG_UPD || w.ch R.MOD_TB0_CFG_CG
    { claims := [72]
      block := same || (d.resOk w.who 0 && !(cfg && d.gl l p R.MOD_TB0_CFG_EN == 1) && (!w.ch R.MOD_TB0_CFG_SYNCIN || d.guardHeld w 72))
      value := a.groupsOk l && a.ratioOk l
      run := fun d => (if w.c R.MOD_TB0_CFG_EN = 0 ∧ w.f R.MOD_TB0_CFG_EN = 1 then d.tinkerNeed (.ctl l) 31 else d).tbJudgeAll }
  | 0x44 => { stag := d.memberFree l (pageAddr p 0x44), block := same || d.resOk w.who 0, value := decide (5000 ≤ w.f R.MOD_TB0_PER_PER)
              run := fun d => d.autoDue l 0 (pageAddr p 0x44) }
  | 0x4C =>
    let cfg := [R.MOD_TB1_CFG_PHASE, R.MOD_TB1_CFG_LOCK, R.MOD_TB1_CFG_UPD, R.MOD_TB1_CFG_CG].any w.ch
    { block := same || (d.resOk w.who 1 && !(cfg && d.gl l p R.MOD_TB1_CFG_EN == 1))
      value := a.groupsOk l && a.ratioOk l
      run := fun d => (if w.c R.MOD_TB1_CFG_EN = 0 ∧ w.f R.MOD_TB1_CFG_EN = 1 then d.tinkerNeed (.ctl l) 31 else d).tbJudgeAll }
  | 0x50 => { stag := d.memberFree l (pageAddr p 0x50), block := same || d.resOk w.who 1, value := decide (5000 ≤ w.f R.MOD_TB1_PER_PER)
              run := fun d => d.autoDue l 1 (pageAddr p 0x50) }
  | 0x58 => { run := fun d => d.commitGroups l (w.f R.MOD_COMMIT_G) }
  | 0x60 =>
    { claims := [73]
      block := (!w.ch R.MOD_SYNC_OUTEN || d.guardHeld w 73) &&
        (!(w.ch R.MOD_SYNC_INDLY || w.ch R.MOD_SYNC_MAXADJ) || d.resOk w.who 72) }
  | 0x78 => { run := fun d => d.tripClr l (w.v.toNat % 16) }
  | 0x7C => { run := fun d => d.swTrip l (w.f R.MOD_SWTRIP_TRIG == 1) }
  | o =>
    if 0x80 ≤ o ∧ o < 0x140 then planLeg d a l ⟨(o - 0x80) / 0x20 % 6, by omega⟩ w else {}

/-! ## Gate drive and protection (chapter 11) -/

/-- The levels and limits of an output's words (R399, R404, R408, R409): a level code is at most 240. -/
def gateValue (q : Nat) (w : Wr) : Bool :=
  let lv := fun (f : Fld) => decide (w.f f ≤ 240)
  match q with
  | 0x04 => lv R.GATE_ON0_PRE_V && lv R.GATE_ON0_END_V && decide (w.f R.GATE_ON0_PRE_V < w.f R.GATE_ON0_END_V)
  | 0x08 => lv R.GATE_OFF0_PRE_V && lv R.GATE_OFF0_END_V && decide (w.f R.GATE_OFF0_END_V < w.f R.GATE_OFF0_PRE_V)
  | 0x0C => lv R.GATE_ON1_PRE_V && lv R.GATE_ON1_END_V && decide (w.f R.GATE_ON1_PRE_V < w.f R.GATE_ON1_END_V)
  | 0x10 => lv R.GATE_OFF1_PRE_V && lv R.GATE_OFF1_END_V && decide (w.f R.GATE_OFF1_END_V < w.f R.GATE_OFF1_PRE_V)
  | 0x18 => decide (w.f R.GATE_ADLIM_IMIN ≤ w.f R.GATE_ADLIM_IMAX)
  | 0x20 => lv R.GATE_PWATCH_PW_V
  | 0x24 => lv R.GATE_SOFT_V_SOFT
  | 0x28 => lv R.GATE_GMON_CLAMP_V
  | 0x2C => decide (w.f R.GATE_SUPMON_VPOS_UV ≤ w.f R.GATE_SUPMON_VPOS_WARN)
  | _ => true

/-- GATE: field values, and the counters that a write of 0 clears. -/
def planGate (w : Wr) : Plan :=
  if w.o = 0x40 then { value := (List.range 14).all fun k => w.v.toNat / 4 ^ k % 4 != 3 }
  else if h : 0x100 ≤ w.o ∧ w.o < 0x480 then
    let k : Fin 14 := ⟨(w.o - 0x100) / 0x40, by omega⟩
    if (w.o - 0x100) % 0x40 = 0x3C then
      { run := fun d => d.onOut k fun s => { s with cntDesat := w.f R.GATE_OCNT_DESAT, cntPw := w.f R.GATE_OCNT_PW } }
    else { value := gateValue ((w.o - 0x100) % 0x40) w }
  else if h : 0x480 ≤ w.o ∧ w.o < 0x500 then
    let k : Fin 8 := ⟨(w.o - 0x480) / 0x10, by omega⟩
    if (w.o - 0x480) % 0x10 = 8 then
      { run := fun d => d.onDie k fun s => { s with cfgRej := w.f R.GATE_DERR_CFGREJ, discard := w.f R.GATE_DERR_DISCARD } }
    else {}
  else {}

/-- PROT: the order of its voltages and the chopper's enable (R419), and the clears of R429, whose half test answers as the outside does. -/
def planProt (d : Dev) (w : Wr) : Plan :=
  match w.o with
  | 0x48 =>
    { value := decide (w.f R.PROT_OV_OFF_V < w.f R.PROT_OV_ON_V) && decide (w.f R.PROT_OV_ON_V < d.g pgPROT R.PROT_OV2_TRIP_V) }
  | 0x4C =>
    { value := decide (d.g pgPROT R.PROT_OV_ON_V < w.f R.PROT_OV2_TRIP_V) && decide (w.f R.PROT_OV2_TRIP_V ≤ 1100) &&
        decide (w.f R.PROT_OV2_TOW_V ≤ 1100) }
  | 0x50 => { run := fun d => d.eachLane fun d l => if d.up (.ctl l) then d.chDecide l else d }
  | 0x6C =>
    let outs := w.f R.PROT_CLR_OUT
    { run := fun d => match w.f R.PROT_CLR_KIND with
        | 0 => d.clearShort outs
        | 1 => { d.clearHalf outs d.openFacts.halves with freeCtr := d.freeCtr + 10 }
        | 2 => d.clearMon outs
        | _ => d.clearSupply outs }
  | _ => {}

/-! ## Lanes, processors (chapter 12) -/

/-- LANE.CMD acts with KEY 0x5C (R455); the self-test answers as the outside does. -/
def planLane (w : Wr) : Plan :=
  if w.o = 0x44 then
    { ignore := w.f R.LANE_CMD_KEY != 0x5C
      run := fun d => match w.f R.LANE_CMD_OP with
        | 1 => d.laneSwitch
        | 2 => let f := d.openFacts; { d.laneSelftest f.passA f.passB with freeCtr := d.freeCtr + 10 }
        | 3 => d.laneRejoin
        | _ => d }
  else {}

/-- CPU_x: the watchdog (R463). -/
def planCpu (l : Lane) (w : Wr) : Plan :=
  match w.o with
  | 0x40 =>
    { value := !(w.c R.CPU_WDOG_CFG_EN == 1 && w.f R.CPU_WDOG_CFG_EN == 0)
      run := fun d => if w.c R.CPU_WDOG_CFG_EN = 0 ∧ w.f R.CPU_WDOG_CFG_EN = 1 then
        d.onLane l fun s => { s with kickAt := d.now, kickFirst := true, kickSecond := false } else d }
  | 0x44 => { run := fun d => d.wdogKick l (w.f R.CPU_WDOG_KICK_KEY) }
  | _ => {}

/-! ## Safety pages (chapters 13 and 14) -/

/-- SAFE_x, outside REQ and ACK writable in STANDBY and MAINTENANCE only (R496). -/
def planSafe (d : Dev) (i : Lane) (w : Wr) : Plan :=
  match w.o with
  | 0x48 => { oper := true, run := fun d => d.reqSeen i w.v }
  | 0x4C => { oper := true, run := fun d => d.safeAck (w.f R.SAFE_ACK_KEY) }
  | o =>
    { block := w.same || d.cfgMode
      value := (o != 0x80 && o != 0xC0) || angCodeOk (w.f R.SAFE_AXCFG_PRI) && angCodeOk (w.f R.SAFE_AXCFG_SEC)
      run := fun d => if o = 0x54 ∧ !w.same then d.sdinJudge i 0 else if o = 0x58 ∧ !w.same then d.sdinJudge i 1 else d }

/-- SLAYER: R496, with the writes that R516 and R522 give a mode of their own. -/
def planSlayer (d : Dev) (w : Wr) : Plan :=
  match w.o with
  | 0x40 => { block := w.same || d.cfgMode, run := fun d => if w.same then d else d.devidWritten }
  | 0x44 =>
    { block := w.same || d.cfgMode
      run := fun d => if w.c R.SLAYER_CFG_EN = 1 ∧ w.f R.SLAYER_CFG_EN = 0 then d.slStop else d }
  | 0x4C => { cls := w.ownerPort }
  | 0x50 =>
    { cls := w.ownerPort, refuseCls := fun d => d.rebind false w.v, ignore := w.f R.SLAYER_REBIND_KEY != 0x7B
      run := fun d => d.rebind true w.v }
  | 0x58 => { cls := w.ownerPort, ignore := w.f R.SLAYER_CLR_KEY != 0x4D, run := fun d => d.slayerClear w.v }
  | 0x90 =>
    { block := !(w.c R.SLAYER_FIRSTERR_VALID == 1 && w.f R.SLAYER_FIRSTERR_VALID == 0) || d.cfgMode
      run := fun d => if w.f R.SLAYER_FIRSTERR_VALID = 0 then d.s pgSLAYER R.SLAYER_FIRSTERR_VALID 0 else d }
  | 0x5C => { oper := true, cls := !w.who.fw }
  | _ => { block := w.same || d.cfgMode }

end Sys2Proof.Machine
end

