-- ==== Sys2Proof/Machine/PlanPages.lean ====
section
/-! DEFINITION. The plans of the interface dies' pages, of the table regions and of the page header. -/

namespace Sys2Proof.Machine

/-! ## Hallmark, Ledger, Tinker (chapter 16) -/

/-- HALLMARK: every register of a unit is guarded by the unit's claim (R563); data and closes act (R564 to R569). -/
def planHallmark (d a : Dev) (w : Wr) : Plan :=
  if w.o < 0x80 ∨ 0x280 ≤ w.o then {}
  else
    let u := (w.o - 0x80) / 0x20
    let ok := d.resOk w.who (16 + u)
    let used := fun (r : Option Dev) => ok && r.isSome
    match (w.o - 0x80) % 0x20 with
    | 0x00 => { block := ok, value := a.hmPairsOk, run := fun d => d.tinkerNeedBoth true u }
    | 0x08 =>
      let bs := wordBytes w.v
      { block := used (d.hmData u bs), run := fun d => ((d.tinkerNeedBoth true u).hmData u bs).getD d }
    | 0x0C =>
      let bs := [BitVec.ofNat 8 w.v.toNat]
      { block := used (d.hmData u bs), run := fun d => ((d.tinkerNeedBoth true u).hmData u bs).getD d }
    | 0x10 => { block := ok, run := fun d => d.hmSet u R.HALLMARK_CHECKIN_C w.v.toNat }
    | 0x14 =>
      let op := w.f R.HALLMARK_CLOSE_OP
      let alive := w.f R.HALLMARK_CLOSE_ALIVEIN
      { block := ok && (op != 2 || (d.hmClose u alive).isSome)
        run := fun d => if op = 1 then d.hmStart u else (d.hmClose u alive).getD d }
    | _ => { block := ok }

/-- LEDGER: clears, forces and classes (R575 to R579, R583). -/
def planLedger (d : Dev) (w : Wr) : Plan :=
  match w.o with
  | 0x44 => { keep := 0xFFFFFFFF#32, run := fun d => if w.f R.LEDGER_FIRST_VALID = 1 then d.firstRearm else d }
  | 0x50 => { run := fun d => d.clrall (w.f R.LEDGER_CLRALL_KEY) }
  | o =>
    if o < 0x200 then {}
    else
      let n := (o - 0x200) / 4
      if (srcDefault n).isNone then { ignore := true }
      else
        { cls := !w.ch R.LEDGER_SRC_FORCE || mayForce w.who
          value := d.classOk n (w.f R.LEDGER_SRC_CLASS)
          keep := R.LEDGER_SRC_STATUS.mask ||| R.LEDGER_SRC_FORCE.mask
          run := fun d =>
            let d := if w.f R.LEDGER_SRC_CNTCLR = 1 then d.cntclr n else d
            let on := w.f R.LEDGER_SRC_FORCE == 1
            let d := if w.ch R.LEDGER_SRC_FORCE ∨ (on ∧ mayForce w.who) then d.sourceForce n on else d
            if w.f R.LEDGER_SRC_STATUS = 1 then d.sourceClear n else d }

/-- TINKER: the sweep (R589) and the clear of FAIL (R587). -/
def planTinker (d : Dev) (w : Wr) : Plan :=
  match w.o with
  | 0x44 =>
    let op := w.f R.TINKER_CMD_OP
    { ignore := w.f R.TINKER_CMD_KEY != 0x8E, block := op != 1 || d.tinkerSweep.isSome
      run := fun d => if op = 1 then d.tinkerSweep.getD d else d.tinkerAbort }
  | 0x50 => { keep := 0xFFFFFFFF#32, run := fun d => d.tinkerFailClear 0 w.v }
  | 0x54 => { keep := 0xFFFFFFFF#32, run := fun d => d.tinkerFailClear 1 w.v }
  | _ => {}

/-! ## Temperature, sensors (chapters 17 and 06) -/

/-- TEMP: mode and factor codes 3 are refused (R598, R603). -/
def planTemp (w : Wr) : Plan :=
  match w.o with
  | 0x40 => { run := fun d => d.tempWarn d.now }
  | 0x44 => { run := fun d => d.tempClear w.v }
  | 0x48 => { value := (List.range 10).all fun k => w.v.toNat / 4 ^ k % 4 != 3 }
  | _ => {}

/-- SENSE: CLEAR, and the PAIRk that a write changes, whose comparisons then count anew (R231). -/
def planSense (w : Wr) : Plan :=
  if w.o = 0x44 then { run := fun d => d.senseClear (w.f R.SENSE_CLEAR_CH) }
  else if 0x48 ≤ w.o ∧ w.o < 0x58 then
    { run := fun d => if w.same then d else d.pairRestart ⟨(w.o - 0x48) / 4 % 4, by omega⟩ }
  else {}

/-! ## NVM (chapter 18) -/

/-- NVM: installs, unlock and quotes (R616 to R630). ACTIVATE is carried out in Boot.lean; entropy and health answer as the outside does. -/
def planNvm (d : Dev) (w : Wr) : Plan :=
  match w.o with
  | 0x44 =>
    let op := w.f R.NVM_UPD_OP
    let b := w.f R.NVM_UPD_BANK
    let mine := w.f R.NVM_UPD_KEY == 0xB7
    { cls := !(mine && 6 ≤ op && op ≤ 7) || w.ownerPort
      ignore := !mine
      run := fun d => match op with
        | 1 => d.updBegin b
        | 2 => (d.tinkerNeedBoth true 22).updFinish
        | 3 => { d with boot := { d.boot with actReq := some (b, w.f R.NVM_UPD_SCOPE, w.who.ident) } }
        | 4 => d.updAbort
        | 5 => d.updSetpref b
        | 6 => d.updCommitSvn
        | 7 => { d.updProvision d.openFacts.healthy with freeCtr := d.freeCtr + 10 }
        | _ => d }
  | 0x4C => { block := w.same || d.updState != 3 }
  | 0x5C =>
    let mine := w.f R.NVM_UNLOCK_KEY == 0xE1
    { cls := !mine || w.ownerPort, ignore := !mine
      run := fun d => if w.f R.NVM_UNLOCK_OP = 1 then { d.challenge d.openFacts.entropy with freeCtr := d.freeCtr + 10 }
        else (d.tinkerNeedBoth true 22).submit }
  | 0x60 =>
    { ignore := w.f R.NVM_QUOTE_KEY != 0x51
      run := fun d => if w.f R.NVM_QUOTE_GO = 1 then (d.tinkerNeedBoth true 22).quoteGo else d }
  | 0xC4 => { block := d.g pgNVM R.NVM_OBJSEL_OBJ == 0, keep := 0xFFFFFFFF#32, run := fun d => d.objWrite w.v }
  | o =>
    if 0x100 ≤ o ∧ o < 0x200 then
      { block := d.updState == 2, run := fun d => if o = 0x1FC then d.pageProgram else d }
    else {}

/-! ## Resources (chapter 19) -/

/-- RES: claims and releases (R633), PREEMPTED, and the AUX inputs behind their guards. -/
def planRes (d : Dev) (w : Wr) : Plan :=
  match w.o with
  | 0x40 =>
    let r := w.f R.RES_CLAIM_R
    { ignore := w.f R.RES_CLAIM_KEY != 0x3A
      run := fun d => if w.f R.RES_CLAIM_OP = 1 then d.resourceClaim w.who r else d.resourceRelease w.who r }
  | 0x4C =>
    { run := fun d =>
        let r := d.g pgRES R.RES_RSEL_R
        if w.f R.RES_RINFO_PREEMPTED = 1 then { d with res := { d.res with preempted := d.res.preempted.filter (· != r) } } else d }
  | 0x64 =>
    let at' := fun (x : Word) (i : Nat) => x.toNat / 4 ^ i % 4
    { block := (List.range 4).all fun i => at' w.v i == at' w.cur i || d.resOk w.who (74 + i)
      value := (List.range 4).all fun i => at' w.v i != 3 }
  | _ => {}

/-! ## Networks (chapter 15) -/

/-- A result carried by an `Except`. -/
def failsWith (r : Except Result Dev) (e : Result) : Bool := match r with | .error x => x == e | .ok _ => false

/-- The device an `Except` carries. -/
def exceptD (r : Except Result Dev) (d : Dev) : Dev := match r with | .error _ => d | .ok x => x

/-- CAN_n: R526, R535 to R538, R557. -/
def planCan (d : Dev) (n : Fin 4) (w : Wr) : Plan :=
  let still := w.same || d.cg n H.CTRL_ENABLE == 0
  match w.o with
  | 0x40 => { block := still }
  | 0x44 => { block := still, value := decide (w.f R.CAN_BTN_SJW ≤ w.f R.CAN_BTN_TSEG2) }
  | 0x48 => { block := still }
  | 0x4C => { block := still }
  | 0x64 =>
    let q := w.f R.CAN_QCMD_QUEUE
    let r := fun (d : Dev) => if w.f R.CAN_QCMD_OP = 1 then d.queueTake w.who n q else d.queueGive w.who n q
    { block := (r d).isSome, run := fun d => (r d).getD d }
  | 0x68 =>
    let b : Fin 32 := ⟨w.f R.CAN_TXSEL_BUF % 32, by omega⟩
    { block := (d.txSelect w.who n b).isSome, keep := 0xFFFFFFFF#32, run := fun d => (d.txSelect w.who n b).getD d }
  | 0x74 => { block := (d.txCancel w.who n w.v).isSome, run := fun d => (d.txCancel w.who n w.v).getD d }
  | 0x78 =>
    let b : Fin 32 := ⟨w.f R.CAN_RULCFG_REFBUF % 32, by omega⟩
    { value := w.f R.CAN_RULCFG_TIMEIN == 0 || refWordsOk (d.can[n].bufs[b]).words
      run := fun d => if w.same then d else d.rulingConfig n }
  | o =>
    if 0x200 ≤ o ∧ o < 0x254 then
      let k := (o - 0x200) / 4
      { block := (d.txHold w.who n k w.v).isSome, value := k != 2 || w.v.toNat / 2 ^ 30 != 3, keep := 0xFFFFFFFF#32
        run := fun d => (d.txHold w.who n k w.v).getD d }
    else if o = 0x254 then
      { block := !failsWith (d.txBufferArm w.who n w.v) .block, value := !failsWith (d.txBufferArm w.who n w.v) .value
        keep := 0xFFFFFFFF#32, run := fun d => exceptD (d.txBufferArm w.who n w.v) d }
    else {}

/-- LINK_x: R542, R545, R548, R557. -/
def planLink (d : Dev) (l : Lane) (w : Wr) : Plan :=
  let on := d.rg l H.CTRL_ENABLE == 1
  match w.o with
  | 0x40 => { block := w.same || !on, value := !(w.f R.LINK_CFG_RATE == 1 && 16 < w.f R.LINK_CFG_NMAX) }
  | 0x44 => { block := !w.ch R.LINK_NODE_ADDR || !on }
  | 0x4C => { block := w.same || !on }
  | 0x6C => { block := d.resOk w.who (78 + l.idx), run := fun d => d.syncTx l (w.f R.LINK_SYNCTX_EVT) }
  | 0x70 => { block := w.same || d.resOk w.who (78 + l.idx) }
  | _ => {}

/-- ETH: R549, R550. -/
def planEth (d : Dev) (w : Wr) : Plan :=
  match w.o with
  | 0x6C =>
    let len := w.f R.ETH_TXLEN_LEN
    { block := !failsWith (d.ethTxlen w.who len) .block, run := fun d => exceptD (d.ethTxlen w.who len) d }
  | 0x70 => { block := (d.ethTxdata w.who w.v).isSome, run := fun d => (d.ethTxdata w.who w.v).getD d }
  | 0x40 =>
    { run := fun d => if w.c R.ETH_CFG_PTP = 1 ∧ w.f R.ETH_CFG_PTP = 0 then d.ptpStops else d }
  | 0x74 =>
    { keep := if w.c R.ETH_MDIO_GO = 1 then R.ETH_MDIO_GO.mask else 0
      run := fun d => if w.f R.ETH_MDIO_GO = 1 then d.mdioGo w.v else d }
  | _ => {}

/-! ## Table regions -/

/-- A word of the segment table is not of the executing entry, nor of its successor, which is checked at the first servo tick of the
segment (R332, R333). -/
def Dev.segFree (d : Dev) (n : Nat) : Bool :=
  [(0 : Fin 2), 1].all fun x =>
    let m := d.motion[x]
    !([actTABLE, actWAITING].contains (d.act x)) || (n != m.entry && (m.segEnd || m.k == 0 || n != m.segNext))

/-- A word of a connection entry (R506), judged with the entry's other words as they stand. -/
def connOk (d a : Dev) (n q : Nat) : Bool :=
  let i := d.prim pgSLAYER
  let e := fun (f : Fld) => a.cw i n f
  let port := fun (p : Nat) => 3 ≤ p && p ≤ 9 && d.portClass p != .sensor
  let dual := e R.CONN_DUAL == 1
  (q != 0x14 || (port (e R.CONN_P0PORT) && port (e R.CONN_P1PORT))) &&
  (!([0x08, 0x0C, 0x10, 0x14].contains q) ||
    !(dual && e R.CONN_P0PORT == e R.CONN_P1PORT && e R.CONN_PATH0_ID == e R.CONN_PATH1_ID)) &&
  (!([0x08, 0x18, 0x1C].contains q) || !(dual && e R.CONN_DIR == 0 && e R.CONN_WMIN < e R.CONN_CMPW)) &&
  (q != 0x08 || !(e R.CONN_DIR == 1 && e R.CONN_PERIOD == 0)) &&
  (q != 0x18 || decide (e R.CONN_WMIN < e R.CONN_WMAX))

/-- Store a raw word in the available copies of a region on the control dies. -/
def Dev.rawCtl (d : Dev) (k : Nat) (v : Word) : Dev := d.ctlLanes.foldl (fun d l => d.setWord l k v) d

/-- The plan of a region write; `k` is its address and `w.o` its offset in the region. -/
def planRegion (d a : Dev) (k : Nat) (w : Wr) : Plan :=
  if k < rgMAP then { block := w.same || d.segFree (w.o / 16) }
  else if k < rgCONN then
    let x : Fin 2 := if w.o < 0x8000 then 0 else 1
    let q := w.o % 0x8000
    let act := d.g (pgFIELD x) R.FIELD_MAPCFG_BANK
    if q < 0x4800 then { block := w.v == w.cur || q / 0x2400 != act, run := fun d => d.rawCtl k w.v }
    else if q < 0x4A00 then
      { block := w.v == w.cur || (q - 0x4800) / 0x100 != act, run := fun d => d.rawCtl k (w.v &&& 0xFFFF#32) }
    else { ignore := true }
  else if k < rgQUILL then
    let n := w.o / 64
    let q := w.o % 64
    { block := w.same || d.cfgMode, value := connOk d a n q
      run := fun d => if q < 0x30 ∨ q = 0x3C then d.slWritten n else d }
  else if k < rgRULING then
    let l : Lane := if d.dieUp .a false then .a else .b
    if w.o < 0x8000 then
      { block := d.gl l (pgQUILL l) R.QUILL_PROG_WIN == 0 && d.ctlLanes.all fun m => (d.quill.at m).swapAt.isNone
        run := fun d => d.ctlLanes.foldl (fun d m => d.progWrite m (w.o / 8) (w.o / 4 % 2 == 1) w.v) (d.tinkerNeedBoth false 30) }
    else if w.o < 0xC000 then
      { run := fun d => d.ctlLanes.foldl (fun d m => d.qPortData m ((w.o - 0x8000) / 4) w.v) d }
    else if w.o < 0xE000 then
      { run := fun d => d.ctlLanes.foldl (fun d m => d.coefWrite m ((w.o - 0xC000) / 8) (w.o % 8 == 4) w.v) d }
    else { ignore := true }
  else if k < rgFILTER then
    let c := w.o / 32
    let ok := d.resOk w.who (56 + c / 64)
    if w.o % 32 = 28 then
      { block := ok, value := !failsWith (d.rulingCellWrite c w.v) .value, keep := 0xFFFFFFFF#32
        run := fun d => exceptD (d.rulingCellWrite c w.v) d }
    else
      { block := ok, keep := 0xFFFFFFFF#32, run := fun d => d.cellHold w.o w.v
        value := w.o % 32 != 8 || decide (w.f R.CELL_REPX ≤ 6 ∧ w.f R.CELL_OFFSET < 2 ^ w.f R.CELL_REPX) }
  else
    let n : Fin 4 := ⟨(k - rgFILTER) / 0x2000 % 4, by omega⟩
    let off := w.o % 0x2000
    if off % 64 < 0x20 then { keep := 0xFFFFFFFF#32, run := fun d => d.filterHold n off w.v }
    else if off % 64 = 0x20 then { keep := 0xFFFFFFFF#32, run := fun d => d.filterUpdate n (off / 64) w.v }
    else {}

/-! ## The page header (R115 to R131) -/

/-- The CAUSE bits a page defines, with the common bits 31 and 30. -/
def causeBits (p : Nat) : Word := BitVec.ofNat 32 (2 ^ pageCauseBits p - 1) ||| 0xC0000000#32

/-- What a change of CTRL.ENABLE sets off in the page's block. -/
def Dev.enableHook (d : Dev) (p : Nat) (on : Bool) : Dev :=
  match pageKind p with
  | (0x0E, i) => if on then d.quillEnable (if i = 0 then .a else .b) else d
  | (0x12, i) =>
    let x : Fin 2 := if i = 0 then 0 else 1
    if on then d.eachUnit x fun d => d.onMotion x fun m => { m with started := false } else d
  | (0x1C, _) => d.tbJudgeAll
  | (0x24, i) =>
    let n : Fin 4 := ⟨i % 4, by omega⟩
    (d.tinkerNeed (.iface (canLane n)) (16 + n.val)).canEnable n on
  | (0x28, i) =>
    let l : Lane := if i = 0 then .a else .b
    (d.tinkerNeed (.iface l) (20 + l.idx)).rigEnable l on
  | (0x2A, _) => if on ∧ d.eg R.ETH_STAT_LINK = 0 then d.raiseCond 346 else if on then d else d.endCause 346
  | _ => d

/-- A converter follows registers that changed otherwise than by a write, from `d0` to `d`: MODE.GANG, GRPn.INPUT, REF.EN and CAL.AUTO
(R157, R160, R164, R166, R189); CAL shows the present spares. -/
def Dev.convFollow (d0 d : Dev) (l : Lane) (c : Fin 2) : Dev :=
  let was := fun (f : Fld) => d0.gl l (pgCONV l c) f
  let is := fun (f : Fld) => d.gl l (pgCONV l c) f
  let d := (d.gangFollow l c).showSpares l c
  let d := [((0 : Fin 3), R.CONV_GRP0_INPUT), (1, R.CONV_GRP1_INPUT), (2, R.CONV_GRP2_INPUT)].foldl (fun d gf =>
    if was gf.2 = is gf.2 then d else d.inputChanged l c gf.1 (was gf.2)) d
  let d := if was R.CONV_REF_EN = is R.CONV_REF_EN then d else d.refEnable l c (is R.CONV_REF_EN == 1)
  if was R.CONV_CAL_AUTO = 0 ∧ is R.CONV_CAL_AUTO = 1 then d.restartTurn l c else d

/-- The two converters of a lane follow. -/
def Dev.convsFollow (d0 d : Dev) (l : Lane) : Dev := [(0 : Fin 2), 1].foldl (fun d c => Dev.convFollow d0 d l c) d

/-- The host engine's counts return to their reset values with HOST.ALIVE: RALIVE is 0, and the ALIVE expected next is EXP's 0. DEBUG's
class is a field of PORT_CLASS, and what it claimed is released when it falls (R131, R134). -/
def Dev.hostReset (d : Dev) : Dev :=
  ({ d with host := { d.host with ralive := 0, lastAlive := some 255, debugOwner := false,
                                   proxy := { a := none, b := none }, proxyHeld := { a := [], b := [] } } }).releaseHolders fun i => i == 1

/-- A sequencer's registers are reset: no entry and no urgent request is left (R184, R190). -/
def Dev.seqReset (d : Dev) (l : Lane) : Dev :=
  d.onMeas l fun m => { m with
    seqTrig := false, seqDone := none, seqBy := none, urgDone := [none, none, none, none], catchQ := [], catchVal := []
    convs := m.convs.map fun v => { v with groups := v.groups.map fun g => { g with
      job := none, jobSettle := false, jobAcc := {}, settle := if g.job.isSome && g.jobFrom < d.now then d.now :: g.settle else g.settle } } }

/-- What the driver dies' counts and measurements show with GATE at reset: the adaptation starts from IPL again (R400, R431). -/
def OutState.gateReset (s : OutState) : OutState :=
  { s with cntDesat := 0, cntPw := 0, tpl := 0, dvOn := 0, dvOff := 0, adapt := [128, 128, 128, 128], adaptBad := [0, 0, 0, 0] }

/-- CTRL.SOFTRST: every block register of the page returns to its reset value, staged ones with it, and the block follows: what a register
shows from its block's own state returns with it, but for the fields that report a level, a supply, a mode, a fault that stands in a
driver die, or the NVM's contents as they are. DESIGN CHOICE (log 17): on the HOST page this returns PORT_CLASS and LINKA_RELAY to their
reset values too, which may raise a class; R132 and R135 speak of writes of these registers. -/
def Dev.softReset (d : Dev) (p : Nat) : Dev :=
  let d0 := d
  let inPage := fun (l : Lane) (k : Nat) => (List.range (pageRegs p - 16)).any fun i => k == regKey l (pageAddr p (0x40 + 4 * i))
  let gone := fun (k : Nat) => (d.copies p).any fun l => inPage l k
  let d := { d with regs := d.regs.filter fun kw => !gone kw.1, staged := d.staged.filter fun kw => !gone kw.1
                    commitPending := d.commitPending.filter (·.1 != p) }
  let lane : Nat → Lane := fun i => if i = 0 then .a else .b
  let axis : Nat → Fin 2 := fun i => if i = 0 then 0 else 1
  match pageKind p with
  | (0x00, _) => (d.s (pgFIELD 0) R.FIELD_FW_EN 1).s (pgFIELD 1) R.FIELD_FW_EN 1
  | (0x03, _) => d.hostReset
  | (0x05, _) => ((List.range 384).filter fun n => conditionSource n && d0.g pgLEDGER R.LEDGER_SRC_LIVE n == 1).foldl
      (fun d n => d.s pgLEDGER R.LEDGER_SRC_LIVE 1 n) { d with ledger := {} }
  | (0x06, _) => { d with tinker := { sweptAt := d.now } }
  | (0x09, _) => { d with time := {} }
  | (0x0A, _) => { d with boot := { d.boot with chal := none, token := [], quote := none, act := none } }
  | (0x0E, i) => d.onQuill (lane i) fun u => { u with swapAt := none, swapCheck := none, coefLatch := [], coefPend := [] }
  | (0x10, i) => d.eachLane fun d l => d.onFieldU l (axis i) fun _ => {}
  | (0x12, i) => d.eachUnit (axis i) fun d => d.onMotion (axis i) fun _ => {}
  | (0x14, i) => Dev.convFollow d0 d (lane (i / 2)) (axis (i % 2))
  | (0x18, i) => d.seqReset (lane i)
  | (0x1A, i) =>
    let u : Lane := lane i
    let d := d.onPos u fun s => { s with resDrive := false, ssiDrive := false }
    (List.finRange 4).foldl (fun d c =>
      if d0.chSel u c = d.chSel u c then
        let d := (d.onChan u c fun s => { s with steps := [], rate := 0, causeGone := false, silent := false }).endCause (136 + 4 * u.idx + c.val)
        if d.chFaulty u c then d.declareInvalid u c else d
      else d.chanRestart u c (d.chSel u c)) d
  | (0x1C, i) =>
    (d.tbJudgeAll).onMod (lane i) fun m =>
      { m with groups := [], deferred := [], protLegs := 0, legs := m.legs.map fun s => { s with acmp := 0 }
               tb0 := { m.tb0 with taken := [], takenGroups := [] }, tb1 := { m.tb1 with taken := [], takenGroups := [] } }
  | (0x1E, _) =>
    let d := { d with gateSent := 0, outs := d.outs.map OutState.gateReset }
    (List.finRange 8).foldl (fun d k => d.onDie k fun s => { s with cfgRej := 0, discard := 0 }) d
  | (0x1F, _) => d.eachLane fun d l => d.onProt l fun s => { s with energy := 0, limit := false }
  | (0x23, _) => d.slStop
  | (0x24, i) =>
    let n : Fin 4 := ⟨i % 4, by omega⟩
    let d := d.onCan n fun u => { ({} : CanUnit) with filtHeld := u.filtHeld, filtOld := u.filtOld }
    (d.canEnable n (d.cg n H.CTRL_ENABLE == 1)).rulingConfig n
  | (0x28, i) => d.rigEnable (lane i) (d.rg (lane i) H.CTRL_ENABLE == 1)
  | (0x2A, _) => { d with eth := {} }
  | (0x2B, _) => (List.finRange 4).foldl (fun d k => d.pairRestart k) d
  | (0x2C, _) => { d with res := { d.res with preempted := [] } }
  | _ => d

/-- The words that FREEZE = 1 holds for its page: every register of the available copies as it reads now. -/
def Dev.freeze (d : Dev) (p : Nat) (on : Bool) : Dev :=
  let keys := (d.copies p).flatMap fun l => (List.range (pageRegs p - 16)).map fun i => (l, 0x40 + 4 * i)
  let clear := keys.foldl (fun f lo => cellsErase f (regKey lo.1 (pageAddr p lo.2))) d.frozen
  if on then
    { d with frozen := keys.foldl (fun f lo => cellsPut f (regKey lo.1 (pageAddr p lo.2)) (d.blockWord 63 lo.1 p lo.2)) clear }
  else { d with frozen := clear }

/-- A COMMIT write (R122 to R124, R366): MOD commits every group, and any other page waits for its commit point. -/
def Dev.commitWrite (d : Dev) (p : Nat) : Dev :=
  match pageKind p with
  | (0x1C, i) => d.commitGroups (if i = 0 then .a else .b) 15
  | _ => if d.commitWaits p then d else { d with commitPending := (p, d.now) :: d.commitPending }

/-- The staged values of a page become active together, in every available copy (R123). -/
def Dev.stagedActive (d : Dev) (p : Nat) : Dev :=
  (d.copies p).foldl (fun d l => (List.range (pageRegs p - 16)).foldl (fun d i =>
    let a := pageAddr p (0x40 + 4 * i)
    match cellsGet d.staged (regKey l a) with
    | some v =>
      let m := accMask (regFlds p (0x40 + 4 * i)) (· == .rws)
      { d.setWord l a ((d.word l a &&& ~~~m) ||| (v &&& m)) with staged := cellsErase d.staged (regKey l a) }
    | none => d) d) d

/-- The profile words of an output, ON0, OFF0, ON1 and OFF1 as 0 to 3, that a commit of GATE writes (R400). -/
def Dev.profileStaged (d : Dev) (o : OutIx) : List Nat :=
  (List.range 4).filter fun i => (d.copies pgGATE).any fun l =>
    (cellsGet d.staged (regKey l (pageAddr pgGATE (R.GATE_ON0_IPL.at o + 4 * i)))).isSome

/-- A page's commit point (R122, R123): its staged values become active, and GEN counts the commit. GATE then builds its blocks and
counts once every live driver die has applied its one (R426, R427). -/
def Dev.commitDone (d : Dev) (p : Nat) : Dev :=
  let wrote := if p = pgGATE then d.profileStaged else fun _ => []
  let d := ({ d with commitPending := d.commitPending.filter (·.1 != p) }).stagedActive p
  let d := (List.finRange 14).foldl (fun d o => if (wrote o).isEmpty then d else d.onOut o fun s => { s with
    wrote := s.wrote.zipIdx.map fun (w, i) => w || (wrote o).contains i }) d
  if p = pgGATE then ((({ d with gateSent := d.gateSent + 1 }).gateConfig .a).gateConfig .b).gateCommitDone
  else (d.copies p).foldl (fun d l => d.sl l p H.GEN ((d.gl l p H.GEN + 1) % 4294967296)) d

/-- COMMIT_POINT (R122): a tick after the COMMIT write at which no other write to the page has been applied (`Dev.commitDelays`). -/
def Dev.commitPoint (d : Dev) (p : Nat) : Dev := if d.commitPending.any (fun c => c.1 == p && decide (c.2 < d.now)) then d.commitDone p else d

/-- The pages of the safety configuration (R129). -/
def safetyPage (p : Nat) : Bool := 0x20 ≤ p && p ≤ 0x23

/-- The plan of a header register; OWNER is judged under R130 beside it. -/
def planHeader (d : Dev) (p : Nat) (w : Wr) : Plan :=
  let l := d.prim p
  let safeMode := !safetyPage p || d.cfgMode
  let locked := d.gl l p H.LOCK_LOCKED == 1
  match w.o with
  | 0x04 =>
    let on := w.f H.CTRL_ENABLE == 1
    let off := w.c H.CTRL_ENABLE == 1 && !on
    let soft := w.f H.CTRL_SOFTRST == 1
    let commit := w.f H.CTRL_COMMIT == 1
    let held := [0x1E, 0x1F, 0x1C, 0x1D, 0x20, 0x21, 0x22, 0x0B, 0x0E, 0x0F].contains p
    { block := (w.same && !soft && !commit || safeMode) && !(off && held && d.liveMode) &&
        !(soft && (locked || !d.cfgMode)) && (!w.ch H.CTRL_FREEZE || d.cfgMode)
      run := fun d =>
        let d := if w.ch H.CTRL_ENABLE then d.enableHook p on else d
        let d := if w.ch H.CTRL_FREEZE then d.freeze p (w.f H.CTRL_FREEZE == 1) else d
        let d := if soft then d.softReset p else d
        if commit then d.commitWrite p else d }
  | 0x0C =>
    { block := w.v &&& causeBits p == 0 || safeMode, keep := 0xFFFFFFFF#32
      run := fun d => (d.copies p).foldl (fun d l =>
        (d.setWord l (pageAddr p 0x0C) (d.word l (pageAddr p 0x0C) &&& ~~~w.v)).setWord l (pageAddr p 0x14)
          (d.forced l p &&& ~~~w.v)) d }
  | 0x10 => { block := w.same || safeMode, keep := ~~~causeBits p }
  | 0x14 =>
    let bits := w.v &&& causeBits p
    { cls := bits == 0 || w.priv, block := bits == 0 || safeMode
      run := fun d => (d.copies p).foldl (fun d l => d.setWord l (pageAddr p 0x14) (d.forced l p ||| bits)) d }
  | 0x18 =>
    let key := w.f H.LOCK_KEY
    { ignore := !([0x6C, 0x93, 0xE7].contains key)
      lock := w.priv && !(key == 0x93 && (d.gl l p H.LOCK_HARD == 1 || !safeMode))
      block := safeMode
      run := fun d => (d.copies p).foldl (fun d l => match key with
        | 0x6C => d.sl l p H.LOCK_LOCKED 1
        | 0x93 => (d.sl l p H.LOCK_LOCKED 0).sealEnds
        | _ => (d.sl l p H.LOCK_LOCKED 1).sl l p H.LOCK_HARD 1) d }
  | 0x1C => { block := w.same || safeMode }
  | 0x24 => { block := w.same || safeMode, run := fun d => d.sealEnds }
  | 0x28 => { block := w.same || safeMode }
  | 0x2C => { block := w.same || safeMode }
  | _ => {}

/-- The plan of a page register. -/
def planPage (d a : Dev) (p : Nat) (w : Wr) : Plan :=
  if w.o < 0x40 then planHeader d p w
  else
    let lane : Nat → Lane := fun i => if i = 0 then .a else .b
    let axis : Nat → Fin 2 := fun i => if i = 0 then 0 else 1
    match pageKind p with
    | (0x00, _) => planSys d a w
    | (0x02, _) => planClk w
    | (0x03, _) => planHost w
    | (0x05, _) => planLedger d w
    | (0x06, _) => planTinker d w
    | (0x07, _) => planHallmark d a w
    | (0x08, _) => planTemp w
    | (0x0A, _) => planNvm d w
    | (0x0B, _) => planLane w
    | (0x0C, i) => planCpu (lane i) w
    | (0x0E, i) => planQuill d (lane i) w
    | (0x10, i) => planField d (axis i) w
    | (0x12, i) => planMotion d (axis i) w
    | (0x14, i) => planConv d (lane (i / 2)) (axis (i % 2)) w
    | (0x18, i) => planSeq d (lane i) w
    | (0x1A, i) => planPos d (lane i) w
    | (0x1C, i) => planMod d a (lane i) w
    | (0x1E, _) => planGate w
    | (0x1F, _) => planProt d w
    | (0x20, i) => planSafe d (lane i) w
    | (0x22, _) => { block := w.same || d.cfgMode }
    | (0x23, _) => planSlayer d w
    | (0x24, i) => planCan d ⟨i % 4, by omega⟩ w
    | (0x28, i) => planLink d (lane i) w
    | (0x2A, _) => planEth d w
    | (0x2B, _) => planSense w
    | (0x2C, _) => planRes d w
    | _ => {}

end Sys2Proof.Machine
end

