-- ==== Sys2Proof/Machine/Access.lean ====
section
/-! DEFINITION. Register accesses (chapter 04): the checks of R116 in their order, what an accepted write does to every available copy,
refusals (R119), reads with what they set off, and the writes of one frame (R118, R125). -/

namespace Sys2Proof.Machine

/-- Where an address leads: its page (of a region the governing one), the offset in the page or the region, the fields of the
register, the copies a write reaches, whether a second copy exists, and whether it lies in a page or a region. -/
structure Target where
  page : Nat
  o : Nat
  flds : List Fld
  copies : List Lane
  mirrored : Bool
  region : Bool
  deriving DecidableEq, Repr

/-- The target of an address, none where nothing is implemented there (R110, R111). DESIGN CHOICE (log 120): an access carries the address
in the register space as its operand, without the 0x4000_0000 that a core's own address space adds (R110). -/
def Dev.target (d : Dev) (k : Nat) : Option Target :=
  if k % 4 ≠ 0 then none
  else if k < 0x2D000 then
    let p := k / 0x1000
    let o := k % 0x1000
    if 4 * pageRegs p ≤ o then none
    else some { page := p, o := o, flds := regFlds p o, copies := d.openCopies p, mirrored := (pageHolder p).isNone, region := false }
  else
    match regionPage k with
    | none => none
    | some p0 =>
      let p := if rgQUILL ≤ k ∧ k < rgRULING ∧ !d.dieUp .a false then pgQUILL .b else p0
      let (fs, size, base) := regionFlds k
      let from' := if fs.isEmpty then (if k < rgCONN then rgMAP else rgQUILL) else base
      let cs := match regionHolder k with
        | some l => [l].filter fun l => d.reaches l (pageOnInterface p)
        | none => [Lane.a, Lane.b].filter fun l => d.reaches l (pageOnInterface p)
      let fs := (fs.map fun f => { f with count := 1 }).filter (·.holds ((k - base) % size))
      some { page := p, o := k - from', flds := fs, copies := cs, mirrored := (regionHolder k).isNone, region := true }

/-- The copy whose word counts as the present value. -/
def Dev.judgeLane (d : Dev) (t : Target) : Lane :=
  let l := (d.active).getD .a
  if t.copies.contains l then l else t.copies.headD .a

/-- The writer of an address as the checks see it: a lane's firmware writes its proxy register under its own identity (R137). -/
def Dev.whoAt (d : Dev) (raw : Writer) (k : Nat) : Who :=
  match raw with
  | .laneFw l => if k = pageAddr pgHOST 0x50 then { ident := 48 + l.idx, cls := .owner, fw := true } else d.who raw
  | _ => d.who raw

/-- The plain store of a word: RW and RWL fields take it, RWS fields are staged, W1C bits clear; `keep` bits stay as they are. A
counter that FREEZE holds takes the value too. -/
def Dev.store (d : Dev) (t : Target) (k : Nat) (v keep : Word) : Dev :=
  let rw := accMask t.flds (fun x => x == .rw || x == .rwl) &&& ~~~keep
  let w1 := accMask t.flds (· == .w1c) &&& ~~~keep
  let st := accMask t.flds (· == .rws) &&& ~~~keep
  t.copies.foldl (fun d l =>
    let d := d.setWord l k (((d.word l k &&& ~~~rw) ||| (v &&& rw)) &&& ~~~(v &&& w1))
    let d := if st = 0 then d else { d with staged := cellsPut d.staged (regKey l k) (v &&& st) }
    match cellsGet d.frozen (regKey l k) with
    | some x => { d with frozen := cellsPut d.frozen (regKey l k) ((x &&& ~~~rw) ||| (v &&& rw)) }
    | none => d) d

/-- The write as its plan sees it. -/
def Dev.wrOf (d : Dev) (raw : Writer) (who : Who) (t : Target) (k : Nat) (v : Word) : Wr :=
  { raw := raw, who := who, page := t.page, o := t.o, v := v, cur := d.showWord who.ident (d.judgeLane t) k
    mask := accMask t.flds fun x => x == .rw || x == .rws || x == .rwl }

/-- The plan of a write. -/
def Dev.planOf (d : Dev) (t : Target) (k : Nat) (w : Wr) : Plan :=
  let a := d.store t k w.v 0
  if t.region then planRegion d a k w else planPage d a t.page w

/-- Check 2 of R116: OWNER ports and firmware, OPERATOR ports where the page admits them, and what the register adds. -/
def classPasses (d : Dev) (t : Target) (w : Wr) (p : Plan) : Bool :=
  (w.who.fw || w.who.cls == .owner ||
    (w.who.cls == .operator && (p.oper || d.gl (d.judgeLane { t with copies := d.copies t.page }) t.page H.CLASSES_OPER == 1))) && p.cls

/-- Check 3 of R116, for OWNER itself R130 and R131. -/
def claimResult (d : Dev) (t : Target) (w : Wr) : Result :=
  let h := d.gl (d.judgeLane { t with copies := d.copies t.page }) t.page H.OWNER
  if t.region = false ∧ t.o = 0x28 then
    let v := w.f H.OWNER
    if v = w.who.ident then (if h = 63 ∨ h = v then .ok else .claimed)
    else if v = 63 then (if h = 63 ∨ h = w.who.ident ∨ w.ownerPort then .ok else .claimed)
    else .value
  else if h = 63 ∨ h = w.who.ident then .ok else .claimed

/-- Checks 4 to 7 of R116. -/
def lateChecks (d : Dev) (t : Target) (w : Wr) (p : Plan) : Result :=
  let locked := d.gl (d.judgeLane { t with copies := d.copies t.page }) t.page H.LOCK_LOCKED == 1
  if (locked && t.flds.any fun f => f.acc == .rwl && w.ch f) || !p.lock then .locked
  else if (d.commitWaits t.page && t.flds.any fun f => f.acc == .rws && w.ch f) ||
    (!p.stag && t.flds.any fun f => f.acc == .rws && w.ch f) then .staging
  else if !p.block then .block
  else if !(t.flds.all fun f => f.acc == .ro || f.chk.ok (w.f f)) || !p.value then .value
  else if t.mirrored ∧ t.copies.length = 1 then .okSingle
  else .ok

/-- A refusal's mark on its page (R119). -/
def Dev.markRefused (d : Dev) (p : Nat) : Dev := (d.copies p).foldl (fun d l => d.causeL l p 0x40000000#32) d

/-- The result of a write in the order of R116, with what its refusal leaves behind. -/
def Dev.judgeAs (d : Dev) (raw : Writer) (who : Who) (k : Nat) (v : Word) : Result × (Dev → Dev) :=
  match d.target k with
  | none => (.unmapped, if k < 0x2D000 then fun d => d.markRefused (k / 0x1000) else id)
  | some t =>
    if t.copies = [] then (.absent, fun d => d.markRefused t.page)
    else
      let w := d.wrOf raw who t k v
      let p := d.planOf t k w
      let mark := fun (f : Dev → Dev) (d : Dev) => f (d.markRefused t.page)
      if !classPasses d t w p then (.cls, mark p.refuseCls)
      else if claimResult d t w ≠ .ok then (claimResult d t w, mark id)
      else if p.ignore then (if t.mirrored ∧ t.copies.length = 1 then (.okSingle, id) else (.ok, id))
      else
        match d.claimFails (d.store t k v p.keep) p.claims with
        | some r => (.claimed, mark fun d => d.resBusy r)
        | none =>
          let r := lateChecks d t w p
          (r, if r = .block then mark p.refuseBlk else if r.good then id else mark id)

/-- A write that is applied to a page moves the commit point of a COMMIT that waits there (R122). -/
def Dev.commitDelays (d : Dev) (t : Target) : Dev :=
  if t.region then d
  else { d with commitPending := d.commitPending.map fun c => if c.1 = t.page then (c.1, d.now) else c }

/-- What an accepted write does: the store, the claims it moves, and what its register sets off. -/
def Dev.effectAs (d : Dev) (raw : Writer) (who : Who) (k : Nat) (v : Word) : Dev :=
  match d.target k with
  | none => d
  | some t =>
    let w := d.wrOf raw who t k v
    let p := d.planOf t k w
    if p.ignore then d
    else
      let x : Fin 2 := if t.page = pgMOTION 1 then 1 else 0
      let d := if !t.region ∧ (t.page = pgMOTION 0 ∨ t.page = pgMOTION 1) ∧ 0x50 ≤ t.o ∧ t.o ≤ 0x68 then d.motionFormer x t.o else d
      let d1 := d.store t k v p.keep
      (p.run (Dev.reclaim d d1 p.claims)).commitDelays t

/-- A write is a core's. -/
def coreWriter : Writer → Bool
  | .port _ => false
  | .laneFw _ => true
  | .islandFw _ => true

/-- Show the result of an access (R116, R119). DESIGN CHOICE (log 10): a core's access that is not good leaves the core's access fault, a
read that ends with ABSENT too, though the spec names an exception only for unmapped accesses (R111) and refused writes (R119). -/
def Dev.showAccess (d : Dev) (raw : Writer) (r : Result) : Dev :=
  { d with host := { d.host with access := r, coreFault := !r.good && coreWriter raw } }

/-- A write of one word under a writer's standing. -/
def Dev.writeAs (d : Dev) (raw : Writer) (who : Who) (k : Nat) (v : Word) : Dev :=
  let (r, f) := d.judgeAs raw who k v
  (if r.good then d.effectAs raw who k v else f d).showAccess raw r

/-- A port of an interface die is open (R49, R136): its die runs, and a start-up has applied the image's lowerings. DEBUG is there for
either lane alone (R49); only boundary scan needs the chain through both dies (R62). -/
def Dev.portOpen (d : Dev) (n : Nat) : Bool :=
  if n = 1 then d.power.vioLevel.isSome && (d.up (.iface .a) || d.up (.iface .b))
  else d.up (.iface (portLane n)) && d.host.opened.at (portLane n)

/-- An access reaches the register space: its port is open, or its core's die runs and no mismatch has stopped its pair (R434). -/
def Dev.arrives (d : Dev) (raw : Writer) : Bool :=
  match raw with
  | .port n => d.portOpen n.val
  | .laneFw l => d.up (.ctl l) && !(d.lanes.at l).mismatch
  | .islandFw l => d.up (.iface l)

/-- EN of HOST.PROXY as a core sees it when it leaves the handler that set it, is interrupted and returns (R137); the copies of PROXY show
it. -/
def Dev.coreProxy (d : Dev) (l : Lane) (p : Option Nat) : Dev :=
  let was := (d.host.proxy.at l).isSome
  let d := d.setProxy l p
  match p with
  | none => if was then d.s pgHOST R.HOST_PROXY_EN 0 else d
  | some n => (d.s pgHOST R.HOST_PROXY_PORT n).s pgHOST R.HOST_PROXY_EN 1

/-- REGISTER_WRITE (R116 to R119). -/
def Dev.write (d : Dev) (raw : Writer) (k : Nat) (v : Word) : Dev :=
  if d.arrives raw then d.writeAs raw (d.whoAt raw k) k v else d

/-- PROXY_WRITE (R137). -/
def Dev.proxyAct (d : Dev) (w : Writer) (a : ProxyAct) : Dev :=
  match a, w with
  | .write v, _ => d.write w (pageAddr pgHOST 0x50) v
  | .leave, .laneFw l => d.coreProxy l none
  | .interrupted, .laneFw l =>
    ({ d with host := { d.host with proxyHeld := d.host.proxyHeld.put l (d.host.proxy.at l :: d.host.proxyHeld.at l) } }).coreProxy l none
  | .back, .laneFw l =>
    match d.host.proxyHeld.at l with
    | p :: r => ({ d with host := { d.host with proxyHeld := d.host.proxyHeld.put l r } }).coreProxy l p
    | [] => d
  | _, _ => d

/-! ## Frames (R118, R125) -/

/-- The address of word `i` of a frame. -/
def frameAddr (header : Word) (i : Nat) : Nat :=
  let page := header.toNat / 2 ^ 19 % 512
  let woff := header.toNat / 2 ^ 9 % 1024
  let fixed := header.toNat / 4 % 2
  0x1000 * page + 4 * (woff + if fixed = 1 then 0 else i)

/-- The words of a frame with their addresses. -/
def frameWrites (header : Word) (ws : List Word) : List (Nat × Word) := ws.zipIdx.map fun wi => (frameAddr header wi.2, wi.1)

/-- CTRL with COMMIT = 1. -/
def commitWord (k : Nat) (v : Word) : Bool := k < 0x2D000 && k % 0x1000 == 4 && v.getLsbD 4

/-- A WRITE frame: all of its words or none, a COMMIT after the others. The result is that of the first refused word. -/
def Dev.writeFrame (d : Dev) (raw : Writer) (who : Who) (header : Word) (ws : List Word) : Result × Dev :=
  let l := frameWrites header ws
  let js := l.map fun kv => d.judgeAs raw who kv.1 kv.2
  match js.find? fun j => !j.1.good with
  | some (r, f) => (r, f d)
  | none =>
    let d1 := l.foldl (fun d kv => d.effectAs raw who kv.1 (if commitWord kv.1 kv.2 then kv.2 &&& ~~~16#32 else kv.2)) d
    let d2 := if l.any fun kv => commitWord kv.1 kv.2 then d1.commitWrite (header.toNat / 2 ^ 19 % 512) else d1
    ((js.headD (.ok, id)).1, d2)

/-! ## Reads (R113, R114, R116) -/

/-- The copy a read returns: VIEW for ports, the own lane's for firmware; the other one where that copy is not available. -/
def Dev.readLane (d : Dev) (raw : Writer) (cs : List Lane) : Option Lane :=
  let want : Lane := match raw with
    | .port _ =>
      match d.g pgHOST R.HOST_CFG_VIEW with
      | 1 => .a
      | 2 => .b
      | _ => (d.active).getD .a
    | .laneFw l => l
    | .islandFw l => l
  if cs.contains want then some want else cs.head?

/-- A read of one word: its result, the word, and what the read sets off (R535, R550, R559, R630). An offset that a mapped page does
not implement reads 0. DESIGN CHOICE (log 10): an unaligned address is rounded down to its word. -/
def Dev.readWord (d : Dev) (raw : Writer) (who : Who) (k : Nat) : Result × Word × Dev :=
  match d.target (if k < 0x2D000 then k / 0x1000 * 0x1000 else k / 4 * 4) with
  | none => (.unmapped, 0, d)
  | some t0 =>
    match d.readLane raw t0.copies with
    | none => (.absent, 0, d)
    | some l =>
      match d.target (k / 4 * 4) with
      | none => (.ok, 0, d)
      | some t =>
        let plain := d.showWord who.ident l (k / 4 * 4)
        if t.region then (.ok, plain, d)
        else
          let n : Fin 4 := ⟨(t.page - 0x24) % 4, by omega⟩
          let can := (pageKind t.page).1 == 0x24
          let r : Word × Dev :=
            if t.page = pgTIME ∧ t.o = 0x58 then d.nowLoRead who.ident
            else if t.page = pgETH ∧ t.o = 0x68 then d.ethRead
            else if can ∧ 0x100 ≤ t.o ∧ t.o < 0x158 then d.queueWindowRead who.ident n 0 ((t.o - 0x100) / 4)
            else if can ∧ 0x180 ≤ t.o ∧ t.o < 0x1D8 then d.queueWindowRead who.ident n 1 ((t.o - 0x180) / 4)
            else if t.page = pgNVM ∧ t.o = 0xC4 then (d.objWord, d.objNext)
            else (plain, d)
          (.ok, r.1, r.2)

/-- A writer whose class reads nothing: SENSOR accepts no command (R57), SAFETY nothing but PDUs (R133). -/
def Who.readsNothing (w : Who) : Bool := !w.fw && (w.cls == .sensor || w.cls == .safety)

/-- A single read by a writer: the word stands in `host.readData`. -/
def Dev.read (d : Dev) (raw : Writer) (k : Nat) : Dev :=
  if !d.arrives raw then d
  else
    let who := d.whoAt raw k
    let (r, w, d) := if who.readsNothing then (Result.cls, (0 : Word), d) else d.readWord raw who k
    { d.showAccess raw r with host := { (d.showAccess raw r).host with readData := [w] } }

/-- The words of a READ frame; a refused one returns zeros (R141). -/
def Dev.readFrame (d : Dev) (raw : Writer) (who : Who) (header : Word) (count : Nat) : Result × List Word × Dev :=
  let step := fun (s : Result × List Word × Dev) (i : Nat) =>
    let (r, w, d) := s.2.2.readWord raw who (frameAddr header i)
    (if s.1.good then r else s.1, s.2.1 ++ [w], d)
  let out := (List.range count).foldl step (.ok, [], d)
  if out.1.good then out else (out.1, List.replicate count 0, d)

end Sys2Proof.Machine
end

