-- ==== Sys2Proof/Machine/HostAccess.lean ====
section
/-! DEFINITION. Host frames and remote access (chapter 04): the checks of R139, ALIVE, the outstanding request and its result (R140,
R141), REMOTE frames and the register-access frames of a Rigraong link (R148 to R150, R546), notices (R149) and IRQ_N (R147). -/

namespace Sys2Proof

open Machine

/-- The HEADER word of a frame (R138). -/
def HostFrame.header (f : HostFrame) : Word :=
  BitVec.ofNat 32 (f.opcode.val * 2 ^ 28 + f.page.val * 2 ^ 19 + f.woff.val * 2 ^ 9 + f.count.val * 8 + f.fixed.toNat * 4 + f.low.val)

/-- The frame that arrives where its sender meant opcode `n`: one whose opcode the header does not define stays as it is (R139). -/
def HostFrame.spelling (f : HostFrame) (n : Fin 16) : HostFrame :=
  if f.opcode.val = 0 ∨ 5 < f.opcode.val then f else { f with opcode := n }

/-- The number of words of a frame. -/
def HostFrame.words (f : HostFrame) : Nat := f.count.val + 1

/-- The number of data words an opcode's frame carries (R138). -/
def HostFrame.dataWords (f : HostFrame) : Nat :=
  match f.opcode.val with
  | 2 => f.words
  | 4 => 1
  | 5 => 1 + f.words
  | _ => 0

/-- The check of a frame (R127, R138): CRC-32C over header, data and ALIVE in transmission order. DESIGN CHOICE (log 117): a word goes least
significant byte first. -/
def HostFrame.check (f : HostFrame) : Word :=
  BitVec.ofNat 32 ((checkCode 3).over (wordBytes f.header ++ f.data.flatMap wordBytes ++ [BitVec.ofNat 8 f.alive.val]))

/-- A READ, WRITE or REMOTE frame. -/
def HostFrame.isRequest (f : HostFrame) : Bool := [1, 2, 4, 5].contains f.opcode.val

/-- A REMOTE frame. -/
def HostFrame.isRemote (f : HostFrame) : Bool := 4 ≤ f.opcode.val

/-- The route word of a REMOTE frame: link, node, epoch. -/
def HostFrame.routeLink (f : HostFrame) : Lane := if (f.data.headD 0).getLsbD 6 then .b else .a

def HostFrame.routeNode (f : HostFrame) : Nat := (f.data.headD 0).toNat % 64

def HostFrame.routeEpoch (f : HostFrame) : Nat := (f.data.headD 0).toNat / 2 ^ 24

end Sys2Proof

namespace Sys2Proof.Machine

/-- PAGE is mapped: pages 0x000 to 0x02C and the regions (R111). -/
def pageMapped (page : Nat) : Bool := page < 45 || (regionPage (0x1000 * page)).isSome

/-- The expected ALIVE (R140). -/
def Dev.expAlive (d : Dev) : Nat := match d.host.lastAlive with | some a => (a + 1) % 256 | none => 0

/-- An RSTAT word (R138). -/
def rstatWord (kind code expAlive reqAlive : Nat) : Word :=
  BitVec.ofNat 32 (2 ^ 31 + kind * 2 ^ 28 + code * 2 ^ 24 + expAlive * 2 ^ 16 + reqAlive * 2 ^ 8)

/-- The check of a response (R138): CRC-32C over RSTAT, RDATA and RALIVE. -/
def respCheck (rstat : Word) (rdata : List Word) (ralive : Nat) : Word :=
  BitVec.ofNat 32 ((checkCode 3).over (wordBytes rstat ++ rdata.flatMap wordBytes ++ [BitVec.ofNat 8 ralive]))

/-- Send a response: RALIVE counts every response frame. -/
def Dev.respond (d : Dev) (kind code reqAlive : Nat) (rdata : List Word) : Dev :=
  let ra := (d.host.ralive + 1) % 256
  let st := rstatWord kind code d.expAlive reqAlive
  { d with host := { d.host with
      ralive := ra, response := some { rstat := st, rdata := rdata, ralive := ra, rcrc := respCheck st rdata ra } } }

/-- The first check of R139 that a frame fails, as its code; 0 for none. -/
def Dev.frameCheck (d : Dev) (p : HostPort) (f : HostFrame) : Nat :=
  let cls := d.portClass p.num
  if f.crc ≠ f.check then 1
  else if !f.lengthOk ∨ (1 ≤ f.opcode.val ∧ f.opcode.val ≤ 5 ∧ f.data.length ≠ f.dataWords) then 5
  else if f.opcode.val = 0 ∨ 5 < f.opcode.val ∨ f.low.val ≠ 0 then 4
  else if d.host.lastAlive = some f.alive.val then 2
  else if d.host.lastAlive.isSome ∧ f.alive.val ≠ d.expAlive then 3
  else if cls = .sensor ∨ cls = .safety then 9
  else if !pageMapped f.page.val ∨ 1024 < f.woff.val + f.words then 6
  else if f.isRemote ∧ (!d.rigOn f.routeLink ∨ d.rg f.routeLink R.LINK_STAT_ISHEAD = 0) then 8
  else if f.isRequest ∧ d.host.request.isSome then 7
  else 0

/-- HOST.CAUSE bit of a NACK code (R140, R143). -/
def nackBit : Nat → Nat
  | 1 => 0
  | 2 => 1
  | 3 => 2
  | 4 => 3
  | 5 => 4
  | 6 => 5
  | 7 => 6
  | 8 => 7
  | _ => 8

/-- A NACK: the cause bit, the error count, the response. A frame cut short is answered by no response, whichever check it fails first
(R139). -/
def Dev.nack (d : Dev) (f : HostFrame) (code : Nat) : Dev :=
  let d := d.cause pgHOST (nackBit code)
  let d := if code = 1 then d.inc pgHOST R.HOST_ERRCNT_CRC_ERR
    else if code = 2 ∨ code = 3 then d.inc pgHOST R.HOST_ERRCNT_ALIVE_ERR else d
  if !f.lengthOk then { d with host := { d.host with response := none } } else d.respond 1 code f.alive.val []

/-- Queue the REG_REQ of a REMOTE request at its link (R148). -/
def Dev.sendRemote (d : Dev) (p : HostPort) (f : HostFrame) : Dev :=
  let l := f.routeLink
  let tag := (d.rig.at l).tag
  let h := { f with opcode := if f.opcode.val = 4 then 1 else 2 }.header
  let cls := if d.portClass p.num = .owner then 1 else 0
  let body := wordBytes h ++ [BitVec.ofNat 8 cls, BitVec.ofNat 8 tag] ++ (f.data.drop 1).flatMap wordBytes
  (d.rigQueue l 1 f.routeNode f.routeEpoch body).onRig l fun r => { r with tag := (tag + 1) % 256 }

/-- Accept a frame (R139 to R141). -/
def Dev.acceptFrame (d : Dev) (p : HostPort) (f : HostFrame) : Dev :=
  let d := if d.host.lastAlive.isNone then d.cause pgHOST 10 else d
  let d := { d with host := { d.host with lastAlive := some f.alive.val } }
  if f.isRequest then
    let lost : Bool := match d.host.result with | some r => !r.fetched | none => false
    let d := if lost then d.cause pgHOST 9 else d
    let d := { d with host := { d.host with result := none, request := some { port := p, frame := f, at' := d.now } } }
    let d := if f.isRemote then d.sendRemote p f else d
    d.respond 0 0 f.alive.val []
  else
    match d.host.request, d.host.result with
    | some _, _ => d.respond 3 0 f.alive.val []
    | none, some r =>
      ({ d with host := { d.host with result := some { r with fetched := true } } }).respond 2 r.code r.reqAlive r.rdata
    | none, none => d.respond 4 0 f.alive.val []

/-- A request frame at a port (R138, R139); its port's die answers once a start-up has opened its ports (R136), while it runs and VIO
holds the lands (R78, R79). -/
def Dev.hostFrame (d : Dev) (p : HostPort) (f : HostFrame) : Dev :=
  if !d.portOpen p.num ∨ d.power.vioLevel.isNone then d
  else
    match d.frameCheck p f with
    | 0 => d.acceptFrame p f
    | code => d.nack f code

/-- A request ends with a result (R141). -/
def Dev.endRequest (d : Dev) (code : Nat) (rdata : List Word) : Dev :=
  match d.host.request with
  | none => d
  | some r =>
    { d with host := { d.host with
        request := none, result := some { port := r.port, code := code, reqAlive := r.frame.alive.val, rdata := rdata } } }

/-- HOST_REQUEST_COMPLETE (R142): the local request in progress is carried out, and its result is ready. A remote one ends with its
answer or its timeout. -/
def Dev.hostComplete (d : Dev) : Dev :=
  match d.host.request with
  | none => d
  | some r =>
    if r.frame.isRemote then d
    else
      let n : Fin 48 := match r.port with | .host => 0 | .service => 2
      let w := d.who (.port n)
      if r.frame.opcode.val = 2 then
        let (res, d) := d.writeFrame (.port n) w r.frame.header r.frame.data
        (d.showAccess (.port n) res).endRequest res.code []
      else
        let (res, ws, d) := d.readFrame (.port n) w r.frame.header r.frame.words
        let d := d.showAccess (.port n) res
        ({ d with host := { d.host with readData := ws } }).endRequest res.code ws

/-- REMOTE_TIMEOUT (R148): 3 link cycles and 20 us after the request's acceptance. -/
def Dev.remoteTimeout (d : Dev) : Dev :=
  match d.host.request with
  | some r =>
    if r.frame.isRemote ∧ r.at' + 1500 * d.rg r.frame.routeLink R.LINK_CYCLE_CYC + 10000 ≤ d.now then
      d.endRequest 10 (if r.frame.opcode.val = 4 then List.replicate r.frame.words 0 else [])
    else d
  | none => d

/-- The remote request in progress waits for an answer of a tag on a link. -/
def Dev.remoteWaits (d : Dev) (l : Lane) (tag : Nat) : Bool :=
  match d.host.request with
  | some r => r.frame.isRemote && r.frame.routeLink == l && ((d.rig.at l).tag + 255) % 256 == tag
  | none => false

/-! ## The link's register-access frames -/

/-- The class under which a REG_REQ acts at this node (R135). -/
def Dev.relayWho (d : Dev) (l : Lane) (owner : Bool) : Who :=
  let port := 7 + l.idx
  let c := d.portClass port
  let low : PortClass := if c = .owner then .operator else c
  { ident := port, cls := if owner ∧ l = .a ∧ d.g pgHOST R.HOST_CFG_LINKA_RELAY = 1 then .owner else low, fw := false }

/-- A request of another epoch (R150, R546): counted, and answered with EPOCH_MISMATCH. DESIGN CHOICE (log 96): the header of that NOTICE
carries this node's own NODE.EPOCH; R543 states EPOCH for REG_REQ only. Such a WRITE is no write that a page refuses under R119: it
marks no page (log 96). -/
def Dev.rigMismatch (d : Dev) (l : Lane) (tag : Nat) : Dev :=
  let d := (d.rs l R.LINK_NODE_MISMATCH (satInc 255 (d.rg l R.LINK_NODE_MISMATCH))).rigCause l 7
  (d.raise (rigSrc l 4)).rigQueue l 4 (d.rg l R.LINK_STAT_HEADADDR) (d.rg l R.LINK_NODE_EPOCH)
    [1, BitVec.ofNat 8 tag, BitVec.ofNat 8 (d.rg l R.LINK_NODE_EPOCH)]

/-- A relayed request is executed and its response queued (R546). -/
def Dev.rigAnswer (d : Dev) (l : Lane) (header : Word) (owner : Bool) (tag : Nat) (data : List Word) : Dev :=
  let head := d.rg l R.LINK_STAT_HEADADDR
  let w := d.relayWho l owner
  let n : Fin 48 := match l with | .a => 7 | .b => 8
  let count := header.toNat / 8 % 64 + 1
  let (res, ws, d) : Result × List Word × Dev :=
    if header.toNat / 2 ^ 28 = 2 then
      let (r, d) := d.writeFrame (.port n) w header data
      (r, [], d)
    else if w.cls = .operator ∨ w.cls = .owner then d.readFrame (.port n) w header count
    else (.cls, List.replicate count 0, d)
  let d := d.showAccess (.port n) res
  d.rigQueue l 2 head (d.rg l R.LINK_NODE_EPOCH)
    (wordBytes (rstatWord 2 res.code 0 0) ++ [BitVec.ofNat 8 tag] ++ ws.flatMap wordBytes)

/-- REG_REQ (R546, R150): a frame to this node is carried out, and its answer is queued; a wrong epoch gives a notice instead. -/
def Dev.regReq (d : Dev) (l : Lane) (dst epoch : Nat) (header : Word) (owner : Bool) (tag : Nat) (data : List Word) : Dev :=
  if !d.rigOn l ∨ d.rg l R.LINK_NODE_ADDR ≠ dst then d
  else if d.rg l R.LINK_NODE_EPOCH ≠ epoch then d.rigMismatch l tag
  else d.rigAnswer l header owner tag data

/-- REG_RSP (R148): the head completes its request. -/
def Dev.regRsp (d : Dev) (l : Lane) (src : Nat) (rstat : Word) (tag : Nat) (data : List Word) : Dev :=
  if !d.rigOn l then d
  else
    let d := d.rigHeard l src
    if d.remoteWaits l tag then d.endRequest (rstat.toNat / 2 ^ 24 % 16) data else d

/-- NOTICE (R149, R150): an interrupt notice sets the node's bit, a role mismatch ends the request with EPOCH. -/
def Dev.noticeFrame (d : Dev) (l : Lane) (src : Nat) (n : LinkNotice) : Dev :=
  let d := if d.rigOn l then d.rigHeard l src else d
  if !d.rigOn l ∨ d.rg l R.LINK_STAT_ISHEAD = 0 then d
  else
    match n with
    | .interrupt s0 s1 =>
      if s0 = 0 ∧ s1 = 0 then d
      else
        let f := if src < 32 then R.LINK_NOTICE0_NODE else R.LINK_NOTICE1_NODE
        d.rs l f (d.rg l f ||| 2 ^ (src % 32))
    | .mismatch tag _ =>
      if d.remoteWaits l tag.val then
        d.endRequest 11 (match d.host.request with
          | some r => if r.frame.opcode.val = 4 then List.replicate r.frame.words 0 else []
          | none => [])
      else d

/-- INTERRUPT_NOTICE (R149): while a summary of this node is not zero, a notice to the head waits for the next slot. -/
def Dev.interruptNotice (d : Dev) (l : Lane) : Dev :=
  let s0 := d.summary l 0
  let s1 := d.summary l 1
  if !d.rigOn l ∨ (s0 = 0 ∧ s1 = 0) then d
  else
    d.rigQueue l 4 (d.rg l R.LINK_STAT_HEADADDR) (d.rg l R.LINK_NODE_EPOCH) ([0] ++ wordBytes s0 ++ wordBytes s1)

/-- PIN_MISMATCH (R147): the land has read `low` at a die for more than 1 us. A level that the dies' own drives do not explain is held
from outside; it is a mismatch of the die where it differs from the die's own drive and no other die drives the land low. -/
def Dev.pinMismatch (d : Dev) (l : Lane) (low : Bool) : Dev :=
  if !d.up (.iface l) then d
  else
    let held : Option Bool := if low = (d.irqDrives .a || d.irqDrives .b) then none else some low
    let d := { d with lands := { d.lands with irqHeld := held } }
    if d.irqDrives l.other ∨ low = d.irqDrives l then d else d.causeL l pgIRQ 1

end Sys2Proof.Machine
end

