-- ==== Sys2Proof/Machine/Ports.lean ====
section
/-! DEFINITION. The lands of the interface dies (chapter 02): which die drives an output, what stands on SYNC_OUT (R61, R360) and on the
HVIL loop (R60), and the high-impedance state of a land whose die is down or whose block is not enabled (R71, R72). -/

namespace Sys2Proof.Machine

/-! ## Outputs (R71, R72) -/

/-- A land, or a group of lands of one port, that an interface die drives. Lands that both dies drive are named once for each. -/
inductive OutLand where
  | hio | tdo | stx
  | canTx (n : Fin 4)
  | sync (l : Lane)
  | mdio | etx
  | exc (l : Lane)
  | ssiClk (l : Lane)
  | link (l : Lane)
  | hvilDrv (l : Lane)
  | irqN (l : Lane)
  | faultN (l : Lane)
  | sbc (l : Lane)
  deriving DecidableEq, Repr

/-- The lane on whose interface die an output sits (R56). -/
def OutLand.lane : OutLand → Lane
  | .hio => .a | .tdo => .b | .stx => .b
  | .canTx n => canLane n
  | .mdio => .a | .etx => .a
  | .sync l => l | .exc l => l | .ssiClk l => l | .link l => l | .hvilDrv l => l | .irqN l => l | .faultN l => l | .sbc l => l

/-- The die that drives SYNC_OUT (R61): IA while it runs and its lane is not declared failed, else IB. -/
def Dev.syncDriver (d : Dev) : Option Lane :=
  if d.up (.iface .a) ∧ d.lanes.a.role ≠ .failed then some .a else if d.up (.iface .b) then some .b else none

/-- A position unit drives a port of a source: it is enabled, and a channel has the source selected (R191, R202). -/
def Dev.portUsed (d : Dev) (u : Lane) (sel : Nat) : Bool :=
  d.gl u (pgPOS u) H.CTRL_ENABLE == 1 && (List.finRange 4).any fun c => d.chSel u c == sel

/-- The block behind an output is configured and enabled, so that its die drives it (R72). -/
def Dev.blockDrives (d : Dev) : OutLand → Bool
  | .hio => d.portOpen 0
  | .tdo => d.chainClosed
  | .stx => d.portOpen 2
  | .canTx n => d.canOn n
  | .sync l => d.lands.syncBy == some l && (d.lands.syncHeld.isSome || d.gl l (pgMOD l) R.MOD_SYNC_OUTEN == 1)
  | .mdio => d.ethOn
  | .etx => d.ethOn
  | .exc u => d.resDrives u && d.portUsed u 4
  | .ssiClk u => d.ssiDrives u && d.portUsed u 5
  | .link l => d.rigOn l
  | .hvilDrv _ => true
  | .irqN l => d.irqDrives l
  | .faultN l => d.faultDrives l
  | .sbc l => d.gl l (pgSAFE l) R.SAFE_SBCSTAT_RELEASED == 1

/-- A die drives an output. Where it does not, the land stands as R71 gives it: high-impedance, its transistor released, its current
source off, its switches open. -/
def Dev.drives (d : Dev) (o : OutLand) : Bool := d.up (.iface o.lane) && d.blockDrives o

/-- The excitation on EXC± (R202): frequency in Hz and peak amplitude in mV; none while the port does not drive it. -/
def Dev.excitation (d : Dev) (u : Lane) : Option (Nat × Nat) :=
  if d.drives (.exc u) then some (125 * d.gl u (pgPOS u) R.POS_EXC_FREQ, 50 * d.gl u (pgPOS u) R.POS_EXC_AMP) else none

/-! ## HVIL (R60) -/

/-- The HVIL loop is driven: by either interface die. -/
def Dev.hvilDriven (d : Dev) : Bool := d.drives (.hvilDrv .a) || d.drives (.hvilDrv .b)

/-- What an interface die reads at HVIL_SNS: the loop is closed; none while the die does not run. -/
def Dev.hvilSense (d : Dev) (l : Lane) : Option Bool :=
  if d.up (.iface l) then some (d.hvilDriven && !d.mode.hvilOpen) else none

/-! ## SYNC_OUT (R61, R360) -/

/-- The tick at which SYNC_OUT rises for a period start: within 2 ticks of it, as the spec leaves it. -/
def syncRise (start : Nat) : Int := (start : Int) + (Config.syncSkew start % 5 : Nat) - 2

/-- The pulse of a lane's TB0 stands at a tick: 100 ticks from the rise of its present period start, or of its next one. -/
def Dev.syncHigh (d : Dev) (l : Lane) (t : Nat) : Bool :=
  let on := fun (s : Nat) => decide (syncRise s ≤ t ∧ (t : Int) < syncRise s + 100)
  let tb := (d.mods.at l).tb0
  (tb.running && on tb.t0) || (d.nextStart l 0).any on

/-- SYNC_OUT: its level, or none while no die drives it. -/
def Dev.syncOut (d : Dev) : Option Bool :=
  match d.lands.syncBy with
  | none => none
  | some l =>
    if !d.drives (.sync l) then none
    else match d.lands.syncHeld with
      | some v => some v
      | none => some (d.syncHigh l d.now)

/-- SYNC_OUT changes hands (R61): IB holds the level that IA left until its next period start. IA drives again at once (DESIGN CHOICE). -/
def Dev.syncFollow (d0 d : Dev) : Dev :=
  let new := d.syncDriver
  if new = d0.lands.syncBy then d
  else { d with lands := { d.lands with syncBy := new, syncHeld := if d0.lands.syncBy = some .a ∧ new = some .b then d0.syncOut else none } }

/-- A period start of the die that holds SYNC_OUT: from here on it drives the land by its own TB0 (R61). -/
def Dev.syncPeriod (d : Dev) (l : Lane) (t : Fin 2) : Dev :=
  if t = 0 ∧ d.lands.syncBy = some l then { d with lands := { d.lands with syncHeld := none } } else d

end Sys2Proof.Machine
end

