-- ==== Sys2Proof/Machine/Boot.lean ====
section
/-! DEFINITION. Start-up (R102 to R107, R612 to R614), page seals (R127 to R129), the supervisor's answer (R106), activations
(R619 to R621), and what follows a command. -/

namespace Sys2Proof.Machine

/-! ## Page seals (R127 to R129) -/

/-- The words that a page's SEAL covers, in lane `l`'s copy: every register that holds a sealed field, its other bits 0 (R127). -/
def Dev.sealWords (d : Dev) (l : Lane) (p : Nat) : List Word :=
  (List.range (pageRegs p - 16)).filterMap fun i =>
    let o := 0x40 + 4 * i
    let m := ((regFlds p o).filter fun f => f.inSeal && (f.acc == .rw || f.acc == .rws || f.acc == .rwl)).foldl (fun m f => m ||| f.mask) 0
    if m = 0 then none else some (d.word l (pageAddr p o) &&& m)

/-- An island compares its SEAL with the other island's (R497): both dies are available. -/
def Dev.safeSealsDiffer (d : Dev) : Bool :=
  d.up (.iface .a) && d.up (.iface .b) && d.gl .a (pgSAFE .a) H.SEAL != d.gl .b (pgSAFE .b) H.SEAL

/-- An island that waits for R129 enters service once it holds. -/
def Dev.islandEnters (d : Dev) : Dev :=
  d.eachLane fun d i =>
    if (d.islands.at i).waits ∧ d.sealBack i then d.onIsland i fun s => { s with inService := true, waits := false } else d

/-- SEAL_RECOMPUTE (R128): the seal of every available copy, its comparison while the page is locked, R497, and what R129 and R506
make of it. -/
def Dev.sealRecompute (d : Dev) (p : Nat) : Dev :=
  let d := (d.copies p).foldl (fun d l =>
    let d := d.sl l p H.SEAL (crc32cWords (d.sealWords l p))
    if d.gl l p H.LOCK_LOCKED = 1 ∧ d.gl l p H.SEAL ≠ d.gl l p H.SEAL_REF then
      (d.causeL l p 0x80000000#32).raiseCond (6 + 16 * l.idx)
    else d) d
  let d := d.sealEnds
  let d := if p ≠ pgSAFE .a ∧ p ≠ pgSAFE .b then d
    else d.eachLane fun d i =>
      if !d.safeSealsDiffer then d.endCause (291 + 16 * i.idx)
      else if (d.islands.at i).inService ∨ (d.islands.at i).waits then d.raiseCond (291 + 16 * i.idx) else d
  let d := d.islandEnters
  if safetyPage p ∧ d.safetySealed then d.eachLane fun d i => d.entryCheckVerify i else d

/-- The seals of all pages. -/
def Dev.sealAll (d : Dev) : Dev := (List.range 45).foldl (fun d p => d.sealRecompute p) d

/-! ## Loading a bank's components (R613) -/

/-- The standing under which the configuration image writes (R613): an OWNER port, with the identity of port HOST. -/
def bootWho : Who := { ident := 0, cls := .owner, fw := false }

/-- The words of a bank's component on lane `l`'s die, none where the image has no such component. -/
def Dev.part (d : Dev) (l : Lane) (b typ ix : Nat) : Option (List Word) :=
  ((d.nvm.at l).component b typ ix).map fun c => (d.nvm.at l).content b c

/-- The records of a CAL or CONFIG component. -/
def Dev.partRecords (d : Dev) (l : Lane) (b typ : Nat) : Option (List (Word × List Word)) :=
  match (d.nvm.at l).component b typ 0 with
  | some c => (d.nvm.at l).recordsOf b c
  | none => none

/-- Step 2: QUILL into the active bank of the lane's Quill, with the matching PROG_CRC. -/
def Dev.loadQuill (d : Dev) (l : Lane) (b : Nat) : Dev :=
  match d.part l b 3 0 with
  | none => d
  | some ws =>
    let bank := d.qBank l
    let d := d.onQuill l fun u => ws.zipIdx.foldl (fun u wi => u.setHalf bank (wi.2 / 2) (wi.2 % 2) wi.1) u
    d.sl l (pgQUILL l) R.QUILL_PROG_CRC_CRC ((checkCode 3).over ((d.quill.at l).bankBytes bank)) bank

/-- A calibration record that no register holds (R609): trim counts of a sensor, asymmetry trims of a driver link. -/
def Dev.calRecord (d : Dev) (kind ix : Nat) (ws : List Word) : Dev :=
  let e := (ix, ws.getD 0 0, ws.getD 1 0)
  if kind = 2 then { d with cal := { d.cal with sensors := e :: d.cal.sensors.filter (·.1 != ix) } }
  else { d with cal := { d.cal with drv := e :: d.cal.drv.filter (·.1 != ix) } }

/-- The converter that a CAL record's INDEX names: 0 A0, 1 A1, 2 B0, 3 B1. -/
def calConv (ix : Nat) : Nat := pgCONV (if ix < 2 then .a else .b) (if ix % 2 = 0 then 0 else 1)

/-- Step 3: CAL. -/
def Dev.loadCal (d : Dev) (l : Lane) (b : Nat) : Dev :=
  ((d.partRecords l b 5).getD []).foldl (fun d r =>
    let kind := r.1.toNat / 2 ^ 24
    let ix := r.1.toNat / 2 ^ 16 % 256
    if kind = 1 then
      if ix < 4 then
        r.2.zipIdx.foldl (fun d wi => (d.copies (calConv ix)).foldl (fun d m =>
          d.setWord m (pageAddr (calConv ix) (0xC0 + 4 * wi.2)) wi.1) d) d
      else d
    else d.calRecord kind ix r.2) d

/-- A lane that starts beside another one takes the corrections of its own converters from its calibration set (R161). -/
def Dev.loadCorr (d : Dev) (l : Lane) (b : Nat) : Dev :=
  ((d.partRecords l b 5).getD []).foldl (fun d r =>
    let ix := r.1.toNat / 2 ^ 16 % 256
    if r.1.toNat / 2 ^ 24 = 1 ∧ ix / 2 = l.idx ∧ d.pageUp l (calConv ix) then
      r.2.zipIdx.foldl (fun d wi => d.setWord l (pageAddr (calConv ix) (0xC0 + 4 * wi.2)) wi.1) d
    else d) d

/-- The base address of the region of a TABLE instance (R608). -/
def tableBase (ix : Nat) : Nat :=
  match ix with
  | 0 => rgSEG
  | 1 => rgMAP
  | 2 => rgMAP + 0x8000
  | 3 => rgCONN
  | 4 => rgRULING
  | n => rgFILTER + 0x2000 * (n - 5)

/-- The bits of a region word that hold something. -/
def regionBits (k : Nat) : Word :=
  if rgMAP ≤ k ∧ k < rgCONN then
    let q := (k - rgMAP) % 0x8000
    if q < 0x4800 then 0xFFFFFFFF#32 else if q < 0x4A00 then 0xFFFF#32 else 0
  else
    let (fs, size, base) := regionFlds k
    accMask ((fs.map fun f => { f with count := 1 }).filter (·.holds ((k - base) % size))) fun a => a == .rw || a == .rws || a == .rwl

/-- Step 4: each TABLE into its region. -/
def Dev.loadTables (d : Dev) (l : Lane) (b : Nat) : Dev :=
  (List.range 9).foldl (fun d ix =>
    match d.part l b 6 ix with
    | none => d
    | some ws => ws.zipIdx.foldl (fun d wi =>
      let k := tableBase ix + 4 * wi.2
      match regionPage k with
      | none => d
      | some p => ([Lane.a, Lane.b].filter fun m => (d.pageUp m p && (regionHolder k).all (· == m))).foldl (fun d m =>
          d.setWord m k (wi.1 &&& regionBits k)) d) d) d

/-- A write under OWNER standing, without the showing of its result: the device and whether it was accepted. -/
def Dev.ownWrite (d : Dev) (who : Who) (k : Nat) (v : Word) : Dev × Bool :=
  if (d.judgeAs (.port 0) who k v).1.good then (d.effectAs (.port 0) who k v, true) else (d, false)

/-- Owner writes in order, with the number of those refused. -/
def Dev.ownWrites (d : Dev) (who : Who) (l : List (Nat × Word)) : Dev × Nat :=
  l.foldl (fun s kv => let (d, ok) := s.1.ownWrite who kv.1 kv.2; (d, s.2 + if ok then 0 else 1)) (d, 0)

/-- The writes of a DRIVER component with its commit (R608, R619). -/
def Dev.driverWrites (d : Dev) (ws : List Word) : List (Nat × Word) :=
  ws.zipIdx.map (fun wi => (pageAddr pgGATE (0x40 + 4 * wi.2), wi.1)) ++
    [(pageAddr pgGATE 4, d.word (d.prim pgGATE) (pageAddr pgGATE 4) ||| 0x10#32)]

/-- Step 5: DRIVER, committed: the page's commit point comes before step 6. -/
def Dev.loadDriver (d : Dev) (l : Lane) (b : Nat) : Dev :=
  match d.part l b 4 0 with
  | none => d
  | some ws =>
    let d := (d.ownWrites bootWho (d.driverWrites ws)).1
    if d.commitWaits pgGATE then d.commitDone pgGATE else d

/-- Step 6: the CONFIG records in order; the first refused one stops the rest (R614). -/
def Dev.loadConfig (d : Dev) (rs : List (Word × List Word)) : Dev :=
  (rs.foldl (fun (s : Dev × Bool) r =>
    if s.2 then s
    else
      let (res, d) := s.1.writeFrame (.port 0) bootWho r.1 r.2
      if res.good then (d, false) else (({ d with boot := { d.boot with refused := true } }).raise 370, true)) (d, false)).1

/-- A lane's ports' classes and LINKA_RELAY take the lowerings that the configuration image holds (R136). -/
def Dev.lowerAgain (d : Dev) (l : Lane) (rs : List (Word × List Word)) : Dev :=
  let ports : List Nat := match l with | .a => [0, 3, 4, 7, 9] | .b => [2, 5, 6, 8]
  (rs.flatMap fun r => frameWrites r.1 r.2).foldl (fun d kv =>
    if kv.1 = pageAddr pgHOST 0x4C then
      ports.foldl (fun d n =>
        let f : Fld := { R.HOST_PORT_CLASS_P2 with hi := 2 * n + 1, lo := 2 * n }
        if f.get kv.2 < d.g pgHOST f then d.s pgHOST f (f.get kv.2) else d) d
    else if kv.1 = pageAddr pgHOST 0x40 ∧ l = .a ∧ R.HOST_CFG_LINKA_RELAY.get kv.2 = 0 then d.s pgHOST R.HOST_CFG_LINKA_RELAY 0
    else d) d

/-! ## A lane that starts while the other one runs (R614) -/

/-- What a page holds of its own die, and a starting lane does not take from the other one: the roles of shared ports, calibration
corrections (R161), and counts. -/
def ownBits (p o : Nat) : Word :=
  match pageKind p with
  | (0x1A, _) => if o = 0x40 then R.POS_CFG_RES_ROLE.mask ||| R.POS_CFG_SSI_ROLE.mask
      else if 0x50 ≤ o ∧ ((o - 0x50) % 0xA8 = 0x40 ∨ (o - 0x50) % 0xA8 = 0x48) then 0xFFFFFFFF#32 else 0
  | (0x14, _) => if 0xC0 ≤ o then 0xFFFFFFFF#32 else 0
  | (0x0E, _) => if o = 0x74 ∨ o = 0x78 then 0xFFFFFFFF#32 else 0
  | (0x1C, _) => if 0x140 ≤ o ∧ (o - 0x140) % 0x10 = 8 then 0xFFFFFFFF#32 else 0
  | _ => 0

/-- A starting lane's page takes the settings of the other lane's page of the same kind: header, settings, and staged values. -/
def Dev.adoptPage (d : Dev) (l : Lane) (page : Lane → Nat) : Dev :=
  let p := page l
  let q := page l.other
  if !d.pageUp l p ∨ !d.pageUp l.other q then d
  else
    let d := [0x04, 0x10, 0x18, 0x1C, 0x24, 0x2C].foldl (fun d o => d.setWord l (pageAddr p o) (d.word l.other (pageAddr q o))) d
    let d := (List.range (pageRegs p - 16)).foldl (fun d i =>
      let o := 0x40 + 4 * i
      let m := (accMask (regFlds p o) fun a => a == .rw || a == .rws || a == .rwl) &&& ~~~(ownBits p o)
      let d := d.setWord l (pageAddr p o) ((d.word l (pageAddr p o) &&& ~~~m) ||| (d.word l.other (pageAddr q o) &&& m))
      { d with staged := match cellsGet d.staged (regKey l.other (pageAddr q o)) with
          | some w => cellsPut d.staged (regKey l (pageAddr p o)) w
          | none => cellsErase d.staged (regKey l (pageAddr p o)) }) d
    let rest := d.commitPending.filter (·.1 != p)
    { d with commitPending := (d.commitPending.filter (·.1 == q)).map (fun c => (p, c.2)) ++ rest }

/-- Channels of a starting die whose source differs from the other unit's start anew with that source, before the page's settings are
taken (R192). -/
def Dev.adoptSources (d : Dev) (l : Lane) : Dev :=
  if !d.pageUp l (pgPOS l) ∨ !d.pageUp l.other (pgPOS l.other) then d
  else (List.finRange 4).foldl (fun d c => if d.chSel l c = d.chSel l.other c then d else d.sourceSelect l c (d.chSel l.other c)) d

/-- The contents, tables, Quill banks and timebases that a starting lane takes from the running one (R114, R358, R614): mirrored pages and
regions, the settings of the pages that both lanes hold alike, and the units behind them. -/
def Dev.adoptLane (d : Dev) (l : Lane) : Dev :=
  let d := (d.takeMirror l true).takeMirror l false
  let kinds : List (Lane → Nat) := [pgQUILL, fun m => pgCONV m 0, fun m => pgCONV m 1, pgSEQ, pgPOS, pgMOD, pgSAFE]
  let d := Dev.convsFollow d (kinds.foldl (fun d page => d.adoptPage l page) (d.adoptSources l)) l
  let d := if d.dieUp l.other false ∧ d.dieUp l false then
      let o := d.quill.at l.other
      let m := d.mods.at l.other
      let d := d.sl l (pgQUILL l) R.QUILL_PROG_BANK (d.qBank l.other)
      let d := d.onQuill l fun u => { u with prog := o.prog, coefLatch := o.coefLatch, coefPend := o.coefPend, swapAt := o.swapAt }
      d.onMod l fun u => { u with tb0 := m.tb0, tb1 := m.tb1, legs := m.legs, groups := m.groups, protLegs := m.protLegs }
    else d
  let d := [(0 : Fin 2), 1].foldl (fun d c => d.onConv l c fun v => { v with refAt := d.now }) d
  (List.finRange 4).foldl (fun d c => d.onChan l c fun s => { s with goodAt := d.now }) d

/-! ## Start-up (R102 to R105, R612, R613) -/

/-- Banks in the order in which a lane's ROM tries them (R612): its one-shot bank, the preferred one, the other one. -/
def NvmDie.bankOrder (n : NvmDie) : List Nat :=
  let first : List Nat := match n.try' with | some b => [b] | none => []
  first ++ ([n.pref, 1 - n.pref].filter fun b => !first.contains b)

/-- CAN0 of the blank supervisor (R104): 500 kbit/s classical CAN, which CFG, BTN, BTD and BTX give at reset, enabled. -/
def Dev.superviseCan (d : Dev) : Dev :=
  if !d.pageUp .a 0x24 ∨ d.canOn 0 then d
  else
    let d := [0x40, 0x44, 0x48, 0x4C].foldl (fun d o => d.setWord .a (pageAddr 0x24 o) (addrReset (pageAddr 0x24 o))) d
    ((d.s 0x24 H.CTRL_ENABLE 1).s 0x24 H.CTRL_CLKREQ 1).canEnable 0 true

/-- The blank supervisor behaviour (R104, R105): every reference buffer of a running control die is enabled, and CAN0. -/
def Dev.supervise (d : Dev) : Dev :=
  let d := (d.s pgSYS R.SYS_CONFIG_SUPERVISOR 1).superviseCan
  d.eachLane fun d l => [(0 : Fin 2), 1].foldl (fun d c =>
    if d.pageUp l (pgCONV l c) ∧ d.gl l (pgCONV l c) R.CONV_REF_EN = 0 then (d.sl l (pgCONV l c) R.CONV_REF_EN 1).refEnable l c true
    else d) d

/-- Every port of an interface die opens (R136): the lowerings of the image stand. -/
def Dev.openPorts (d : Dev) (l : Lane) : Dev := { d with host := { d.host with opened := d.host.opened.put l true } }

/-- The ROM's choice of a bank (R612): TRY is read and cleared before the verification; BANK_FALLBACK where the first bank tried is
not the one chosen; BANK shows what the verification found. -/
def Dev.chooseBank (d : Dev) (l : Lane) : Dev × Option Nat :=
  let n := d.nvm.at l
  let d := { d with nvm := d.nvm.put l { n with try' := none } }
  let d := [0, 1].foldl (fun d b => d.bankShow b (d.bankCode b)) d
  let pick := n.bankOrder.find? fun b => n.verify l b == 0
  let d := if pick.isSome ∧ pick ≠ n.bankOrder.head? then (d.raise 369).cause pgNVM 4 else d
  (d, pick)

/-- The self-test of the start-up (R438, R439). -/
def Dev.bootTest (d : Dev) (l : Lane) (ok : Bool) : Dev :=
  if ok then d.onLane l fun s => { s with stOk := true }
  else d.selftestFails l

/-- A lane's clocks, dies and isolated connection stand for its start-up (R102), and it has neither started since its latest reset nor
failed by a source of class LANE, its self-test's among them. -/
def Dev.mayStart (d : Dev) (l : Lane) : Bool :=
  let s := d.lanes.at l
  let c := d.clocks.at l
  d.up (.iface l) && d.up (.ctl l) && !s.up && c.main && c.pllI && (c.pllC || c.ctlOnRc) && d.isoUp l &&
  !(s.role == .failed && s.laneSrc.isSome) && !d.thermalLatch

/-- The device's own steps where no other lane runs: steps 2 to 6 of R613 in STANDBY, or the blank supervisor; then the mode. The automatic
transitions wait for the start-up to complete (`Dev.autoMode`). -/
def Dev.startAlone (d : Dev) (l : Lane) (pick : Option Nat) : Dev :=
  let tow := d.mode.towWake
  let old := d.mode.cur
  let d := if tow then { d with mode := { d.mode with cur := .standby } }
    else Dev.noSide (d.enterMode .standby true)
  let d := { d with boot := { d.boot with refused := false }, mode := { d.mode with superArmed := false } }
  let d := match pick with
    | none => (d.raise 368).supervise
    | some b =>
      let d := ((((d.loadQuill l b).loadCal l b).loadTables l b).loadDriver l b)
      match d.partRecords l b 7 with
      | some rs => d.loadConfig rs
      | none => d.supervise
  if tow then ({ d with mode := { d.mode with cur := old, towWake := false } }).goMode .hold true
  else { d with boot := { d.boot with defaultDue := decide (d.mode.cur = .standby) } }

/-- The start-up sequence of a lane (R102 to R104, R612 to R614). A lane without a valid bank stays down beside one that runs an image, and
runs the blank supervisor beside one that does. DESIGN CHOICE (log 134): HOST, SERVICE and DEBUG open in the blank supervisor too, for
the first image comes over them (R616), though R104 has other ports receive nothing. -/
def Dev.bootLane (d : Dev) (l : Lane) (f : BootFacts) : Dev :=
  let s := d.lanes.at l
  let d := d.onLane l fun _ => { failedAt := s.failedAt, rejoining := s.rejoining }
  let d := d.bootTest l f.selftestOk
  if !f.selftestOk then d
  else
    let (d, pick) := (d.tinkerNeed (.iface l) 22).chooseBank l
    let d := { d with boot := { d.boot with run := d.boot.run.put l pick } }
    let other := d.laneRuns l.other
    let d := if other then
        match pick with
        | none => let d := d.raise 368; if d.supervisor then d.adoptLane l else d
        | some b => ((d.adoptLane l).loadCorr l b).lowerAgain l ((d.partRecords l b 7).getD [])
      else d.startAlone l pick
    let d := if d.supervisor then d.supervise else d
    if other ∧ pick.isNone ∧ !d.supervisor then d
    else
      let d := ((d.openPorts l).linksPower l (List.finRange 8)).onLane l fun s => { s with up := true, pagesMatch := true, rejoining := s.rejoining && other }
      let d := d.onIsland l fun s => { s with inService := false, waits := true }
      let d := (d.tbJudgeAll).sealAll
      if other then d else d.auto

/-- START_UP (R102, R612 to R614). -/
def Dev.startUp (d : Dev) (l : Lane) (f : BootFacts) : Dev :=
  if !d.mayStart l then d else d.bootLane l f

/-- The supervisor answers on CAN0 (R106). -/
def Dev.supervisorAnswers (d : Dev) : Dev :=
  let l := (d.active).getD (d.prim pgSYS)
  let vdc : Nat := match [l, l.other].findSome? fun m => if d.up (.ctl m) then d.laneVdc m else none with
    | some v => clampNat 0 0xFFFE (divOpen v 32768).toNat
    | none => 0xFFFF
  let first := if d.g pgLEDGER R.LEDGER_FIRST_VALID = 1 then d.g pgLEDGER R.LEDGER_FIRST_SRC else 0xFFFF
  let empty := fun (b : Nat) => d.g pgNVM (bankFlds b).2.1 == 8
  let image := flagBits [d.bankValid 0, d.bankValid 1, empty 0, empty 1, d.boot.run.a == some 1]
  let n := (d.mode.superAlive + 1) % 256
  let byte0 := d.mode.cur.code + 128
  let bytes := [BitVec.ofNat 8 byte0, BitVec.ofNat 8 (d.word (d.prim pgSYS) (pageAddr pgSYS 0x50)).toNat] ++ leBytes 2 vdc ++
    leBytes 2 first ++ [BitVec.ofNat 8 image, BitVec.ofNat 8 n]
  { d with mode := { d.mode with superAlive := n, superAnswer := some (0x1F481201, bytes) } }

/-- SUPERVISOR_STATUS_QUERY (R106): the answer on CAN0. -/
def Dev.supervisorQuery (d : Dev) (id : Nat) (ext : Bool) : Dev :=
  if !d.supervisor ∨ !d.canOn 0 ∨ id ≠ 0x1F481200 ∨ !ext then d else d.supervisorAnswers

/-! ## Activations (R619 to R621) -/

/-- Change the lane activation in progress. -/
def Dev.setActivation (d : Dev) (a : Option (Nat × Lane × Bool × Nat)) : Dev := { d with boot := { d.boot with act := a } }

/-- Set TRY of a lane to a bank and reset that lane: steps 1 and 3 of R620. -/
def Dev.tryLane (d : Dev) (b : Nat) (l : Lane) (first : Bool) : Dev :=
  let d := { d with nvm := d.nvm.put l { d.nvm.at l with try' := some b } }
  ((d.resetLane l R.SYS_RESET_CAUSE_SWRST_LANE).setActivation (some (b, l, first, d.now))).setUpd 5

/-- Begin a LANE activation (R620): the STANDBY lane first. -/
def Dev.activateLane (d : Dev) (b : Nat) : Dev :=
  match d.active with
  | some l => if (d.lanes.at l).eligible ∧ (d.lanes.at l.other).eligible then (d.updRefuse 0).tryLane b l.other true else d.updRefuse 3
  | none => d.updRefuse 3

/-- The writes of a QUILL component: the inactive bank of both Quills word by word, its CRC, and PROG.SWAP. -/
def Dev.quillWrites (d : Dev) (ws : List Word) : List (Nat × Word) :=
  let l := d.ctlLanes.headD .a
  let bank := 1 - d.qBank l
  let crc := BitVec.ofNat 32 (crc32cWords ws)
  let prog := d.word l (pageAddr (pgQUILL l) 0x4C)
  ws.zipIdx.map (fun wi => (rgQUILL + 4 * wi.2, wi.1)) ++
    d.ctlLanes.map (fun m => (pageAddr (pgQUILL m) (0x50 + 4 * bank), crc)) ++
    [(pageAddr (pgQUILL l) 0x4C, R.QUILL_PROG_SWAP.put prog 1)]

/-- The writes that an activation of scope 1, 2 or 4 makes through the access path. -/
def Dev.activateWrites (d : Dev) (l : Lane) (b scope : Nat) : List (Nat × Word) :=
  match scope with
  | 1 => match d.part l b 3 0 with | some ws => d.quillWrites ws | none => []
  | 2 => match d.part l b 4 0 with | some ws => d.driverWrites ws | none => []
  | _ => (List.range 9).flatMap fun ix => ((d.part l b 6 ix).getD []).zipIdx.map fun wi => (tableBase ix + 4 * wi.2, wi.1)

/-- An activation of scope 3 (CAL), with the number of refused writes: trims, and corrections of converters with AUTO = 0. -/
def Dev.activateCal (d : Dev) (who : Who) (l : Lane) (b : Nat) : Dev × Nat :=
  ((d.partRecords l b 5).getD []).foldl (fun s r =>
    let kind := r.1.toNat / 2 ^ 24
    let ix := r.1.toNat / 2 ^ 16 % 256
    if kind ≠ 1 then (s.1.calRecord kind ix r.2, s.2)
    else if 4 ≤ ix then s
    else
      let (d, n) := s.1.ownWrites who (r.2.zipIdx.map fun wi => (pageAddr (calConv ix) (0xC0 + 4 * wi.2), wi.1))
      (d, s.2 + n)) (d, 0)

/-- The end of an activation (R619): RESULT, UPD_DONE, IDLE. -/
def Dev.activateEnd (d : Dev) (result : Nat) : Dev :=
  (((d.s pgNVM R.NVM_UPDSTAT_RESULT result).setUpd 0).setActivation none).cause pgNVM 0

/-- UPD_ACTIVATE (R619). -/
def Dev.activate (d : Dev) (b scope ident : Nat) : Dev :=
  if d.updState ≠ 0 then d.updRefuse 1
  else if d.mode.cur = .discharge then d.updRefuse 2
  else if !d.bankValid b then d.updRefuse 4
  else
    let d := d.s pgNVM R.NVM_UPDSTAT_SKIPPED 0
    if scope = 0 then d.activateLane b
    else
      let l := d.nvmDies.headD .a
      let who : Who := { bootWho with ident := ident }
      let (d, n) := if scope = 3 then d.activateCal who l b else d.ownWrites who (d.activateWrites l b scope)
      let d := (d.updRefuse 0).s pgNVM R.NVM_UPDSTAT_SKIPPED (min n 65535)
      d.activateEnd (if n = 0 then 1 else 2)

/-- An accepted ACTIVATE write is carried out. -/
def Dev.activateDue (d : Dev) : Dev :=
  match d.boot.actReq with
  | some (b, scope, ident) => ({ d with boot := { d.boot with actReq := none } }).activate b scope ident
  | none => d

/-- A lane activation goes on where a lane has become eligible, or ACTIVE (steps 2 and 4 of R620). -/
def Dev.activateFollow (d : Dev) : Dev :=
  match d.boot.act with
  | none => d
  | some (b, l, first, _) =>
    let s := d.lanes.at l
    if d.updState ≠ 5 then d
    else if first then
      if s.role = .active then (d.setActivation (some (b, l, true, d.now))).setUpd 6
      else if s.role = .standby ∧ s.eligible ∧ d.handover.isNone ∧ d.ctlCrossed then d.fixHandover l true else d
    else if s.eligible ∧ (s.role = .standby ∨ s.role = .active) then (d.onNvm fun _ n => { n with pref := b }).activateEnd 1
    else d

/-- ACTIVATION_SETTLE (step 3 of R620). -/
def Dev.activationSettle (d : Dev) : Dev :=
  match d.boot.act with
  | some (b, l, true, t) =>
    if d.updState = 6 ∧ t + d.g pgNVM R.NVM_UPDCFG_SETTLE * 500000 ≤ d.now then d.tryLane b l.other false else d
  | _ => d

/-- An activation is abandoned (R621): the lanes that run the new bank are reset without TRY, and UPDATE_FAILED is raised. -/
def Dev.updFails (d : Dev) (new : List Lane) : Dev :=
  let d := { d with handover := none, nvm := { a := { d.nvm.a with try' := none }, b := { d.nvm.b with try' := none } } }
  let d := new.foldl (fun d m => d.resetLane m R.SYS_RESET_CAUSE_SWRST_LANE) d
  ((d.raise 371).activateEnd 3).cause pgNVM 1

/-- UPDATE_FAILED (R621): the lane reset last is not eligible within TMO, or a lane that runs the new bank has raised a source of class
LANE. -/
def Dev.updateFailed (d : Dev) : Dev :=
  match d.boot.act with
  | none => d
  | some (b, l, _, t) =>
    let late := d.updState = 5 ∧ !(d.lanes.at l).eligible ∧ t + d.g pgNVM R.NVM_UPDCFG_TMO * 500000 ≤ d.now
    let new := [Lane.a, Lane.b].filter fun m => d.boot.run.at m == some b
    let raised := new.any fun m => (d.lanes.at m).laneSrc.isSome || (d.lanes.at m).role == .failed
    if !late ∧ !raised then d
    else
      d.updFails new

/-! ## What follows a command -/

/-- A lane is lost: a timebase that waited for its enables may start in the one that is left (R358). -/
def Dev.laneLeft (d0 d : Dev) : Dev :=
  if [Lane.a, Lane.b].any fun l => d0.pageUp l (pgMOD l) && !d.pageUp l (pgMOD l) then d.tbJudgeAll else d

/-- A lane that a command has made ACTIVE out of STANDBY starts from its shadow registers (R41, R45): from its last complete shadow, and
from the shadow of each Quill entry that is current for the entry's next run (R321), where no run of that entry is in progress. -/
def Dev.activeStarts (d0 d : Dev) (l : Lane) : Dev :=
  if (d0.lanes.at l).role = .standby ∧ (d.lanes.at l).role = .active then
    [(0 : Fin 2), 1].foldl (fun d e =>
      let u := d.quill.at l
      match u.shadowFor e (u.trigLast e) with
      | some s => if u.run = some e then d else d.qImport l s
      | none => d) (d.shadowStart l)
  else d

/-- What every command ends with: an axis STOP whose motion unit stands ends in OFF (R343), an
acknowledgement before a new cause of STO is void and an island's STO symbol follows its requests (R473, R475), ASC leaves a side that
is not permitted any more (R416), a change of an axis's state reaches its motion unit (R345), a lost lane leaves the timebases to the other one, fallback states
that stand go on (R39), the switches of the DC link follow what stands (R419, R423), an accepted ACTIVATE is carried out, a lane that
has become ACTIVE starts from its shadow (R41), and SYNC_OUT changes hands (R61). -/
def Dev.settle (d0 d : Dev) : Dev :=
  let d := (Dev.symbolsFollow d0 (Dev.acksFollow d0 (d.eachAxis fun d x => d.axisStopEnds x))).recheckBridges
  let d := (Dev.dsFollow d0 (Dev.laneLeft d0 (Dev.followAxes d0 d)).fallbackStands).chopStands.activateDue
  Dev.syncFollow d0 ((Dev.unitsFollow d0 d).eachLane fun d l => Dev.activeStarts d0 d l)

end Sys2Proof.Machine
end

