-- ==== Sys2Proof/Machine/Urgent.lean ====
section
/-! DEFINITION. Urgent conversions of device functions (R181): the chopper current of channel 0 (R420) and the phase voltages of the catch
in channel 2 (R278), with what their results do. -/

namespace Sys2Proof.Machine

/-- CHOP_CURRENT_CHECK (R420): CH has been on for a multiple of 10 µs, and channel 0 asks for the chopper current. -/
def Dev.chopSample (d : Dev) (l : Lane) : Dev :=
  let p := d.prot.at l
  if d.up (.ctl l) ∧ p.chOn ∧ p.chAt < d.now ∧ (d.now - p.chAt) % 5000 = 0 ∧ !(d.jobCfg l 0).getLsbD 31 then
    d.urgentAsk l 0 (urgentWord 0 3 0x11)
  else d

/-- Channel 2 asks for the next phase voltage that a catch waits for, on its leg's own group (DESIGN CHOICE). -/
def Dev.catchAsk (d : Dev) (l : Lane) : Dev :=
  match (d.meas.at l).catchQ with
  | [] => d
  | (x, k) :: _ =>
    if (d.jobCfg l 2).getLsbD 31 then d
    else
      let n : Fin 6 := (d.axisLegs x).getD k 0
      d.urgentAsk l 2 (urgentWord (n.val / 3) (n.val % 3) (8 + n.val % 3))

/-- CATCH_SAMPLE (R278): the next sample of an open catch window is due, and channel 2 of each lane converts the three phase voltages of
the axis. -/
def Dev.catchSample (d : Dev) (x : Fin 2) : Dev :=
  let s := d.axes[x]
  if !d.catchCounts x d.now ∨ d.now < s.catchNext then d
  else
    (d.onAxis x fun s => { s with catchNext := s.catchNext + d.g (pgFIELD x) R.FIELD_CATCH_DT * 500 }).eachLane fun d l =>
      if d.up (.ctl l) then (d.onMeas l fun m => { m with catchQ := m.catchQ ++ [(x, 0), (x, 1), (x, 2)] }).catchAsk l else d

/-- A phase voltage of a catch is converted (R278). The set is complete with its third phase: the ACTIVE lane's counts. DESIGN CHOICE: its
stamp is the hold tick of its second phase. A set with a word that failed its check is none (R170). -/
def Dev.catchConverted (d : Dev) (l : Lane) (t : Nat) (v : Option Int) : Dev :=
  match (d.meas.at l).catchQ with
  | [] => d
  | (x, _) :: rest =>
    let vs := (d.meas.at l).catchVal ++ [(t, v)]
    let d := d.onMeas l fun m => { m with catchQ := rest, catchVal := if 3 ≤ vs.length then [] else vs }
    let d := match vs with
      | [(_, some u), (tb, some v), (_, some w)] => if d.actsFor l ∧ d.catchCounts x tb then d.catchTaken x tb u v w else d
      | _ => d
    d.catchAsk l

/-- What the result of a channel does: the protection logic judges the chopper current, the field unit takes a phase voltage. Each verifies
the word once, and one whose CHECK fails is RESULT_CHECK of its converter and counts as skipped (R170). -/
def Dev.urgentUsed (d : Dev) (l : Lane) (ch : Fin 4) (c : Fin 2) (asked t : Nat) (w : Word) : Dev :=
  let ok := resCheck w
  let d := if ok ∨ (ch ≠ 0 ∧ ch ≠ 2) then d else d.resultCheck l c
  match ch with
  | 0 => if ok then d.chopCurrent l asked t (resValue w) else d
  | 2 => d.catchConverted l t (if ok then some (resValue w) else none)
  | _ => d

/-- URGENT_COMPLETE (R182): the result of a channel whose conversions are done goes to URESn and to its device function. -/
def Dev.urgentServed (d : Dev) (l : Lane) (ch : Fin 4) : Dev :=
  match (d.meas.at l).urgDone.getD ch.val none with
  | none => d
  | some a =>
    let w := d.jobCfg l ch.val
    (d.urgentDone l ch a).urgentUsed l ch (if jobConv w = 1 then 1 else 0) ((d.meas.at l).urgAt.getD ch.val 0) a.first (Dev.jobResult l w a)

end Sys2Proof.Machine
end

