-- ==== Sys2Proof/Machine/Meaning.lean ====
section
/-! DEFINITION. The form that every command's meaning has, and the accesses and hooks that meanings share. -/

namespace Sys2Proof.Machine

/-- The state in which a command leaves the device, after what every command ends with. -/
def State.done (s : State) (d : Dev) : State := { s with dev := Dev.settle s.dev d }

/-- A command that always completes: its effect on the device. An event whose conditions do not hold leaves the device as it is. -/
def State.act (s : State) (f : Dev → Dev) : Host.Outcome State Fault Refusal := .next (s.done (f s.dev))

/-- A write of a register by its page and offset. -/
def Dev.writeReg (d : Dev) (w : Writer) (p o : Nat) (v : Word) : Dev := d.write w (pageAddr p o) v

/-- The word of a register as a writer reads it. -/
def Dev.seenWordBy (d : Dev) (w : Writer) (p o : Nat) : Word :=
  let l := match d.target (pageAddr p o) with
    | some t => d.judgeLane t
    | none => d.prim p
  d.showWord (d.who w).ident l (pageAddr p o)

/-- The word that changes one field of a register: every other field keeps the value it shows; write-only and write-1-to-clear
fields get 0. -/
def Dev.fieldWord (d : Dev) (w : Writer) (p : Nat) (f : Fld) (v : Nat) (i : Nat := 0) : Word :=
  f.put (d.seenWordBy w p (f.at i) &&& accMask (regFlds p (f.at i)) fun a => a == .rw || a == .rws || a == .rwl) v

/-- A write of a register with the value it shows but for one field. -/
def Dev.writeField (d : Dev) (w : Writer) (p : Nat) (f : Fld) (v : Nat) (i : Nat := 0) : Dev :=
  d.writeReg w p (f.at i) (d.fieldWord w p f v i)

/-- A command word: a key in the top byte, and the rest. -/
def keyWord (key rest : Nat) : Word := BitVec.ofNat 32 (key * 2 ^ 24 + rest)

/-- An access with outside facts that the command carries. -/
def Dev.withFacts (d : Dev) (f : Facts) (run : Dev → Dev) : Dev :=
  let d := run { d with boot := { d.boot with given := some f } }
  { d with boot := { d.boot with given := none } }

/-- No outside fact. -/
def noFacts : Facts := { passA := false, passB := false, halves := 0, healthy := false, entropy := none }

/-- A CAUSE clear, with the bits that an event sets in the same tick: the event wins (R115). -/
def Dev.causeClear (d : Dev) (w : Writer) (p : Nat) (bits meets : Word) : Dev :=
  let d := d.writeReg w p 0x0C bits
  (d.copies p).foldl (fun d l => d.causeL l p (meets &&& causeBits p)) d

/-- The other die of unit `u` is lost: a port in role LISTEN drives from now on (R66, R232). The frame that the loss cut short is gone, and
SSI clocks at its next frame instant. -/
def Dev.listenTakeover (d : Dev) (u : Lane) : Dev :=
  if !d.up (.iface u) then d
  else
    let ssi := d.gl u (pgPOS u) R.POS_CFG_SSI_ROLE == 1 && !(d.pos.at u).ssiDrive
    let d := d.onPos u fun s => { s with resDrive := s.resDrive || d.gl u (pgPOS u) R.POS_CFG_RES_ROLE == 1, ssiDrive := s.ssiDrive || ssi }
    match if ssi then d.chanOf u (· == 5) else none with
    | some c => d.onChan u c fun s => { s with frameAt := none, ssiDue := none }
    | none => d

/-- The interface die of lane `l` is lost to the other one: it does not run, or its lane has not started since its reset. -/
def Dev.dieLost (d : Dev) (l : Lane) : Bool := !d.up (.iface l) || !(d.lanes.at l).up

/-- LINK_LOST with what the loss of the interface cross-link means for listening ports. -/
def Dev.linkLostAll (d : Dev) (k : LinkRx) : Dev :=
  let e := d.linkLost k
  match k with
  | .ifaceCross l => if d.linkSilent k ∧ d.dieLost l.other then e.listenTakeover l else e
  | _ => e

/-- SUPPLY_INVALID with what the loss of an interface die means for the other die's listening ports. -/
def Dev.supplyLost (d : Dev) (u : Supply) (mv : Nat) : Dev :=
  let e := d.supplyInvalid u mv
  match u with
  | .vsup l => if d.up (.iface l) ∧ !e.up (.iface l) then e.listenTakeover l.other else e
  | _ => e

/-- LANE_REJOINED (R456). -/
def Dev.rejoined (d : Dev) (l : Lane) : Dev :=
  if d.rejoins l then (d.laneRejoined l).activateFollow
  else d.activateFollow

/-- DEBUG_ACTION reaches a pair of a control die (R319, R440). -/
def Dev.debugTaken (d : Dev) (l : Lane) (quill : Bool) (a : DebugAct) : Dev := if quill then d.debugQuill l a else d.debugCore l a

/-- What an input has brought while a pair's copies disagreed on it reaches them (R436). -/
def Dev.deliver (d : Dev) (l : Lane) : HeldChange → Dev
  | .sto ch active => d.stoChannelTurns ch l active
  | .sdi n ch high => d.sdinTaken l n ch high
  | .hvil opened => d.hvilTurns opened
  | .halt quill on => d.haltTaken l quill on
  | .debug quill a => d.debugTaken l quill a
  | .frame k seq crcOk skew => d.frameReceived k seq crcOk skew
  | .shadow good => d.blocksArrive l good
  | .decision w => d.decisionArrives l w
  | .relay failed => d.relayReached l failed
  | .laneDown => d.laneDownTaken l

/-- INPUT_DISAGREE (R436, R437): the copies of a pair compare an input in this cycle. The first cycle in which they agree delivers what the
input has brought meanwhile. -/
def Dev.inputDisagree (d : Dev) (l : Lane) (island : Bool) (x : PairInput) (agree : Bool) : Dev :=
  if !(if island then d.up (.iface l) else d.up (.ctl l)) then d
  else
    let held := ((d.lanes.at l).heldIn.filter (·.1 == (island, x))).map (·.2)
    let d := d.inputCompared l island x agree
    if agree then held.foldl (fun d c => d.deliver l c) d else d

/-- SERVO_TICK with the motion blocks that the lanes which track the ACTIVE one take at it (R446). -/
def Dev.servoTaken (d : Dev) (x : Fin 2) : Dev :=
  if (d.servoAt x).isSome then (d.eachLane fun d l => d.shadowTrack l (2 ^ (1 + x.val))).servoTick x else d.servoTick x

/-- What a period start means for SYNC_OUT, shadows and SSI frames, and one of the ACTIVE lane for servo ticks and a thermal shutdown (R61,
R205, R325, R446, R600). -/
def Dev.periodHooks (d e : Dev) (l : Lane) (t : Fin 2) : Dev :=
  let s := (d.mods.at l).tb t
  let r := (e.mods.at l).tb t
  if r.running && (!s.running || s.t0 != r.t0) then
    let e := (((e.syncPeriod l t).shadowTrack l 25).ssiPeriod l t).motionPeriod l t
    if e.active == some l then e.thermalPeriod l t else e
  else e

end Sys2Proof.Machine
end

