-- ==== Sys2Proof/Machine/CmdAccess.lean ====
section
/-! DEFINITION. Register accesses, host frames and the shared page header (chapter 04). -/

namespace Sys2Proof.Machine

/-- REGISTER_WRITE (R116): A write to a register without behaviour of its own passes the seven checks and takes effect or is
refused. -/
def execRegisterWrite (w : Writer) (addr : Nat) (value : Word) (s : State) : Host.Outcome State Fault Refusal :=
  s.act fun d => d.write w addr value

/-- HOST_READ (R139): A host READ frame is checked and acknowledged, and its words are read. -/
def execHostRead (p : HostPort) (f : HostFrame) (s : State) : Host.Outcome State Fault Refusal :=
  s.act fun d => d.hostFrame p (f.spelling 1)

/-- HOST_WRITE (R118): A host WRITE frame is checked as a whole and written, or refused entirely. -/
def execHostWrite (p : HostPort) (f : HostFrame) (s : State) : Host.Outcome State Fault Refusal :=
  s.act fun d => d.hostFrame p (f.spelling 2)

/-- HOST_FETCH (R141): A FETCH frame returns the held result, PENDING or EMPTY. -/
def execHostFetch (p : HostPort) (f : HostFrame) (s : State) : Host.Outcome State Fault Refusal :=
  s.act fun d => d.hostFrame p (f.spelling 3)

/-- REMOTE_READ (R148): A REMOTE_READ is sent as a register-access frame to a node on a Rigraong link. -/
def execRemoteRead (p : HostPort) (f : HostFrame) (s : State) : Host.Outcome State Fault Refusal :=
  s.act fun d => d.hostFrame p (f.spelling 4)

/-- REMOTE_WRITE (R148): A REMOTE_WRITE is sent as a register-access frame to a node on a Rigraong link. -/
def execRemoteWrite (p : HostPort) (f : HostFrame) (s : State) : Host.Outcome State Fault Refusal :=
  s.act fun d => d.hostFrame p (f.spelling 5)

/-- HOST_REQUEST_COMPLETE (R142): An accepted host request completes, and its result becomes available to FETCH. -/
def execHostRequestComplete (s : State) : Host.Outcome State Fault Refusal := s.act fun d => d.hostComplete

/-- REMOTE_TIMEOUT (R148): No remote answer arrives within 3 link cycles plus 20 µs, and the result is TIMEOUT. -/
def execRemoteTimeout (s : State) : Host.Outcome State Fault Refusal := s.act fun d => d.remoteTimeout

/-- CTRL_COMMIT (R123): A write of CTRL.COMMIT marks the page's staged values for transfer at its commit point. -/
def execCtrlCommit (w : Writer) (p : Fin 45) (s : State) : Host.Outcome State Fault Refusal :=
  s.act fun d => d.writeField w p H.CTRL_COMMIT 1

/-- COMMIT_POINT (R122): The commit point is reached, the staged values become active together and GEN increments. -/
def execCommitPoint (p : Fin 45) (s : State) : Host.Outcome State Fault Refusal := s.act fun d => d.commitPoint p

/-- CTRL_SOFTRST (R115): A write of CTRL.SOFTRST returns every block register of the page to its reset value. -/
def execCtrlSoftrst (w : Writer) (p : Fin 45) (s : State) : Host.Outcome State Fault Refusal :=
  s.act fun d => d.writeField w p H.CTRL_SOFTRST 1

/-- CTRL_FREEZE (R115): A write of CTRL.FREEZE holds or releases the block's counters and status. -/
def execCtrlFreeze (w : Writer) (p : Fin 45) (on : Bool) (s : State) : Host.Outcome State Fault Refusal :=
  s.act fun d => d.writeField w p H.CTRL_FREEZE on.toNat

/-- CTRL_ENABLE (R120): A write of CTRL.ENABLE enables or disables the page's block, subject to mode refusals. -/
def execCtrlEnable (w : Writer) (p : Fin 45) (on : Bool) (s : State) : Host.Outcome State Fault Refusal :=
  s.act fun d => d.writeField w p H.CTRL_ENABLE on.toNat

/-- PAGE_LOCK (R126): A LOCK write with key 0x6C locks the page. -/
def execPageLock (w : Writer) (p : Fin 45) (s : State) : Host.Outcome State Fault Refusal :=
  s.act fun d => d.writeReg w p 0x18 (keyWord 0x6C 0)

/-- PAGE_UNLOCK (R126): A LOCK write with key 0x93 unlocks the page unless it is hard-locked. -/
def execPageUnlock (w : Writer) (p : Fin 45) (s : State) : Host.Outcome State Fault Refusal :=
  s.act fun d => d.writeReg w p 0x18 (keyWord 0x93 0)

/-- PAGE_HARD_LOCK (R126): A LOCK write with key 0xE7 hard-locks the page until its holding die resets. -/
def execPageHardLock (w : Writer) (p : Fin 45) (s : State) : Host.Outcome State Fault Refusal :=
  s.act fun d => d.writeReg w p 0x18 (keyWord 0xE7 0)

/-- PAGE_FORCE (R146): A write to a page's FORCE sets the matching CAUSE bits for interrupts only. -/
def execPageForce (w : Writer) (p : Fin 45) (bits : Word) (s : State) : Host.Outcome State Fault Refusal :=
  s.act fun d => d.writeReg w p 0x14 bits

/-- CAUSE_CLEAR (R146): A W1C write to a page's CAUSE clears its bits unless a cause event meets it. -/
def execCauseClear (w : Writer) (p : Fin 45) (bits : Word) (meets : Word) (s : State) : Host.Outcome State Fault Refusal :=
  s.act fun d => d.causeClear w p bits meets

/-- PAGE_CLAIM (R130): A write of the writer's own identity to OWNER claims the page. -/
def execPageClaim (w : Writer) (p : Fin 45) (s : State) : Host.Outcome State Fault Refusal :=
  s.act fun d => d.writeReg w p 0x28 (BitVec.ofNat 32 (d.who w).ident)

/-- PAGE_RELEASE (R130): A write of 63 to OWNER releases the page's claim. -/
def execPageRelease (w : Writer) (p : Fin 45) (s : State) : Host.Outcome State Fault Refusal :=
  s.act fun d => d.writeReg w p 0x28 63

/-- SEAL_RECOMPUTE (R128): A page's SEAL is recomputed and compared with SEAL_REF while the page is locked. -/
def execSealRecompute (p : Fin 45) (s : State) : Host.Outcome State Fault Refusal := s.act fun d => d.sealRecompute p

/-- PORT_CLASS_WRITE (R132): A write to HOST.PORT_CLASS keeps or lowers port classes, and any raise is refused. -/
def execPortClassWrite (w : Writer) (value : Word) (s : State) : Host.Outcome State Fault Refusal :=
  s.act fun d => d.writeReg w pgHOST 0x4C value

/-- PROXY_WRITE (R137): Lane firmware sets HOST.PROXY, and its accesses are then checked as coming from the named port; the core's own
handling of EN as it leaves, is interrupted and returns is no write, which nothing refuses. -/
def execProxyWrite (w : Writer) (act : ProxyAct) (s : State) : Host.Outcome State Fault Refusal := s.act fun d => d.proxyAct w act

/-- INTERRUPT_NOTICE (R149): A remote node sends an interrupt notice when its summaries become non-zero, and repeats it every 64
cycles. -/
def execInterruptNotice (k : Lane) (s : State) : Host.Outcome State Fault Refusal := s.act fun d => d.interruptNotice k

/-- PIN_MISMATCH (R147): The IRQ_N level disagrees with the die's own drive for more than 1 µs. -/
def execPinMismatch (l : Lane) (low : Bool) (s : State) : Host.Outcome State Fault Refusal :=
  s.act fun d => d.pinMismatch l low

end Sys2Proof.Machine
end

