-- ==== Sys2Proof/Machine/CmdCan.lean ====
section
/-! DEFINITION. Commands of CAN and Ruling (chapter 15). -/

namespace Sys2Proof.Machine

/-- CAN_FRAME_RECEIVE (R532): A CAN frame becomes valid, and it goes to the safety layer or through the filters to a queue. -/
def execCanFrameReceive (n : Fin 4) (f : CanFrame) (sofAge : Nat) (s : State) : Host.Outcome State Fault Refusal :=
  s.act fun d => d.canFrameReceive n f sofAge

/-- BUS_OFF (R528): A controller goes bus-off. -/
def execBusOff (n : Fin 4) (s : State) : Host.Outcome State Fault Refusal := s.act fun d => d.busOff n

/-- ERROR_PASSIVE (R528): A controller changes to error-passive. -/
def execErrorPassive (n : Fin 4) (s : State) : Host.Outcome State Fault Refusal := s.act fun d => d.errorPassive n

/-- BUS_OFF_RECOVERY (R528): After 128 occurrences of 11 recessive bits the controller rejoins. -/
def execBusOffRecovery (n : Fin 4) (s : State) : Host.Outcome State Fault Refusal := s.act fun d => d.busOffRecovery n

/-- FILTER_UPDATE (R531): A write to a filter's CFG word applies its held words from the next frame. -/
def execFilterUpdate (w : Writer) (n : Fin 4) (f : Fin 128) (value : Word) (s : State) : Host.Outcome State Fault Refusal :=
  s.act fun d => d.write w (rgFILTER + 0x2000 * n.val + 64 * f.val + 0x20) value

/-- QUEUE_WINDOW_READ (R535): The owner's read of a queue window takes or releases an entry by lock-by-last-word. -/
def execQueueWindowRead (w : Writer) (n : Fin 4) (q : Fin 2) (k : Fin 22) (s : State) : Host.Outcome State Fault Refusal :=
  s.act fun d => d.read w (pageAddr (pgCAN n) (0x100 + 0x80 * q.val + 4 * k.val))

/-- QUEUE_TAKE (R535): QCMD TAKE makes the oldest FULL entry HELD. -/
def execQueueTake (w : Writer) (n : Fin 4) (q : Fin 2) (s : State) : Host.Outcome State Fault Refusal :=
  s.act fun d => d.writeReg w (pgCAN n) 0x64 (BitVec.ofNat 32 (1 + 0x100 * q.val))

/-- QUEUE_GIVE (R535): QCMD GIVE returns the HELD entry to FREE. -/
def execQueueGive (w : Writer) (n : Fin 4) (q : Fin 2) (s : State) : Host.Outcome State Fault Refusal :=
  s.act fun d => d.writeReg w (pgCAN n) 0x64 (BitVec.ofNat 32 (2 + 0x100 * q.val))

/-- TX_BUFFER_ARM (R536): A write of TXWIN w21 applies the held words and arms or discards the buffer. -/
def execTxBufferArm (w : Writer) (n : Fin 4) (value : Word) (s : State) : Host.Outcome State Fault Refusal :=
  s.act fun d => d.writeReg w (pgCAN n) 0x254 value

/-- CAN_TRANSMIT (R537): A pending buffer whose TIME is reached joins arbitration and is sent. -/
def execCanTransmit (n : Fin 4) (s : State) : Host.Outcome State Fault Refusal := s.act fun d => d.canTransmit n

/-- TX_COMPLETE (R537): A transmission attempt ends in SENT, FAILED or a retry. -/
def execTxComplete (n : Fin 4) (r : TxOutcome) (sofAge : Nat) (s : State) : Host.Outcome State Fault Refusal :=
  s.act fun d => d.txComplete n r sofAge

/-- TXCANCEL (R537): A write to TXCANCEL cancels buffers. -/
def execTxCancel (w : Writer) (n : Fin 4) (value : Word) (s : State) : Host.Outcome State Fault Refusal :=
  s.act fun d => d.writeReg w (pgCAN n) 0x74 value

/-- RULING_REFERENCE_SEND (R538): The master sends the reference message when the cycle time reaches RULCYC. -/
def execRulingReferenceSend (n : Fin 4) (s : State) : Host.Outcome State Fault Refusal :=
  s.act fun d => d.rulingReferenceSend n

/-- RULING_REFERENCE_RECEIVE (R538): A reference message is received, and the cycle time and count restart. -/
def execRulingReferenceReceive (n : Fin 4) (f : CanFrame) (sofAge : Nat) (s : State) : Host.Outcome State Fault Refusal :=
  s.act fun d => d.rulingReferenceReceive n f sofAge

/-- REF_LOST (R539): No reference arrives within 1.5 × RULCYC. -/
def execRefLost (n : Fin 4) (s : State) : Host.Outcome State Fault Refusal := s.act fun d => d.refLost n

/-- RULING_BACKUP_TAKEOVER (R539): A standby master starts sending references after RULCYC + RULBK. -/
def execRulingBackupTakeover (n : Fin 4) (s : State) : Host.Outcome State Fault Refusal := s.act fun d => d.rulingTakeover n

/-- RULING_CELL_WRITE (R540): A write to a cell's ACT word applies the cell at the next reference. -/
def execRulingCellWrite (w : Writer) (k : Fin 1024) (value : Word) (s : State) : Host.Outcome State Fault Refusal :=
  s.act fun d => d.write w (rgRULING + 32 * k.val + 28) value

/-- RULING_CELL_MARK (R541): The cycle time reaches a cell's MARK, and the cell acts. -/
def execRulingCellMark (n : Fin 4) (k : Fin 1024) (s : State) : Host.Outcome State Fault Refusal :=
  s.act fun d => d.rulingCellMark n k

/-- RULING_MISS (R541): A cell's window ends without its action, and MISS increments. -/
def execRulingMiss (n : Fin 4) (k : Fin 1024) (s : State) : Host.Outcome State Fault Refusal :=
  s.act fun d => d.rulingMiss n k

end Sys2Proof.Machine
end

