-- ==== Sys2Proof/Machine/CmdField.lean ====
section
/-! DEFINITION. Commands of the axes (chapter 07). -/

namespace Sys2Proof.Machine

/-- FIELD_PERIOD (R269): Each period the field unit selects currents and angle, computes references and evaluates the speed rule.
-/
def execFieldPeriod (l : Lane) (x : Fin 2) (s : State) : Host.Outcome State Fault Refusal := s.act fun d => d.fieldPeriod l x

/-- ANGLE_SOURCE_TIMEOUT (R258): No record arrives within 30 µs, and the channel counts as lost for the angle. -/
def execAngleSourceTimeout (l : Lane) (x : Fin 2) (s : State) : Host.Outcome State Fault Refusal :=
  s.act fun d => d.angleTimeout l x

/-- AXIS_START (R273): The START command takes an axis from OFF to CATCH in device mode RUN. -/
def execAxisStart (w : Writer) (x : Fin 2) (epoch : Fin 256) (s : State) : Host.Outcome State Fault Refusal :=
  s.act fun d => d.writeReg w (pgFIELD x) 0x44 (keyWord epoch 1)

/-- AXIS_STOP (R273): The STOP command ramps torque or motion to zero, and the axis then goes to OFF. -/
def execAxisStop (w : Writer) (x : Fin 2) (epoch : Fin 256) (s : State) : Host.Outcome State Fault Refusal :=
  s.act fun d => d.writeReg w (pgFIELD x) 0x44 (keyWord epoch 2)

/-- AXIS_OFF (R273): The OFF command takes the axis to OFF or HOLD by the speed rule. -/
def execAxisOff (w : Writer) (x : Fin 2) (epoch : Fin 256) (s : State) : Host.Outcome State Fault Refusal :=
  s.act fun d => d.writeReg w (pgFIELD x) 0x44 (keyWord epoch 3)

/-- AXIS_CLR (R273): The CLR command takes a HOLD axis to OFF when every cause is cleared. -/
def execAxisClr (w : Writer) (x : Fin 2) (epoch : Fin 256) (s : State) : Host.Outcome State Fault Refusal :=
  s.act fun d => d.writeReg w (pgFIELD x) 0x44 (keyWord epoch 4)

/-- CMD_TIMEOUT (R274): TCMD is not written within TMO, and after a further TMO the configured action applies. -/
def execCmdTimeout (x : Fin 2) (s : State) : Host.Outcome State Fault Refusal := s.act fun d => d.cmdTimeout x

/-- ALIGN_COMPLETE (R275): ALIGN.T elapses, and the offset is set or ALIGN fails. -/
def execAlignComplete (x : Fin 2) (s : State) : Host.Outcome State Fault Refusal := s.act fun d => d.alignComplete x

/-- LOCKED_ROTOR (R276): The locked-rotor conditions hold for LR.T, and LOCKED_ROTOR is raised. -/
def execLockedRotor (x : Fin 2) (s : State) : Host.Outcome State Fault Refusal := s.act fun d => d.lockedRotor x

/-- CATCH_SAMPLE (R278): Every CATCH.DT urgent channel 2 converts the phase voltages, and an early end may follow. -/
def execCatchSample (x : Fin 2) (s : State) : Host.Outcome State Fault Refusal := s.act fun d => d.catchSample x

/-- CATCH_WINDOW_END (R280): The catch measurement ends, and its result leads to ASC, refusal, standstill, repeat or
synchronisation. -/
def execCatchWindowEnd (x : Fin 2) (s : State) : Host.Outcome State Fault Refusal := s.act fun d => d.catchWindowEnd x

/-- CATCH_TIMEOUT (R282): The catch has not synchronised within CATCH2.TMO, and CATCH_FAILED is raised. -/
def execCatchTimeout (x : Fin 2) (s : State) : Host.Outcome State Fault Refusal := s.act fun d => d.catchTimeout x

/-- ASC_RELEASE_CHECK (R271): Each ASC_T ASC is released for one catch window and reapplied unless E is below 0.92 × Vdc. -/
def execAscReleaseCheck (x : Fin 2) (s : State) : Host.Outcome State Fault Refusal := s.act fun d => d.ascReleaseCheck x

/-- MAP_SWAP (R253): A write of MAPCFG.SWAP checks the inactive bank's CRC and arms or refuses the swap. -/
def execMapSwap (w : Writer) (x : Fin 2) (s : State) : Host.Outcome State Fault Refusal :=
  s.act fun d => d.writeField w (pgFIELD x) R.FIELD_MAPCFG_SWAP 1

end Sys2Proof.Machine
end

