-- ==== Sys2Proof/Machine/CmdGate.lean ====
section
/-! DEFINITION. Commands of gate drive and protection (chapter 11). -/

namespace Sys2Proof.Machine

/-- GATE_PHASE_END (R395): A gate profile phase ends at its level or time, and the next phase begins. -/
def execGatePhaseEnd (o : Fin 14) (gate : Nat) (settled : Bool) (tpl : Nat) (dv : Nat) (s : State) :
    Host.Outcome State Fault Refusal :=
  s.act fun d => d.gatePhaseEnd o gate settled tpl dv

/-- HALF_FAILED (R392): A channel half misbehaves, and its disconnect element opens. -/
def execHalfFailed (o : Fin 14) (half : Lane) (s : State) : Host.Outcome State Fault Refusal :=
  s.act fun d => d.halfFailed o half

/-- DESAT (R402): The desaturation sense exceeds its threshold after blanking, and soft turn-off starts. -/
def execDesat (o : Fin 14) (held : Nat) (s : State) : Host.Outcome State Fault Refusal := s.act fun d => d.desat o held

/-- PLATEAU_SHORT (R403): The gate crosses PW_V with a short plateau time and high sense voltage, and soft turn-off starts. -/
def execPlateauShort (o : Fin 14) (tpl : Nat) (above : Bool) (s : State) : Host.Outcome State Fault Refusal :=
  s.act fun d => d.plateauShort o tpl above

/-- SOFT_TURN_OFF_STEP (R404): SOFT_T elapses, and the soft turn-off discharges to the off level. -/
def execSoftTurnOffStep (o : Fin 14) (gate : Nat) (settled : Bool) (s : State) : Host.Outcome State Fault Refusal :=
  s.act fun d => d.softTurnOffStep o gate settled

/-- GATE_MON (R408): A gate has not reached its level by GMON_T, and the output is turned off. -/
def execGateMon (o : Fin 14) (badA : Bool) (badB : Bool) (s : State) : Host.Outcome State Fault Refusal :=
  s.act fun d => d.gateMon o badA badB

/-- GATE_SUPPLY (R409): A gate supply falls below its threshold, and the output is turned off and made unavailable. -/
def execGateSupply (o : Fin 14) (vpos : Nat) (vneg : Nat) (s : State) : Host.Outcome State Fault Refusal :=
  s.act fun d => d.gateSupply o vpos vneg

/-- GATE_SUPPLY_RECOVERED (R409): A monitored VPOS, VNEG or bootstrap level rises back past its threshold, clearing WARN,
reporting the bootstrap valid or ending the fault cause. -/
def execGateSupplyRecovered (o : Fin 14) (vpos : Nat) (vneg : Nat) (s : State) : Host.Outcome State Fault Refusal :=
  s.act fun d => d.gateSupplyRecovered o vpos vneg

/-- ASC_DLY_EXPIRY (R415): DLY µs after the last soft turn-off of a bridge reaches the off level, the ASC side turns on or ASC
moves to the other side. -/
def execAscDlyExpiry (b : Fin 2) (s : State) : Host.Outcome State Fault Refusal := s.act fun d => d.ascDly b

/-- CHOP_LEVEL_HOLD (R419): The 2 µs minimum hold of a CH level ends, and a comparator decision that came during the hold
switches the chopper. -/
def execChopLevelHold (l : Lane) (s : State) : Host.Outcome State Fault Refusal := s.act fun d => d.chopHold l

/-- DRIVER_LINK_TIMEOUT (R411): A link start-up to a driver die with outputs in use does not complete within 1 ms. -/
def execDriverLinkTimeout (l : Lane) (k : Fin 8) (s : State) : Host.Outcome State Fault Refusal :=
  s.act fun d => d.linkTimeout l k

/-- DCLINK_COMPARATOR (R419): A DC-link comparator crosses ON_V, OFF_V, TRIP_V or TOW_V. -/
def execDclinkComparator (l : Lane) (volt : Nat) (s : State) : Host.Outcome State Fault Refusal :=
  s.act fun d => d.dclinkComparator l volt

/-- CHOP_CURRENT_CHECK (R420): Each 10 µs of chopper on time requests a current conversion, checked for an open resistor. -/
def execChopCurrentCheck (l : Lane) (s : State) : Host.Outcome State Fault Refusal := s.act fun d => d.chopSample l

/-- CHOP_ENERGY_UPDATE (R420): Every 10 µs the chopper energy estimate is updated and the chopper stopped at EMAX. -/
def execChopEnergyUpdate (l : Lane) (s : State) : Host.Outcome State Fault Refusal := s.act fun d => d.chopEnergy l

/-- DISCHARGE_TIMEOUT (R425): TMAX passes with a reading still at 60 V or above. -/
def execDischargeTimeout (s : State) : Host.Outcome State Fault Refusal := s.act fun d => d.dischargeTimeout

/-- GATE_CONFIG_BLOCK (R426): A GATE commit builds and sends a sealed configuration block to each driver die. -/
def execGateConfigBlock (l : Lane) (s : State) : Host.Outcome State Fault Refusal := s.act fun d => d.gateConfig l

/-- CONFIG_BLOCK_APPLY (R427): A driver die applies a staged block when both ports agree. -/
def execConfigBlockApply (k : Fin 8) (s : State) : Host.Outcome State Fault Refusal := s.act fun d => d.judgeBlocks k

/-- CONFIG_MISMATCH_TIMEOUT (R427): The two ports' block CRCs differ for 1 ms, and PORT_FAULT is raised. -/
def execConfigMismatchTimeout (k : Fin 8) (s : State) : Host.Outcome State Fault Refusal := s.act fun d => d.cfgMismatch k

/-- CLEAR_SHORT (R429): PROT.CLR of kind 0 clears latched shorts when accepted. -/
def execClearShort (w : Writer) (outs : Fin 16384) (s : State) : Host.Outcome State Fault Refusal :=
  s.act fun d => d.writeReg w pgPROT 0x6C (BitVec.ofNat 32 outs)

/-- CLEAR_HALF_FAILED (R394): PROT.CLR of kind 1 tests a cut-off half and returns it to service. -/
def execClearHalfFailed (w : Writer) (outs : Fin 16384) (pass : Fin 16384) (s : State) : Host.Outcome State Fault Refusal :=
  s.act fun d => d.withFacts { noFacts with halves := pass } fun d => d.writeReg w pgPROT 0x6C (BitVec.ofNat 32 (0x10000 + outs.val))

/-- CLEAR_GATE_MON (R429): PROT.CLR of kind 2 clears GATE_MON when accepted. -/
def execClearGateMon (w : Writer) (outs : Fin 16384) (s : State) : Host.Outcome State Fault Refusal :=
  s.act fun d => d.writeReg w pgPROT 0x6C (BitVec.ofNat 32 (0x20000 + outs.val))

/-- CLEAR_GATE_SUPPLY (R429): PROT.CLR of kind 3 clears GATE_SUPPLY or BOOT_UV once the level has recovered. -/
def execClearGateSupply (w : Writer) (outs : Fin 16384) (s : State) : Host.Outcome State Fault Refusal :=
  s.act fun d => d.writeReg w pgPROT 0x6C (BitVec.ofNat 32 (0x30000 + outs.val))

end Sys2Proof.Machine
end

