-- ==== Sys2Proof/Machine/CmdLanes.lean ====
section
/-! DEFINITION. Commands of the lanes and their lockstep (chapter 12). -/

namespace Sys2Proof.Machine

/-- LOCKSTEP_CPU (R434): The control-core copies differ, and the lane fails. -/
def execLockstepCpu (l : Lane) (group : Fin 5) (s : State) : Host.Outcome State Fault Refusal :=
  s.act fun d => d.lockstepCpu l group

/-- INPUT_DISAGREE (R436): The two copies' synchronized values of an input are compared in a cycle. -/
def execInputDisagree (l : Lane) (island : Bool) (x : PairInput) (agree : Bool) (s : State) : Host.Outcome State Fault Refusal :=
  s.act fun d => d.inputDisagree l island x agree

/-- LANE_SWITCH (R455): LANE.CMD SWITCH fixes a handover tick, or is refused. -/
def execLaneSwitch (w : Writer) (s : State) : Host.Outcome State Fault Refusal :=
  s.act fun d => d.writeReg w pgLANE 0x44 (keyWord 0x5C 1)

/-- LANE_SELFTEST (R439): LANE.CMD SELFTEST runs the comparator self-test of every pair in MAINTENANCE. -/
def execLaneSelftest (w : Writer) (passA : Bool) (passB : Bool) (s : State) : Host.Outcome State Fault Refusal :=
  s.act fun d => d.withFacts { noFacts with passA := passA, passB := passB } fun d => d.writeReg w pgLANE 0x44 (keyWord 0x5C 2)

/-- LANE_REJOIN (R456): LANE.CMD REJOIN requests a reset of the failed lane. -/
def execLaneRejoin (w : Writer) (s : State) : Host.Outcome State Fault Refusal :=
  s.act fun d => d.writeReg w pgLANE 0x44 (keyWord 0x5C 3)

/-- HANDOVER (R453): At the handover tick the old lane designates STANDBY and the new one ACTIVE. -/
def execHandover (s : State) : Host.Outcome State Fault Refusal := s.act fun d => d.handoverAt.activateFollow

/-- SILENT_WITHDRAWAL (R451): A lane that learns of a LANE cause stops its links and falls silent within 4 ticks. -/
def execSilentWithdrawal (l : Lane) (s : State) : Host.Outcome State Fault Refusal := s.act fun d => d.silentWithdrawal l

/-- LANE_DOWN_SYMBOL (R450): A control die receives LANE_DOWN from its interface die and withdraws silently. -/
def execLaneDownSymbol (l : Lane) (s : State) : Host.Outcome State Fault Refusal := s.act fun d => d.laneDownSymbol l

/-- SURVIVOR_ACTIVE (R452): A driver die reports the surviving port active, and the survivor designates itself ACTIVE. -/
def execSurvivorActive (l : Lane) (k : Fin 8) (s : State) : Host.Outcome State Fault Refusal :=
  s.act fun d => d.survivorActive l k

/-- ROLE_ASSIGN (R444): A lane becomes eligible and takes the ACTIVE or STANDBY role. -/
def execRoleAssign (s : State) : Host.Outcome State Fault Refusal := s.act fun d => d.roleAssign.activateFollow

/-- PEER_RESET (R456): After HOLDOFF the other lane requests a PEER reset of the failed lane. -/
def execPeerReset (l : Lane) (s : State) : Host.Outcome State Fault Refusal := s.act fun d => d.peerReset l

/-- LANE_REJOINED (R456): The reset lane has matched shadow and edges for REJOIN_N periods and becomes eligible. -/
def execLaneRejoined (l : Lane) (s : State) : Host.Outcome State Fault Refusal := s.act fun d => d.rejoined l

/-- STATE_SHADOW_SEND (R446): Each period the ACTIVE lane sends its state blocks over the control cross-link. -/
def execStateShadowSend (l : Lane) (s : State) : Host.Outcome State Fault Refusal := s.act fun d => d.shadowSend l

/-- STATE_SHADOW_RECEIVE (R447): The standby lane verifies and takes the received state blocks, or raises STATE_MISS. -/
def execStateShadowReceive (l : Lane) (good : Fin 32) (s : State) : Host.Outcome State Fault Refusal :=
  s.act fun d => d.shadowReceive l good

/-- EDGE_STREAM_COMPARE (R448): Each period the lane managers pair and compare the two edge streams. -/
def execEdgeStreamCompare (s : State) : Host.Outcome State Fault Refusal := s.act fun d => d.streamCompare

/-- DEBUG_HALT (R441): DEBUG halts the control cores or Quill, or the halt is refused. -/
def execDebugHalt (l : Lane) (quill : Bool) (on : Bool) (s : State) : Host.Outcome State Fault Refusal :=
  s.act fun d => d.debugHalt l quill on

/-- DEBUG_ACTION (R440): A debugger action is applied to both copies of a lockstep pair in one cycle. -/
def execDebugAction (l : Lane) (quill : Bool) (a : DebugAct) (s : State) : Host.Outcome State Fault Refusal :=
  s.act fun d => d.viaInput l false .debug (.debug quill a) fun d => d.debugTaken l quill a

/-- CPU_ECC_FATAL (R434): A double-bit error in a control core's memories sends CPU_ECC_FATAL to Ledger and fails the lane. -/
def execCpuEccFatal (l : Lane) (s : State) : Host.Outcome State Fault Refusal := s.act fun d => d.cpuEccFatal l

/-- CPU_ECC_CORR (R434): A single-bit error in a control core's memories is corrected and counted in CPU_ECC_CORR. -/
def execCpuEccCorr (l : Lane) (s : State) : Host.Outcome State Fault Refusal := s.act fun d => d.cpuEccCorr l

end Sys2Proof.Machine
end

