-- ==== Sys2Proof/Machine/CmdLink.lean ====
section
/-! DEFINITION. Commands of the rig link, Ethernet and time (chapter 15). -/

namespace Sys2Proof.Machine

/-- LINK_CYCLE_START (R544): The head sends CYCLE_START at each CYCLE.CYC. -/
def execLinkCycleStart (l : Lane) (s : State) : Host.Outcome State Fault Refusal := s.act fun d => d.linkCycleStart l

/-- CYCLE_START_RECEIVE (R544): A node receives CYCLE_START and takes its cycle start. -/
def execCycleStartReceive (l : Lane) (src : Fin 64) (count : Word) (s : State) : Host.Outcome State Fault Refusal :=
  s.act fun d => d.cycleStartReceive l src count

/-- LINK_SLOT (R544): A node's slot opens and it sends its queued frames. -/
def execLinkSlot (l : Lane) (collision : Option Nat) (s : State) : Host.Outcome State Fault Refusal :=
  s.act fun d => d.linkSlot l collision

/-- REG_REQ (R546): A node receives a REG_REQ addressed to it and carries it out. -/
def execRegReq (l : Lane) (dst : Fin 64) (epoch : Fin 256) (header : Word) (owner : Bool) (tag : Fin 256) (data : List Word) (s : State) : Host.Outcome State Fault Refusal :=
  s.act fun d => d.regReq l dst epoch header owner tag data

/-- REG_RSP (R148): The head receives a REG_RSP and completes the remote request. -/
def execRegRsp (l : Lane) (src : Fin 64) (rstat : Word) (tag : Fin 256) (data : List Word) (s : State) : Host.Outcome State Fault Refusal :=
  s.act fun d => d.regRsp l src rstat tag data

/-- NOTICE (R149): The head receives a NOTICE frame of interrupt or role mismatch. -/
def execNotice (l : Lane) (src : Fin 64) (n : LinkNotice) (s : State) : Host.Outcome State Fault Refusal :=
  s.act fun d => d.noticeFrame l src n

/-- FRAME_ERROR (R543): A link frame fails its CRC and is discarded. -/
def execFrameError (l : Lane) (s : State) : Host.Outcome State Fault Refusal := s.act fun d => d.frameError l

/-- HEAD_LOST (R547): No CYCLE_START arrives for 2 × CYC. -/
def execHeadLost (l : Lane) (s : State) : Host.Outcome State Fault Refusal := s.act fun d => d.headLost l

/-- HEAD_TAKEOVER (R547): A standby head starts sending CYCLE_START after 4 × CYC. -/
def execHeadTakeover (l : Lane) (s : State) : Host.Outcome State Fault Refusal := s.act fun d => d.headTakeover l

/-- SYNCTX (R548): A write to SYNCTX queues a SYNC_EVENT. -/
def execSyncTx (w : Writer) (l : Lane) (evt : Fin 256) (s : State) : Host.Outcome State Fault Refusal :=
  s.act fun d => d.writeReg w (pgLINK l) 0x6C (BitVec.ofNat 32 evt)

/-- SYNC_EVENT (R548): A SYNC_EVENT reaches its due tick, and SYNCRX is written. -/
def execSyncEvent (l : Lane) (src : Fin 64) (evt : Fin 256) (due : Word) (s : State) : Host.Outcome State Fault Refusal :=
  s.act fun d => d.syncEvent l src evt due

/-- ETH_FRAME_RECEIVE (R549): An Ethernet frame is received and kept, or dropped on overflow. -/
def execEthFrameReceive (data : List Byte) (fcsOk : Bool) (age : Nat) (s : State) : Host.Outcome State Fault Refusal :=
  s.act fun d => d.ethFrameReceive data fcsOk age

/-- ETH_RXDATA_READ (R550): A read of RXDATA returns 4 bytes and releases the frame at its last byte. -/
def execEthRxdataRead (w : Writer) (s : State) : Host.Outcome State Fault Refusal :=
  s.act fun d => d.read w (pageAddr pgETH 0x68)

/-- ETH_TXDATA (R550): A write to TXDATA appends 4 bytes to the frame under construction. -/
def execEthTxdata (w : Writer) (value : Word) (s : State) : Host.Outcome State Fault Refusal :=
  s.act fun d => d.writeReg w pgETH 0x70 value

/-- ETH_TXLEN (R550): A write to TXLEN sends the frame with padding and FCS. -/
def execEthTxlen (w : Writer) (value : Word) (s : State) : Host.Outcome State Fault Refusal :=
  s.act fun d => d.writeReg w pgETH 0x6C value

/-- ETH_LINK_DOWN (R559): The Ethernet link falls while the page is enabled. -/
def execEthLinkDown (s : State) : Host.Outcome State Fault Refusal := s.act fun d => d.ethLinkDown

/-- ETH_LINK_UP (R559): The Ethernet lane comes up, setting STAT.LINK and LINK_CHANGE and ending the ETH_LINK_DOWN cause. -/
def execEthLinkUp (s : State) : Host.Outcome State Fault Refusal := s.act fun d => d.ethLinkUp

/-- ETH_TXDONE (R550): An Ethernet frame sent on a TXLEN write finishes transmission and sets TXDONE in ETH.CAUSE. -/
def execEthTxdone (s : State) : Host.Outcome State Fault Refusal := s.act fun d => d.ethTxdone

/-- MDIO_GO (R549): A write of MDIO.GO starts a Clause 22 management access. -/
def execMdioGo (w : Writer) (value : Word) (s : State) : Host.Outcome State Fault Refusal :=
  s.act fun d => d.writeReg w pgETH 0x74 (R.ETH_MDIO_GO.put value 1)

/-- MDIO_DONE (R549): The management access completes. -/
def execMdioDone (data : Fin 65536) (s : State) : Host.Outcome State Fault Refusal := s.act fun d => d.mdioDone data

/-- PTP_MESSAGE (R552): ETH takes a Sync, Follow_Up or peer-delay message with hardware stamps. -/
def execPtpMessage (m : PtpMessage) (age : Nat) (s : State) : Host.Outcome State Fault Refusal :=
  s.act fun d => d.ptpMessage m age

/-- TIME_SOURCE_EVENT (R553): A time source event gives an offset, and device time is trimmed or stepped. -/
def execTimeSourceEvent (domain : Nat) (age : Nat) (s : State) : Host.Outcome State Fault Refusal :=
  s.act fun d => d.timeSourceEvent domain age

/-- TIME_EVENT_TIMEOUT (R555): No time event arrives within 4 × EXPINT, and SYNC is lost. -/
def execTimeEventTimeout (s : State) : Host.Outcome State Fault Refusal := s.act fun d => d.timeEventTimeout

/-- TIMEREF_PULSE (R559): A TIMEREF pulse arrives, is stamped into TIME.PPS_T and sets the PPS cause. -/
def execTimerefPulse (rising : Bool) (age : Nat) (s : State) : Host.Outcome State Fault Refusal :=
  s.act fun d => d.timerefPulse rising age

/-- NOW_LO_READ (R559): A read of TIME.NOW_LO latches NOW_HI for the same reader. -/
def execNowLoRead (w : Writer) (s : State) : Host.Outcome State Fault Refusal :=
  s.act fun d => d.read w (pageAddr pgTIME 0x58)

end Sys2Proof.Machine
end

