-- ==== Sys2Proof/Machine/CmdLinks.lean ====
section
/-! DEFINITION. Commands of the internal links and driver dies (chapters 01, 10, 11). -/

namespace Sys2Proof.Machine

/-- LINK_FRAME_RECEIVE (R29): A frame arrives on an internal link and is accepted or discarded by its CRC and sequence counter. -/
def execLinkFrameReceive (k : LinkRx) (seq : Fin 256) (crcOk : Bool) (skew : Int) (s : State) : Host.Outcome State Fault Refusal :=
  s.act fun d => d.linkFrameReceive k seq crcOk skew

/-- LINK_LOST (R30): No frame has been accepted for three longest gaps, so the receiver declares its link lost. -/
def execLinkLost (k : LinkRx) (s : State) : Host.Outcome State Fault Refusal := s.act fun d => d.linkLostAll k

/-- LINK_START_UP (R377): A link start-up completes with 1,024 echo symbols, and the latency is calibrated. -/
def execLinkStartUp (k : LinkRx) (trips : Nat) (turns : Nat) (rtt : Nat) (s : State) : Host.Outcome State Fault Refusal :=
  s.act fun d => d.linkStartUp k trips turns rtt

/-- ROLE_DESIGNATION_APPLY (R454): A designation change reaches the tick from which it applies, and the driver die changes its
active port. -/
def execRoleDesignationApply (k : Fin 8) (l : Lane) (s : State) : Host.Outcome State Fault Refusal :=
  s.act fun d => d.roleDesignationApply k l

/-- EDGE_MESSAGE_RECEIVE (R375): A driver die receives an edge message, rebuilds its due tick and checks its CRC, sequence and
lateness. -/
def execEdgeMessageReceive (k : Fin 8) (l : Lane) (word : Word) (s : State) : Host.Outcome State Fault Refusal :=
  s.act fun d => (d.tinkerOut k (word.toNat / 2 ^ 30)).edgeMessageReceive k l word

/-- EDGE_EXECUTE (R395): The due instant of a held edge message arrives, and the output starts the gate profile phases. -/
def execEdgeExecute (o : Fin 14) (s : State) : Host.Outcome State Fault Refusal := s.act fun d => d.edgeExecute o

/-- PRIORITY_SYMBOL_RECEIVE (R379): A driver die receives a priority symbol and forces its outputs off or on. -/
def execPrioritySymbolReceive (k : Fin 8) (l : Lane) (err : Word) (s : State) : Host.Outcome State Fault Refusal :=
  s.act fun d => ((d.symbolOuts k l).foldl (fun d n => d.tinkerOut k n) d).prioritySymbolReceive k l err

/-- STO_SYMBOL_RECEIVE (R473): A driver die receives a STO symbol from an island on a live port and removes the drive of the
named outputs as the lands would. -/
def execStoSymbolReceive (k : Fin 8) (l : Lane) (outs : Fin 16) (active : Bool) (s : State) : Host.Outcome State Fault Refusal :=
  s.act fun d => d.stoSymbolReceive k l outs active

end Sys2Proof.Machine
end

