-- ==== Sys2Proof/Machine/CmdMeasure.lean ====
section
/-! DEFINITION. Commands of the converters and the sequencer (chapter 05). -/

namespace Sys2Proof.Machine

/-- CONVERSION_COMPLETE (R152): A slice conversion completes, and its corrected result is delivered with its stamp. -/
def execConversionComplete (l : Lane) (c : Fin 2) (slice : Fin 9) (raw : Int) (s : State) : Host.Outcome State Fault Refusal :=
  s.act fun d => d.conversionComplete l c slice raw

/-- SPARE_TURN_END (R157): A spare turn of 4,096 conversions ends, the corrections are updated and the spare rotates. -/
def execSpareTurnEnd (l : Lane) (c : Fin 2) (g : Fin 3) (s : State) : Host.Outcome State Fault Refusal :=
  s.act fun d => d.spareTurnEnd l c g

/-- REFERENCE_SETTLED (R166): 2.0 ms after a reference buffer is enabled, SETTLED becomes 1. -/
def execReferenceSettled (l : Lane) (c : Fin 2) (s : State) : Host.Outcome State Fault Refusal :=
  s.act fun d => d.referenceSettled l c

/-- WINDOW_CLOSE (R176): A window closes 32 ticks after its end, and its mean and slope words go to Quill. -/
def execWindowClose (l : Lane) (c : Fin 2) (g : Fin 3) (s : State) : Host.Outcome State Fault Refusal :=
  s.act fun d => d.windowClose l c g

/-- DCL_EXCHANGE (R187): The lanes exchange their DC-link values once per period and report DCL_DISAGREE. -/
def execDclExchange (s : State) : Host.Outcome State Fault Refusal := s.act fun d => d.dclExchange

/-- SEQ_START (R190): A write of SEQCFG.START gives the trigger event for entries with TRIG = 3. -/
def execSeqStart (w : Writer) (l : Lane) (s : State) : Host.Outcome State Fault Refusal :=
  s.act fun d => d.writeField w (pgSEQ l) R.SEQ_SEQCFG_START 1

/-- SEQ_ENTRY_START (R179): A sequencer entry starts on its group once its trigger has come and its slots fit before the next
window. -/
def execSeqEntryStart (l : Lane) (g : Fin 3) (s : State) : Host.Outcome State Fault Refusal :=
  s.act fun d => d.seqEntryStart l g

/-- SEQ_ENTRY_COMPLETE (R180): A sequencer entry completes, and its rounded mean is written to ENTRYn_RES. -/
def execSeqEntryComplete (l : Lane) (s : State) : Host.Outcome State Fault Refusal := s.act fun d => d.seqEntryComplete l

/-- URGENT_REQUEST (R184): A write of REQ to URGENT3 makes an urgent request, or is refused while one is pending. -/
def execUrgentRequest (w : Writer) (l : Lane) (value : Word) (s : State) : Host.Outcome State Fault Refusal :=
  s.act fun d => d.writeReg w (pgSEQ l) 0x54 value

/-- URGENT_START (R182): An urgent request preempts the sequencer at the first slot held after its stamp. -/
def execUrgentStart (l : Lane) (ch : Fin 4) (g : Fin 3) (s : State) : Host.Outcome State Fault Refusal :=
  s.act fun d => d.urgentStart l ch g

/-- URGENT_COMPLETE (R182): The urgent conversions complete, the result goes to URESn and the sequencer restarts its entry. -/
def execUrgentComplete (l : Lane) (ch : Fin 4) (s : State) : Host.Outcome State Fault Refusal :=
  s.act fun d => d.urgentServed l ch

/-- AUX_SAMPLE (R645): Every 100 µs each AUX input is read through its die's sigma-delta channel into AUXVALn. -/
def execAuxSample (n : Fin 4) (v : Int) (s : State) : Host.Outcome State Fault Refusal := s.act fun d => d.auxSample n v

end Sys2Proof.Machine
end

