-- ==== Sys2Proof/Machine/CmdModulator.lean ====
section
/-! DEFINITION. Commands of the modulator (chapter 10). -/

namespace Sys2Proof.Machine

/-- TIMEBASE_START (R358): A timebase starts at count 0 at the first multiple of 4,096 ticks after enabling. -/
def execTimebaseStart (l : Lane) (tb : Fin 2) (s : State) : Host.Outcome State Fault Refusal :=
  s.act fun d => d.periodHooks (d.timebaseStart l tb) l tb

/-- LATCH_POINT (R43): 32 ticks before a period start, the modulator takes staged compares and periods. -/
def execLatchPoint (l : Lane) (tb : Fin 2) (s : State) : Host.Outcome State Fault Refusal := s.act fun d => d.latchPoint l tb

/-- PERIOD_START (R357): A timebase returns to 0, applying values, trip ends and refresh. -/
def execPeriodStart (l : Lane) (tb : Fin 2) (s : State) : Host.Outcome State Fault Refusal :=
  s.act fun d => d.periodHooks (d.periodStart l tb) l tb

/-- DEFERRED_ACTION_TICK (R665): An action due on a stopped timebase takes effect at the next multiple of 4,096 ticks. -/
def execDeferredActionTick (s : State) : Host.Outcome State Fault Refusal := s.act fun d => d.deferredTick

/-- SYNC_IN_EDGE (R360): A SYNC_IN rising edge moves TB0's period start by up to MAXADJ. -/
def execSyncInEdge (l : Lane) (s : State) : Host.Outcome State Fault Refusal := s.act fun d => d.syncInEdge l

/-- SYNC_LOST (R360): No SYNC_IN edge arrives for 4 periods, and TB0 runs free. -/
def execSyncLost (l : Lane) (s : State) : Host.Outcome State Fault Refusal := s.act fun d => d.syncLost l

/-- GROUP_COMMIT (R366): A write to the COMMIT register commits the named groups for the next period start. -/
def execGroupCommit (w : Writer) (l : Lane) (groups : Fin 16) (s : State) : Host.Outcome State Fault Refusal :=
  s.act fun d => d.writeReg w (pgMOD l) 0x58 (BitVec.ofNat 32 groups)

/-- EDGE_MESSAGE_SEND (R374): A link master sends an edge message no later than 24 ticks before its due tick. -/
def execEdgeMessageSend (l : Lane) (k : Fin 8) (s : State) : Host.Outcome State Fault Refusal :=
  s.act fun d => d.edgeSend l k

/-- LINK_ECHO (R377): Every 4 µs a link echo updates the calibrated latency. -/
def execLinkEcho (l : Lane) (k : Fin 8) (roundTrip : Nat) (turnaround : Nat) (s : State) : Host.Outcome State Fault Refusal :=
  s.act fun d => d.linkEcho l k roundTrip turnaround

/-- TRIP_ACCEPT (R379): A trip source is accepted, its legs are forced to the safe level and priority symbols leave. -/
def execTripAccept (l : Lane) (src : Fin 4) (level : Bool) (held : Nat) (s : State) : Host.Outcome State Fault Refusal :=
  s.act fun d => d.tripAccept l src level held

/-- SWTRIP (R378): A write to SWTRIP raises the software trip source. -/
def execSwtrip (w : Writer) (l : Lane) (trig : Bool) (s : State) : Host.Outcome State Fault Refusal :=
  s.act fun d => d.writeReg w (pgMOD l) 0x7C (BitVec.ofNat 32 trig.toNat)

/-- TRIPCLR (R382): A write to TRIPCLR clears latched trip sources, or is refused. -/
def execTripclr (w : Writer) (l : Lane) (bits : Fin 16) (s : State) : Host.Outcome State Fault Refusal :=
  s.act fun d => d.writeReg w (pgMOD l) 0x78 (BitVec.ofNat 32 bits)

/-- TRIP_RELEASE (R378): A filtered TRIP1 or TRIP2 level turns inactive, updating TRIPSTAT.LIVE so that a later clear can be
accepted. -/
def execTripRelease (l : Lane) (second : Bool) (level : Bool) (s : State) : Host.Outcome State Fault Refusal :=
  s.act fun d => d.tripRelease l second level

/-- BOOT_UV (R385): A bootstrap undervoltage report turns the high side off and forces the leg safe. -/
def execBootUv (n : Fin 6) (s : State) : Host.Outcome State Fault Refusal := s.act fun d => d.bootUv n

end Sys2Proof.Machine
end

