-- ==== Sys2Proof/Machine/CmdMotion.lean ====
section
/-! DEFINITION. Commands of the motion units and the chopper (chapter 09). -/

namespace Sys2Proof.Machine

/-- SERVO_TICK (R325): A servo tick falls, and the motion unit computes and publishes the set-point. -/
def execServoTick (x : Fin 2) (s : State) : Host.Outcome State Fault Refusal := s.act fun d => d.servoTaken x

/-- MOTION_GO (R343): The GO command starts the configured mode or continues a waiting table. -/
def execMotionGo (w : Writer) (x : Fin 2) (epoch : Fin 256) (s : State) : Host.Outcome State Fault Refusal :=
  s.act fun d => d.writeReg w (pgMOTION x) 0x44 (keyWord epoch 1)

/-- MOTION_STOP (R344): The STOP command ramps the set-point to zero and keeps resume data. -/
def execMotionStop (w : Writer) (x : Fin 2) (epoch : Fin 256) (s : State) : Host.Outcome State Fault Refusal :=
  s.act fun d => d.writeReg w (pgMOTION x) 0x44 (keyWord epoch 2)

/-- MOTION_RESUME (R346): The RESUME command restarts the generator or a resume segment. -/
def execMotionResume (w : Writer) (x : Fin 2) (epoch : Fin 256) (s : State) : Host.Outcome State Fault Refusal :=
  s.act fun d => d.writeReg w (pgMOTION x) 0x44 (keyWord epoch 3)

/-- MOTION_ABORT (R343): The ABORT command clears RESUMABLE and any held command. -/
def execMotionAbort (w : Writer) (x : Fin 2) (epoch : Fin 256) (s : State) : Host.Outcome State Fault Refusal :=
  s.act fun d => d.writeReg w (pgMOTION x) 0x44 (keyWord epoch 4)

/-- STEP_UPDATE (R347): At a period start the STEP axis forms its microstep angle and coil references. -/
def execStepUpdate (s : State) : Host.Outcome State Fault Refusal := s.act fun d => d.stepUpdate

/-- CHOPPER_DECISION (R351): A corrected chopper sample is judged, and a state change is scheduled 32 ticks later. -/
def execChopperDecision (l : Lane) (n : Fin 3) (bad : Bool) (s : State) : Host.Outcome State Fault Refusal :=
  s.act fun d => d.chopperDecision l n bad

/-- CHOP_STATE_CHANGE (R387): A scheduled HIGH or LOW change falls due and the modulator emits its edges. -/
def execChopStateChange (l : Lane) (n : Fin 6) (s : State) : Host.Outcome State Fault Refusal :=
  s.act fun d => d.chopFollow l n

end Sys2Proof.Machine
end

