-- ==== Sys2Proof/Machine/CmdPosition.lean ====
section
/-! DEFINITION. Commands of position feedback (chapter 06). -/

namespace Sys2Proof.Machine

/-- SOURCE_SELECT (R192): A write of CHc_SRC.SEL changes a channel's source and restarts its state and frame defaults. -/
def execSourceSelect (w : Writer) (u : Lane) (c : Fin 4) (value : Word) (s : State) : Host.Outcome State Fault Refusal :=
  s.act fun d => d.writeReg w (pgPOS u) (0x50 + 0xA8 * c.val) value

/-- QUADRATURE_EDGE (R195): A filtered A or B edge is counted in the Gray sequence or recorded as a decode error. -/
def execQuadratureEdge (u : Lane) (a : Bool) (b : Bool) (age : Nat) (s : State) : Host.Outcome State Fault Refusal :=
  s.act fun d => d.quadratureEdge u a b age

/-- TOOTH_EDGE (R198): A rising edge of a pulse train is counted as a tooth, a gap or an extra tooth. -/
def execToothEdge (u : Lane) (age : Nat) (s : State) : Host.Outcome State Fault Refusal := s.act fun d => d.toothEdge u age

/-- HALL_CHANGE (R200): The Hall state changes, and the sector step is counted or a decode error is recorded. -/
def execHallChange (u : Lane) (h : Fin 8) (age : Nat) (s : State) : Host.Outcome State Fault Refusal :=
  s.act fun d => d.hallChange u h age

/-- RESOLVER_DEMODULATION (R202): The sin/cos pair is demodulated at an excitation peak, and the tracking loop updates the angle
and position. -/
def execResolverDemodulation (u : Lane) (sn : Int) (c : Int) (s : State) : Host.Outcome State Fault Refusal :=
  s.act fun d => d.resolverDemodulation u sn c

/-- SSI_FRAME_START (R205): An SSI frame is due at its period or PWM period start, and clocking begins. -/
def execSsiFrameStart (u : Lane) (s : State) : Host.Outcome State Fault Refusal := s.act fun d => d.ssiFrameStart u

/-- SSI_FRAME_COMPLETE (R206): An SSI frame has been clocked in, and its position field is decoded and checked. -/
def execSsiFrameComplete (u : Lane) (bits : Nat) (s : State) : Host.Outcome State Fault Refusal :=
  s.act fun d => d.ssiFrameComplete u bits

/-- SENT_FRAME (R207): A SENT fast-channel frame is received and checked. -/
def execSentFrame (u : Lane) (second : Bool) (sync : Nat) (pulses : List Nat) (pause : Option Nat) (age : Nat) (s : State) : Host.Outcome State Fault Refusal :=
  s.act fun d => d.sentFrame u second sync pulses pause age

/-- LINE_FAULT (R197): A differential receiver's input stays below 200 mV for 1 µs, and the sensor is declared invalid. -/
def execLineFault (u : Lane) (line : Fin 3) (s : State) : Host.Outcome State Fault Refusal :=
  s.act fun d => d.lineFault u line

/-- LINE_FAULT_END (R197): A line fault has ended for 1 µs, and the line takes its level without an edge. -/
def execLineFaultEnd (u : Lane) (line : Fin 3) (level : Bool) (s : State) : Host.Outcome State Fault Refusal :=
  s.act fun d => d.lineFaultEnd u line level

/-- INDEX_EVENT (R219): An index event is judged, REVPOS is referenced or corrected, or a mismatch is counted. -/
def execIndexEvent (u : Lane) (a : Bool) (b : Bool) (z : Bool) (age : Nat) (s : State) : Host.Outcome State Fault Refusal :=
  s.act fun d => d.indexEvent u a b z age

/-- SENSOR_FRAME_TIMEOUT (R226): No good frame arrives for four frame intervals or excitation periods, and the sensor is declared
invalid. -/
def execSensorFrameTimeout (u : Lane) (c : Fin 4) (s : State) : Host.Outcome State Fault Refusal :=
  s.act fun d => d.sensorFrameTimeout u c

/-- SPEED_BOUND (R216): The time since the last step exceeds the last interval, and the speed is bounded. -/
def execSpeedBound (u : Lane) (c : Fin 4) (s : State) : Host.Outcome State Fault Refusal := s.act fun d => d.refreshSpeed u c

/-- SPEED_STANDSTILL (R216): The time since the last step reaches ZTIME, and the speed becomes standstill. -/
def execSpeedStandstill (u : Lane) (c : Fin 4) (s : State) : Host.Outcome State Fault Refusal :=
  s.act fun d => d.refreshSpeed u c

/-- POS_SET (R212): A write to POS_SET sets POS and re-judges the compares. -/
def execPosSet (w : Writer) (u : Lane) (c : Fin 4) (value : Word) (s : State) : Host.Outcome State Fault Refusal :=
  s.act fun d => d.writeReg w (pgPOS u) (0xA8 + 0xA8 * c.val) value

/-- COMPARE_WRITE (R224): A write to COMPn or a change of MODE to point judges the compare against POS and arms it. -/
def execCompareWrite (w : Writer) (u : Lane) (c : Fin 4) (n : Fin 8) (cfg : Bool) (value : Word) (s : State) : Host.Outcome State Fault Refusal :=
  s.act fun d => d.writeReg w (pgPOS u) ((if cfg then 0xD4 else 0xB4) + 4 * n.val + 0xA8 * c.val) value

/-- SENSE_CLEAR (R227): A write to SENSE.CLEAR clears a channel's INVALID when its cause is gone, or is refused. -/
def execSenseClear (w : Writer) (value : Word) (s : State) : Host.Outcome State Fault Refusal :=
  s.act fun d => d.writeReg w pgSENSE 0x44 value

/-- WATCH_EDGE_COUNT (R213): An encoder edge is counted in the always-on domain in WATCH, or POS is declared lost. -/
def execWatchEdgeCount (u : Lane) (a : Bool) (b : Bool) (rate : Nat) (s : State) : Host.Outcome State Fault Refusal :=
  s.act fun d => d.watchEdge u a b rate

/-- POS_RECORD_PUBLISH (R229): A channel publishes its position record to the other interface die and both control dies. -/
def execPosRecordPublish (u : Lane) (c : Fin 4) (s : State) : Host.Outcome State Fault Refusal :=
  s.act fun d => d.recordPublish u c

/-- POS_RECORD_RECEIVE (R230): A receiver checks a position record and keeps it or discards it with RECORD_CHECK. -/
def execPosRecordReceive (l : Lane) (atCtl : Bool) (u : Lane) (c : Fin 4) (seq : Fin 256) (crcOk : Bool) (s : State) : Host.Outcome State Fault Refusal :=
  s.act fun d => d.recordReceive l atCtl u c seq crcOk

/-- SENSE_PAIR_COMPARE (R231): The two units compare the REVPOS of a sensed pair and report POS_DISAGREE. -/
def execSensePairCompare (k : Fin 4) (s : State) : Host.Outcome State Fault Refusal := s.act fun d => d.sensePairCompare k

end Sys2Proof.Machine
end

