-- ==== Sys2Proof/Machine/CmdPower.lean ====
section
/-! DEFINITION. Commands of power, clocks, modes and resets (chapter 03). -/

namespace Sys2Proof.Machine

/-- STO_CHANNEL_CHANGE (R469): A filtered STO land changes level, and the drive named by that channel is removed or restored. -/
def execStoChannelChange (ch : Lane) (i : Lane) (active : Bool) (held : Nat) (s : State) : Host.Outcome State Fault Refusal :=
  s.act fun d => d.stoChannelChange ch i active held

/-- SUPPLY_VALID (R77): A supply rises above its validity threshold, and its domain's reset timer starts. -/
def execSupplyValid (u : Supply) (millivolt : Nat) (s : State) : Host.Outcome State Fault Refusal :=
  s.act fun d => d.supplyValid u millivolt

/-- DOMAIN_RESET_RELEASE (R77): A supply has stood valid for 100 µs, and its domain leaves reset. -/
def execDomainResetRelease (k : Die) (s : State) : Host.Outcome State Fault Refusal := s.act fun d => d.domainResetRelease k

/-- SUPPLY_INVALID (R79): A supply falls below its invalid threshold, and the domain it feeds enters reset with that loss's
effect. -/
def execSupplyInvalid (u : Supply) (millivolt : Nat) (s : State) : Host.Outcome State Fault Refusal :=
  s.act fun d => d.supplyLost u millivolt

/-- XTAL_READY (R81): The 25 MHz crystal comes within specification, and the die's PLL locks to it. -/
def execXtalReady (l : Lane) (s : State) : Host.Outcome State Fault Refusal := s.act fun d => d.xtalReady l

/-- XTAL_ABSENT (R81): 5.0 ms pass without a crystal in specification, and the PLL locks to the RC. -/
def execXtalAbsent (l : Lane) (s : State) : Host.Outcome State Fault Refusal := s.act fun d => d.xtalAbsent l

/-- PLL_LOCK (R80): A PLL locks, and the main and peripheral clocks run. -/
def execPllLock (l : Lane) (ctl : Bool) (s : State) : Host.Outcome State Fault Refusal := s.act fun d => d.pllLock l ctl

/-- CLK_FAIL (R83): The main clock deviates by more than 3 % or the PLL loses lock, and the lane fails. -/
def execClkFail (l : Lane) (ctl : Bool) (lostLock : Bool) (s : State) : Host.Outcome State Fault Refusal :=
  s.act fun d => d.clkFail l ctl lostLock

/-- CLK_TRIM_UPDATE (R82): Lane B's PLLs are steered to lane A's frequency, or held at the trim limit. -/
def execClkTrimUpdate (ppm : Int) (s : State) : Host.Outcome State Fault Refusal := s.act fun d => d.clkTrimUpdate ppm

/-- AON_CALIBRATION (R85): The measurement of the always-on cycle over 2^20 main cycles completes and updates AON_INC. -/
def execAonCalibration (l : Lane) (inc : Nat) (s : State) : Host.Outcome State Fault Refusal :=
  s.act fun d => d.aonCalibration l inc

/-- MAIN_CLOCK_STOP (R86): The main clock stops, and the accumulator takes over device time at an always-on cycle boundary. -/
def execMainClockStop (l : Lane) (s : State) : Host.Outcome State Fault Refusal := s.act fun d => d.mainClockStop l

/-- MAIN_CLOCK_START (R86): The main clock starts, and the tick counter takes the accumulator's integer part. -/
def execMainClockStart (l : Lane) (s : State) : Host.Outcome State Fault Refusal := s.act fun d => d.mainClockStart l

/-- START_UP (R102): A lane runs its start-up sequence from self-test to image verification, loading and STANDBY. -/
def execStartUp (l : Lane) (b : BootFacts) (s : State) : Host.Outcome State Fault Refusal := s.act fun d => d.startUp l b

/-- DEFAULT_MODE_ENTRY (R107): After STANDBY is reached, the device requests its configured default mode. -/
def execDefaultModeEntry (s : State) : Host.Outcome State Fault Refusal := s.act fun d => d.defaultMode

/-- SUPERVISOR_READY_RETRY (R104): The blank supervisor repeats its READY request every 100 ms. -/
def execSupervisorReadyRetry (s : State) : Host.Outcome State Fault Refusal := s.act fun d => d.supervisorRetry

/-- SUPERVISOR_STATUS_QUERY (R106): The supervisor answers a CAN frame with identifier 0x1F48_1200 with the 8-byte status frame.
-/
def execSupervisorStatusQuery (id : Nat) (ext : Bool) (s : State) : Host.Outcome State Fault Refusal :=
  s.act fun d => d.supervisorQuery id ext

/-- MODE_REQUEST (R90): A write to SYS.MODE_REQ requests a mode transition, which is started or refused with a code. -/
def execModeRequest (w : Writer) (target : Fin 8) (s : State) : Host.Outcome State Fault Refusal :=
  s.act fun d => d.writeReg w pgSYS 0x44 (BitVec.ofNat 32 target)

/-- READY_REQUEST_TIMEOUT (R90): The READY conditions are not all met within 100 ms, and the request is refused. -/
def execReadyRequestTimeout (s : State) : Host.Outcome State Fault Refusal := s.act fun d => d.readyTimeout

/-- MODE_TRANSITION_COMPLETE (R88): An agreed mode transition takes effect in both lanes at one tick. -/
def execModeTransitionComplete (s : State) : Host.Outcome State Fault Refusal := s.act fun d => d.modeComplete

/-- HVIL_CHANGE (R92): The HVIL loop opens or closes, and an open loop leads to DISCHARGE when configured. -/
def execHvilChange (opened : Bool) (s : State) : Host.Outcome State Fault Refusal := s.act fun d => d.hvilChange opened

/-- DISCHARGE_COMPLETE (R92): Every DC-link reading falls below 60 V, and DISCHARGE is left for HOLD or STANDBY. -/
def execDischargeComplete (s : State) : Host.Outcome State Fault Refusal := s.act fun d => d.dischargeComplete

/-- DCL_WATCH_SAMPLE (R95): A WATCH sample of the DC link exceeds its level, and the control die starts towing ASC and wakes the
device. -/
def execDclWatchSample (l : Lane) (volt : Nat) (s : State) : Host.Outcome State Fault Refusal :=
  s.act fun d => d.dclWatchSample l volt

/-- SPEED_WATCH (R96): More than SPEED_LEVEL encoder counts arrive in 1,024 always-on cycles, and the device wakes. -/
def execSpeedWatch (l : Lane) (s : State) : Host.Outcome State Fault Refusal := s.act fun d => d.speedWatch l

/-- WAKE_EVENT (R97): An enabled wake source held for its filter time wakes the device from DORMANT or WATCH. -/
def execWakeEvent (src : WakeSource) (held : Nat) (s : State) : Host.Outcome State Fault Refusal :=
  s.act fun d => d.wakeEvent src held

/-- WAKE_TIMER (R108): The wake timer of SYS.WAKE_CFG elapses and wakes the device. -/
def execWakeTimer (s : State) : Host.Outcome State Fault Refusal := s.act fun d => d.wakeTimer

/-- RESET_REQUEST (R100): A write to SYS.RESET_REQ with key 0xC3 resets a lane or the module, or is refused. -/
def execResetRequest (w : Writer) (value : Word) (s : State) : Host.Outcome State Fault Refusal :=
  s.act fun d => d.writeReg w pgSYS 0x4C value

/-- WATCHDOG_KICK (R463): A write to WDOG_KICK is judged for its key and its window. -/
def execWatchdogKick (w : Writer) (l : Lane) (key : Fin 65536) (s : State) : Host.Outcome State Fault Refusal :=
  s.act fun d => d.writeReg w (pgCPU l) 0x44 (BitVec.ofNat 32 key)

/-- WATCHDOG_EXPIRY (R463): The watchdog expires, and WATCHDOG is raised and the lane is reset. -/
def execWatchdogExpiry (l : Lane) (s : State) : Host.Outcome State Fault Refusal := s.act fun d => d.wdogTimeout l

/-- AON_XTAL_READY (R81): The 32.768 kHz crystal comes up, and the always-on domain changes from its RC to the crystal at an RC
cycle boundary. -/
def execAonXtalReady (l : Lane) (s : State) : Host.Outcome State Fault Refusal := s.act fun d => d.aonXtalReady l

/-- DEBUG_RESET (R98): An unlocked DEBUG port requests a reset of the scope it names, recorded as DEBUG in SYS.RESET_CAUSE. -/
def execDebugReset (scope : Fin 4) (s : State) : Host.Outcome State Fault Refusal := s.act fun d => d.debugReset scope

end Sys2Proof.Machine
end

