-- ==== Sys2Proof/Machine/CmdQuill.lean ====
section
/-! DEFINITION. Commands of the Quill engine (chapter 08): its runs, its instructions, its memories. -/

namespace Sys2Proof.Machine

/-- QUILL_TRIGGER (R293): A Quill trigger fires, and the input stage loads the frame and starts or holds a run. -/
def execQuillTrigger (l : Lane) (e : Fin 2) (bad : Fin 64) (s : State) : Host.Outcome State Fault Refusal :=
  s.act fun d => if d.trigDue l e then (d.tinkerQuill l).quillTrigger l e bad else d

/-- QUILL_RELEASE (R297): At cycle 96 the held compares are written to the modulator and their commit completes. -/
def execQuillRelease (l : Lane) (s : State) : Host.Outcome State Fault Refusal := s.act fun d => d.quillRelease l

/-- RUN_LIMIT (R299): A run reaches MAXCYC without HALT and is aborted. -/
def execRunLimit (l : Lane) (s : State) : Host.Outcome State Fault Refusal := s.act fun d => d.runLimit l

/-- NOP (R300): Quill instruction that does nothing. -/
def execQNop (l : Lane) (s : State) : Host.Outcome State Fault Refusal := s.act fun d => d.quillNop l

/-- LDI (R300): Quill loads a 32-bit immediate into a register. -/
def execQLdi (l : Lane) (s : State) : Host.Outcome State Fault Refusal := s.act fun d => d.quillLdi l

/-- MOV (R300): Quill copies a register. -/
def execQMov (l : Lane) (s : State) : Host.Outcome State Fault Refusal := s.act fun d => d.quillMov l

/-- ADD (R300): Quill adds two registers, saturating or wrapping. -/
def execQAdd (l : Lane) (s : State) : Host.Outcome State Fault Refusal := s.act fun d => d.quillAdd l

/-- SUB (R300): Quill subtracts two registers, saturating or wrapping. -/
def execQSub (l : Lane) (s : State) : Host.Outcome State Fault Refusal := s.act fun d => d.quillSub l

/-- NEG (R300): Quill negates a register. -/
def execQNeg (l : Lane) (s : State) : Host.Outcome State Fault Refusal := s.act fun d => d.quillNeg l

/-- ABS (R300): Quill takes the magnitude of a register. -/
def execQAbs (l : Lane) (s : State) : Host.Outcome State Fault Refusal := s.act fun d => d.quillAbs l

/-- MIN (R300): Quill takes the signed minimum of two registers. -/
def execQMin (l : Lane) (s : State) : Host.Outcome State Fault Refusal := s.act fun d => d.quillMin l

/-- MAX (R300): Quill takes the signed maximum of two registers. -/
def execQMax (l : Lane) (s : State) : Host.Outcome State Fault Refusal := s.act fun d => d.quillMax l

/-- CLAMP (R300): Quill clamps a register between two bounds and sets CLAMPED. -/
def execQClamp (l : Lane) (s : State) : Host.Outcome State Fault Refusal := s.act fun d => d.quillClamp l

/-- CLAMPS (R300): Quill clamps a register symmetrically and sets CLAMPED. -/
def execQClamps (l : Lane) (s : State) : Host.Outcome State Fault Refusal := s.act fun d => d.quillClamps l

/-- SHL (R300): Quill shifts a register left. -/
def execQShl (l : Lane) (s : State) : Host.Outcome State Fault Refusal := s.act fun d => d.quillShl l

/-- SHR (R300): Quill shifts a register right with rounding. -/
def execQShr (l : Lane) (s : State) : Host.Outcome State Fault Refusal := s.act fun d => d.quillShr l

/-- AND (R300): Quill takes the bitwise AND of two registers. -/
def execQAnd (l : Lane) (s : State) : Host.Outcome State Fault Refusal := s.act fun d => d.quillAnd l

/-- OR (R300): Quill takes the bitwise OR of two registers. -/
def execQOr (l : Lane) (s : State) : Host.Outcome State Fault Refusal := s.act fun d => d.quillOr l

/-- XOR (R300): Quill takes the bitwise XOR of two registers. -/
def execQXor (l : Lane) (s : State) : Host.Outcome State Fault Refusal := s.act fun d => d.quillXor l

/-- SEL (R300): Quill selects one of two registers by a condition. -/
def execQSel (l : Lane) (s : State) : Host.Outcome State Fault Refusal := s.act fun d => d.quillSel l

/-- SELP (R300): Quill selects one of two register pairs by a condition. -/
def execQSelp (l : Lane) (s : State) : Host.Outcome State Fault Refusal := s.act fun d => d.quillSelp l

/-- CMP (R300): Quill compares two registers and sets EQ and LT. -/
def execQCmp (l : Lane) (s : State) : Host.Outcome State Fault Refusal := s.act fun d => d.quillCmp l

/-- CLRF (R300): Quill clears CLAMPED, DUTYCLAMP and MATHX. -/
def execQClrf (l : Lane) (s : State) : Host.Outcome State Fault Refusal := s.act fun d => d.quillClrf l

/-- MUL (R292): Quill multiplies two registers with one rounding. -/
def execQMul (l : Lane) (s : State) : Host.Outcome State Fault Refusal := s.act fun d => d.quillMul l

/-- MAC (R292): Quill multiplies and adds an addend with one rounding. -/
def execQMac (l : Lane) (s : State) : Host.Outcome State Fault Refusal := s.act fun d => d.quillMac l

/-- MSU (R292): Quill multiplies and subtracts from an addend with one rounding. -/
def execQMsu (l : Lane) (s : State) : Host.Outcome State Fault Refusal := s.act fun d => d.quillMsu l

/-- MULK (R292): Quill multiplies a register by a coefficient. -/
def execQMulk (l : Lane) (s : State) : Host.Outcome State Fault Refusal := s.act fun d => d.quillMulk l

/-- MACK (R292): Quill adds a register times a coefficient to another register. -/
def execQMack (l : Lane) (s : State) : Host.Outcome State Fault Refusal := s.act fun d => d.quillMack l

/-- VMULK (R300): Quill multiplies a quad by four coefficients. -/
def execQVmulk (l : Lane) (s : State) : Host.Outcome State Fault Refusal := s.act fun d => d.quillVmulk l

/-- DOT2 (R300): Quill forms the dot product of two pairs. -/
def execQDot2 (l : Lane) (s : State) : Host.Outcome State Fault Refusal := s.act fun d => d.quillDot2 l

/-- ROT (R302): Quill rotates a pair by Park or inverse Park. -/
def execQRot (l : Lane) (s : State) : Host.Outcome State Fault Refusal := s.act fun d => d.quillRot l

/-- ICLK (R302): Quill applies the inverse Clarke transform to a pair. -/
def execQIclk (l : Lane) (s : State) : Host.Outcome State Fault Refusal := s.act fun d => d.quillIclk l

/-- RECON3 (R301): Quill reconstructs the phase currents, checks their sum and forms the Clarke pair. -/
def execQRecon3 (l : Lane) (s : State) : Host.Outcome State Fault Refusal := s.act fun d => d.quillRecon3 l

/-- SVM (R304): Quill computes three compares by space-vector modulation. -/
def execQSvm (l : Lane) (s : State) : Host.Outcome State Fault Refusal := s.act fun d => d.quillSvm l

/-- PI (R303): Quill runs the PI controller with back-calculation. -/
def execQPi (l : Lane) (s : State) : Host.Outcome State Fault Refusal := s.act fun d => d.quillPi l

/-- SINCOS (R307): Quill computes the cosine and sine of an angle. -/
def execQSincos (l : Lane) (s : State) : Host.Outcome State Fault Refusal := s.act fun d => d.quillSincos l

/-- DIV (R307): Quill divides two registers. -/
def execQDiv (l : Lane) (s : State) : Host.Outcome State Fault Refusal := s.act fun d => d.quillDiv l

/-- RCP (R307): Quill computes a reciprocal. -/
def execQRcp (l : Lane) (s : State) : Host.Outcome State Fault Refusal := s.act fun d => d.quillRcp l

/-- SQRT (R307): Quill computes a square root. -/
def execQSqrt (l : Lane) (s : State) : Host.Outcome State Fault Refusal := s.act fun d => d.quillSqrt l

/-- LD (R300): Quill loads a data-memory word. -/
def execQLd (l : Lane) (s : State) : Host.Outcome State Fault Refusal := s.act fun d => d.quillLd l

/-- LDX (R300): Quill loads an indexed data-memory word. -/
def execQLdx (l : Lane) (s : State) : Host.Outcome State Fault Refusal := s.act fun d => d.quillLdx l

/-- ST (R311): Quill stores a register to a data-memory word. -/
def execQSt (l : Lane) (s : State) : Host.Outcome State Fault Refusal := s.act fun d => d.quillSt l

/-- STX (R311): Quill stores a register to an indexed data-memory word. -/
def execQStx (l : Lane) (s : State) : Host.Outcome State Fault Refusal := s.act fun d => d.quillStx l

/-- BR (R309): Quill branches when a condition holds. -/
def execQBr (l : Lane) (s : State) : Host.Outcome State Fault Refusal := s.act fun d => d.quillBr l

/-- STAGE (R305): Quill places three compares in the holding buffer for release. -/
def execQStage (l : Lane) (s : State) : Host.Outcome State Fault Refusal := s.act fun d => d.quillStage l

/-- MONW (R306): Quill writes a register to a MON register of a FIELD page. -/
def execQMonw (l : Lane) (s : State) : Host.Outcome State Fault Refusal := s.act fun d => d.quillMonw l

/-- EXPORT (R320): Quill sends its export set to the other lane's shadow. -/
def execQExport (l : Lane) (s : State) : Host.Outcome State Fault Refusal := s.act fun d => d.quillExport l

/-- HALT (R299): Quill ends the run. -/
def execQHalt (l : Lane) (s : State) : Host.Outcome State Fault Refusal := s.act fun d => d.quillHalt l

/-- ILLEGAL_OP (R310): An illegal instruction aborts the run. -/
def execIllegalOp (l : Lane) (s : State) : Host.Outcome State Fault Refusal := s.act fun d => d.illegalOp l

/-- LOCKSTEP (R316): The two Quill copies differ in a cycle, and the run is aborted. -/
def execLockstepQuill (l : Lane) (s : State) : Host.Outcome State Fault Refusal := s.act fun d => d.qLockstep l

/-- ECC_FATAL (R317): A double-bit check error aborts the run; a single-bit one is corrected and counted. -/
def execEccFatal (l : Lane) (leg : Option (Fin 6)) (double : Bool) (s : State) : Host.Outcome State Fault Refusal :=
  s.act fun d => if double then d.eccFatal l leg else d.eccCorr l

/-- COEFF_SHIFT_WRITE (R312): A write to a coefficient shift word moves the pending value and shift into the entry at the next
run. -/
def execCoeffShiftWrite (w : Writer) (k : Fin 1024) (value : Word) (s : State) : Host.Outcome State Fault Refusal :=
  s.act fun d => d.write w (rgQUILL + 0xC000 + 8 * k.val + 4) value

/-- PROG_WINDOW_WRITE (R313): A write to the program window fills a word of the inactive bank. -/
def execProgWindowWrite (w : Writer) (n : Fin 4096) (high : Bool) (value : Word) (s : State) : Host.Outcome State Fault Refusal :=
  s.act fun d => d.write w (rgQUILL + 8 * n.val + 4 * high.toNat) value

/-- PROG_SWAP (R314): A write of PROG.SWAP arms the swap of the Quill program banks in both lanes. -/
def execProgSwap (w : Writer) (l : Lane) (s : State) : Host.Outcome State Fault Refusal :=
  s.act fun d => d.writeField w (pgQUILL l) R.QUILL_PROG_SWAP 1

/-- PROG_BANK_CHECK (R314): A lane completes its check of the inactive program bank. -/
def execProgBankCheck (l : Lane) (s : State) : Host.Outcome State Fault Refusal := s.act fun d => d.progBankCheck l

/-- SWAP_DONE (R314): At the agreed swap tick both lanes start running the new bank. -/
def execSwapDone (s : State) : Host.Outcome State Fault Refusal := s.act fun d => d.swapDone

/-- SHADOW_RECEIVE (R320): An export arrives in the other lane's SHADOW registers. -/
def execShadowReceive (l : Lane) (s : State) : Host.Outcome State Fault Refusal := s.act fun d => d.shadowArrive l

end Sys2Proof.Machine
end

