-- ==== Sys2Proof/Machine/CmdResource.lean ====
section
/-! DEFINITION. Commands of resources (chapter 19). -/

namespace Sys2Proof.Machine

/-- RESOURCE_CLAIM (R633): RES.CLAIM with OP CLAIM makes the writer owner of a free resource, or is refused. -/
def execResourceClaim (w : Writer) (r : Fin 256) (s : State) : Host.Outcome State Fault Refusal :=
  s.act fun d => d.writeReg w pgRES 0x40 (keyWord 0x3A (0x100 + r.val))

/-- RESOURCE_RELEASE (R633): RES.CLAIM with OP RELEASE frees a resource, or is refused. -/
def execResourceRelease (w : Writer) (r : Fin 256) (s : State) : Host.Outcome State Fault Refusal :=
  s.act fun d => d.writeReg w pgRES 0x40 (keyWord 0x3A (0x200 + r.val))

/-- RESOURCE_TAKE (R639): A device function takes a resource, suspending a lower take or deferring. -/
def execResourceTake (r : Fin 256) (f : Fin 6) (s : State) : Host.Outcome State Fault Refusal :=
  s.act fun d => d.resourceTake r (0x40 + f.val)

/-- RESOURCE_TAKE_END (R640): A take ends, and deferred takes or the owner's values apply. -/
def execResourceTakeEnd (r : Fin 256) (f : Fin 6) (s : State) : Host.Outcome State Fault Refusal :=
  s.act fun d => d.resourceTakeEnd r (0x40 + f.val)

end Sys2Proof.Machine
end

