-- ==== Sys2Proof/Machine/CmdSLayer.lean ====
section
/-! DEFINITION. Commands of the safety layer (chapter 14). -/

namespace Sys2Proof.Machine

/-- SAFETY_PDU_RECEIVE (R510): A consumed entry checks an arriving PDU and accepts or rejects it. -/
def execSafetyPduReceive (i : Lane) (n : Fin 48) (id : Fin 536870912) (data : List Byte) (age : Nat) (s : State) : Host.Outcome State Fault Refusal :=
  s.act fun d => d.safetyPduReceive i n id data age

/-- DUAL_MISSING (R513): No second copy passes by t_first + CMPW, and DMISS increments. -/
def execDualMissing (i : Lane) (k : Fin 1024) (s : State) : Host.Outcome State Fault Refusal :=
  s.act fun d => d.dualMissing i k

/-- SL_TIMEOUT (R514): An entry reaches its window end without an accepted PDU and goes to TIMEOUT. -/
def execSlTimeout (i : Lane) (k : Fin 1024) (s : State) : Host.Outcome State Fault Refusal := s.act fun d => d.slTimeout i k

/-- SAFETY_PDU_PRODUCE (R519): At every PERIOD-th cycle end a produced entry builds and sends a CYCLIC PDU. -/
def execSafetyPduProduce (i : Lane) (k : Fin 1024) (payload : List Byte) (partner : Option Word) (s : State) : Host.Outcome State Fault Refusal :=
  s.act fun d => d.safetyPduProduce i k payload partner

/-- SLAYER_CLEAR (R516): A write to SLAYER.CLR returns a recovered entry to RUN, or is refused. -/
def execSlayerClear (w : Writer) (value : Word) (s : State) : Host.Outcome State Fault Refusal :=
  s.act fun d => d.writeReg w pgSLAYER 0x58 value

/-- REBIND (R522): A write to REBIND with key 0x7B re-binds an entry, or is refused. -/
def execRebind (w : Writer) (value : Word) (s : State) : Host.Outcome State Fault Refusal :=
  s.act fun d => d.writeReg w pgSLAYER 0x50 value

/-- BIND_TICK (R523): At the next safety-cycle start the re-bind takes effect in both islands. -/
def execBindTick (s : State) : Host.Outcome State Fault Refusal := s.act fun d => d.bindTick

/-- ENTRY_CHECK_VERIFY (R506): Once per second the islands verify every entry's ECRC. -/
def execEntryCheckVerify (i : Lane) (s : State) : Host.Outcome State Fault Refusal := s.act fun d => d.entryCheckVerify i

end Sys2Proof.Machine
end

