-- ==== Sys2Proof/Machine/CmdSafety.lean ====
section
/-! DEFINITION. Commands of the safety islands (chapter 13). -/

namespace Sys2Proof.Machine

/-- SAFETY_CYCLE_END (R464): At each 250 µs cycle end the island evaluates every safety function and acts. -/
def execSafetyCycleEnd (i : Lane) (s : State) : Host.Outcome State Fault Refusal :=
  s.act fun d => if d.now % 125000 ≠ 0 then d else (d.safetyCycleEnd i).slNotices i

/-- DECISION_WORD_RECEIVE (R466): An island receives the other island's decision word and applies the more restrictive one. -/
def execDecisionWordReceive (i : Lane) (word : DecisionWord) (s : State) : Host.Outcome State Fault Refusal :=
  s.act fun d => d.decisionReceive i word

/-- ISLAND_LOCKSTEP (R465): The safety-core copies differ, and the island goes out of service. -/
def execIslandLockstep (i : Lane) (_group : Fin 6) (s : State) : Host.Outcome State Fault Refusal :=
  s.act fun d => d.islandLockstep i

/-- ACTIVE_VALUE_RELAY (R468): An island receives the ACTIVE lane's values for the period. -/
def execActiveValueRelay (i : Lane) (failed : BitVec 22) (s : State) : Host.Outcome State Fault Refusal :=
  s.act fun d => d.activeRelay i failed

/-- SAFETY_DEGRADED_TIMEOUT (R467): SAFETY_DEGRADED stands for DEGR_T minutes, and SS1 starts on every axis. -/
def execSafetyDegradedTimeout (i : Lane) (s : State) : Host.Outcome State Fault Refusal := s.act fun d => d.degradedTimeout i

/-- STO_DISCREPANCY (R472): One STO channel changes and the other does not follow within DISC. -/
def execStoDiscrepancy (i : Lane) (s : State) : Host.Outcome State Fault Refusal := s.act fun d => d.stoDiscrepancy i

/-- SDIN_CHANGE (R476): A filtered SDIN channel changes, and the input's demand is reassessed. -/
def execSdinChange (i : Lane) (n : Fin 2) (ch : Fin 2) (high : Bool) (held : Nat) (s : State) : Host.Outcome State Fault Refusal :=
  s.act fun d => d.sdinChange i n ch high held

/-- SDIN_DISCREPANCY (R476): An SDIN input stands in an invalid combination beyond DISC. -/
def execSdinDiscrepancy (i : Lane) (n : Fin 2) (s : State) : Host.Outcome State Fault Refusal :=
  s.act fun d => d.sdinDiscrepancy i n

/-- SAFE_REQUEST (R478): A write to SAFE_x.REQ requests a safety state or the brake. -/
def execSafeRequest (w : Writer) (i : Lane) (value : Word) (s : State) : Host.Outcome State Fault Refusal :=
  s.act fun d => d.writeReg w (pgSAFE i) 0x48 value

/-- SAFE_ACK (R475): A write of 0xA9 to SAFE_x.ACK acknowledges for both islands. -/
def execSafeAck (w : Writer) (i : Lane) (key : Fin 256) (s : State) : Host.Outcome State Fault Refusal :=
  s.act fun d => d.writeReg w (pgSAFE i) 0x4C (BitVec.ofNat 32 key)

/-- SAFE_STOP_REQUEST (R479): A safe stop request reaches the lanes and acts as an axis STOP or a motion STOP. -/
def execSafeStopRequest (i : Lane) (x : Fin 2) (s : State) : Host.Outcome State Fault Refusal :=
  s.act fun d => d.safeStop i x

/-- SS_DELAY_EXPIRY (R481): SS.DELAY elapses, and SS1 ends in STO or SS2 in SOS. -/
def execSsDelayExpiry (i : Lane) (x : Fin 2) (s : State) : Host.Outcome State Fault Refusal := s.act fun d => d.ssExpiry i x

/-- ISEC_SAMPLE (R487): At every multiple of 5,000 ticks the Assayer samples ISEC and forms a torque value. -/
def execIsecSample (i : Lane) (u : List Int) (s : State) : Host.Outcome State Fault Refusal :=
  s.act fun d => d.isecSample i u

/-- SBC_ENGAGE (R492): The brake output engages after SBC.DLY, or at REQ.BRAKE. -/
def execSbcEngage (i : Lane) (s : State) : Host.Outcome State Fault Refusal := s.act fun d => d.sbcEngage i

/-- SBC_TEST (R493): Every TPER a released brake output opens one switch for TPW and checks the readback. -/
def execSbcTest (i : Lane) (seen : Option Nat) (s : State) : Host.Outcome State Fault Refusal := s.act fun d => d.sbcTest i seen

/-- SBC_COIL_CHECK (R493): The coil current stays below IMIN for 10 ms while released, and SBC_FAULT is raised. -/
def execSbcCoilCheck (i : Lane) (milliamp : Nat) (s : State) : Host.Outcome State Fault Refusal :=
  s.act fun d => d.sbcCoil i milliamp

end Sys2Proof.Machine
end

