-- ==== Sys2Proof/Machine/CmdServices.lean ====
section
/-! DEFINITION. Commands of Hallmark, Ledger and Tinker (chapter 16). -/

namespace Sys2Proof.Machine

/-- HALLMARK_DATA4 (R564): A write to DATA4 feeds four bytes into a unit's code. -/
def execHallmarkData4 (w : Writer) (u : Fin 16) (value : Word) (s : State) : Host.Outcome State Fault Refusal :=
  s.act fun d => d.writeReg w pgHALLMARK (0x88 + 0x20 * u.val) value

/-- HALLMARK_DATA1 (R564): A write to DATA1 feeds one byte into a unit's code. -/
def execHallmarkData1 (w : Writer) (u : Fin 16) (value : Word) (s : State) : Host.Outcome State Fault Refusal :=
  s.act fun d => d.writeReg w pgHALLMARK (0x8C + 0x20 * u.val) value

/-- HALLMARK_CHECKIN (R566): A write to CHECKIN holds the received check. -/
def execHallmarkCheckin (w : Writer) (u : Fin 16) (value : Word) (s : State) : Host.Outcome State Fault Refusal :=
  s.act fun d => d.writeReg w pgHALLMARK (0x90 + 0x20 * u.val) value

/-- HALLMARK_START (R564): CLOSE with OP START loads the initial value and resets the unit. -/
def execHallmarkStart (w : Writer) (u : Fin 16) (s : State) : Host.Outcome State Fault Refusal :=
  s.act fun d => d.writeReg w pgHALLMARK (0x94 + 0x20 * u.val) 0x40000000

/-- APPEND_CLOSE (R565): CLOSE with OP CLOSE in APPEND produces the check and increments the alive counter. -/
def execAppendClose (w : Writer) (u : Fin 16) (alive : Fin 256) (s : State) : Host.Outcome State Fault Refusal :=
  s.act fun d => d.writeReg w pgHALLMARK (0x94 + 0x20 * u.val) (BitVec.ofNat 32 (0x80000000 + alive.val))

/-- STRIP_CLOSE (R566): CLOSE with OP CLOSE in STRIP verifies the check and alive value. -/
def execStripClose (w : Writer) (u : Fin 16) (alive : Fin 256) (s : State) : Host.Outcome State Fault Refusal :=
  s.act fun d => d.writeReg w pgHALLMARK (0x94 + 0x20 * u.val) (BitVec.ofNat 32 (0x80000000 + alive.val))

/-- HALLMARK_VALUE_RESTORE (R570): A write of VALUE restores a unit's running context. -/
def execHallmarkValueRestore (w : Writer) (u : Fin 16) (value : Word) (s : State) : Host.Outcome State Fault Refusal :=
  s.act fun d => d.writeReg w pgHALLMARK (0x84 + 0x20 * u.val) value

/-- LEDGER_RAISE (R572): A source is raised, STATUS and COUNT move and its class reaction applies. -/
def execLedgerRaise (n : Fin 384) (age : Nat) (detail : Fin 8) (s : State) : Host.Outcome State Fault Refusal :=
  s.act fun d => d.ledgerRaise n age detail

/-- SOURCE_CLEAR (R576): A write of 1 to SRCn.STATUS clears a source whose cause is gone, or is refused. -/
def execSourceClear (w : Writer) (n : Fin 384) (s : State) : Host.Outcome State Fault Refusal :=
  s.act fun d => d.writeField w pgLEDGER R.LEDGER_SRC_STATUS 1 n

/-- CLRALL (R576): A write to CLRALL with key 0xD2 clears every source whose cause is gone. -/
def execClrall (w : Writer) (key : Fin 256) (s : State) : Host.Outcome State Fault Refusal :=
  s.act fun d => d.writeReg w pgLEDGER 0x50 (keyWord key 0)

/-- SOURCE_FORCE (R578): A write of 1 to SRCn.FORCE raises the source with its full reaction. -/
def execSourceForce (w : Writer) (n : Fin 384) (on : Bool) (s : State) : Host.Outcome State Fault Refusal :=
  s.act fun d => d.writeField w pgLEDGER R.LEDGER_SRC_FORCE on.toNat n

/-- FIRST_REARM (R579): A write of 1 to FIRST.VALID re-arms the first-fault record. -/
def execFirstRearm (w : Writer) (s : State) : Host.Outcome State Fault Refusal :=
  s.act fun d => d.writeField w pgLEDGER R.LEDGER_FIRST_VALID 1

/-- FIRST_FINAL (R579): 1,000 ticks after the record's stamp the first-fault record becomes final. -/
def execFirstFinal (s : State) : Host.Outcome State Fault Refusal := s.act fun d => d.firstFinal

/-- CNTCLR (R583): A write of SRCn.CNTCLR clears COUNT and CLRREF. -/
def execCntclr (w : Writer) (n : Fin 384) (s : State) : Host.Outcome State Fault Refusal :=
  s.act fun d => d.writeField w pgLEDGER R.LEDGER_SRC_CNTCLR 1 n

/-- TINKER_SLICE_START (R586): After GAP Tinker saves, fences and tests the next eligible idle slice. -/
def execTinkerSliceStart (x : Die) (s : State) : Host.Outcome State Fault Refusal := s.act fun d => d.tinkerSliceStart x

/-- TINKER_SLICE_END (R587): A slice test ends, its signature is compared and the state restored. -/
def execTinkerSliceEnd (x : Die) (sn : Fin 64) (sigOk : Bool) (s : State) : Host.Outcome State Fault Refusal :=
  s.act fun d => d.tinkerSliceEnd x sn sigOk

/-- TINKER_SWEEP (R589): CMD SWEEP tests every slice in MAINTENANCE. -/
def execTinkerSweep (w : Writer) (s : State) : Host.Outcome State Fault Refusal :=
  s.act fun d => d.writeReg w pgTINKER 0x44 (keyWord 0x8E 1)

/-- TINKER_ABORT (R589): CMD ABORT ends the sweep after the current slice. -/
def execTinkerAbort (w : Writer) (s : State) : Host.Outcome State Fault Refusal :=
  s.act fun d => d.writeReg w pgTINKER 0x44 (keyWord 0x8E 2)

/-- TINKER_FAIL_CLEAR (R587): A write to FAIL0 or FAIL1 clears a slice's FAIL when its latest test passed. -/
def execTinkerFailClear (w : Writer) (n : Fin 2) (value : Word) (s : State) : Host.Outcome State Fault Refusal :=
  s.act fun d => d.writeReg w pgTINKER (0x50 + 4 * n.val) value

end Sys2Proof.Machine
end

