-- ==== Sys2Proof/Machine/CmdThermal.lean ====
section
/-! DEFINITION. Commands of the thermal path (chapter 17). -/

namespace Sys2Proof.Machine

/-- TEMP_READING (R592): A sensor completes its reading, and exclusion, warning and shutdown are judged. -/
def execTempReading (sn : Fin 20) (value : Nat) (age : Nat) (s : State) : Host.Outcome State Fault Refusal :=
  s.act fun d => d.tempReading sn value age

/-- TEMP_CLEAR (R595): A write to TEMP.CLR ends an exclusion whose cause is gone. -/
def execTempClear (w : Writer) (value : Word) (s : State) : Host.Outcome State Fault Refusal :=
  s.act fun d => d.writeReg w pgTEMP 0x44 value

/-- THERMAL_RECORD_WRITTEN (R600): Each interface die completes its shutdown record in NVM. -/
def execThermalRecordWritten (l : Lane) (s : State) : Host.Outcome State Fault Refusal :=
  s.act fun d => d.thermalRecordWritten l

/-- THERMAL_DORMANT_ENTRY (R600): Once the records are written and every axis gives off, the device enters DORMANT. -/
def execThermalDormantEntry (s : State) : Host.Outcome State Fault Refusal := s.act fun d => d.thermalDormantEntry

/-- THERMAL_RETRY_WAKE (R601): Every RETRY seconds the latched device wakes and restarts only when every sensor is below 150 °C.
-/
def execThermalRetryWake (first : List (Option Int)) (second : List (Option Int)) (s : State) : Host.Outcome State Fault Refusal :=
  s.act fun d => d.thermalRetryWake first second

end Sys2Proof.Machine
end

