-- ==== Sys2Proof/Machine/CmdUpdate.lean ====
section
/-! DEFINITION. Commands of update, unlock and attestation (chapter 18). -/

namespace Sys2Proof.Machine

/-- The word of NVM.UPD: the key, the scope, the bank and the operation. -/
def updWord (op bank scope : Nat) : Word := keyWord 0xB7 (0x10000 * scope + 0x100 * bank + op)

/-- UPD_BEGIN (R616): UPD BEGIN opens a bank for installation and starts its erase. -/
def execUpdBegin (w : Writer) (bank : Fin 2) (s : State) : Host.Outcome State Fault Refusal :=
  s.act fun d => d.writeReg w pgNVM 0x44 (updWord 1 bank 0)

/-- ERASE_COMPLETE (R616): The bank erase completes, and the install is OPEN. -/
def execEraseComplete (s : State) : Host.Outcome State Fault Refusal := s.act fun d => d.eraseComplete

/-- PAGE_PROGRAM (R617): A write to WBUF63 programs 256 bytes at WADDR.PAGE. -/
def execPageProgram (w : Writer) (value : Word) (s : State) : Host.Outcome State Fault Refusal :=
  s.act fun d => d.writeReg w pgNVM 0x1FC value

/-- PROGRAM_COMPLETE (R617): Page programming completes, and STATE returns to OPEN. -/
def execProgramComplete (s : State) : Host.Outcome State Fault Refusal := s.act fun d => d.programComplete

/-- UPD_FINISH (R618): UPD FINISH ends the install and starts verification. -/
def execUpdFinish (w : Writer) (s : State) : Host.Outcome State Fault Refusal :=
  s.act fun d => d.writeReg w pgNVM 0x44 (updWord 2 0 0)

/-- VERIFY_COMPLETE (R618): Bank verification completes, and the bank is VALID or keeps its error code. -/
def execVerifyComplete (s : State) : Host.Outcome State Fault Refusal := s.act fun d => d.verifyComplete

/-- UPD_ACTIVATE (R619): UPD ACTIVATE applies components of a VALID bank by scope. -/
def execUpdActivate (w : Writer) (bank : Fin 2) (scope : Fin 8) (s : State) : Host.Outcome State Fault Refusal :=
  s.act fun d => d.writeReg w pgNVM 0x44 (updWord 3 bank scope)

/-- ACTIVATION_SETTLE (R620): SETTLE elapses, and the second lane is set to TRY and reset. -/
def execActivationSettle (s : State) : Host.Outcome State Fault Refusal := s.act fun d => d.activationSettle

/-- UPDATE_FAILED (R621): A reset lane is not eligible within TMO, and the activation is abandoned. -/
def execUpdateFailed (s : State) : Host.Outcome State Fault Refusal := s.act fun d => d.updateFailed

/-- UPD_ABORT (R618): UPD ABORT leaves the bank EMPTY. -/
def execUpdAbort (w : Writer) (s : State) : Host.Outcome State Fault Refusal :=
  s.act fun d => d.writeReg w pgNVM 0x44 (updWord 4 0 0)

/-- UPD_SETPREF (R622): UPD SETPREF makes a VALID bank the PREF bank. -/
def execUpdSetpref (w : Writer) (bank : Fin 2) (s : State) : Host.Outcome State Fault Refusal :=
  s.act fun d => d.writeReg w pgNVM 0x44 (updWord 5 bank 0)

/-- UPD_COMMIT_SVN (R622): UPD COMMIT_SVN raises the OTP counter to the running bank's SVN. -/
def execUpdCommitSvn (w : Writer) (s : State) : Host.Outcome State Fault Refusal :=
  s.act fun d => d.writeReg w pgNVM 0x44 (updWord 6 0 0)

/-- UPD_PROVISION (R627): UPD PROVISION generates and wraps each die's identity key pair in MAINTENANCE. -/
def execUpdProvision (w : Writer) (healthy : Bool) (s : State) : Host.Outcome State Fault Refusal :=
  s.act fun d => d.withFacts { noFacts with healthy := healthy } fun d => d.writeReg w pgNVM 0x44 (updWord 7 0 0)

/-- UNLOCK_CHALLENGE (R623): UNLOCK CHALLENGE draws 32 random bytes into CHAL. -/
def execUnlockChallenge (w : Writer) (entropy : Option (List Word)) (s : State) : Host.Outcome State Fault Refusal :=
  s.act fun d => d.withFacts { noFacts with entropy := entropy } fun d => d.writeReg w pgNVM 0x5C (keyWord 0xE1 1)

/-- UNLOCK_SUBMIT (R625): UNLOCK SUBMIT checks the token and raises the named right, or refuses. -/
def execUnlockSubmit (w : Writer) (s : State) : Host.Outcome State Fault Refusal :=
  s.act fun d => d.writeReg w pgNVM 0x5C (keyWord 0xE1 2)

/-- OBJDATA_ACCESS (R624): An access to OBJDATA reads or writes word IDX of the object and advances IDX. -/
def execObjdataAccess (w : Writer) (write : Option Word) (s : State) : Host.Outcome State Fault Refusal :=
  s.act fun d => match write with | some v => d.writeReg w pgNVM 0xC4 v | none => d.read w (pageAddr pgNVM 0xC4)

/-- JTAG_CHALLENGE (R626): Boundary-scan instruction 0x21 reads the challenge and issues a new one at Update-DR. -/
def execJtagChallenge (entropy : Option (List Word)) (s : State) : Host.Outcome State Fault Refusal :=
  s.act fun d => d.jtagChallenge entropy

/-- JTAG_TOKEN_SUBMIT (R626): Boundary-scan instruction 0x22 takes a token and submits it at Update-DR. -/
def execJtagTokenSubmit (token : List Word) (s : State) : Host.Outcome State Fault Refusal :=
  s.act fun d => (d.tinkerNeedBoth true 22).jtagToken token

/-- QUOTE (R628): QUOTE with GO builds the measurement list and signs it. -/
def execQuote (w : Writer) (value : Word) (s : State) : Host.Outcome State Fault Refusal :=
  s.act fun d => d.writeReg w pgNVM 0x60 value

/-- QUOTE_COMPLETE (R628): A quote's signature is complete. -/
def execQuoteComplete (s : State) : Host.Outcome State Fault Refusal := s.act fun d => d.quoteComplete

end Sys2Proof.Machine
end

