-- ==== Sys2Proof/Machine/Dispatch.lean ====
section
/-! DEFINITION. One arm per command: each calls its meaning. -/

namespace Sys2Proof.Machine

/-- The effect of a command on everything but the queue. -/
def exec (i : Instr) (s : State) : Host.Outcome State Fault Refusal :=
  match i with
  | .linkFrameReceive k seq crcOk skew => Sys2Proof.Machine.execLinkFrameReceive k seq crcOk skew s
  | .linkLost k => Sys2Proof.Machine.execLinkLost k s
  | .linkStartUp k trips turns rtt => Sys2Proof.Machine.execLinkStartUp k trips turns rtt s
  | .roleDesignationApply k l => Sys2Proof.Machine.execRoleDesignationApply k l s
  | .edgeMessageReceive k l word => Sys2Proof.Machine.execEdgeMessageReceive k l word s
  | .edgeExecute o => Sys2Proof.Machine.execEdgeExecute o s
  | .prioritySymbolReceive k l err => Sys2Proof.Machine.execPrioritySymbolReceive k l err s
  | .stoChannelChange ch j active held => Sys2Proof.Machine.execStoChannelChange ch j active held s
  | .supplyValid u millivolt => Sys2Proof.Machine.execSupplyValid u millivolt s
  | .domainResetRelease k => Sys2Proof.Machine.execDomainResetRelease k s
  | .supplyInvalid u mv => Sys2Proof.Machine.execSupplyInvalid u mv s
  | .xtalReady l => Sys2Proof.Machine.execXtalReady l s
  | .xtalAbsent l => Sys2Proof.Machine.execXtalAbsent l s
  | .pllLock l ctl => Sys2Proof.Machine.execPllLock l ctl s
  | .clkFail l ctl lostLock => Sys2Proof.Machine.execClkFail l ctl lostLock s
  | .clkTrimUpdate ppm => Sys2Proof.Machine.execClkTrimUpdate ppm s
  | .aonCalibration l inc => Sys2Proof.Machine.execAonCalibration l inc s
  | .mainClockStop l => Sys2Proof.Machine.execMainClockStop l s
  | .mainClockStart l => Sys2Proof.Machine.execMainClockStart l s
  | .startUp l b => Sys2Proof.Machine.execStartUp l b s
  | .defaultModeEntry => Sys2Proof.Machine.execDefaultModeEntry s
  | .supervisorReadyRetry => Sys2Proof.Machine.execSupervisorReadyRetry s
  | .supervisorStatusQuery id ext => Sys2Proof.Machine.execSupervisorStatusQuery id ext s
  | .modeRequest w target => Sys2Proof.Machine.execModeRequest w target s
  | .readyRequestTimeout => Sys2Proof.Machine.execReadyRequestTimeout s
  | .modeTransitionComplete => Sys2Proof.Machine.execModeTransitionComplete s
  | .hvilChange opened => Sys2Proof.Machine.execHvilChange opened s
  | .dischargeComplete => Sys2Proof.Machine.execDischargeComplete s
  | .dclWatchSample l volt => Sys2Proof.Machine.execDclWatchSample l volt s
  | .speedWatch l => Sys2Proof.Machine.execSpeedWatch l s
  | .wakeEvent src held => Sys2Proof.Machine.execWakeEvent src held s
  | .wakeTimer => Sys2Proof.Machine.execWakeTimer s
  | .resetRequest w value => Sys2Proof.Machine.execResetRequest w value s
  | .watchdogKick w l key => Sys2Proof.Machine.execWatchdogKick w l key s
  | .watchdogExpiry l => Sys2Proof.Machine.execWatchdogExpiry l s
  | .registerWrite w addr value => Sys2Proof.Machine.execRegisterWrite w addr value s
  | .hostRead p f => Sys2Proof.Machine.execHostRead p f s
  | .hostWrite p f => Sys2Proof.Machine.execHostWrite p f s
  | .hostFetch p f => Sys2Proof.Machine.execHostFetch p f s
  | .remoteRead p f => Sys2Proof.Machine.execRemoteRead p f s
  | .remoteWrite p f => Sys2Proof.Machine.execRemoteWrite p f s
  | .hostRequestComplete => Sys2Proof.Machine.execHostRequestComplete s
  | .remoteTimeout => Sys2Proof.Machine.execRemoteTimeout s
  | .ctrlCommit w p => Sys2Proof.Machine.execCtrlCommit w p s
  | .commitPoint p => Sys2Proof.Machine.execCommitPoint p s
  | .ctrlSoftrst w p => Sys2Proof.Machine.execCtrlSoftrst w p s
  | .ctrlFreeze w p on => Sys2Proof.Machine.execCtrlFreeze w p on s
  | .ctrlEnable w p on => Sys2Proof.Machine.execCtrlEnable w p on s
  | .pageLock w p => Sys2Proof.Machine.execPageLock w p s
  | .pageUnlock w p => Sys2Proof.Machine.execPageUnlock w p s
  | .pageHardLock w p => Sys2Proof.Machine.execPageHardLock w p s
  | .pageForce w p bits => Sys2Proof.Machine.execPageForce w p bits s
  | .causeClear w p bits meets => Sys2Proof.Machine.execCauseClear w p bits meets s
  | .pageClaim w p => Sys2Proof.Machine.execPageClaim w p s
  | .pageRelease w p => Sys2Proof.Machine.execPageRelease w p s
  | .sealRecompute p => Sys2Proof.Machine.execSealRecompute p s
  | .portClassWrite w value => Sys2Proof.Machine.execPortClassWrite w value s
  | .proxyWrite w act => Sys2Proof.Machine.execProxyWrite w act s
  | .interruptNotice k => Sys2Proof.Machine.execInterruptNotice k s
  | .pinMismatch l low => Sys2Proof.Machine.execPinMismatch l low s
  | .conversionComplete l c slice raw => Sys2Proof.Machine.execConversionComplete l c slice raw s
  | .spareTurnEnd l c g => Sys2Proof.Machine.execSpareTurnEnd l c g s
  | .referenceSettled l c => Sys2Proof.Machine.execReferenceSettled l c s
  | .windowClose l c g => Sys2Proof.Machine.execWindowClose l c g s
  | .dclExchange => Sys2Proof.Machine.execDclExchange s
  | .seqStart w l => Sys2Proof.Machine.execSeqStart w l s
  | .seqEntryStart l g => Sys2Proof.Machine.execSeqEntryStart l g s
  | .seqEntryComplete l => Sys2Proof.Machine.execSeqEntryComplete l s
  | .urgentRequest w l value => Sys2Proof.Machine.execUrgentRequest w l value s
  | .urgentStart l ch g => Sys2Proof.Machine.execUrgentStart l ch g s
  | .urgentComplete l ch => Sys2Proof.Machine.execUrgentComplete l ch s
  | .sourceSelect w u c value => Sys2Proof.Machine.execSourceSelect w u c value s
  | .quadratureEdge u a b age => Sys2Proof.Machine.execQuadratureEdge u a b age s
  | .toothEdge u age => Sys2Proof.Machine.execToothEdge u age s
  | .hallChange u h age => Sys2Proof.Machine.execHallChange u h age s
  | .resolverDemodulation u sn c => Sys2Proof.Machine.execResolverDemodulation u sn c s
  | .ssiFrameStart u => Sys2Proof.Machine.execSsiFrameStart u s
  | .ssiFrameComplete u bits => Sys2Proof.Machine.execSsiFrameComplete u bits s
  | .sentFrame u second sync pulses pause age => Sys2Proof.Machine.execSentFrame u second sync pulses pause age s
  | .lineFault u line => Sys2Proof.Machine.execLineFault u line s
  | .lineFaultEnd u line level => Sys2Proof.Machine.execLineFaultEnd u line level s
  | .indexEvent u a b z age => Sys2Proof.Machine.execIndexEvent u a b z age s
  | .sensorFrameTimeout u c => Sys2Proof.Machine.execSensorFrameTimeout u c s
  | .speedBound u c => Sys2Proof.Machine.execSpeedBound u c s
  | .speedStandstill u c => Sys2Proof.Machine.execSpeedStandstill u c s
  | .posSet w u c value => Sys2Proof.Machine.execPosSet w u c value s
  | .compareWrite w u c n cfg value => Sys2Proof.Machine.execCompareWrite w u c n cfg value s
  | .senseClear w value => Sys2Proof.Machine.execSenseClear w value s
  | .watchEdgeCount u a b rate => Sys2Proof.Machine.execWatchEdgeCount u a b rate s
  | .posRecordPublish u c => Sys2Proof.Machine.execPosRecordPublish u c s
  | .posRecordReceive l atCtl u c seq crcOk => Sys2Proof.Machine.execPosRecordReceive l atCtl u c seq crcOk s
  | .sensePairCompare k => Sys2Proof.Machine.execSensePairCompare k s
  | .fieldPeriod l x => Sys2Proof.Machine.execFieldPeriod l x s
  | .angleSourceTimeout l x => Sys2Proof.Machine.execAngleSourceTimeout l x s
  | .axisStart w x epoch => Sys2Proof.Machine.execAxisStart w x epoch s
  | .axisStop w x epoch => Sys2Proof.Machine.execAxisStop w x epoch s
  | .axisOff w x epoch => Sys2Proof.Machine.execAxisOff w x epoch s
  | .axisClr w x epoch => Sys2Proof.Machine.execAxisClr w x epoch s
  | .cmdTimeout x => Sys2Proof.Machine.execCmdTimeout x s
  | .alignComplete x => Sys2Proof.Machine.execAlignComplete x s
  | .lockedRotor x => Sys2Proof.Machine.execLockedRotor x s
  | .catchSample x => Sys2Proof.Machine.execCatchSample x s
  | .catchWindowEnd x => Sys2Proof.Machine.execCatchWindowEnd x s
  | .catchTimeout x => Sys2Proof.Machine.execCatchTimeout x s
  | .ascReleaseCheck x => Sys2Proof.Machine.execAscReleaseCheck x s
  | .mapSwap w x => Sys2Proof.Machine.execMapSwap w x s
  | .quillTrigger l e bad => Sys2Proof.Machine.execQuillTrigger l e bad s
  | .quillRelease l => Sys2Proof.Machine.execQuillRelease l s
  | .runLimit l => Sys2Proof.Machine.execRunLimit l s
  | .qNop l => Sys2Proof.Machine.execQNop l s
  | .qLdi l => Sys2Proof.Machine.execQLdi l s
  | .qMov l => Sys2Proof.Machine.execQMov l s
  | .qAdd l => Sys2Proof.Machine.execQAdd l s
  | .qSub l => Sys2Proof.Machine.execQSub l s
  | .qNeg l => Sys2Proof.Machine.execQNeg l s
  | .qAbs l => Sys2Proof.Machine.execQAbs l s
  | .qMin l => Sys2Proof.Machine.execQMin l s
  | .qMax l => Sys2Proof.Machine.execQMax l s
  | .qClamp l => Sys2Proof.Machine.execQClamp l s
  | .qClamps l => Sys2Proof.Machine.execQClamps l s
  | .qShl l => Sys2Proof.Machine.execQShl l s
  | .qShr l => Sys2Proof.Machine.execQShr l s
  | .qAnd l => Sys2Proof.Machine.execQAnd l s
  | .qOr l => Sys2Proof.Machine.execQOr l s
  | .qXor l => Sys2Proof.Machine.execQXor l s
  | .qSel l => Sys2Proof.Machine.execQSel l s
  | .qSelp l => Sys2Proof.Machine.execQSelp l s
  | .qCmp l => Sys2Proof.Machine.execQCmp l s
  | .qClrf l => Sys2Proof.Machine.execQClrf l s
  | .qMul l => Sys2Proof.Machine.execQMul l s
  | .qMac l => Sys2Proof.Machine.execQMac l s
  | .qMsu l => Sys2Proof.Machine.execQMsu l s
  | .qMulk l => Sys2Proof.Machine.execQMulk l s
  | .qMack l => Sys2Proof.Machine.execQMack l s
  | .qVmulk l => Sys2Proof.Machine.execQVmulk l s
  | .qDot2 l => Sys2Proof.Machine.execQDot2 l s
  | .qRot l => Sys2Proof.Machine.execQRot l s
  | .qIclk l => Sys2Proof.Machine.execQIclk l s
  | .qRecon3 l => Sys2Proof.Machine.execQRecon3 l s
  | .qSvm l => Sys2Proof.Machine.execQSvm l s
  | .qPi l => Sys2Proof.Machine.execQPi l s
  | .qSincos l => Sys2Proof.Machine.execQSincos l s
  | .qDiv l => Sys2Proof.Machine.execQDiv l s
  | .qRcp l => Sys2Proof.Machine.execQRcp l s
  | .qSqrt l => Sys2Proof.Machine.execQSqrt l s
  | .qLd l => Sys2Proof.Machine.execQLd l s
  | .qLdx l => Sys2Proof.Machine.execQLdx l s
  | .qSt l => Sys2Proof.Machine.execQSt l s
  | .qStx l => Sys2Proof.Machine.execQStx l s
  | .qBr l => Sys2Proof.Machine.execQBr l s
  | .qStage l => Sys2Proof.Machine.execQStage l s
  | .qMonw l => Sys2Proof.Machine.execQMonw l s
  | .qExport l => Sys2Proof.Machine.execQExport l s
  | .qHalt l => Sys2Proof.Machine.execQHalt l s
  | .illegalOp l => Sys2Proof.Machine.execIllegalOp l s
  | .lockstepQuill l => Sys2Proof.Machine.execLockstepQuill l s
  | .eccFatal l leg double => Sys2Proof.Machine.execEccFatal l leg double s
  | .coeffShiftWrite w k value => Sys2Proof.Machine.execCoeffShiftWrite w k value s
  | .progWindowWrite w n high value => Sys2Proof.Machine.execProgWindowWrite w n high value s
  | .progSwap w l => Sys2Proof.Machine.execProgSwap w l s
  | .progBankCheck l => Sys2Proof.Machine.execProgBankCheck l s
  | .swapDone => Sys2Proof.Machine.execSwapDone s
  | .shadowReceive l => Sys2Proof.Machine.execShadowReceive l s
  | .servoTick x => Sys2Proof.Machine.execServoTick x s
  | .motionGo w x epoch => Sys2Proof.Machine.execMotionGo w x epoch s
  | .motionStop w x epoch => Sys2Proof.Machine.execMotionStop w x epoch s
  | .motionResume w x epoch => Sys2Proof.Machine.execMotionResume w x epoch s
  | .motionAbort w x epoch => Sys2Proof.Machine.execMotionAbort w x epoch s
  | .stepUpdate => Sys2Proof.Machine.execStepUpdate s
  | .chopperDecision l n bad => Sys2Proof.Machine.execChopperDecision l n bad s
  | .chopStateChange l n => Sys2Proof.Machine.execChopStateChange l n s
  | .timebaseStart l tb => Sys2Proof.Machine.execTimebaseStart l tb s
  | .latchPoint l tb => Sys2Proof.Machine.execLatchPoint l tb s
  | .periodStart l tb => Sys2Proof.Machine.execPeriodStart l tb s
  | .deferredActionTick => Sys2Proof.Machine.execDeferredActionTick s
  | .syncInEdge l => Sys2Proof.Machine.execSyncInEdge l s
  | .syncLost l => Sys2Proof.Machine.execSyncLost l s
  | .groupCommit w l groups => Sys2Proof.Machine.execGroupCommit w l groups s
  | .edgeMessageSend l k => Sys2Proof.Machine.execEdgeMessageSend l k s
  | .linkEcho l k roundTrip turnaround => Sys2Proof.Machine.execLinkEcho l k roundTrip turnaround s
  | .tripAccept l src level held => Sys2Proof.Machine.execTripAccept l src level held s
  | .swtrip w l trig => Sys2Proof.Machine.execSwtrip w l trig s
  | .tripclr w l bits => Sys2Proof.Machine.execTripclr w l bits s
  | .bootUv n => Sys2Proof.Machine.execBootUv n s
  | .gatePhaseEnd o gate settled tpl dv => Sys2Proof.Machine.execGatePhaseEnd o gate settled tpl dv s
  | .halfFailed o half => Sys2Proof.Machine.execHalfFailed o half s
  | .desat o held => Sys2Proof.Machine.execDesat o held s
  | .plateauShort o tpl above => Sys2Proof.Machine.execPlateauShort o tpl above s
  | .softTurnOffStep o gate settled => Sys2Proof.Machine.execSoftTurnOffStep o gate settled s
  | .gateMon o badA badB => Sys2Proof.Machine.execGateMon o badA badB s
  | .gateSupply o vpos vneg => Sys2Proof.Machine.execGateSupply o vpos vneg s
  | .driverLinkTimeout l k => Sys2Proof.Machine.execDriverLinkTimeout l k s
  | .dclinkComparator l volt => Sys2Proof.Machine.execDclinkComparator l volt s
  | .chopCurrentCheck l => Sys2Proof.Machine.execChopCurrentCheck l s
  | .chopEnergyUpdate l => Sys2Proof.Machine.execChopEnergyUpdate l s
  | .dischargeTimeout => Sys2Proof.Machine.execDischargeTimeout s
  | .gateConfigBlock l => Sys2Proof.Machine.execGateConfigBlock l s
  | .configBlockApply k => Sys2Proof.Machine.execConfigBlockApply k s
  | .configMismatchTimeout k => Sys2Proof.Machine.execConfigMismatchTimeout k s
  | .clearShort w outs => Sys2Proof.Machine.execClearShort w outs s
  | .clearHalfFailed w outs pass => Sys2Proof.Machine.execClearHalfFailed w outs pass s
  | .clearGateMon w outs => Sys2Proof.Machine.execClearGateMon w outs s
  | .clearGateSupply w outs => Sys2Proof.Machine.execClearGateSupply w outs s
  | .lockstepCpu l group => Sys2Proof.Machine.execLockstepCpu l group s
  | .inputDisagree l island x agree => Sys2Proof.Machine.execInputDisagree l island x agree s
  | .laneSwitch w => Sys2Proof.Machine.execLaneSwitch w s
  | .laneSelftest w passA passB => Sys2Proof.Machine.execLaneSelftest w passA passB s
  | .laneRejoin w => Sys2Proof.Machine.execLaneRejoin w s
  | .handover => Sys2Proof.Machine.execHandover s
  | .silentWithdrawal l => Sys2Proof.Machine.execSilentWithdrawal l s
  | .laneDownSymbol l => Sys2Proof.Machine.execLaneDownSymbol l s
  | .survivorActive l k => Sys2Proof.Machine.execSurvivorActive l k s
  | .roleAssign => Sys2Proof.Machine.execRoleAssign s
  | .peerReset l => Sys2Proof.Machine.execPeerReset l s
  | .laneRejoined l => Sys2Proof.Machine.execLaneRejoined l s
  | .stateShadowSend l => Sys2Proof.Machine.execStateShadowSend l s
  | .stateShadowReceive l good => Sys2Proof.Machine.execStateShadowReceive l good s
  | .edgeStreamCompare => Sys2Proof.Machine.execEdgeStreamCompare s
  | .debugHalt l quill on => Sys2Proof.Machine.execDebugHalt l quill on s
  | .debugAction l quill a => Sys2Proof.Machine.execDebugAction l quill a s
  | .safetyCycleEnd j => Sys2Proof.Machine.execSafetyCycleEnd j s
  | .decisionWordReceive j word => Sys2Proof.Machine.execDecisionWordReceive j word s
  | .islandLockstep j group => Sys2Proof.Machine.execIslandLockstep j group s
  | .activeValueRelay j failed => Sys2Proof.Machine.execActiveValueRelay j failed s
  | .safetyDegradedTimeout j => Sys2Proof.Machine.execSafetyDegradedTimeout j s
  | .stoDiscrepancy j => Sys2Proof.Machine.execStoDiscrepancy j s
  | .sdinChange j n ch high held => Sys2Proof.Machine.execSdinChange j n ch high held s
  | .sdinDiscrepancy j n => Sys2Proof.Machine.execSdinDiscrepancy j n s
  | .safeRequest w j value => Sys2Proof.Machine.execSafeRequest w j value s
  | .safeAck w j key => Sys2Proof.Machine.execSafeAck w j key s
  | .safeStopRequest j x => Sys2Proof.Machine.execSafeStopRequest j x s
  | .ssDelayExpiry j x => Sys2Proof.Machine.execSsDelayExpiry j x s
  | .isecSample j u => Sys2Proof.Machine.execIsecSample j u s
  | .sbcEngage j => Sys2Proof.Machine.execSbcEngage j s
  | .sbcTest j seen => Sys2Proof.Machine.execSbcTest j seen s
  | .sbcCoilCheck j milliamp => Sys2Proof.Machine.execSbcCoilCheck j milliamp s
  | .safetyPduReceive j n id data age => Sys2Proof.Machine.execSafetyPduReceive j n id data age s
  | .dualMissing j k => Sys2Proof.Machine.execDualMissing j k s
  | .slTimeout j k => Sys2Proof.Machine.execSlTimeout j k s
  | .safetyPduProduce j k payload partner => Sys2Proof.Machine.execSafetyPduProduce j k payload partner s
  | .slayerClear w value => Sys2Proof.Machine.execSlayerClear w value s
  | .rebind w value => Sys2Proof.Machine.execRebind w value s
  | .bindTick => Sys2Proof.Machine.execBindTick s
  | .entryCheckVerify j => Sys2Proof.Machine.execEntryCheckVerify j s
  | .canFrameReceive n f sofAge => Sys2Proof.Machine.execCanFrameReceive n f sofAge s
  | .busOff n => Sys2Proof.Machine.execBusOff n s
  | .errorPassive n => Sys2Proof.Machine.execErrorPassive n s
  | .busOffRecovery n => Sys2Proof.Machine.execBusOffRecovery n s
  | .filterUpdate w n f value => Sys2Proof.Machine.execFilterUpdate w n f value s
  | .queueWindowRead w n q k => Sys2Proof.Machine.execQueueWindowRead w n q k s
  | .queueTake w n q => Sys2Proof.Machine.execQueueTake w n q s
  | .queueGive w n q => Sys2Proof.Machine.execQueueGive w n q s
  | .txBufferArm w n value => Sys2Proof.Machine.execTxBufferArm w n value s
  | .canTransmit n => Sys2Proof.Machine.execCanTransmit n s
  | .txComplete n r sofAge => Sys2Proof.Machine.execTxComplete n r sofAge s
  | .txCancel w n value => Sys2Proof.Machine.execTxCancel w n value s
  | .rulingReferenceSend n => Sys2Proof.Machine.execRulingReferenceSend n s
  | .rulingReferenceReceive n f sofAge => Sys2Proof.Machine.execRulingReferenceReceive n f sofAge s
  | .refLost n => Sys2Proof.Machine.execRefLost n s
  | .rulingBackupTakeover n => Sys2Proof.Machine.execRulingBackupTakeover n s
  | .rulingCellWrite w k value => Sys2Proof.Machine.execRulingCellWrite w k value s
  | .rulingCellMark n k => Sys2Proof.Machine.execRulingCellMark n k s
  | .rulingMiss n k => Sys2Proof.Machine.execRulingMiss n k s
  | .linkCycleStart l => Sys2Proof.Machine.execLinkCycleStart l s
  | .cycleStartReceive l src count => Sys2Proof.Machine.execCycleStartReceive l src count s
  | .linkSlot l collision => Sys2Proof.Machine.execLinkSlot l collision s
  | .regReq l dst epoch header owner tag data => Sys2Proof.Machine.execRegReq l dst epoch header owner tag data s
  | .regRsp l src rstat tag data => Sys2Proof.Machine.execRegRsp l src rstat tag data s
  | .notice l src n => Sys2Proof.Machine.execNotice l src n s
  | .frameError l => Sys2Proof.Machine.execFrameError l s
  | .headLost l => Sys2Proof.Machine.execHeadLost l s
  | .headTakeover l => Sys2Proof.Machine.execHeadTakeover l s
  | .syncTx w l evt => Sys2Proof.Machine.execSyncTx w l evt s
  | .syncEvent l src evt due => Sys2Proof.Machine.execSyncEvent l src evt due s
  | .ethFrameReceive data fcsOk age => Sys2Proof.Machine.execEthFrameReceive data fcsOk age s
  | .ethRxdataRead w => Sys2Proof.Machine.execEthRxdataRead w s
  | .ethTxdata w value => Sys2Proof.Machine.execEthTxdata w value s
  | .ethTxlen w value => Sys2Proof.Machine.execEthTxlen w value s
  | .ethLinkDown => Sys2Proof.Machine.execEthLinkDown s
  | .mdioGo w value => Sys2Proof.Machine.execMdioGo w value s
  | .mdioDone data => Sys2Proof.Machine.execMdioDone data s
  | .ptpMessage m age => Sys2Proof.Machine.execPtpMessage m age s
  | .timeSourceEvent domain age => Sys2Proof.Machine.execTimeSourceEvent domain age s
  | .timeEventTimeout => Sys2Proof.Machine.execTimeEventTimeout s
  | .nowLoRead w => Sys2Proof.Machine.execNowLoRead w s
  | .hallmarkData4 w u value => Sys2Proof.Machine.execHallmarkData4 w u value s
  | .hallmarkData1 w u value => Sys2Proof.Machine.execHallmarkData1 w u value s
  | .hallmarkCheckin w u value => Sys2Proof.Machine.execHallmarkCheckin w u value s
  | .hallmarkStart w u => Sys2Proof.Machine.execHallmarkStart w u s
  | .appendClose w u alive => Sys2Proof.Machine.execAppendClose w u alive s
  | .stripClose w u alive => Sys2Proof.Machine.execStripClose w u alive s
  | .hallmarkValueRestore w u value => Sys2Proof.Machine.execHallmarkValueRestore w u value s
  | .ledgerRaise n age detail => Sys2Proof.Machine.execLedgerRaise n age detail s
  | .sourceClear w n => Sys2Proof.Machine.execSourceClear w n s
  | .clrall w key => Sys2Proof.Machine.execClrall w key s
  | .sourceForce w n on => Sys2Proof.Machine.execSourceForce w n on s
  | .firstRearm w => Sys2Proof.Machine.execFirstRearm w s
  | .firstFinal => Sys2Proof.Machine.execFirstFinal s
  | .cntclr w n => Sys2Proof.Machine.execCntclr w n s
  | .tinkerSliceStart x => Sys2Proof.Machine.execTinkerSliceStart x s
  | .tinkerSliceEnd x sn sigOk => Sys2Proof.Machine.execTinkerSliceEnd x sn sigOk s
  | .tinkerSweep w => Sys2Proof.Machine.execTinkerSweep w s
  | .tinkerAbort w => Sys2Proof.Machine.execTinkerAbort w s
  | .tinkerFailClear w n value => Sys2Proof.Machine.execTinkerFailClear w n value s
  | .tempReading sn value age => Sys2Proof.Machine.execTempReading sn value age s
  | .tempClear w value => Sys2Proof.Machine.execTempClear w value s
  | .thermalRecordWritten l => Sys2Proof.Machine.execThermalRecordWritten l s
  | .thermalDormantEntry => Sys2Proof.Machine.execThermalDormantEntry s
  | .thermalRetryWake first second => Sys2Proof.Machine.execThermalRetryWake first second s
  | .updBegin w bank => Sys2Proof.Machine.execUpdBegin w bank s
  | .eraseComplete => Sys2Proof.Machine.execEraseComplete s
  | .pageProgram w value => Sys2Proof.Machine.execPageProgram w value s
  | .programComplete => Sys2Proof.Machine.execProgramComplete s
  | .updFinish w => Sys2Proof.Machine.execUpdFinish w s
  | .verifyComplete => Sys2Proof.Machine.execVerifyComplete s
  | .updActivate w bank scope => Sys2Proof.Machine.execUpdActivate w bank scope s
  | .activationSettle => Sys2Proof.Machine.execActivationSettle s
  | .updateFailed => Sys2Proof.Machine.execUpdateFailed s
  | .updAbort w => Sys2Proof.Machine.execUpdAbort w s
  | .updSetpref w bank => Sys2Proof.Machine.execUpdSetpref w bank s
  | .updCommitSvn w => Sys2Proof.Machine.execUpdCommitSvn w s
  | .updProvision w healthy => Sys2Proof.Machine.execUpdProvision w healthy s
  | .unlockChallenge w entropy => Sys2Proof.Machine.execUnlockChallenge w entropy s
  | .unlockSubmit w => Sys2Proof.Machine.execUnlockSubmit w s
  | .objdataAccess w write => Sys2Proof.Machine.execObjdataAccess w write s
  | .jtagChallenge entropy => Sys2Proof.Machine.execJtagChallenge entropy s
  | .jtagTokenSubmit token => Sys2Proof.Machine.execJtagTokenSubmit token s
  | .quote w value => Sys2Proof.Machine.execQuote w value s
  | .quoteComplete => Sys2Proof.Machine.execQuoteComplete s
  | .resourceClaim w r => Sys2Proof.Machine.execResourceClaim w r s
  | .resourceRelease w r => Sys2Proof.Machine.execResourceRelease w r s
  | .resourceTake r f => Sys2Proof.Machine.execResourceTake r f s
  | .resourceTakeEnd r f => Sys2Proof.Machine.execResourceTakeEnd r f s
  | .aonXtalReady l => Sys2Proof.Machine.execAonXtalReady l s
  | .debugReset scope => Sys2Proof.Machine.execDebugReset scope s
  | .cpuEccFatal l => Sys2Proof.Machine.execCpuEccFatal l s
  | .cpuEccCorr l => Sys2Proof.Machine.execCpuEccCorr l s
  | .stoSymbolReceive k l outs active => Sys2Proof.Machine.execStoSymbolReceive k l outs active s
  | .ascDlyExpiry b => Sys2Proof.Machine.execAscDlyExpiry b s
  | .gateSupplyRecovered o vpos vneg => Sys2Proof.Machine.execGateSupplyRecovered o vpos vneg s
  | .chopLevelHold l => Sys2Proof.Machine.execChopLevelHold l s
  | .tripRelease l second level => Sys2Proof.Machine.execTripRelease l second level s
  | .ethLinkUp => Sys2Proof.Machine.execEthLinkUp s
  | .ethTxdone => Sys2Proof.Machine.execEthTxdone s
  | .timerefPulse rising age => Sys2Proof.Machine.execTimerefPulse rising age s
  | .auxSample n v => Sys2Proof.Machine.execAuxSample n v s

end Sys2Proof.Machine
end

