-- ==== Sys2Proof/Safety.lean ====
section
/-! DEFINITION. What counts as a safe state, and what the claims say of an access, in the terms they use. -/

namespace Sys2Proof.Machine

/-- The keys of a list of cells rise strictly: no register word is held twice, and equal contents are equal data. -/
abbrev cellsRising (c : List (Nat × Word)) : Prop := c.Pairwise fun a b => a.1 < b.1

/-- The canonical form of the register cells: the keys rise, and no listed word equals the reset value that an unlisted one reads as. -/
abbrev cellsWf (c : List (Nat × Word)) : Prop := cellsRising c ∧ ∀ p ∈ c, p.2 ≠ addrReset (p.1 % 0x1000000)

/-- The register cells of a device have their canonical form. -/
abbrev Dev.canonical (d : Dev) : Prop := cellsWf d.regs

/-- No leg of the device has both of its gates on (R364). -/
def Dev.legsApart (d : Dev) : Prop := ∀ n : Fin 6, ¬ ((d.outs[legHigh n]).gateOn = true ∧ (d.outs[legLow n]).gateOn = true)

/-! ## Register writes -/

/-- The target of a register of a page. -/
def Dev.pageTarget (d : Dev) (p o : Nat) : Target :=
  { page := p, o := o, flds := regFlds p o, copies := d.openCopies p, mirrored := (pageHolder p).isNone, region := false }

/-- The result that the checks of R116 give a write. -/
def Dev.verdict (d : Dev) (w : Writer) (k : Nat) (v : Word) : Result := (d.judgeAs w (d.whoAt w k) k v).1

/-- A write arrives (R49, R136), and the checks of R116 accept it. -/
abbrev Dev.accepts (d : Dev) (w : Writer) (k : Nat) (v : Word) : Prop := d.arrives w = true ∧ (d.verdict w k v).good = true

/-- An accepted write: the word is stored but for the bits `keep`, claims move, the register sets off `run`, a
COMMIT that waits on the page moves (R122), the result is shown. -/
def Dev.tookAt (d : Dev) (w : Writer) (t : Target) (k : Nat) (v keep : Word) (claims : List Nat)
    (run : Dev → Dev) : Dev :=
  ((run (Dev.reclaim d (d.store t k v keep) claims)).commitDelays t).showAccess w (d.verdict w k v)

/-- An accepted write of a register of a page. -/
def Dev.took (d : Dev) (w : Writer) (p o : Nat) (v keep : Word) (run : Dev → Dev) : Dev :=
  d.tookAt w (d.pageTarget p o) (pageAddr p o) v keep [] run

/-- The word that a read by `w` shows of a register, which R116 compares with the word of a write. -/
def Dev.present (d : Dev) (w : Writer) (p o : Nat) : Word := d.showWord (d.who w).ident (d.judgeLane (d.pageTarget p o)) (pageAddr p o)

/-- BLOCK, or the result of a check that R116 puts before the block conditions. -/
def blockOrEarlier (r : Result) : Prop := r = .absent ∨ r = .cls ∨ r = .claimed ∨ r = .locked ∨ r = .staging ∨ r = .block

/-- What a refusal leaves behind beside CAUSE.REFUSED: nothing, a role mismatch (R272, R342), STATE.REFUSE of an axis, REBSTAT.REFUSE of
a re-binding (R522), or a claim that found its resource busy (R633). -/
def refusalMark (g : Dev → Dev) (v : Word) : Prop :=
  g = id ∨ (∃ x : Fin 2, g = fun d => d.epochMismatch x) ∨ (∃ x : Fin 2, g = fun d => d.startRefused x) ∨
  (g = fun d => d.rebind false v) ∨ ∃ r, g = fun d => d.resBusy r

/-- What a read leaves that answers the word `x.1` and leaves the device `x.2`. -/
def Dev.readOf (_ : Dev) (w : Writer) (x : Word × Dev) : Dev :=
  { x.2.showAccess w .ok with host := { (x.2.showAccess w .ok).host with readData := [x.1] } }

/-! ## Quill -/

/-- The instruction `i` of form `f` and operation `op` stands at the program counter of lane `l`'s run, is legal, and its issue tick
`t` (R309) has come and lies before the run's limit (R299). -/
abbrev Dev.qReady (d : Dev) (l : Lane) (op : Nat) (i : QIns) (f : QForm) (t : Nat) : Prop :=
  d.qAtPc l = i ∧ i.op = op ∧ qForm i.op = some f ∧ (d.quill.at l).run.isSome = true ∧ qLegal i (d.quill.at l).pc = true ∧
  d.qIssueAt l i f = t ∧ t ≤ d.now ∧ t < (d.quill.at l).t0 + d.gl l (pgQUILL l) R.QUILL_RUN_MAXCYC

/-- Fields that an instruction word can hold: each within its bits, and the immediate the same bits as K and X. -/
def qFits (i : QIns) : Prop :=
  i.op < 256 ∧ i.dst < 32 ∧ i.sa < 32 ∧ i.sb < 32 ∧ i.sc < 32 ∧ i.flg < 16 ∧ i.k < 1024 ∧ i.x < 2 ^ 22 ∧ i.imm.toNat = i.k * 2 ^ 22 + i.x

/-- `r` is `num / den` rounded to the nearest integer, a half away from zero (R291). -/
def roundsTo (num : Int) (den : Nat) (r : Int) : Prop :=
  2 * (num - r * den).natAbs ≤ den ∧ (2 * (num - r * den).natAbs = den → num.natAbs ≤ (r * den).natAbs)

end Sys2Proof.Machine
end

