-- ==== Sys2Proof/WellFormed.lean ====
section
/-! DEFINITION. Which terms of Instr stand for a command: the relations between operands that their types do not carry. A meaning
is total; what it does with an ill-formed term stands for no command. -/

namespace Sys2Proof

/-- The number of outputs of a driver die (R390). -/
def dieOutputs (d : Fin 8) : Nat := if d.val < 6 then 1 else 4

/-- A host frame carries no more than the 63 words its header counts, and a route word (R138). -/
def HostFrame.sized (f : HostFrame) : Bool := f.data.length ≤ 64

/-- A CAN frame's identifier and data fit its format (R526). -/
def CanFrame.sized (f : CanFrame) : Bool :=
  match f.fmt with
  | 0 => f.id.val < 2048 && f.data.length ≤ 8
  | 1 => f.data.length ≤ 8
  | 2 => f.id.val < 2048 && f.data.length ≤ 64
  | 3 => f.data.length ≤ 64
  | _ => f.id.val < 2048 && 1 ≤ f.data.length && f.data.length ≤ 2048

/-- A signed 16-bit number. -/
def int16 (v : Int) : Bool := -32768 ≤ v && v < 32768

/-- A challenge of 256 bits (R623). -/
def entropySized (e : Option (List Word)) : Bool :=
  match e with
  | none => true
  | some ws => ws.length == 8

/-- The term stands for a command. -/
def Instr.wellFormed (i : Instr) : Bool :=
  match i with
  | .linkFrameReceive _ _ _ _ => true
  | .linkLost _ => true
  | .linkStartUp _ trips turns rtt => turns ≤ trips && rtt < 65536
  | .roleDesignationApply _ _ => true
  | .edgeMessageReceive _ _ _ => true
  | .edgeExecute _ => true
  | .prioritySymbolReceive _ _ _ => true
  | .stoChannelChange _ _ _ _ => true
  | .supplyValid _ _ => true
  | .domainResetRelease _ => true
  | .supplyInvalid _ _ => true
  | .xtalReady _ => true
  | .xtalAbsent _ => true
  | .pllLock _ _ => true
  | .clkFail _ _ _ => true
  | .clkTrimUpdate _ => true
  | .aonCalibration _ _ => true
  | .mainClockStop _ => true
  | .mainClockStart _ => true
  | .startUp _ _ => true
  | .defaultModeEntry => true
  | .supervisorReadyRetry => true
  | .supervisorStatusQuery _ _ => true
  | .modeRequest _ _ => true
  | .readyRequestTimeout => true
  | .modeTransitionComplete => true
  | .hvilChange _ => true
  | .dischargeComplete => true
  | .dclWatchSample _ _ => true
  | .speedWatch _ => true
  | .wakeEvent _ _ => true
  | .wakeTimer => true
  | .resetRequest _ _ => true
  | .watchdogKick _ _ _ => true
  | .watchdogExpiry _ => true
  | .registerWrite _ addr _ => addr < 2 ^ 32
  | .hostRead _ f => f.sized
  | .hostWrite _ f => f.sized
  | .hostFetch _ f => f.sized
  | .remoteRead _ f => f.sized
  | .remoteWrite _ f => f.sized
  | .hostRequestComplete => true
  | .remoteTimeout => true
  | .ctrlCommit _ _ => true
  | .commitPoint _ => true
  | .ctrlSoftrst _ _ => true
  | .ctrlFreeze _ _ _ => true
  | .ctrlEnable _ _ _ => true
  | .pageLock _ _ => true
  | .pageUnlock _ _ => true
  | .pageHardLock _ _ => true
  | .pageForce _ _ _ => true
  | .causeClear _ _ _ _ => true
  | .pageClaim _ _ => true
  | .pageRelease _ _ => true
  | .sealRecompute _ => true
  | .portClassWrite _ _ => true
  | .proxyWrite w act => match act, w with | .write _, _ => true | _, .laneFw _ => true | _, _ => false
  | .interruptNotice _ => true
  | .pinMismatch _ _ => true
  | .conversionComplete _ _ _ _ => true
  | .spareTurnEnd _ _ _ => true
  | .referenceSettled _ _ => true
  | .windowClose _ _ _ => true
  | .dclExchange => true
  | .seqStart _ _ => true
  | .seqEntryStart _ _ => true
  | .seqEntryComplete _ => true
  | .urgentRequest _ _ _ => true
  | .urgentStart _ _ _ => true
  | .urgentComplete _ _ => true
  | .sourceSelect _ _ _ _ => true
  | .quadratureEdge _ _ _ _ => true
  | .toothEdge _ _ => true
  | .hallChange _ _ _ => true
  | .resolverDemodulation _ _ _ => true
  | .ssiFrameStart _ => true
  | .ssiFrameComplete _ bits => bits < 2 ^ 63
  | .sentFrame _ _ _ pulses _ _ => pulses.length ≤ 8
  | .lineFault _ _ => true
  | .lineFaultEnd _ _ _ => true
  | .indexEvent _ _ _ _ _ => true
  | .sensorFrameTimeout _ _ => true
  | .speedBound _ _ => true
  | .speedStandstill _ _ => true
  | .posSet _ _ _ _ => true
  | .compareWrite _ _ _ _ _ _ => true
  | .senseClear _ _ => true
  | .watchEdgeCount _ _ _ _ => true
  | .posRecordPublish _ _ => true
  | .posRecordReceive _ _ _ _ _ _ => true
  | .sensePairCompare _ => true
  | .fieldPeriod _ _ => true
  | .angleSourceTimeout _ _ => true
  | .axisStart _ _ _ => true
  | .axisStop _ _ _ => true
  | .axisOff _ _ _ => true
  | .axisClr _ _ _ => true
  | .cmdTimeout _ => true
  | .alignComplete _ => true
  | .lockedRotor _ => true
  | .catchSample _ => true
  | .catchWindowEnd _ => true
  | .catchTimeout _ => true
  | .ascReleaseCheck _ => true
  | .mapSwap _ _ => true
  | .quillTrigger _ _ _ => true
  | .quillRelease _ => true
  | .runLimit _ => true
  | .qNop _ => true
  | .qLdi _ => true
  | .qMov _ => true
  | .qAdd _ => true
  | .qSub _ => true
  | .qNeg _ => true
  | .qAbs _ => true
  | .qMin _ => true
  | .qMax _ => true
  | .qClamp _ => true
  | .qClamps _ => true
  | .qShl _ => true
  | .qShr _ => true
  | .qAnd _ => true
  | .qOr _ => true
  | .qXor _ => true
  | .qSel _ => true
  | .qSelp _ => true
  | .qCmp _ => true
  | .qClrf _ => true
  | .qMul _ => true
  | .qMac _ => true
  | .qMsu _ => true
  | .qMulk _ => true
  | .qMack _ => true
  | .qVmulk _ => true
  | .qDot2 _ => true
  | .qRot _ => true
  | .qIclk _ => true
  | .qRecon3 _ => true
  | .qSvm _ => true
  | .qPi _ => true
  | .qSincos _ => true
  | .qDiv _ => true
  | .qRcp _ => true
  | .qSqrt _ => true
  | .qLd _ => true
  | .qLdx _ => true
  | .qSt _ => true
  | .qStx _ => true
  | .qBr _ => true
  | .qStage _ => true
  | .qMonw _ => true
  | .qExport _ => true
  | .qHalt _ => true
  | .illegalOp _ => true
  | .lockstepQuill _ => true
  | .eccFatal _ _ _ => true
  | .coeffShiftWrite _ _ _ => true
  | .progWindowWrite _ _ _ _ => true
  | .progSwap _ _ => true
  | .progBankCheck _ => true
  | .swapDone => true
  | .shadowReceive _ => true
  | .servoTick _ => true
  | .motionGo _ _ _ => true
  | .motionStop _ _ _ => true
  | .motionResume _ _ _ => true
  | .motionAbort _ _ _ => true
  | .stepUpdate => true
  | .chopperDecision _ _ _ => true
  | .chopStateChange _ _ => true
  | .timebaseStart _ _ => true
  | .latchPoint _ _ => true
  | .periodStart _ _ => true
  | .deferredActionTick => true
  | .syncInEdge _ => true
  | .syncLost _ => true
  | .groupCommit _ _ _ => true
  | .edgeMessageSend _ _ => true
  | .linkEcho _ _ _ _ => true
  | .tripAccept _ _ _ _ => true
  | .swtrip _ _ _ => true
  | .tripclr _ _ _ => true
  | .bootUv _ => true
  | .gatePhaseEnd _ gate _ tpl dv => gate < 256 ∧ tpl < 256 ∧ dv < 256
  | .halfFailed _ _ => true
  | .desat _ _ => true
  | .plateauShort _ tpl _ => tpl < 256
  | .softTurnOffStep _ gate _ => gate < 256
  | .gateMon _ _ _ => true
  | .gateSupply _ vpos vneg => vpos < 256 ∧ vneg < 256
  | .driverLinkTimeout _ _ => true
  | .dclinkComparator _ _ => true
  | .chopCurrentCheck _ => true
  | .chopEnergyUpdate _ => true
  | .dischargeTimeout => true
  | .gateConfigBlock _ => true
  | .configBlockApply _ => true
  | .configMismatchTimeout _ => true
  | .clearShort _ _ => true
  | .clearHalfFailed _ _ _ => true
  | .clearGateMon _ _ => true
  | .clearGateSupply _ _ => true
  | .lockstepCpu _ _ => true
  | .inputDisagree _ island x _ => match x with | .irq => true | .frame => true | .debug => !island | _ => island
  | .laneSwitch _ => true
  | .laneSelftest _ _ _ => true
  | .laneRejoin _ => true
  | .handover => true
  | .silentWithdrawal _ => true
  | .laneDownSymbol _ => true
  | .survivorActive _ _ => true
  | .roleAssign => true
  | .peerReset _ => true
  | .laneRejoined _ => true
  | .stateShadowSend _ => true
  | .stateShadowReceive _ _ => true
  | .edgeStreamCompare => true
  | .debugHalt _ _ _ => true
  | .debugAction _ quill a => match a with | .writeMem m n _ => quill || m == .data && n < 2 ^ 32 | .readMem m n => quill || m == .data && n < 2 ^ 32 | _ => true
  | .safetyCycleEnd _ => true
  | .decisionWordReceive _ _ => true
  | .islandLockstep _ _ => true
  | .activeValueRelay _ _ => true
  | .safetyDegradedTimeout _ => true
  | .stoDiscrepancy _ => true
  | .sdinChange _ _ _ _ _ => true
  | .sdinDiscrepancy _ _ => true
  | .safeRequest _ _ _ => true
  | .safeAck _ _ _ => true
  | .safeStopRequest _ _ => true
  | .ssDelayExpiry _ _ => true
  | .isecSample _ u => u.length = 6 ∧ u.all fun v => int16 v
  | .sbcEngage _ => true
  | .sbcTest _ _ => true
  | .sbcCoilCheck _ _ => true
  | .safetyPduReceive _ _ _ data _ => data.length ≤ 64
  | .dualMissing _ _ => true
  | .slTimeout _ _ => true
  | .safetyPduProduce _ _ payload _ => payload.length ≤ 48
  | .slayerClear _ _ => true
  | .rebind _ _ => true
  | .bindTick => true
  | .entryCheckVerify _ => true
  | .canFrameReceive _ f _ => f.sized
  | .busOff _ => true
  | .errorPassive _ => true
  | .busOffRecovery _ => true
  | .filterUpdate _ _ _ _ => true
  | .queueWindowRead _ _ _ _ => true
  | .queueTake _ _ _ => true
  | .queueGive _ _ _ => true
  | .txBufferArm _ _ _ => true
  | .canTransmit _ => true
  | .txComplete _ _ _ => true
  | .txCancel _ _ _ => true
  | .rulingReferenceSend _ => true
  | .rulingReferenceReceive _ f _ => f.sized
  | .refLost _ => true
  | .rulingBackupTakeover _ => true
  | .rulingCellWrite _ _ _ => true
  | .rulingCellMark _ _ => true
  | .rulingMiss _ _ => true
  | .linkCycleStart _ => true
  | .cycleStartReceive _ _ _ => true
  | .linkSlot _ _ => true
  | .regReq _ _ _ _ _ _ data => data.length ≤ 64
  | .regRsp _ _ _ _ data => data.length ≤ 64
  | .notice _ _ _ => true
  | .frameError _ => true
  | .headLost _ => true
  | .headTakeover _ => true
  | .syncTx _ _ _ => true
  | .syncEvent _ _ _ _ => true
  | .ethFrameReceive data _ _ => data.length ≤ 1518
  | .ethRxdataRead _ => true
  | .ethTxdata _ _ => true
  | .ethTxlen _ _ => true
  | .ethLinkDown => true
  | .mdioGo _ _ => true
  | .mdioDone _ => true
  | .ptpMessage _ _ => true
  | .timeSourceEvent _ _ => true
  | .timeEventTimeout => true
  | .nowLoRead _ => true
  | .hallmarkData4 _ _ _ => true
  | .hallmarkData1 _ _ _ => true
  | .hallmarkCheckin _ _ _ => true
  | .hallmarkStart _ _ => true
  | .appendClose _ _ _ => true
  | .stripClose _ _ _ => true
  | .hallmarkValueRestore _ _ _ => true
  | .ledgerRaise _ _ _ => true
  | .sourceClear _ _ => true
  | .clrall _ _ => true
  | .sourceForce _ _ _ => true
  | .firstRearm _ => true
  | .firstFinal => true
  | .cntclr _ _ => true
  | .tinkerSliceStart _ => true
  | .tinkerSliceEnd _ _ _ => true
  | .tinkerSweep _ => true
  | .tinkerAbort _ => true
  | .tinkerFailClear _ _ _ => true
  | .tempReading _ _ _ => true
  | .tempClear _ _ => true
  | .thermalRecordWritten _ => true
  | .thermalDormantEntry => true
  | .thermalRetryWake first second => first.length = 20 ∧ second.length = 20
  | .updBegin _ _ => true
  | .eraseComplete => true
  | .pageProgram _ _ => true
  | .programComplete => true
  | .updFinish _ => true
  | .verifyComplete => true
  | .updActivate _ _ _ => true
  | .activationSettle => true
  | .updateFailed => true
  | .updAbort _ => true
  | .updSetpref _ _ => true
  | .updCommitSvn _ => true
  | .updProvision _ _ => true
  | .unlockChallenge _ entropy => entropySized entropy
  | .unlockSubmit _ => true
  | .objdataAccess _ _ => true
  | .jtagChallenge entropy => entropySized entropy
  | .jtagTokenSubmit token => token.length = 945
  | .quote _ _ => true
  | .quoteComplete => true
  | .resourceClaim _ _ => true
  | .resourceRelease _ _ => true
  | .resourceTake _ _ => true
  | .resourceTakeEnd _ _ => true
  | .aonXtalReady _ => true
  | .debugReset _ => true
  | .cpuEccFatal _ => true
  | .cpuEccCorr _ => true
  | .stoSymbolReceive _ _ _ _ => true
  | .ascDlyExpiry _ => true
  | .gateSupplyRecovered _ vpos vneg => vpos < 256 ∧ vneg < 256
  | .chopLevelHold _ => true
  | .tripRelease _ _ _ => true
  | .ethLinkUp => true
  | .ethTxdone => true
  | .timerefPulse _ _ => true
  | .auxSample _ _ => true

end Sys2Proof
end

