-- ==== Sys2Proof/Certificates/Slice0/Obligations.lean ====
section
/-! DEFINITION. The statements for the provers. `d` stands for the device of `s`. -/

open Sys2Proof Sys2Proof.Machine

/-- Commands of the internal links and driver dies complete with the effect of their rules. Each command of the internal links answers a next state, and which one: a frame is accepted or discarded by its CRC and counter, or kept as long as the pair it reaches disagrees on it, a silent link is lost, a link starts up, a designation applies at its handover tick, an edge message is taken and an edge runs at its due instant, a copy of a priority symbol acts or is discarded by its check, an STO symbol acts. -/
def Obligations.LinkCommandsComplete : Prop :=
  ∀ (s : State) (d : Dev), s.dev = d →
    (∀ (k : LinkRx) (seq : Fin 256) (crcOk : Bool) (skew : Int), (match linkPair k with | some p => d.inputHeld p.1 p.2 .frame | none => false) = false → (d.link k).live = true → d.senderOn k = true → crcOk = true → 1 ≤ d.frameStep k seq.val ∧ d.frameStep k seq.val ≤ 8 → exec (.linkFrameReceive k seq crcOk skew) s = .next (s.done (d.takeFrame k seq.val skew))) ∧
    (∀ (k : LinkRx) (seq : Fin 256) (crcOk : Bool) (skew : Int), (match linkPair k with | some p => d.inputHeld p.1 p.2 .frame | none => false) = false → (d.link k).live = true → d.senderOn k = true → crcOk = false ∨ d.frameStep k seq.val = 0 ∨ 8 < d.frameStep k seq.val → exec (.linkFrameReceive k seq crcOk skew) s = .next (s.done (d.dropFrame k))) ∧
    (∀ (k : LinkRx) (seq : Fin 256) (crcOk : Bool) (skew : Int) (l : Lane) (island : Bool), linkPair k = some (l, island) → d.inputHeld l island .frame = true → exec (.linkFrameReceive k seq crcOk skew) s = .next (s.done (d.holdChange l island .frame (.frame k seq.val crcOk skew)))) ∧
    (∀ (k : LinkRx), (d.link k).live = true → (d.link k).lastAccept + 3 * d.linkGap k ≤ d.now → exec (.linkLost k) s = .next (s.done (match k with | .ifaceCross l => if d.dieLost l.other then (d.loseLink k).listenTakeover l else d.loseLink k | _ => d.loseLink k))) ∧
    (∀ (k : LinkRx) (trips : Nat) (turns : Nat) (rtt : Nat), d.endsUp k = true → d.linkBarred k = false → exec (.linkStartUp k trips turns rtt) s = .next (s.done (d.linkBegins k trips turns rtt))) ∧
    (∀ (k : Fin 8) (l : Lane), (d.link (.drvDie l k)).live = true → ((d.dies[k]).ports.at l).handover = none → exec (.roleDesignationApply k l) s = .next (s.done d)) ∧
    (∀ (k : Fin 8) (l : Lane) (t : Nat), (d.link (.drvDie l k)).live = true → ((d.dies[k]).ports.at l).handover = some t → t ≤ d.now → exec (.roleDesignationApply k l) s = .next (s.done (d.judgePorts k))) ∧
    (∀ (k : Fin 8) (l : Lane) (word : Word) (o : OutIx), ((d.tinkerOut k (word.toNat / 2 ^ 30)).link (.drvDie l k)).live = true → (((d.tinkerOut k (word.toNat / 2 ^ 30)).dies[k]).ports.at l).calOk = true → (d.tinkerOut k (word.toNat / 2 ^ 30)).mayArrive l = true → edgeCrc word = word.toNat % 256 → dieOut k (word.toNat / 2 ^ 30) = some o → exec (.edgeMessageReceive k l word) s = .next (s.done ((d.tinkerOut k (word.toNat / 2 ^ 30)).takeMessage k l o word))) ∧
    (∀ (o : Fin 14) (l : Lane) (e : HeldEdge), (d.dies[outDie o]).activePort = some l → (takeDue o (d.portTick (outDie o) l) ((d.dies[outDie o]).ports.at l).held).1 = some e → exec (.edgeExecute o) s = .next (s.done ((d.dropDue o).runEdge o e.level e.pset e.due (d.placeEdge (outDie o) l e)))) ∧
    (∀ (k : Fin 8) (l : Lane) (err : Word) (e : Dev) (w : Word) (n : Nat), (d.symbolOuts k l).foldl (fun x y => x.tinkerOut k y) d = e → ((e.mods.at l).masters[k]).symbol = some (w, n) → (e.link (.drvDie l k)).live = true → edgeCrc (w ^^^ err) = (w ^^^ err).toNat % 256 → exec (.prioritySymbolReceive k l err) s = .next (s.done ((e.onMaster l k fun m => { m with symbol := none }).symbolTaken k l (w ^^^ err)))) ∧
    (∀ (k : Fin 8) (l : Lane) (err : Word) (e : Dev) (w : Word) (n : Nat), (d.symbolOuts k l).foldl (fun x y => x.tinkerOut k y) d = e → ((e.mods.at l).masters[k]).symbol = some (w, n) → (e.link (.drvDie l k)).live = false ∨ edgeCrc (w ^^^ err) ≠ (w ^^^ err).toNat % 256 → exec (.prioritySymbolReceive k l err) s = .next (s.done (e.onMaster l k fun m => { m with symbol := if n ≤ 1 then none else some (w, n - 1) }))) ∧
    (∀ (k : Fin 8) (l : Lane) (outs : Fin 16) (active : Bool), (d.link (.drvDie l k)).live = true → d.mayArrive l = true → exec (.stoSymbolReceive k l outs active) s = .next (s.done (d.stoSymbolTaken k l outs.val active)))

/-- Commands of supplies, domain resets and clocks complete with the effect of their rules. A supply becomes valid or invalid, a die leaves reset, a reference or a lock arrives or is lost, trim and calibration take their values, and the clocks stop and start: each command answers a next state, and which one. -/
def Obligations.SupplyAndClockCommandsComplete : Prop :=
  ∀ (s : State) (d : Dev), s.dev = d →
    (∀ (ch : Lane) (i : Lane) (active : Bool) (held : Nat), d.up (.iface i) = true → d.inputHeld i true (.sto ch) = false → d.gl i (pgSAFE i) R.SAFE_STO_FILT * 125 ≤ 2 * held → exec (.stoChannelChange ch i active held) s = .next (s.done (d.stoChannelTurns ch i active))) ∧
    (∀ (ch : Lane) (i : Lane) (active : Bool) (held : Nat), d.up (.iface i) = true → d.inputHeld i true (.sto ch) = true → d.gl i (pgSAFE i) R.SAFE_STO_FILT * 125 ≤ 2 * held → exec (.stoChannelChange ch i active held) s = .next (s.done (d.holdChange i true (.sto ch) (.sto ch active)))) ∧
    (∀ (u : Supply) (millivolt : Nat), d.supplyOk u = false → supplyAbove u millivolt = true → exec (.supplyValid u millivolt) s = .next (s.done (d.supplyRises u millivolt))) ∧
    (∀ (k : Die), d.inReset k = true → d.supplyStood (dieSupply k) = true → (match k with | .iface _ => d.asleep | _ => false) = false → exec (.domainResetRelease k) s = .next (s.done (d.leavesReset k))) ∧
    (∀ (l : Lane), d.inReset (.iface l) = true → d.supplyStood (dieSupply (.iface l)) = true → d.asleep = true → exec (.domainResetRelease (.iface l)) s = .next (s.done (d.aonJoins l))) ∧
    (∀ (u : Supply) (millivolt : Nat), d.supplyOk u = true → supplyBelow u millivolt = true → exec (.supplyInvalid u millivolt) s = .next (s.done (match u with | .vsup l => if d.up (.iface l) = true ∧ (d.supplyFalls u).up (.iface l) = false then (d.supplyFalls u).listenTakeover l.other else d.supplyFalls u | _ => d.supplyFalls u))) ∧
    (∀ (l : Lane), d.up (.iface l) = true → (d.clocks.at l).refMade = false → d.gl l pgCLK R.CLK_SRC_REF_SEL = 0 → exec (.xtalReady l) s = .next (s.done (d.onClk l fun c => { c with refMade := true, refXtal := true, pllI := true, main := true }))) ∧
    (∀ (l : Lane), d.up (.iface l) = true → (d.clocks.at l).refMade = false → d.gl l pgCLK R.CLK_SRC_REF_SEL = 0 → exec (.xtalAbsent l) s = .next (s.done (((d.onClk l fun c => { c with refMade := true, refXtal := false, pllI := true, main := true }).raise (2 + 16 * l.idx)).cause pgCLK 0))) ∧
    (∀ (l : Lane), d.up (.iface l) = true → (d.clocks.at l).refMade = true ∨ d.gl l pgCLK R.CLK_SRC_REF_SEL = 1 → exec (.pllLock l (false)) s = .next (s.done (d.onClk l fun c => { c with pllI := true, main := true, refMade := true }))) ∧
    (∀ (l : Lane), d.up (.ctl l) = true → (d.clocks.at l).pllI = true → d.isoUp l = true → exec (.pllLock l (true)) s = .next (s.done (d.onClk l fun c => { c with pllC := true, ctlOnRc := false }))) ∧
    (∀ (l : Lane) (ctl : Bool), exec (.clkFail l ctl (false)) s = .next (s.done ((d.cause pgCLK 2).raise (16 * l.idx)))) ∧
    (∀ (l : Lane) (ctl : Bool), exec (.clkFail l ctl (true)) s = .next (s.done (((d.onClk l fun c => if ctl then { c with pllC := false } else { c with pllI := false }).cause pgCLK 3).raise (1 + 16 * l.idx)))) ∧
    (∀ (ppm : Int), d.lanes.a.role ≠ .failed ∧ d.lanes.a.role ≠ .down → (d.link (.ifaceCross .b)).live = true → -25000 ≤ ppm ∧ ppm ≤ 25000 → exec (.clkTrimUpdate ppm) s = .next (s.done (((d.sS pgCLK R.CLK_STATUS_TRIM_B ppm).onClk .b fun c => { c with trimLimit := false }).endCause 19))) ∧
    (∀ (ppm : Int), d.lanes.a.role ≠ .failed ∧ d.lanes.a.role ≠ .down → (d.link (.ifaceCross .b)).live = true → 25000 < ppm → exec (.clkTrimUpdate ppm) s = .next (s.done ((((d.sS pgCLK R.CLK_STATUS_TRIM_B 25000).onClk .b fun c => { c with trimLimit := true }).raiseCond 19).cause pgCLK 1))) ∧
    (∀ (l : Lane) (inc : Nat), (d.clocks.at l).main = true → exec (.aonCalibration l inc) s = .next (s.done (d.s pgCLK (match l with | .a => R.CLK_AON_INC_A_INC | .b => R.CLK_AON_INC_B_INC) (min inc 0xFFFFFF)))) ∧
    (∀ (l : Lane), d.power.aonRunning.at l = true → d.gl l pgCLK R.CLK_SRC_AON_SEL = 0 → exec (.aonXtalReady l) s = .next (s.done (d.onClk l fun c => { c with aonXtal := true }))) ∧
    (∀ (l : Lane), (d.clocks.at l).main = true → exec (.mainClockStop l) s = .next (s.done (d.onClk l fun c => { c with main := false, acc := d.now * 128, pllI := false, pllC := false }))) ∧
    (∀ (l : Lane), (d.clocks.at l).main = false → (d.clocks.at l.other).main = false → exec (.mainClockStart l) s = .next (s.done (({ d with now := max d.now ((d.clocks.at l).acc / 128) }).onClk l fun c => { c with main := true }))) ∧
    (∀ (l : Lane), (d.clocks.at l).main = false → (d.clocks.at l.other).main = true → exec (.mainClockStart l) s = .next (s.done (d.onClk l fun c => { c with main := true }))) ∧
    (d.g pgLEDGER R.LEDGER_FIRST_VALID = 1 → d.g pgLEDGER R.LEDGER_FIRST_FINAL = 0 → d.ledger.firstStamp + 1000 ≤ d.now → exec .firstFinal s = .next (s.done ((d.s pgLEDGER R.LEDGER_FIRST_FINAL 1).cause pgLEDGER 1)))

/-- Commands of modes, wakes, watchdogs and resets complete with the effect of their rules. A lane starts up, mode requests are agreed, time out, take effect or are abandoned in a thermal shutdown, wakes and watches act in their modes, the watchdog and the debug port reset: each command answers a next state, and which one. -/
def Obligations.ModeAndResetCommandsComplete : Prop :=
  ∀ (s : State) (d : Dev), s.dev = d →
    (∀ (l : Lane) (b : BootFacts), d.mayStart l = true → exec (.startUp l b) s = .next (s.done (d.bootLane l b))) ∧
    (d.boot.defaultDue = true → d.mode.cur = .standby → d.supervisor = false → d.boot.refused = false → d.thermal.active = false → d.g pgSYS R.SYS_CONFIG_DEFAULT_MODE = 1 → exec .defaultModeEntry s = .next (s.done (({ d with boot := { d.boot with defaultDue := false } }).modeReq .owner 1))) ∧
    (d.supervisor = true → d.mode.cur = .standby → d.mode.pendingReq = none → d.mode.superReqAt + 50000000 ≤ d.now ∨ d.mode.superReqAt = 0 → exec .supervisorReadyRetry s = .next (s.done (({ d with mode := { d.mode with superReqAt := d.now } }).modeReq .owner 3))) ∧
    (∀ (id : Nat) (ext : Bool), d.supervisor = true → d.canOn 0 = true → id = 0x1F481200 → ext = true → exec (.supervisorStatusQuery id ext) s = .next (s.done (d.supervisorAnswers))) ∧
    (∀ (t : Nat) (own : Bool) (code : Nat), d.mode.pendingReq = some (3, t, own) → d.mode.cur = .standby → t + 50000000 ≤ d.now → d.readyFails = some code → exec .readyRequestTimeout s = .next (s.done (({ d with mode := { d.mode with pendingReq := none } }).refuseMode code))) ∧
    (∀ (n : Nat) (t : Nat) (own : Bool), d.mode.pendingReq = some (n, t, own) → d.thermal.active = false → d.modeConds (Mode.ofCode n) own = some none → Mode.ofCode n ≠ .run ∨ d.runTick = true → exec .modeTransitionComplete s = .next (s.done (d.goMode (Mode.ofCode n) false))) ∧
    (∀ (opened : Bool) (reads : List Lane), reads = [Lane.a, Lane.b].filter (fun i => d.up (.iface i)) → reads = [] ∨ reads.all (d.inputHeld · true .hvil) = false → exec (.hvilChange opened) s = .next (s.done (d.hvilTurns opened))) ∧
    (∀ (opened : Bool) (reads : List Lane), reads = [Lane.a, Lane.b].filter (fun i => d.up (.iface i)) → reads ≠ [] → reads.all (d.inputHeld · true .hvil) = true → exec (.hvilChange opened) s = .next (s.done (reads.foldl (fun e i => e.holdChange i true .hvil (.hvil opened)) d))) ∧
    (d.mode.cur = .discharge → exec .dischargeComplete s = .next (s.done (d.auto))) ∧
    (∀ (l : Lane) (volt : Nat), d.mode.cur = .watch → d.supplyOk (.vctl l) = true → d.g pgPWR R.PWR_WATCH_DCL_LEVEL < volt → exec (.dclWatchSample l volt) s = .next (s.done (d.towingWake l volt))) ∧
    (∀ (l : Lane), d.mode.cur = .watch → d.power.aonRunning.at l = true → d.gl l pgPWR R.PWR_WATCH_SPEED_LEVEL < d.watchCounts l → d.gl l pgSYS R.SYS_WAKE_EN_SPEED_WATCH = 1 → exec (.speedWatch l) s = .next (s.done (d.wake R.SYS_WAKE_CAUSE_SPEED_WATCH))) ∧
    (∀ (src : WakeSource) (held : Nat) (l : Lane), d.mode.cur = .dormant ∨ d.mode.cur = .watch → l ∈ wakeLanes src → d.power.aonRunning.at l = true → d.gl l pgSYS (wakeFlds src).1 / 2 ^ (wakeFlds src).2.2 % 2 = 1 → src = .sto ∨ src = .hvil ∨ d.gl l pgSYS R.SYS_WAKE_CFG_FILT + 1 ≤ held → exec (.wakeEvent src held) s = .next (s.done (d.wake (wakeFlds src).2.1 (wakeFlds src).2.2))) ∧
    (d.mode.cur = .dormant ∨ d.mode.cur = .watch → 0 < d.g pgSYS R.SYS_WAKE_CFG_TIMER → d.g pgSYS R.SYS_WAKE_EN_TIMER = 1 → d.g pgSYS R.SYS_WAKE_CFG_TIMER ≤ d.mode.wakeCycles → exec .wakeTimer s = .next (s.done (d.wake R.SYS_WAKE_CAUSE_TIMER))) ∧
    (∀ (l : Lane), d.gl l (pgCPU l) R.CPU_WDOG_CFG_EN = 1 → d.up (.ctl l) = true → (d.lanes.at l).kickAt + d.gl l (pgCPU l) R.CPU_WDOG_CFG_PERIOD * 500 ≤ d.now → exec (.watchdogExpiry l) s = .next (s.done (d.wdogExpire l))) ∧
    (d.power.vioLevel.isSome = true → d.host.debugOwner = true → exec (.debugReset (2)) s = .next (s.done (d.resetModule R.SYS_RESET_CAUSE_DEBUG))) ∧
    (d.power.vioLevel.isSome = true → d.host.debugOwner = true → exec (.debugReset (0)) s = .next (s.done (d.resetLane .a R.SYS_RESET_CAUSE_DEBUG))) ∧
    (∀ (w : Writer) (target : Fin 8), d.accepts w (pageAddr pgSYS 0x44) (BitVec.ofNat 32 target.val) → exec (.modeRequest w target) s = .next (s.done (d.took w pgSYS 0x44 (BitVec.ofNat 32 target.val) 0 fun e => e.modeReq (d.who w).cls target.val))) ∧
    (∀ (w : Writer) (value : Word), d.accepts w (pageAddr pgSYS 0x4C) value → exec (.resetRequest w value) s = .next (s.done (d.took w pgSYS 0x4C value 0 fun e => e.resetReq value))) ∧
    (∀ (w : Writer) (l : Lane) (key : Fin 65536), d.accepts w (pageAddr (pgCPU l) 0x44) (BitVec.ofNat 32 key.val) → exec (.watchdogKick w l key) s = .next (s.done (d.took w (pgCPU l) 0x44 (BitVec.ofNat 32 key.val) 0 fun e => e.wdogKick l key.val))) ∧
    (∀ (n : Nat) (t : Nat) (own : Bool), d.mode.pendingReq = some (n, t, own) → d.thermal.active = true → exec .modeTransitionComplete s = .next (s.done (({ d with mode := { d.mode with pendingReq := none } }).refuseMode 13)))

/-- An accepted write takes effect, a refused one leaves its mark, and the page header's commands act on their page. A register write that passes every check of R116 stores its word, sets off what its register sets off and shows its result; a refused one changes nothing but the refusal's marks. COMMIT, SOFTRST, FREEZE, ENABLE, LOCK, FORCE, CAUSE and OWNER act on their page once their write is accepted. EN of HOST.PROXY clears when its core leaves the handler or is interrupted, and comes back when it returns. -/
def Obligations.RegisterCommandsComplete : Prop :=
  ∀ (s : State) (d : Dev), s.dev = d →
    (∀ (w : Writer) (addr : Nat) (value : Word), d.accepts w addr value → exec (.registerWrite w addr value) s = .next (s.done ((d.effectAs w (d.whoAt w addr) addr value).showAccess w (d.verdict w addr value)))) ∧
    (∀ (w : Writer) (addr : Nat) (value : Word), d.arrives w = true → (d.verdict w addr value).good = false → exec (.registerWrite w addr value) s = .next (s.done ((((d.judgeAs w (d.whoAt w addr) addr value).2) d).showAccess w (d.verdict w addr value)))) ∧
    (∀ (w : Writer) (p : Fin 45), d.accepts w (pageAddr p.val 4) (d.fieldWord w p.val H.CTRL_COMMIT 1) → exec (.ctrlCommit w p) s = .next (s.done (d.took w p.val 4 (d.fieldWord w p.val H.CTRL_COMMIT 1) 0 fun e => e.commitWrite p.val))) ∧
    (∀ (p : Fin 45), (d.commitPending.any (fun x => x.1 == p.val && decide (x.2 < d.now)) = true) → exec (.commitPoint p) s = .next (s.done (d.commitDone p.val))) ∧
    (∀ (w : Writer) (p : Fin 45), d.accepts w (pageAddr p.val 4) (d.fieldWord w p.val H.CTRL_SOFTRST 1) → exec (.ctrlSoftrst w p) s = .next (s.done (d.took w p.val 4 (d.fieldWord w p.val H.CTRL_SOFTRST 1) 0 fun e => e.softReset p.val))) ∧
    (∀ (w : Writer) (p : Fin 45) (on : Bool), d.accepts w (pageAddr p.val 4) (d.fieldWord w p.val H.CTRL_FREEZE on.toNat) → H.CTRL_FREEZE.get (d.seenWordBy w p.val 4) ≠ on.toNat → exec (.ctrlFreeze w p on) s = .next (s.done (d.took w p.val 4 (d.fieldWord w p.val H.CTRL_FREEZE on.toNat) 0 fun e => e.freeze p.val on))) ∧
    (∀ (w : Writer) (p : Fin 45) (on : Bool), d.accepts w (pageAddr p.val 4) (d.fieldWord w p.val H.CTRL_ENABLE on.toNat) → H.CTRL_ENABLE.get (d.seenWordBy w p.val 4) ≠ on.toNat → exec (.ctrlEnable w p on) s = .next (s.done (d.took w p.val 4 (d.fieldWord w p.val H.CTRL_ENABLE on.toNat) 0 fun e => e.enableHook p.val on))) ∧
    (∀ (w : Writer) (p : Fin 45), d.accepts w (pageAddr p.val 0x18) 0x6C000000#32 → exec (.pageLock w p) s = .next (s.done (d.took w p.val 0x18 0x6C000000#32 0 fun e => (e.copies p.val).foldl (fun e l => e.sl l p.val H.LOCK_LOCKED 1) e))) ∧
    (∀ (w : Writer) (p : Fin 45), d.accepts w (pageAddr p.val 0x18) 0x93000000#32 → exec (.pageUnlock w p) s = .next (s.done (d.took w p.val 0x18 0x93000000#32 0 fun e => (e.copies p.val).foldl (fun e l => (e.sl l p.val H.LOCK_LOCKED 0).sealEnds) e))) ∧
    (∀ (w : Writer) (p : Fin 45), d.accepts w (pageAddr p.val 0x18) 0xE7000000#32 → exec (.pageHardLock w p) s = .next (s.done (d.took w p.val 0x18 0xE7000000#32 0 fun e => (e.copies p.val).foldl (fun e l => (e.sl l p.val H.LOCK_LOCKED 1).sl l p.val H.LOCK_HARD 1) e))) ∧
    (∀ (w : Writer) (p : Fin 45) (bits : Word), d.accepts w (pageAddr p.val 0x14) bits → exec (.pageForce w p bits) s = .next (s.done (d.took w p.val 0x14 bits 0 fun e => (e.copies p.val).foldl (fun e l => e.setWord l (pageAddr p.val 0x14) (e.forced l p.val ||| (bits &&& causeBits p.val))) e))) ∧
    (∀ (w : Writer) (p : Fin 45) (bits : Word) (meets : Word), d.accepts w (pageAddr p.val 0x0C) bits → exec (.causeClear w p bits meets) s = .next (s.done (((d.took w p.val 0x0C bits 0xFFFFFFFF#32 fun e => (e.copies p.val).foldl (fun e l => (e.setWord l (pageAddr p.val 0x0C) (e.word l (pageAddr p.val 0x0C) &&& ~~~bits)).setWord l (pageAddr p.val 0x14) (e.forced l p.val &&& ~~~bits)) e).copies p.val).foldl (fun e l => e.causeL l p.val (meets &&& causeBits p.val)) (d.took w p.val 0x0C bits 0xFFFFFFFF#32 fun e => (e.copies p.val).foldl (fun e l => (e.setWord l (pageAddr p.val 0x0C) (e.word l (pageAddr p.val 0x0C) &&& ~~~bits)).setWord l (pageAddr p.val 0x14) (e.forced l p.val &&& ~~~bits)) e)))) ∧
    (∀ (w : Writer) (p : Fin 45), d.accepts w (pageAddr p.val 0x28) (BitVec.ofNat 32 (d.who w).ident) → exec (.pageClaim w p) s = .next (s.done (d.took w p.val 0x28 (BitVec.ofNat 32 (d.who w).ident) 0 id))) ∧
    (∀ (w : Writer) (p : Fin 45), d.accepts w (pageAddr p.val 0x28) 63 → exec (.pageRelease w p) s = .next (s.done (d.took w p.val 0x28 63 0 id))) ∧
    (∀ (p : Fin 45), exec (.sealRecompute p) s = .next (s.done (d.sealRecompute p.val))) ∧
    (∀ (w : Writer) (value : Word), d.accepts w (pageAddr pgHOST 0x4C) value → exec (.portClassWrite w value) s = .next (s.done (d.took w pgHOST 0x4C value 0 fun e => e.releaseHolders fun i => [0, 2, 3, 4, 5, 6, 7, 8, 9].contains i && decide (value.toNat / 4 ^ i % 4 < 2) && decide (2 ≤ (d.seenWordBy w pgHOST 0x4C).toNat / 4 ^ i % 4)))) ∧
    (∀ (w : Writer) (value : Word) (t : Target), d.target (pageAddr pgHOST 0x50) = some t → d.accepts w (pageAddr pgHOST 0x50) value → exec (.proxyWrite w (.write value)) s = .next (s.done (d.tookAt w t (pageAddr pgHOST 0x50) value 0 [] fun e => match w with | .laneFw l => e.setProxy l (if R.HOST_PROXY_EN.get value = 1 then some (R.HOST_PROXY_PORT.get value) else none) | _ => e))) ∧
    (∀ (k : Lane), d.rigOn k = true → d.summary k 0 ≠ 0 ∨ d.summary k 1 ≠ 0 → exec (.interruptNotice k) s = .next (s.done (d.rigQueue k 4 (d.rg k R.LINK_STAT_HEADADDR) (d.rg k R.LINK_NODE_EPOCH) ([0] ++ wordBytes (d.summary k 0) ++ wordBytes (d.summary k 1))))) ∧
    (∀ (l : Lane) (low : Bool), d.up (.iface l) = true → d.irqDrives l.other = false → low ≠ d.irqDrives l → exec (.pinMismatch l low) s = .next (s.done (({ d with lands := { d.lands with irqHeld := some low } }).causeL l pgIRQ 1))) ∧
    (∀ (w : Writer) (addr : Nat) (value : Word), d.arrives w = false → exec (.registerWrite w addr value) s = .next (s.done d)) ∧
    (∀ (l : Lane), exec (.proxyWrite (.laneFw l) .leave) s = .next (s.done (d.coreProxy l none))) ∧
    (∀ (l : Lane), exec (.proxyWrite (.laneFw l) .interrupted) s = .next (s.done (({ d with host := { d.host with proxyHeld := d.host.proxyHeld.put l (d.host.proxy.at l :: d.host.proxyHeld.at l) } }).coreProxy l none))) ∧
    (∀ (l : Lane) (p : Option Nat) (r : List (Option Nat)), d.host.proxyHeld.at l = p :: r → exec (.proxyWrite (.laneFw l) .back) s = .next (s.done (({ d with host := { d.host with proxyHeld := d.host.proxyHeld.put l r } }).coreProxy l p)))

/-- Host request frames, their completion and their timeout complete with the effect of their rules. A request frame that passes every check of R139 is accepted under its opcode, one that fails a check is answered by a NACK; a local request is carried out and held as a result; a remote one times out with TIMEOUT and zeros. -/
def Obligations.HostFrameCommandsComplete : Prop :=
  ∀ (s : State) (d : Dev), s.dev = d →
    (∀ (p : HostPort) (f : HostFrame), d.power.vioLevel.isSome = true → d.portOpen p.num = true → d.frameCheck p (f.spelling 1) = 0 → exec (.hostRead p f) s = .next (s.done (d.acceptFrame p (f.spelling 1)))) ∧
    (∀ (p : HostPort) (f : HostFrame), d.power.vioLevel.isSome = true → d.portOpen p.num = true → d.frameCheck p (f.spelling 1) ≠ 0 → exec (.hostRead p f) s = .next (s.done (d.nack (f.spelling 1) (d.frameCheck p (f.spelling 1))))) ∧
    (∀ (p : HostPort) (f : HostFrame), d.power.vioLevel.isSome = true → d.portOpen p.num = true → d.frameCheck p (f.spelling 2) = 0 → exec (.hostWrite p f) s = .next (s.done (d.acceptFrame p (f.spelling 2)))) ∧
    (∀ (p : HostPort) (f : HostFrame), d.power.vioLevel.isSome = true → d.portOpen p.num = true → d.frameCheck p (f.spelling 2) ≠ 0 → exec (.hostWrite p f) s = .next (s.done (d.nack (f.spelling 2) (d.frameCheck p (f.spelling 2))))) ∧
    (∀ (p : HostPort) (f : HostFrame), d.power.vioLevel.isSome = true → d.portOpen p.num = true → d.frameCheck p (f.spelling 3) = 0 → exec (.hostFetch p f) s = .next (s.done (d.acceptFrame p (f.spelling 3)))) ∧
    (∀ (p : HostPort) (f : HostFrame), d.power.vioLevel.isSome = true → d.portOpen p.num = true → d.frameCheck p (f.spelling 3) ≠ 0 → exec (.hostFetch p f) s = .next (s.done (d.nack (f.spelling 3) (d.frameCheck p (f.spelling 3))))) ∧
    (∀ (p : HostPort) (f : HostFrame), d.power.vioLevel.isSome = true → d.portOpen p.num = true → d.frameCheck p (f.spelling 4) = 0 → exec (.remoteRead p f) s = .next (s.done (d.acceptFrame p (f.spelling 4)))) ∧
    (∀ (p : HostPort) (f : HostFrame), d.power.vioLevel.isSome = true → d.portOpen p.num = true → d.frameCheck p (f.spelling 4) ≠ 0 → exec (.remoteRead p f) s = .next (s.done (d.nack (f.spelling 4) (d.frameCheck p (f.spelling 4))))) ∧
    (∀ (p : HostPort) (f : HostFrame), d.power.vioLevel.isSome = true → d.portOpen p.num = true → d.frameCheck p (f.spelling 5) = 0 → exec (.remoteWrite p f) s = .next (s.done (d.acceptFrame p (f.spelling 5)))) ∧
    (∀ (p : HostPort) (f : HostFrame), d.power.vioLevel.isSome = true → d.portOpen p.num = true → d.frameCheck p (f.spelling 5) ≠ 0 → exec (.remoteWrite p f) s = .next (s.done (d.nack (f.spelling 5) (d.frameCheck p (f.spelling 5))))) ∧
    (∀ (r : HostReq) (n : Fin 48), d.host.request = some r → r.frame.opcode.val = 2 → (n = match r.port with | .host => 0 | .service => 2) → exec .hostRequestComplete s = .next (s.done (((d.writeFrame (.port n) (d.who (.port n)) r.frame.header r.frame.data).2.showAccess (.port n) (d.writeFrame (.port n) (d.who (.port n)) r.frame.header r.frame.data).1).endRequest (d.writeFrame (.port n) (d.who (.port n)) r.frame.header r.frame.data).1.code []))) ∧
    (∀ (r : HostReq) (n : Fin 48), d.host.request = some r → r.frame.opcode.val = 1 → (n = match r.port with | .host => 0 | .service => 2) → exec .hostRequestComplete s = .next (s.done (({ ((d.readFrame (.port n) (d.who (.port n)) r.frame.header r.frame.words).2.2.showAccess (.port n) (d.readFrame (.port n) (d.who (.port n)) r.frame.header r.frame.words).1) with host := { ((d.readFrame (.port n) (d.who (.port n)) r.frame.header r.frame.words).2.2.showAccess (.port n) (d.readFrame (.port n) (d.who (.port n)) r.frame.header r.frame.words).1).host with readData := (d.readFrame (.port n) (d.who (.port n)) r.frame.header r.frame.words).2.1 } }).endRequest (d.readFrame (.port n) (d.who (.port n)) r.frame.header r.frame.words).1.code (d.readFrame (.port n) (d.who (.port n)) r.frame.header r.frame.words).2.1))) ∧
    (∀ (r : HostReq), d.host.request = some r → r.frame.isRemote = true → r.at' + 1500 * d.rg r.frame.routeLink R.LINK_CYCLE_CYC + 10000 ≤ d.now → exec .remoteTimeout s = .next (s.done (d.endRequest 10 (if r.frame.opcode.val = 4 then List.replicate r.frame.words 0 else []))))

/-- Commands of the converters and the sequencer complete with the effect of their rules. A conversion becomes ready, a spare's turn ends, a reference settles, a window closes 32 ticks after its end, the sequencer and the urgent channels start and finish, DC-link values are exchanged and AUX inputs sampled: each command answers a next state, and which one. -/
def Obligations.MeasurementCommandsComplete : Prop :=
  ∀ (s : State) (d : Dev), s.dev = d →
    (∀ (l : Lane) (c : Fin 2) (slice : Fin 9) (raw : Int), d.up (.ctl l) = true → 30 ≤ d.now → exec (.conversionComplete l c slice raw) s = .next (s.done (d.conversionReady l c slice raw))) ∧
    (∀ (l : Lane) (c : Fin 2) (g : Fin 3) (r : RotState), (d.meas.at l).convs[c].rots[g.val]? = some r → 4096 ≤ r.n → r.exch = none → r.stopped = false → exec (.spareTurnEnd l c g) s = .next (s.done (d.turnEnds l c g r))) ∧
    (∀ (l : Lane) (c : Fin 2), d.gl l (pgCONV l c) R.CONV_REF_EN = 1 → (d.meas.at l).convs[c].refAt + 1000000 ≤ d.now → exec (.referenceSettled l c) s = .next (s.done (d.sl l (pgCONV l c) R.CONV_REF_SETTLED 1))) ∧
    (∀ (l : Lane) (c : Fin 2) (g : Fin 3) (a : Option Nat) (fin : Nat) (acc : WinAcc), d.grpWen l c g = true → d.up (.ctl l) = true → (d.meas.at l).convs[c].groups[g].prev = some (a, fin, acc) → fin + 32 ≤ d.now → exec (.windowClose l c g) s = .next (s.done ((d.onGroup l c g fun x => { x with prev := none }).deliverWindow l c g fin acc (d.meas.at l).convs[c].groups[g].prevAt))) ∧
    (∀ (l : Lane) (c : Fin 2) (g : Fin 3), d.grpWen l c g = true → d.up (.ctl l) = true → (d.meas.at l).convs[c].groups[g].prev = none → (d.meas.at l).convs[c].groups[g].closed = false → ((d.mods.at l).tb (if d.gl l (pgCONV l c) R.CONV_MODE_TB = 1 then 1 else 0)).ran = true → (d.windowOf l c g).2 + 32 ≤ d.now → exec (.windowClose l c g) s = .next (s.done ((d.onGroup l c g fun x => { x with closed := true }).deliverWindow l c g (d.windowOf l c g).2 (d.meas.at l).convs[c].groups[g].acc (d.convPeriod l c)))) ∧
    (∀ (x : Int) (y : Int), d.dclVolt .a = some x → d.dclVolt .b = some y → exec .dclExchange s = .next (s.done (d.dclCompared x y))) ∧
    (∀ (w : Writer) (l : Lane), d.accepts w (pageAddr (pgSEQ l) 0x40) (d.fieldWord w (pgSEQ l) R.SEQ_SEQCFG_START 1) → exec (.seqStart w l) s = .next (s.done (d.took w (pgSEQ l) 0x40 (d.fieldWord w (pgSEQ l) R.SEQ_SEQCFG_START 1) 0 fun e => e.seqTrigger l 3))) ∧
    (∀ (l : Lane) (g : Fin 3) (i : Nat), d.gl l (pgSEQ l) R.SEQ_SEQCFG_RUN = 1 → d.up (.ctl l) = true → d.seqBusy l = false → d.gl l (pgSEQ l) R.SEQ_STAT_PREEMPTED = 0 → d.seqEnabled l (d.gl l (pgSEQ l) R.SEQ_STAT_CUR % (d.gl l (pgSEQ l) R.SEQ_SEQCFG_LEN + 1)) (d.gl l (pgSEQ l) R.SEQ_SEQCFG_LEN + 1) = some i → exec (.seqEntryStart l g) s = .next (s.done (d.reachEntry l g i))) ∧
    (∀ (l : Lane) (x : WinAcc), (d.meas.at l).seqDone = some x → exec (.seqEntryComplete l) s = .next (s.done (d.seqEntryDone l x))) ∧
    (∀ (w : Writer) (l : Lane) (value : Word), d.accepts w (pageAddr (pgSEQ l) 0x54) value → exec (.urgentRequest w l value) s = .next (s.done (d.took w (pgSEQ l) 0x54 value 0x80000000#32 fun e => e.urgentWrite l value))) ∧
    (∀ (l : Lane) (ch : Fin 4) (g : Fin 3), d.up (.ctl l) = true → d.urgentWaits l ch.val = true → d.urgentYields l ch g = false → d.jobGroupOk l (d.jobCfg l ch.val) (d.urgentAfter l ch) g = true → exec (.urgentStart l ch g) s = .next (s.done (d.urgentBegins l ch g))) ∧
    (∀ (l : Lane) (ch : Fin 4) (x : WinAcc), (d.meas.at l).urgDone.getD ch.val none = some x → exec (.urgentComplete l ch) s = .next (s.done ((d.urgentDone l ch x).urgentUsed l ch (if jobConv (d.jobCfg l ch.val) = 1 then 1 else 0) ((d.meas.at l).urgAt.getD ch.val 0) x.first (Dev.jobResult l (d.jobCfg l ch.val) x)))) ∧
    (∀ (n : Fin 4) (v : Int), d.g pgRES R.RES_AUXCFG_F / 4 ^ n.val % 4 = 1 → exec (.auxSample n v) s = .next (s.done (d.sS pgRES R.RES_AUXVAL_V (satS 16 v) n.val))) ∧
    (∀ (n : Fin 4) (v : Int), d.g pgRES R.RES_AUXCFG_F / 4 ^ n.val % 4 = 2 → exec (.auxSample n v) s = .next (s.done (d.s pgRES R.RES_AUXVAL_V (decide (1650 * 32768 ≤ 2500 * v)).toNat n.val)))

/-- Events of the position ports complete with the effect of their rules. Edges, teeth, Hall states, demodulations, frames, faults and timeouts reach the channel that decodes their source, count in WATCH, and records are published and received: each command answers a next state, and which one. -/
def Obligations.PositionEventsComplete : Prop :=
  ∀ (s : State) (d : Dev), s.dev = d →
    (∀ (u : Lane) (a : Bool) (b : Bool) (age : Nat) (c : Fin 4), d.chanOf u (· == 1) = some c → d.filtered u c age = true → (d.pos.at u).faultA = false ∧ (d.pos.at u).faultB = false → a ≠ (d.pos.at u).lvA ∨ b ≠ (d.pos.at u).lvB → exec (.quadratureEdge u a b age) s = .next (s.done (d.quadTaken u a b age c))) ∧
    (∀ (u : Lane) (age : Nat) (c : Fin 4), d.chanOf u (· == 2) = some c → d.filtered u c age = true → (d.pos.at u).faultA = false → exec (.toothEdge u age) s = .next (s.done (d.toothTaken u age c))) ∧
    (∀ (u : Lane) (h : Fin 8) (age : Nat) (c : Fin 4), d.chanOf u (· == 3) = some c → d.filtered u c age = true → h.val ≠ (d.pos.at u).hall → exec (.hallChange u h age) s = .next (s.done (d.hallTaken u h age c))) ∧
    (∀ (u : Lane) (sn : Int) (c : Int) (ch : Fin 4), d.chanOf u (· == 4) = some ch → d.resDrives u = false ∨ d.resDue u ch d.now = true → (((d.frm u ch R.POS_FRM_CFG_VALUE 19 12 * 32768) * (d.frm u ch R.POS_FRM_CFG_VALUE 19 12 * 32768) : Nat) : Int) ≤ (sn * sn + c * c) * 65536 → (sn * sn + c * c) * 65536 < (((d.frm u ch R.POS_FRM_CFG_VALUE 11 4 * 32768) * (d.frm u ch R.POS_FRM_CFG_VALUE 11 4 * 32768) : Nat) : Int) → exec (.resolverDemodulation u sn c) s = .next (s.done (d.resolverGood u ch sn c))) ∧
    (∀ (u : Lane) (sn : Int) (c : Int) (ch : Fin 4), d.chanOf u (· == 4) = some ch → d.resDrives u = false ∨ d.resDue u ch d.now = true → (sn * sn + c * c) * 65536 < (((d.frm u ch R.POS_FRM_CFG_VALUE 19 12 * 32768) * (d.frm u ch R.POS_FRM_CFG_VALUE 19 12 * 32768) : Nat) : Int) → exec (.resolverDemodulation u sn c) s = .next (s.done (d.badFrame u ch))) ∧
    (∀ (u : Lane) (c : Fin 4), d.chanOf u (· == 5) = some c → (d.chan u c).frameAt = none → d.ssiEarly u c = false → d.ssiReady u c = true → exec (.ssiFrameStart u) s = .next (s.done (d.onChan u c fun x => { x with frameAt := some d.now, ssiDue := if d.frm u c R.POS_FRM_TIME_VALUE 10 0 = 0 ∨ d.ssiDrives u = false then none else some (x.ssiDue.getD d.now + d.frm u c R.POS_FRM_TIME_VALUE 10 0 * 500) }))) ∧
    (∀ (u : Lane) (bits : Nat) (c : Fin 4) (t : Nat), d.chanOf u (· == 5) = some c → (d.chan u c).frameAt = some t → d.ssiDrives u = false ∨ t + d.frm u c R.POS_FRM_CFG_VALUE 31 26 * d.frm u c R.POS_FRM_TIME_VALUE 31 19 + d.frm u c R.POS_FRM_CFG_VALUE 12 5 ≤ d.now → exec (.ssiFrameComplete u bits) s = .next (s.done (d.ssiTaken u bits c t))) ∧
    (∀ (u : Lane) (second : Bool) (sync : Nat) (pulses : List Nat) (pause : Option Nat) (age : Nat) (c : Fin 4), (d.chanOf u (· == if second then 7 else 6) = some c) → exec (.sentFrame u second sync pulses pause age) s = .next (s.done (d.sentTaken u sync pulses pause age c))) ∧
    (∀ (u : Lane) (line : Fin 3), d.up (.iface u) = true → exec (.lineFault u line) s = .next (s.done (d.lineFails u line))) ∧
    (∀ (u : Lane) (line : Fin 3) (level : Bool), d.up (.iface u) = true → exec (.lineFaultEnd u line level) s = .next (s.done (d.onPos u fun x => match line with | 0 => if x.faultA then { x with faultA := false, lvA := level } else x | 1 => if x.faultB then { x with faultB := false, lvB := level } else x | _ => if x.faultZ then { x with faultZ := false, lvZ := level } else x))) ∧
    (∀ (u : Lane) (a : Bool) (b : Bool) (z : Bool) (age : Nat) (c : Fin 4), (d.quadratureEdge u a b age).chanOf u (· == 1) = some c → (d.quadratureEdge u a b age).filtered u c age = true → ((d.quadratureEdge u a b age).pos.at u).faultZ = false → z ≠ ((d.quadratureEdge u a b age).pos.at u).lvZ → exec (.indexEvent u a b z age) s = .next (s.done ((d.quadratureEdge u a b age).indexTaken u z age c))) ∧
    (∀ (u : Lane) (c : Fin 4) (t : Nat), d.up (.iface u) = true → d.frameLimit u c = some t → (d.chan u c).goodAt + t ≤ d.now → (d.chan u c).silent = false → exec (.sensorFrameTimeout u c) s = .next (s.done ((d.declareInvalid u c).onChan u c fun x => { x with silent := true }))) ∧
    (∀ (u : Lane) (c : Fin 4), d.up (.iface u) = true → exec (.speedBound u c) s = .next (s.done (d.showSpeed u c))) ∧
    (∀ (u : Lane) (c : Fin 4), d.up (.iface u) = true → exec (.speedStandstill u c) s = .next (s.done (d.showSpeed u c))) ∧
    (∀ (u : Lane) (a : Bool) (b : Bool) (rate : Nat), d.mode.cur = .watch → d.power.aonRunning.at u = true → d.gl u (pgPOS u) R.POS_CFG_WATCH_CNT ≠ 0 → exec (.watchEdgeCount u a b rate) s = .next (s.done ((if (d.pos.at u).lvA = a ∧ (d.pos.at u).lvB = b then d else d.speedEdge u).watchCount u a b rate))) ∧
    (∀ (u : Lane) (c : Fin 4), d.up (.iface u) = true → d.recordSoon u c = false → exec (.posRecordPublish u c) s = .next (s.done (d.recordLeaves u c))) ∧
    (∀ (l : Lane) (atCtl : Bool) (u : Lane) (c : Fin 4) (seq : Fin 256) (crcOk : Bool) (r : PosRec), d.recordWay l atCtl u = true → (d.chan u c).sent.find? (·.seq == seq.val) = some r → crcOk = true → exec (.posRecordReceive l atCtl u c seq crcOk) s = .next (s.done (d.onRec l atCtl u c fun x => { last := some r, at' := d.now, bad := false, hist := addSpeed d.now r.speed x.hist }))) ∧
    (∀ (l : Lane) (atCtl : Bool) (u : Lane) (c : Fin 4) (seq : Fin 256) (crcOk : Bool) (r : PosRec), d.recordWay l atCtl u = true → (d.chan u c).sent.find? (·.seq == seq.val) = some r → crcOk = false → exec (.posRecordReceive l atCtl u c seq crcOk) s = .next (s.done ((d.onRec l atCtl u c fun x => { x with bad := true }).raiseBy l 157))) ∧
    (∀ (k : Fin 4), d.g pgSENSE R.SENSE_PAIR_EN k.val ≠ 0 → exec (.sensePairCompare k) s = .next (s.done (d.pairCompared k)))

/-- Writes of the position pages take effect once accepted. A source selection restarts its channel, POS_SET places the count, a compare is judged as it is written, and SENSE.CLEAR ends the named channels' INVALID. -/
def Obligations.PositionWritesComplete : Prop :=
  ∀ (s : State) (d : Dev), s.dev = d →
    (∀ (w : Writer) (u : Lane) (c : Fin 4) (value : Word), d.accepts w (pageAddr (pgPOS u) (0x50 + 0xA8 * c.val)) value → R.POS_SRC0_SEL.get value ≠ R.POS_SRC0_SEL.get (d.seenWordBy w (pgPOS u) (0x50 + 0xA8 * c.val)) → exec (.sourceSelect w u c value) s = .next (s.done (d.took w (pgPOS u) (0x50 + 0xA8 * c.val) value 0 fun e => e.sourceSelect u c (R.POS_SRC0_SEL.get value)))) ∧
    (∀ (w : Writer) (u : Lane) (c : Fin 4) (value : Word), d.accepts w (pageAddr (pgPOS u) (0xA8 + 0xA8 * c.val)) value → exec (.posSet w u c value) s = .next (s.done (d.took w (pgPOS u) (0xA8 + 0xA8 * c.val) value 0 fun e => e.posSet u c value))) ∧
    (∀ (w : Writer) (u : Lane) (c : Fin 4) (n : Fin 8) (value : Word), d.accepts w (pageAddr (pgPOS u) (0xB4 + 4 * n.val + 0xA8 * c.val)) value → exec (.compareWrite w u c n (false) value) s = .next (s.done (d.took w (pgPOS u) (0xB4 + 4 * n.val + 0xA8 * c.val) value 0 fun e => e.compWritten u c n none))) ∧
    (∀ (w : Writer) (u : Lane) (c : Fin 4) (n : Fin 8) (value : Word), d.accepts w (pageAddr (pgPOS u) (0xD4 + 4 * n.val + 0xA8 * c.val)) value → exec (.compareWrite w u c n (true) value) s = .next (s.done (d.took w (pgPOS u) (0xD4 + 4 * n.val + 0xA8 * c.val) value 0 fun e => e.compWritten u c n (some (R.POS_CCFG0_MODE.get (d.seenWordBy w (pgPOS u) (0xD4 + 4 * n.val + 0xA8 * c.val))))))) ∧
    (∀ (w : Writer) (value : Word), d.accepts w (pageAddr pgSENSE 0x44) value → exec (.senseClear w value) s = .next (s.done (d.took w pgSENSE 0x44 value 0 fun e => e.senseClear (R.SENSE_CLEAR_CH.get value))))

/-- Commands of the axes complete with the effect of their rules. The field units' periods and timeouts, the commands START, STOP, OFF and CLR in their states, the catch and its windows, ALIGN, the locked rotor, ASC's release and the map swap: each command answers a next state, and which one. -/
def Obligations.AxisCommandsComplete : Prop :=
  ∀ (s : State) (d : Dev), s.dev = d →
    (∀ (l : Lane) (x : Fin 2), d.up (.ctl l) = true → d.fieldOn l x = true → (d.lanes.at l).role ≠ .failed → exec (.fieldPeriod l x) s = .next (s.done ((d.fieldRuns l x).fallbackSet l))) ∧
    (∀ (l : Lane) (x : Fin 2), d.up (.ctl l) = true → (d.fieldU l x).sensor = true → d.sensorAngle l x = none → exec (.angleSourceTimeout l x) s = .next (s.done (d.angles l x))) ∧
    (∀ (w : Writer) (x : Fin 2) (epoch : Fin 256), d.accepts w (pageAddr (pgFIELD x) 0x44) (keyWord epoch.val 1) → exec (.axisStart w x epoch) s = .next (s.done (d.took w (pgFIELD x) 0x44 (keyWord epoch.val 1) 0 fun e => (e.axisStart x).getD e))) ∧
    (∀ (w : Writer) (x : Fin 2) (epoch : Fin 256), d.accepts w (pageAddr (pgFIELD x) 0x44) (keyWord epoch.val 2) → exec (.axisStop w x epoch) s = .next (s.done (d.took w (pgFIELD x) 0x44 (keyWord epoch.val 2) 0 fun e => (e.axisStopCmd x).getD e))) ∧
    (∀ (w : Writer) (x : Fin 2) (epoch : Fin 256), d.accepts w (pageAddr (pgFIELD x) 0x44) (keyWord epoch.val 3) → exec (.axisOff w x epoch) s = .next (s.done (d.took w (pgFIELD x) 0x44 (keyWord epoch.val 3) 0 fun e => (e.axisOff x).getD e))) ∧
    (∀ (w : Writer) (x : Fin 2) (epoch : Fin 256), d.accepts w (pageAddr (pgFIELD x) 0x44) (keyWord epoch.val 4) → exec (.axisClr w x epoch) s = .next (s.done (d.took w (pgFIELD x) 0x44 (keyWord epoch.val 4) 0 fun e => (e.axisClr x).getD e))) ∧
    (∀ (x : Fin 2), d.axState x = .run → 0 < d.g (pgFIELD x) R.FIELD_CMDTO_TMO → d.axes[x].cmdStage = 0 → d.axes[x].tcmdAt + d.g (pgFIELD x) R.FIELD_CMDTO_TMO * 500000 ≤ d.now → exec (.cmdTimeout x) s = .next (s.done ((d.onAxis x fun a => { a with cmdStage := 1 }).fRaise x 9))) ∧
    (∀ (x : Fin 2), d.axState x = .run → 0 < d.g (pgFIELD x) R.FIELD_CMDTO_TMO → d.axes[x].cmdStage = 1 → d.axes[x].tcmdAt + 2 * (d.g (pgFIELD x) R.FIELD_CMDTO_TMO * 500000) ≤ d.now → d.g (pgFIELD x) R.FIELD_CMDTO_ACT = 2 → exec (.cmdTimeout x) s = .next (s.done ((d.onAxis x fun a => { a with cmdStage := 2 }).hold x fun c => { c with cmdTimeout := true }))) ∧
    (∀ (x : Fin 2), d.axState x = .align → d.axes[x].starts = false → d.axes[x].alignAt + d.g (pgFIELD x) R.FIELD_ALIGN_T * 500000 ≤ d.now → exec (.alignComplete x) s = .next (s.done (d.alignEnds x))) ∧
    (∀ (x : Fin 2) (t : Nat), d.axes[x].lrAt = some t → d.axState x = .run → t + d.g (pgFIELD x) R.FIELD_LR_T * 500000 ≤ d.now → exec (.lockedRotor x) s = .next (s.done ((d.onAxis x fun a => { a with lrAt := none }).fRaise x 5))) ∧
    (∀ (x : Fin 2), d.catchCounts x d.now = true → d.axes[x].catchNext ≤ d.now → exec (.catchSample x) s = .next (s.done ((d.onAxis x fun a => { a with catchNext := a.catchNext + d.g (pgFIELD x) R.FIELD_CATCH_DT * 500 }).eachLane fun e l => if e.up (.ctl l) then (e.onMeas l fun m => { m with catchQ := m.catchQ ++ [(x, 0), (x, 1), (x, 2)] }).catchAsk l else e))) ∧
    (∀ (x : Fin 2) (t : Nat), d.axes[x].catchWin = some t → d.axes[x].early = true ∨ t + d.g (pgFIELD x) R.FIELD_CATCH_WIN * 500 ≤ d.now → exec (.catchWindowEnd x) s = .next (s.done (d.catchWindowDone x t))) ∧
    (∀ (x : Fin 2), d.axState x = .catching → d.axes[x].starts = false → d.axes[x].catchAt + d.g (pgFIELD x) R.FIELD_CATCH2_TMO * 500000 ≤ d.now → exec (.catchTimeout x) s = .next (s.done (d.catchFails x 2 7))) ∧
    (∀ (x : Fin 2), d.axState x = .catching ∨ d.axState x = .hold → (d.fieldU ((d.active).getD .a) x).hasAngle = false → d.inAsc x = true → d.axes[x].ascSince + d.g (pgFIELD x) R.FIELD_CATCH2_ASC_T * 500000 ≤ d.now → exec (.ascReleaseCheck x) s = .next (s.done (d.leaveAsc x true))) ∧
    (∀ (w : Writer) (x : Fin 2), d.accepts w (pageAddr (pgFIELD x) 0x88) (d.fieldWord w (pgFIELD x) R.FIELD_MAPCFG_SWAP 1) → exec (.mapSwap w x) s = .next (s.done (d.took w (pgFIELD x) 0x88 (d.fieldWord w (pgFIELD x) R.FIELD_MAPCFG_SWAP 1) 0 fun e => e.mapSwapReq x)))

/-- Commands of the motion units and the chopper complete with the effect of their rules. A servo tick computes and publishes its set-point, the motion commands wait for their servo tick, the STEP axis takes its angle, and the chopper judges its samples and changes its legs: each command answers a next state, and which one. -/
def Obligations.MotionCommandsComplete : Prop :=
  ∀ (s : State) (d : Dev), s.dev = d →
    (∀ (x : Fin 2) (tk : Nat) (e : Dev), d.servoAt x = some tk → (d.eachLane fun e l => e.shadowTrack l (2 ^ (1 + x.val))) = e → e.copies (pgMOTION x) ≠ [] → exec (.servoTick x) s = .next (s.done (e.eachUnit x fun u => match u.servoAt x with | some t => u.servoRuns x t | none => u))) ∧
    (∀ (w : Writer) (x : Fin 2) (epoch : Fin 256), d.accepts w (pageAddr (pgMOTION x) 0x44) (keyWord epoch.val 1) → exec (.motionGo w x epoch) s = .next (s.done (d.took w (pgMOTION x) 0x44 (keyWord epoch.val 1) 0 fun e => e.motionCmd x 1))) ∧
    (∀ (w : Writer) (x : Fin 2) (epoch : Fin 256), d.accepts w (pageAddr (pgMOTION x) 0x44) (keyWord epoch.val 2) → exec (.motionStop w x epoch) s = .next (s.done (d.took w (pgMOTION x) 0x44 (keyWord epoch.val 2) 0 fun e => e.motionCmd x 2))) ∧
    (∀ (w : Writer) (x : Fin 2) (epoch : Fin 256), d.accepts w (pageAddr (pgMOTION x) 0x44) (keyWord epoch.val 3) → exec (.motionResume w x epoch) s = .next (s.done (d.took w (pgMOTION x) 0x44 (keyWord epoch.val 3) 0 fun e => e.motionCmd x 3))) ∧
    (∀ (w : Writer) (x : Fin 2) (epoch : Fin 256), d.accepts w (pageAddr (pgMOTION x) 0x44) (keyWord epoch.val 4) → exec (.motionAbort w x epoch) s = .next (s.done (d.took w (pgMOTION x) 0x44 (keyWord epoch.val 4) 0 fun e => e.motionCmd x 4))) ∧
    (d.axState 1 = .step → exec .stepUpdate s = .next (s.done (d.eachUnit 1 Dev.stepUpdated))) ∧
    (∀ (l : Lane) (n : Fin 3) (bad : Bool), d.chopWatches l n = true → bad = false → d.chopSampleOk l n = true → exec (.chopperDecision l n bad) s = .next (s.done (d.sampleJudged l n))) ∧
    (∀ (l : Lane) (n : Fin 6) (t : Nat) (high : Bool), ((d.mods.at l).legs[n]).chopDue = some (t, high) → d.chopAt l n t ≤ d.now → n.val < 3 → exec (.chopStateChange l n) s = .next (s.done (d.chopTurns l n (d.chopAt l n t) high))) ∧
    (∀ (l : Lane) (n : Fin 6) (t : Nat) (high : Bool), ((d.mods.at l).legs[n]).chopDue = some (t, high) → d.chopAt l n t ≤ d.now → 3 ≤ n.val → exec (.chopStateChange l n) s = .next (s.done ((d.chopTurns l n (d.chopAt l n t) high).chopBegins l n high)))

/-- Commands of the modulator complete with the effect of their rules. Timebases start, latch and begin periods, deferred actions run on a stopped timebase, SYNC moves a period start or is lost, groups commit, edge messages leave, echoes track the latency, trips are accepted, cleared and released: each command answers a next state, and which one. -/
def Obligations.ModulatorCommandsComplete : Prop :=
  ∀ (s : State) (d : Dev), s.dev = d →
    (∀ (l : Lane) (tb : Fin 2) (t : Nat) (k : Nat), ((d.mods.at l).tb tb).startAt = some t → d.tbFirst l tb t = some k → k ≤ d.now → d.tbEnabled l tb = true → exec (.timebaseStart l tb) s = .next (s.done (d.periodHooks (d.timebaseBegins l tb k) l tb))) ∧
    (∀ (l : Lane) (tb : Fin 2) (k : Nat), d.nextStart l tb = some k → k ≤ d.now + 32 → ((d.mods.at l).tb tb).latched = false → exec (.latchPoint l tb) s = .next (s.done ((d.latch l tb).prepare l tb k))) ∧
    (∀ (l : Lane) (tb : Fin 2), ((d.mods.at l).tb tb).running = true → (((d.mods.at l).tb tb).t0 + ((d.mods.at l).tb tb).per : Int) + ((d.mods.at l).tb tb).syncAdj ≤ d.now → exec (.periodStart l tb) s = .next (s.done (d.periodHooks (d.periodBegins l tb) l tb))) ∧
    (d.now % 4096 = 0 → exec .deferredActionTick s = .next (s.done (d.deferredRun))) ∧
    (∀ (l : Lane), d.gl l (pgMOD l) R.MOD_TB0_CFG_SYNCIN = 1 → (d.mods.at l).tb0.running = true → exec (.syncInEdge l) s = .next (s.done (d.syncTaken l))) ∧
    (∀ (l : Lane), d.gl l (pgMOD l) R.MOD_TB0_CFG_SYNCIN = 1 → (d.mods.at l).tb0.running = true → (d.mods.at l).tb0.syncAt + 4 * (d.mods.at l).tb0.per ≤ d.now → (d.mods.at l).tb0.syncLost = false → exec (.syncLost l) s = .next (s.done (((d.onTb l 0 fun x => { x with syncLost := true, syncRest := 0, syncAdj := 0 }).causeL l (pgMOD l) (BitVec.ofNat 32 (2 ^ 10))).raiseCond (202 + 16 * l.idx)))) ∧
    (∀ (w : Writer) (l : Lane) (groups : Fin 16), d.accepts w (pageAddr (pgMOD l) 0x58) (BitVec.ofNat 32 groups.val) → exec (.groupCommit w l groups) s = .next (s.done (d.took w (pgMOD l) 0x58 (BitVec.ofNat 32 groups.val) 0 fun e => e.commitGroups l groups.val))) ∧
    (∀ (l : Lane) (k : Fin 8) (e : QueuedEdge) (r : List QueuedEdge), ((d.mods.at l).masters[k]).queue = e :: r → (d.lanes.at l).silent = false → e.due ≤ d.now + 64 → ((d.mods.at l).masters[k]).lastMsg = none ∨ ((d.mods.at l).masters[k]).lastSend + 8 ≤ d.now → exec (.edgeMessageSend l k) s = .next (s.done (d.edgeLeaves l k e r))) ∧
    (∀ (l : Lane) (k : Fin 8) (roundTrip : Nat) (turnaround : Nat), (d.link (.drvMaster l k)).live = true → exec (.linkEcho l k roundTrip turnaround) s = .next (s.done (d.echoTaken l k roundTrip turnaround))) ∧
    (∀ (l : Lane) (level : Bool) (held : Nat), d.pageUp l (pgMOD l) = true → exec (.tripAccept l 2 level held) s = .next (s.done (d.acceptTrip l 2 d.now))) ∧
    (∀ (l : Lane) (level : Bool) (held : Nat), d.pageUp l (pgMOD l) = true → d.gl l (pgMOD l) R.MOD_TRIPCFG_EN1 = 1 → level = (d.gl l (pgMOD l) R.MOD_TRIPCFG_POL1 == 1) → d.tripFilt l false ≤ held → exec (.tripAccept l 0 level held) s = .next (s.done ((d.sl l (pgMOD l) R.MOD_TRIPSTAT_LIVE (d.gl l (pgMOD l) R.MOD_TRIPSTAT_LIVE ||| 1)).acceptTrip l 0 (d.now - held)))) ∧
    (∀ (w : Writer) (l : Lane) (trig : Bool), d.accepts w (pageAddr (pgMOD l) 0x7C) (BitVec.ofNat 32 trig.toNat) → exec (.swtrip w l trig) s = .next (s.done (d.took w (pgMOD l) 0x7C (BitVec.ofNat 32 trig.toNat) 0 fun e => if trig then e.acceptTrip l 2 e.now else e))) ∧
    (∀ (w : Writer) (l : Lane) (bits : Fin 16), d.accepts w (pageAddr (pgMOD l) 0x78) (BitVec.ofNat 32 bits.val) → exec (.tripclr w l bits) s = .next (s.done (d.took w (pgMOD l) 0x78 (BitVec.ofNat 32 bits.val) 0 fun e => e.tripClr l bits.val))) ∧
    (∀ (l : Lane) (second : Bool) (level : Bool), d.pageUp l (pgMOD l) = true → level ≠ (d.gl l (pgMOD l) (if second then R.MOD_TRIPCFG_POL2 else R.MOD_TRIPCFG_POL1) == 1) → exec (.tripRelease l second level) s = .next (s.done (d.sl l (pgMOD l) R.MOD_TRIPSTAT_LIVE (d.gl l (pgMOD l) R.MOD_TRIPSTAT_LIVE - (if d.gl l (pgMOD l) R.MOD_TRIPSTAT_LIVE / ((if second then 2 else 1 : Nat)) % 2 = 1 then ((if second then 2 else 1 : Nat)) else 0))))) ∧
    (∀ (n : Fin 6), d.bootOut (legHigh n) = true → exec (.bootUv n) s = .next (s.done (d.bootUvFalls n)))

/-- Quill's loads, additions, limits, shifts, logic and selections write the results their rules give. While a run is in progress and the legal instruction at the program counter has reached its issue cycle, it advances the program and writes its result: LDI, MOV, ADD, SUB, NEG, ABS, MIN, MAX, CLAMP, CLAMPS, SHL, SHR, AND, OR, XOR, SEL, SELP; CMP and CLRF write flags; NOP only advances. -/
def Obligations.QuillArithmeticCompletes : Prop :=
  ∀ (s : State) (d : Dev), s.dev = d →
    (∀ (l : Lane) (i : QIns) (f : QForm) (t : Nat), d.qReady l 0x00 i f t → exec (.qNop l) s = .next (s.done ((d.qAdvance l i f t)))) ∧
    (∀ (l : Lane) (i : QIns) (f : QForm) (t : Nat), d.qReady l 0x01 i f t → exec (.qLdi l) s = .next (s.done ((d.qAdvance l i f t).qPut l [(i.dst, sint i.imm)]))) ∧
    (∀ (l : Lane) (i : QIns) (f : QForm) (t : Nat), d.qReady l 0x02 i f t → exec (.qMov l) s = .next (s.done ((d.qAdvance l i f t).qPut l [(i.dst, d.qr l i.sa)]))) ∧
    (∀ (l : Lane) (i : QIns) (f : QForm) (t : Nat), d.qReady l 0x03 i f t → exec (.qAdd l) s = .next (s.done ((d.qAdvance l i f t).qPut l [(i.dst, if i.flg = 1 then wrap32 (d.qr l i.sa + d.qr l i.sb) else d.qr l i.sa + d.qr l i.sb)]))) ∧
    (∀ (l : Lane) (i : QIns) (f : QForm) (t : Nat), d.qReady l 0x04 i f t → exec (.qSub l) s = .next (s.done ((d.qAdvance l i f t).qPut l [(i.dst, if i.flg = 1 then wrap32 (d.qr l i.sa - d.qr l i.sb) else d.qr l i.sa - d.qr l i.sb)]))) ∧
    (∀ (l : Lane) (i : QIns) (f : QForm) (t : Nat), d.qReady l 0x05 i f t → exec (.qNeg l) s = .next (s.done ((d.qAdvance l i f t).qPut l [(i.dst, -(d.qr l i.sa))]))) ∧
    (∀ (l : Lane) (i : QIns) (f : QForm) (t : Nat), d.qReady l 0x06 i f t → exec (.qAbs l) s = .next (s.done ((d.qAdvance l i f t).qPut l [(i.dst, ((d.qr l i.sa).natAbs : Int))]))) ∧
    (∀ (l : Lane) (i : QIns) (f : QForm) (t : Nat), d.qReady l 0x07 i f t → exec (.qMin l) s = .next (s.done ((d.qAdvance l i f t).qPut l [(i.dst, min (d.qr l i.sa) (d.qr l i.sb))]))) ∧
    (∀ (l : Lane) (i : QIns) (f : QForm) (t : Nat), d.qReady l 0x08 i f t → exec (.qMax l) s = .next (s.done ((d.qAdvance l i f t).qPut l [(i.dst, max (d.qr l i.sa) (d.qr l i.sb))]))) ∧
    (∀ (l : Lane) (i : QIns) (f : QForm) (t : Nat), d.qReady l 0x09 i f t → exec (.qClamp l) s = .next (s.done (if sat32 (max (d.qr l i.sb) (min (d.qr l i.sa) (d.qr l i.sc))) = d.qr l i.sa then (d.qAdvance l i f t).qPut l [(i.dst, (max (d.qr l i.sb) (min (d.qr l i.sa) (d.qr l i.sc))))] else ((d.qAdvance l i f t).qPut l [(i.dst, (max (d.qr l i.sb) (min (d.qr l i.sa) (d.qr l i.sc))))]).qFlag l fun g => { g with clamped := true }))) ∧
    (∀ (l : Lane) (i : QIns) (f : QForm) (t : Nat), d.qReady l 0x0A i f t → exec (.qClamps l) s = .next (s.done (if sat32 (clampInt (-((d.qr l i.sb).natAbs : Int)) (d.qr l i.sb).natAbs (d.qr l i.sa)) = d.qr l i.sa then (d.qAdvance l i f t).qPut l [(i.dst, (clampInt (-((d.qr l i.sb).natAbs : Int)) (d.qr l i.sb).natAbs (d.qr l i.sa)))] else ((d.qAdvance l i f t).qPut l [(i.dst, (clampInt (-((d.qr l i.sb).natAbs : Int)) (d.qr l i.sb).natAbs (d.qr l i.sa)))]).qFlag l fun g => { g with clamped := true }))) ∧
    (∀ (l : Lane) (i : QIns) (f : QForm) (t : Nat), d.qReady l 0x0B i f t → exec (.qShl l) s = .next (s.done ((d.qAdvance l i f t).qPut l [(i.dst, d.qr l i.sa * (2 ^ i.x : Nat))]))) ∧
    (∀ (l : Lane) (i : QIns) (f : QForm) (t : Nat), d.qReady l 0x0C i f t → exec (.qShr l) s = .next (s.done ((d.qAdvance l i f t).qPut l [(i.dst, shiftRound (d.qr l i.sa) i.x)]))) ∧
    (∀ (l : Lane) (i : QIns) (f : QForm) (t : Nat), d.qReady l 0x0D i f t → exec (.qAnd l) s = .next (s.done ((d.qAdvance l i f t).qPut l [(i.dst, sint (ofInt (d.qr l i.sa) &&& ofInt (d.qr l i.sb)))]))) ∧
    (∀ (l : Lane) (i : QIns) (f : QForm) (t : Nat), d.qReady l 0x0E i f t → exec (.qOr l) s = .next (s.done ((d.qAdvance l i f t).qPut l [(i.dst, sint (ofInt (d.qr l i.sa) ||| ofInt (d.qr l i.sb)))]))) ∧
    (∀ (l : Lane) (i : QIns) (f : QForm) (t : Nat), d.qReady l 0x0F i f t → exec (.qXor l) s = .next (s.done ((d.qAdvance l i f t).qPut l [(i.dst, sint (ofInt (d.qr l i.sa) ^^^ ofInt (d.qr l i.sb)))]))) ∧
    (∀ (l : Lane) (i : QIns) (f : QForm) (t : Nat), d.qReady l 0x10 i f t → exec (.qSel l) s = .next (s.done ((d.qAdvance l i f t).qPut l [(i.dst, if qCond (d.quill.at l).flags i.flg then d.qr l i.sb else d.qr l i.sa)]))) ∧
    (∀ (l : Lane) (i : QIns) (f : QForm) (t : Nat), d.qReady l 0x11 i f t → exec (.qSelp l) s = .next (s.done ((d.qAdvance l i f t).qPut l [(i.dst, d.qr l (if qCond (d.quill.at l).flags i.flg then i.sb else i.sa)), (i.dst + 1, d.qr l ((if qCond (d.quill.at l).flags i.flg then i.sb else i.sa) + 1))]))) ∧
    (∀ (l : Lane) (i : QIns) (f : QForm) (t : Nat), d.qReady l 0x12 i f t → exec (.qCmp l) s = .next (s.done ((d.qAdvance l i f t).qFlag l fun g => { g with eq := d.qr l i.sa == d.qr l i.sb, lt := decide (d.qr l i.sa < d.qr l i.sb) }))) ∧
    (∀ (l : Lane) (i : QIns) (f : QForm) (t : Nat), d.qReady l 0x13 i f t → exec (.qClrf l) s = .next (s.done ((d.qAdvance l i f t).qFlag l fun g => { g with clamped := false, dutyclamp := false, mathx := false })))

/-- Quill's products, transforms, reconstruction, modulation, control and elementary functions write the results their rules give. MUL, MAC, MSU, MULK, MACK, VMULK, DOT2, ROT, ICLK, RECON3, SVM, PI, SINCOS, DIV, RCP and SQRT at their issue write the results of R292, R301 to R304 and R307, with one rounding each, saturated; SINCOS within the error the spec leaves open (log entry on SINCOS). -/
def Obligations.QuillProductsComplete : Prop :=
  ∀ (s : State) (d : Dev), s.dev = d →
    (∀ (l : Lane) (i : QIns) (f : QForm) (t : Nat), d.qReady l 0x20 i f t → exec (.qMul l) s = .next (s.done ((d.qAdvance l i f t).qPut l [(i.dst, shiftRound (d.qr l i.sa * d.qr l i.sb) 30)]))) ∧
    (∀ (l : Lane) (i : QIns) (f : QForm) (t : Nat), d.qReady l 0x21 i f t → exec (.qMac l) s = .next (s.done ((d.qAdvance l i f t).qPut l [(i.dst, shiftRound (d.qr l i.sc * 2 ^ 30 + d.qr l i.sa * d.qr l i.sb) 30)]))) ∧
    (∀ (l : Lane) (i : QIns) (f : QForm) (t : Nat), d.qReady l 0x22 i f t → exec (.qMsu l) s = .next (s.done ((d.qAdvance l i f t).qPut l [(i.dst, shiftRound (d.qr l i.sc * 2 ^ 30 - d.qr l i.sa * d.qr l i.sb) 30)]))) ∧
    (∀ (l : Lane) (i : QIns) (f : QForm) (t : Nat), d.qReady l 0x23 i f t → exec (.qMulk l) s = .next (s.done ((d.qAdvance l i f t).qPut l [(i.dst, d.qTimesX l i.k (d.qr l i.sa))]))) ∧
    (∀ (l : Lane) (i : QIns) (f : QForm) (t : Nat), d.qReady l 0x24 i f t → exec (.qMack l) s = .next (s.done (((d.qAdvance l i f t).qSats l (overs (d.qTimesX l i.k (d.qr l i.sa)))).qPut l [(i.dst, d.qr l i.sb + d.qTimes l i.k (d.qr l i.sa))]))) ∧
    (∀ (l : Lane) (i : QIns) (f : QForm) (t : Nat), d.qReady l 0x25 i f t → exec (.qVmulk l) s = .next (s.done ((d.qAdvance l i f t).qPut l [(i.dst, d.qTimesX l i.k (d.qr l i.sa)), (i.dst + 1, d.qTimesX l (i.k + 1) (d.qr l (i.sa + 1))), (i.dst + 2, d.qTimesX l (i.k + 2) (d.qr l (i.sa + 2))), (i.dst + 3, d.qTimesX l (i.k + 3) (d.qr l (i.sa + 3)))]))) ∧
    (∀ (l : Lane) (i : QIns) (f : QForm) (t : Nat), d.qReady l 0x26 i f t → exec (.qDot2 l) s = .next (s.done ((d.qAdvance l i f t).qPut l [(i.dst, shiftRound (d.qr l i.sa * d.qr l i.sb + d.qr l (i.sa + 1) * d.qr l (i.sb + 1)) 30)]))) ∧
    (∀ (l : Lane) (i : QIns) (f : QForm) (t : Nat), d.qReady l 0x27 i f t → exec (.qRot l) s = .next (s.done ((d.qAdvance l i f t).qPut l (if i.flg = 0 then [(i.dst, shiftRound (d.qr l i.sa * d.qr l i.sb + d.qr l (i.sa + 1) * d.qr l (i.sb + 1)) 30), (i.dst + 1, shiftRound (d.qr l (i.sa + 1) * d.qr l i.sb - d.qr l i.sa * d.qr l (i.sb + 1)) 30)] else [(i.dst, shiftRound (d.qr l i.sa * d.qr l i.sb - d.qr l (i.sa + 1) * d.qr l (i.sb + 1)) 30), (i.dst + 1, shiftRound (d.qr l i.sa * d.qr l (i.sb + 1) + d.qr l (i.sa + 1) * d.qr l i.sb) 30)])))) ∧
    (∀ (l : Lane) (i : QIns) (f : QForm) (t : Nat), d.qReady l 0x28 i f t → exec (.qIclk l) s = .next (s.done ((d.qAdvance l i f t).qPut l (if i.flg = 1 then [(i.dst, d.qr l i.sa), (i.dst + 1, d.qr l (i.sa + 1)), (i.dst + 2, 0), (i.dst + 3, 0)] else [(i.dst, d.qr l i.sa), (i.dst + 1, shiftRound (-(d.qr l i.sa) * 2 ^ 29 + d.qr l (i.sa + 1) * 929887697) 30), (i.dst + 2, shiftRound (-(d.qr l i.sa) * 2 ^ 29 - d.qr l (i.sa + 1) * 929887697) 30), (i.dst + 3, 0)])))) ∧
    (∀ (l : Lane) (i : QIns) (f : QForm) (t : Nat) (err : Bool) (r : Option (Int × Int × Int)), d.qReady l 0x29 i f t → (recon (d.qr l i.sa) (d.qr l (i.sa + 1)) (d.qr l (i.sa + 2)) (ofInt (d.qr l (i.sa + 3))).toNat (d.gl l (pgFIELD (if i.flg = 1 then 1 else 0)) R.FIELD_RECON_SUMTOL * 2 ^ 15) = (err, r)) → exec (.qRecon3 l) s = .next (s.done (((d.qAdvance l i f t).qFlag l fun g => { g with sumerr := err, pred := r.isNone }).qPut l (match r with | none => [(i.dst, 0), (i.dst + 1, 0)] | some (a, b, _) => [(i.dst, a), (i.dst + 1, if (ofInt (d.qr l (i.sa + 3))).toNat / 64 % 2 = 1 then b else shiftRound ((a + 2 * b) * 619925131) 30)])))) ∧
    (∀ (l : Lane) (i : QIns) (f : QForm) (t : Nat), d.qReady l 0x2A i f t → exec (.qSvm l) s = .next (s.done (if (svm [d.qr l i.sa, d.qr l (i.sa + 1), d.qr l (i.sa + 2)] (d.qr l i.sb) (d.qr l i.sc) (i.flg == 1)).2 then ((d.qAdvance l i f t).qPut l ((List.range 4).map fun n => (i.dst + n, (svm [d.qr l i.sa, d.qr l (i.sa + 1), d.qr l (i.sa + 2)] (d.qr l i.sb) (d.qr l i.sc) (i.flg == 1)).1.getD n 0))).qFlag l (fun g => { g with dutyclamp := true }) else (d.qAdvance l i f t).qPut l ((List.range 4).map fun n => (i.dst + n, (svm [d.qr l i.sa, d.qr l (i.sa + 1), d.qr l (i.sa + 2)] (d.qr l i.sb) (d.qr l i.sc) (i.flg == 1)).1.getD n 0))))) ∧
    (∀ (l : Lane) (i : QIns) (f : QForm) (t : Nat) (lim : Int), d.qReady l 0x2B i f t → lim = (min 0x7FFFFFFF ((d.qCoef l (i.k + 3)).1).natAbs : Nat) → exec (.qPi l) s = .next (s.done (((d.qAdvance l i f t).qSats l (overs (d.qTimesX l (i.k + 1) (d.qr l (i.sc + 1))) + overs (d.qTimesX l (i.k + 2) (d.qr l i.sb)) + overs (d.qr l i.sc + d.qTimes l (i.k + 1) (d.qr l (i.sc + 1)) + d.qTimes l (i.k + 2) (d.qr l i.sb)) + overs (d.qTimesX l i.k (d.qr l i.sa)))).qPut l [(i.dst, (clampInt (-lim) lim (sat32 (d.qr l i.sc + d.qTimes l (i.k + 1) (d.qr l (i.sc + 1)) + d.qTimes l (i.k + 2) (d.qr l i.sb)))) + d.qTimes l i.k (d.qr l i.sa)), (i.sc, (clampInt (-lim) lim (sat32 (d.qr l i.sc + d.qTimes l (i.k + 1) (d.qr l (i.sc + 1)) + d.qTimes l (i.k + 2) (d.qr l i.sb))))), (i.sc + 1, d.qr l i.sa)]))) ∧
    (∀ (l : Lane) (i : QIns) (f : QForm) (t : Nat), d.qReady l 0x30 i f t → exec (.qSincos l) s = .next (s.done ((d.qAdvance l i f t).qPut l [(i.dst, (cosSin (ofInt (d.qr l i.sa)).toNat).1 + (Config.cosError (ofInt (d.qr l i.sa))).val - 4), (i.dst + 1, (cosSin (ofInt (d.qr l i.sa)).toNat).2 + (Config.sinError (ofInt (d.qr l i.sa))).val - 4)]))) ∧
    (∀ (l : Lane) (i : QIns) (f : QForm) (t : Nat), d.qReady l 0x31 i f t → exec (.qDiv l) s = .next (s.done (if (qDiv (d.qr l i.sa) (d.qr l i.sb) 30).2 then ((d.qAdvance l i f t).qPut l [(i.dst, (qDiv (d.qr l i.sa) (d.qr l i.sb) 30).1)]).qFlag l fun g => { g with mathx := true } else (d.qAdvance l i f t).qPut l [(i.dst, (qDiv (d.qr l i.sa) (d.qr l i.sb) 30).1)]))) ∧
    (∀ (l : Lane) (i : QIns) (f : QForm) (t : Nat), d.qReady l 0x32 i f t → exec (.qRcp l) s = .next (s.done (if (qDiv 1 (d.qr l i.sa) 60).2 then ((d.qAdvance l i f t).qPut l [(i.dst, (qDiv 1 (d.qr l i.sa) 60).1)]).qFlag l fun g => { g with mathx := true } else (d.qAdvance l i f t).qPut l [(i.dst, (qDiv 1 (d.qr l i.sa) 60).1)]))) ∧
    (∀ (l : Lane) (i : QIns) (f : QForm) (t : Nat), d.qReady l 0x33 i f t → exec (.qSqrt l) s = .next (s.done (if d.qr l i.sa < 0 then ((d.qAdvance l i f t).qPut l [(i.dst, 0)]).qFlag l (fun g => { g with mathx := true }) else (d.qAdvance l i f t).qPut l [(i.dst, (sqrtNear ((d.qr l i.sa).toNat * 2 ^ 30) : Int))])))

/-- Quill's loads, stores, branch, STAGE, MONW, EXPORT and HALT act as their rules say. LD, LDX, ST and STX act on the data memory; BR moves the program counter when its condition holds; STAGE places compares in the holding buffer; MONW writes a MON register; EXPORT sends the export set; HALT ends the run. -/
def Obligations.QuillMemoryAndControlComplete : Prop :=
  ∀ (s : State) (d : Dev), s.dev = d →
    (∀ (l : Lane) (i : QIns) (f : QForm) (t : Nat), d.qReady l 0x40 i f t → exec (.qLd l) s = .next (s.done ((d.qAdvance l i f t).qPut l [(i.dst, sint (d.qLoad l t i.x))]))) ∧
    (∀ (l : Lane) (i : QIns) (f : QForm) (t : Nat), d.qReady l 0x41 i f t → exec (.qLdx l) s = .next (s.done ((d.qAdvance l i f t).qPut l [(i.dst, sint (d.qLoad l t ((d.qr l i.sa + i.x) % 4096).toNat))]))) ∧
    (∀ (l : Lane) (i : QIns) (f : QForm) (t : Nat), d.qReady l 0x42 i f t → exec (.qSt l) s = .next (s.done ((d.qAdvance l i f t).qStore l t i.x (ofInt (d.qr l i.sa))))) ∧
    (∀ (l : Lane) (i : QIns) (f : QForm) (t : Nat), d.qReady l 0x43 i f t → exec (.qStx l) s = .next (s.done ((d.qAdvance l i f t).qStore l t ((d.qr l i.sb + i.x) % 4096).toNat (ofInt (d.qr l i.sa))))) ∧
    (∀ (l : Lane) (i : QIns) (f : QForm) (t : Nat), d.qReady l 0x50 i f t → exec (.qBr l) s = .next (s.done (if qCond (d.quill.at l).flags i.flg then (d.qAdvance l i f t).onQuill l fun u => { u with pc := (if u.run = some 0 then 0 else 2048) + i.x, nextAt := t + 2 } else (d.qAdvance l i f t)))) ∧
    (∀ (l : Lane) (i : QIns) (f : QForm) (t : Nat), d.qReady l 0x51 i f t → exec (.qStage l) s = .next (s.done ((d.qAdvance l i f t).stageHeld l (d.stageNew l i) t))) ∧
    (∀ (l : Lane) (i : QIns) (f : QForm) (t : Nat), d.qReady l 0x52 i f t → exec (.qMonw l) s = .next (s.done (if qCond (d.quill.at l).flags i.flg then (d.qAdvance l i f t).monPut l t i.x (ofInt (d.qr l i.sa)) else (d.qAdvance l i f t)))) ∧
    (∀ (l : Lane) (i : QIns) (f : QForm) (t : Nat), d.qReady l 0x53 i f t → exec (.qExport l) s = .next (s.done (if (d.quill.at l).exported then (d.qAdvance l i f t) else (d.qAdvance l i f t).onQuill l fun u => { u with exported := true, sent := u.sent ++ [d.exportSet l t] }))) ∧
    (∀ (l : Lane) (i : QIns) (f : QForm) (t : Nat), d.qReady l 0x5F i f t → exec (.qHalt l) s = .next (s.done ((d.qAdvance l i f t).haltRun l t)))

/-- Quill triggers, releases, aborts, bank swaps, shadows and memory writes complete with the effect of their rules. A due trigger loads the input stage and starts a run, holds it, or is dropped when its entry is already held; held compares are released; a run at MAXCYC, an illegal instruction, a checker difference and a fatal memory error abort the run, and a single-bit error is corrected and counted; coefficient and program windows take their writes; banks are checked and swapped; a shadow arrives. -/
def Obligations.QuillRunsComplete : Prop :=
  ∀ (s : State) (d : Dev), s.dev = d →
    (∀ (l : Lane) (e : Fin 2) (bad : Fin 64), d.trigDue l e = true → ((d.tinkerQuill l).quill.at l).run = none → e = 0 ∨ (d.tinkerQuill l).trigDue l 0 = false → exec (.quillTrigger l e bad) s = .next (s.done ((((d.tinkerQuill l).inputStage l e bad.val).trigMark l e).qStart l ((d.tinkerQuill l).trigGives l e bad.val) (((d.tinkerQuill l).trigGives l e bad.val).tick + 2)))) ∧
    (∀ (l : Lane) (e : Fin 2) (bad : Fin 64) (r : Fin 2), d.trigDue l e = true → ((d.tinkerQuill l).quill.at l).run = some r → (((d.tinkerQuill l).quill.at l).held.any (fun x => x.entry == e) = false) → exec (.quillTrigger l e bad) s = .next (s.done (if r = e then ((((d.tinkerQuill l).inputStage l e bad.val).trigMark l e).holdTrig l ((d.tinkerQuill l).trigGives l e bad.val)).overrun l else (((d.tinkerQuill l).inputStage l e bad.val).trigMark l e).holdTrig l ((d.tinkerQuill l).trigGives l e bad.val)))) ∧
    (∀ (l : Lane) (e : Fin 2) (bad : Fin 64) (r : Fin 2), d.trigDue l e = true → ((d.tinkerQuill l).quill.at l).run = some r → (((d.tinkerQuill l).quill.at l).held.any (fun x => x.entry == e) = true) → exec (.quillTrigger l e bad) s = .next (s.done (if r = e then (((d.tinkerQuill l).trigMark l e).qShowShadow l).overrun l else ((d.tinkerQuill l).trigMark l e).qShowShadow l))) ∧
    (∀ (l : Lane), exec (.quillRelease l) s = .next (s.done ((((d.formed l ((d.quill.at l).hold.filter fun h => decide (h.2.2 ≤ d.now))).filter fun h => d.gl l (pgMOD l) R.MOD_LEG_CFG_SRC h.1.val == 1).foldl (fun e h => (e.stageCmp l h).autoDue l (e.legTb l h.1) (pageAddr (pgMOD l) (R.MOD_LEG_CMP_VALUE.at h.1.val))) (d.onQuill l fun u => { u with hold := u.hold.filter fun h => !decide (h.2.2 ≤ d.now) })).commitGroups l (((d.formed l ((d.quill.at l).hold.filter fun h => decide (h.2.2 ≤ d.now))).filter fun h => d.gl l (pgMOD l) R.MOD_LEG_CFG_SRC h.1.val == 1).foldl (fun b h => Nat.lor b (2 ^ d.gl l (pgMOD l) R.MOD_LEG_CFG_CG h.1.val)) 0)))) ∧
    (∀ (l : Lane), (d.quill.at l).run.isSome = true → (d.quill.at l).t0 + d.gl l (pgQUILL l) R.QUILL_RUN_MAXCYC ≤ d.now → exec (.runLimit l) s = .next (s.done ((d.qRaise l 4 (some 4)).qAbort l))) ∧
    (∀ (l : Lane), (d.quill.at l).run.isSome = true → (d.quill.at l).nextAt ≤ d.now → (d.quill.at l).nextAt < (d.quill.at l).t0 + d.gl l (pgQUILL l) R.QUILL_RUN_MAXCYC → qLegal (d.qAtPc l) (d.quill.at l).pc = false → exec (.illegalOp l) s = .next (s.done ((d.qRaise l 3 (some 3)).qAbort l))) ∧
    (∀ (l : Lane) (e : Dev), d.up (.ctl l) = true → ((d.qCut l).onQuill l fun u => { u with cut := true, held := [] }).qShowHeld l = e → exec (.lockstepQuill l) s = .next (s.done ((if (e.quill.at l).run.isSome then e.qAbort l else e).qRaise l 0 (some 9)))) ∧
    (∀ (l : Lane), d.up (.ctl l) = true → exec (.eccFatal l none true) s = .next (s.done ((if (d.quill.at l).run.isSome then d.qAbort l else d).qRaise l 1 none))) ∧
    (∀ (l : Lane) (n : Fin 6), d.up (.ctl l) = true → ((d.quill.at l).hold.any (fun h => h.1 == n) = true) → exec (.eccFatal l (some n) true) s = .next (s.done ((d.onQuill l fun u => { u with hold := u.hold.filter fun h => h.1 != n }).qRaise l 1 none))) ∧
    (∀ (w : Writer) (k : Fin 1024) (value : Word) (t : Target), d.target (rgQUILL + 0xC000 + 8 * k.val + 4) = some t → d.accepts w (rgQUILL + 0xC000 + 8 * k.val + 4) value → exec (.coeffShiftWrite w k value) s = .next (s.done (d.tookAt w t (rgQUILL + 0xC000 + 8 * k.val + 4) value 0 [] fun e => e.ctlLanes.foldl (fun e m => e.coefWrite m k.val true value) e))) ∧
    (∀ (w : Writer) (n : Fin 4096) (high : Bool) (value : Word) (t : Target), d.target (rgQUILL + 8 * n.val + 4 * high.toNat) = some t → d.accepts w (rgQUILL + 8 * n.val + 4 * high.toNat) value → exec (.progWindowWrite w n high value) s = .next (s.done (d.tookAt w t (rgQUILL + 8 * n.val + 4 * high.toNat) value 0 [] fun e => e.ctlLanes.foldl (fun e m => e.progWrite m n.val high value) (e.tinkerNeedBoth false 30)))) ∧
    (∀ (w : Writer) (l : Lane), d.accepts w (pageAddr (pgQUILL l) 0x4C) (d.fieldWord w (pgQUILL l) R.QUILL_PROG_SWAP 1) → exec (.progSwap w l) s = .next (s.done (d.took w (pgQUILL l) 0x4C (d.fieldWord w (pgQUILL l) R.QUILL_PROG_SWAP 1) 2 fun e => (e.tinkerNeedBoth false 30).progSwap))) ∧
    (∀ (l : Lane), (d.quill.at l).swapAt.isSome = true → (d.quill.at l).swapCheck = none → exec (.progBankCheck l) s = .next (s.done (if (checkCode 3).over ((d.quill.at l).bankBytes (1 - d.qBank l)) == d.gl l (pgQUILL l) R.QUILL_PROG_CRC_CRC (1 - d.qBank l) then d.onQuill l (fun u => { u with swapCheck := some true }) else d.swapFails l))) ∧
    ((([Lane.a, Lane.b].filter fun l => d.up (.ctl l) && (d.lanes.at l).role != .failed).isEmpty = false) → ((([Lane.a, Lane.b].filter fun l => d.up (.ctl l) && (d.lanes.at l).role != .failed).all fun l => d.swapDue l) = true) → exec .swapDone s = .next (s.done (([Lane.a, Lane.b].filter fun l => d.up (.ctl l) && (d.lanes.at l).role != .failed).foldl (fun e l => e.swapLane l) d))) ∧
    (∀ (l : Lane) (sh : Shadow) (rest : List Shadow), (((d.quill.at l.other).sent.filter fun x => decide (d.now ≤ x.at' + 1000)) = sh :: rest) → (d.link (.ctlCross l)).live = true → d.up (.ctl l) = true → exec (.shadowReceive l) s = .next (s.done ((d.onQuill l.other fun u => { u with sent := rest }).shadowTaken l sh))) ∧
    (∀ (l : Lane) (bad : Fin 64), d.trigDue l 1 = true → ((d.tinkerQuill l).quill.at l).run = none → (d.tinkerQuill l).trigDue l 0 = true → exec (.quillTrigger l 1 bad) s = .next (s.done ((((d.tinkerQuill l).inputStage l 1 bad.val).trigMark l 1).holdTrig l ((d.tinkerQuill l).trigGives l 1 bad.val)))) ∧
    (∀ (l : Lane) (leg : Option (Fin 6)), d.up (.ctl l) = true → exec (.eccFatal l leg false) s = .next (s.done ((d.incL l (pgQUILL l) R.QUILL_ERRCNT_ECC).qRaise l 2 (some 5))))

/-- Commands of gate drive and protection complete with the effect of their rules. Gate phases follow each other, a failed half is cut off, DESAT and a short plateau start a soft turn-off, which ends at the off level; gate monitoring and gate supplies turn an output off and raise their source; recovery clears what it clears; ASC, chopper, discharge and link timeouts act when due. -/
def Obligations.GateCommandsComplete : Prop :=
  ∀ (s : State) (d : Dev), s.dev = d →
    (∀ (o : Fin 14) (gate : Nat) (settled : Bool) (tpl : Nat) (dv : Nat) (e : Dev), (d.outs[o]).phase = .p1 → (if (d.outs[o]).phaseOn then d else d.clampAt o gate) = e → (d.outs[o]).reached gate (e.preLevel o) = true → exec (.gatePhaseEnd o gate settled tpl dv) s = .next (s.done (e.onOut o fun x => { x with phase := .p2, p2At := e.now }))) ∧
    (∀ (o : Fin 14) (gate : Nat) (settled : Bool) (tpl : Nat) (dv : Nat) (e : Dev), (d.outs[o]).phase = .p2 → (if (d.outs[o]).phaseOn then d else d.clampAt o gate) = e → (d.outs[o]).reached gate (e.endLevel o) = true ∨ (d.outs[o]).p2At + e.outCfg o R.GATE_GMON_PL_TMAX ≤ e.now → exec (.gatePhaseEnd o gate settled tpl dv) s = .next (s.done ((e.measureEdge o tpl dv).onOut o fun x => { x with phase := .p3 }))) ∧
    (∀ (o : Fin 14) (gate : Nat) (settled : Bool) (tpl : Nat) (dv : Nat) (e : Dev), (d.outs[o]).phase = .p3 → (if (d.outs[o]).phaseOn then d else d.clampAt o gate) = e → settled = true → exec (.gatePhaseEnd o gate settled tpl dv) s = .next (s.done (e.onOut o fun x => { x with phase := .idle, gateOn := x.phaseOn, clamp := !x.phaseOn && decide (e.outCfg o R.GATE_OCFG_CLAMP_EN = 1) }))) ∧
    (∀ (o : Fin 14) (half : Lane), (d.dies[outDie o]).powered = true → exec (.halfFailed o half) s = .next (s.done (d.cutHalf o half))) ∧
    (∀ (o : Fin 14) (held : Nat), o.val ≠ 13 → d.outCfg o R.GATE_OCFG_DESAT_EN = 1 → (d.outs[o]).on = true ∨ (d.outs[o]).soft ≠ .none → max (d.now - held) ((d.outs[o]).edgeAt + d.outCfg o R.GATE_DESAT_BLANK) + d.outCfg o R.GATE_DESAT_FLT ≤ d.now → exec (.desat o held) s = .next (s.done (d.detectShort o 1 (max (d.now - held) ((d.outs[o]).edgeAt + d.outCfg o R.GATE_DESAT_BLANK))))) ∧
    (∀ (o : Fin 14) (tpl : Nat) (above : Bool), o.val ≠ 13 → d.outCfg o R.GATE_OCFG_PW_EN = 1 → (d.outs[o]).phaseOn = true → (d.outs[o]).on = true ∨ (d.outs[o]).soft ≠ .none → above = true → tpl < d.outCfg o R.GATE_PWATCH_MIN → exec (.plateauShort o tpl above) s = .next (s.done (d.detectShort o 2 d.now))) ∧
    (∀ (o : Fin 14) (gate : Nat) (settled : Bool), (d.outs[o]).soft = .first → (d.outs[o]).softAt + (d.clampAt o gate).outCfg o R.GATE_SOFT_SOFT_T ≤ (d.clampAt o gate).now → exec (.softTurnOffStep o gate settled) s = .next (s.done ((d.clampAt o gate).onOut o fun x => { x with soft := .second }))) ∧
    (∀ (o : Fin 14) (gate : Nat) (settled : Bool), (d.outs[o]).soft = .second → settled = true → exec (.softTurnOffStep o gate settled) s = .next (s.done (d.softEnds o))) ∧
    (∀ (o : Fin 14) (badA : Bool) (badB : Bool), (d.outs[o]).phase ≠ .idle → (d.outs[o]).edgeAt + d.outCfg o R.GATE_GMON_GMON_T ≤ d.now → exec (.gateMon o badA badB) s = .next (s.done (if badA then (if badB then (d.cutHalf o .a).cutHalf o .b else d.cutHalf o .a) else (if badB then d.cutHalf o .b else d.gmonFault o)))) ∧
    (∀ (o : Fin 14) (vpos : Nat) (vneg : Nat), ((d.onOut o fun x => if vpos < d.outCfg o R.GATE_SUPMON_VPOS_WARN then { x with warn := true, bootOk := false } else { x with bootOk := x.bootOk || !x.warn }).bootOut o = false) → vpos < d.outCfg o R.GATE_SUPMON_VPOS_UV ∨ (0 < d.outCfg o R.GATE_SUPMON_VNEG_MIN ∧ vneg < d.outCfg o R.GATE_SUPMON_VNEG_MIN) → exec (.gateSupply o vpos vneg) s = .next (s.done ((d.onOut o fun x => if vpos < d.outCfg o R.GATE_SUPMON_VPOS_WARN then { x with warn := true, bootOk := false } else { x with bootOk := x.bootOk || !x.warn }).supplyFault o))) ∧
    (∀ (o : Fin 14) (vpos : Nat) (vneg : Nat) (n : Fin 6), ((d.onOut o fun x => if vpos < d.outCfg o R.GATE_SUPMON_VPOS_WARN then { x with warn := true, bootOk := false } else { x with bootOk := x.bootOk || !x.warn }).bootOut o = true) → outLeg o = some n → vpos < d.outCfg o R.GATE_SUPMON_VPOS_UV → exec (.gateSupply o vpos vneg) s = .next (s.done ((d.onOut o fun x => if vpos < d.outCfg o R.GATE_SUPMON_VPOS_WARN then { x with warn := true, bootOk := false } else { x with bootOk := x.bootOk || !x.warn }).bootUv n))) ∧
    (∀ (o : Fin 14) (vpos : Nat) (vneg : Nat), exec (.gateSupplyRecovered o vpos vneg) s = .next (s.done (d.onOut o fun x => { x with warn := x.warn && !decide (d.outCfg o R.GATE_SUPMON_VPOS_WARN + 4 ≤ vpos), uv := x.uv && !decide (d.outCfg o R.GATE_SUPMON_VPOS_UV + 4 ≤ vpos ∧ ((d.outCfg o R.GATE_SUPMON_VNEG_MIN) = 0 ∨ (d.outCfg o R.GATE_SUPMON_VNEG_MIN) + 4 ≤ vneg)), bootOk := x.bootOk || decide (d.outCfg o R.GATE_SUPMON_VPOS_WARN + 4 ≤ vpos) }))) ∧
    (∀ (b : Fin 2) (hi : Bool), (d.bridges[b]).waitHigh = some hi → d.ascByDly b = true → d.ascMoving b = false → d.sidePermitted b hi = true → exec (.ascDlyExpiry b) s = .next (s.done (d.applyAsc b hi))) ∧
    (∀ (l : Lane) (on : Bool), (d.prot.at l).chHeld = some on → (d.prot.at l).chAt + 1000 ≤ d.now → exec (.chopLevelHold l) s = .next (s.done (d.chSet l (on && d.chAllowed l)))) ∧
    (∀ (l : Lane) (k : Fin 8) (t : Nat), ((d.mods.at l).masters[k]).startAt = some t → t + 500000 ≤ d.now → (((dieOuts k).any fun o => d.g pgGATE R.GATE_OCFG_EN o == 1) = true) → (d.link (.drvMaster l k)).live = false → exec (.driverLinkTimeout l k) s = .next (s.done (d.raiseCond (226 + 8 * k.val)))) ∧
    (∀ (l : Lane) (volt : Nat), d.up (.ctl l) = true → exec (.dclinkComparator l volt) s = .next (s.done (d.dclJudged l volt))) ∧
    (∀ (l : Lane), d.up (.ctl l) = true → (d.prot.at l).chOn = true → (d.prot.at l).chAt < d.now → (d.now - (d.prot.at l).chAt) % 5000 = 0 → (d.jobCfg l 0).getLsbD 31 = false → exec (.chopCurrentCheck l) s = .next (s.done (d.urgentAsk l 0 (urgentWord 0 3 0x11)))) ∧
    (∀ (l : Lane) (v : Nat) (e : Dev), (d.prot.at l).chFrom + 5000 ≤ d.now → (d.prot.at l).volt = some v → (d.onProt l fun p => { p with chFrom := p.chFrom + 5000, chTicks := p.chTicks - (d.prot.at l).onTicks }) = e → exec (.chopEnergyUpdate l) s = .next (s.done (e.chopEnergyTaken l (e.chopEnergyNext l v (d.prot.at l).onTicks)))) ∧
    (d.mode.cur = .discharge → d.mode.dischargeAt + d.g pgPROT R.PROT_DISCH_TMAX * 500000 ≤ d.now → d.dcDead = false → exec .dischargeTimeout s = .next (s.done ((d.cause pgPROT 6).raiseAt 283 d.now 8)))

/-- Gate configuration blocks are built, applied or dropped, and PROT.CLR clears what its kind names. A live control die builds a block for each live driver link; a driver die applies the block its ports agree on, and drops two that differ for 1 ms; an accepted PROT.CLR clears shorts, tests cut-off halves, clears GATE_MON or GATE_SUPPLY. -/
def Obligations.GateConfigAndClearsComplete : Prop :=
  ∀ (s : State) (d : Dev), s.dev = d →
    (∀ (l : Lane), d.dieUp l false = true → exec (.gateConfigBlock l) s = .next (s.done ((List.finRange 8).foldl (fun e k => if (e.link (.drvDie l k)).live then e.stageBlock k l (sealBlock (e.buildBlock l k)) else e) d))) ∧
    (∀ (k : Fin 8) (ws : List Word), d.agreedBlock k = some ws → exec (.configBlockApply k) s = .next (s.done (d.applyBlock k ws))) ∧
    (∀ (k : Fin 8) (x : List Word) (y : List Word), (d.dies[k]).ports.a.staged = some x → (d.dies[k]).ports.b.staged = some y → crc32cWords x ≠ crc32cWords y → max (d.dies[k]).ports.a.stagedAt (d.dies[k]).ports.b.stagedAt + 500000 ≤ d.now → exec (.configMismatchTimeout k) s = .next (s.done (d.mismatchSeen k))) ∧
    (∀ (w : Writer) (outs : Fin 16384), d.accepts w (pageAddr pgPROT 0x6C) (BitVec.ofNat 32 outs.val) → exec (.clearShort w outs) s = .next (s.done (d.took w pgPROT 0x6C (BitVec.ofNat 32 outs.val) 0 fun e => e.clearShort outs.val))) ∧
    (∀ (w : Writer) (outs : Fin 16384) (pass : Fin 16384), ({ d with boot := { d.boot with given := some ({ noFacts with halves := pass.val }) } }).accepts w (pageAddr pgPROT 0x6C) (BitVec.ofNat 32 (0x10000 + outs.val)) → exec (.clearHalfFailed w outs pass) s = .next (s.done (d.withFacts ({ noFacts with halves := pass.val }) fun x => x.took w pgPROT 0x6C (BitVec.ofNat 32 (0x10000 + outs.val)) 0 fun e => { e.clearHalf outs.val e.openFacts.halves with freeCtr := e.freeCtr + 10 }))) ∧
    (∀ (w : Writer) (outs : Fin 16384), d.accepts w (pageAddr pgPROT 0x6C) (BitVec.ofNat 32 (0x20000 + outs.val)) → exec (.clearGateMon w outs) s = .next (s.done (d.took w pgPROT 0x6C (BitVec.ofNat 32 (0x20000 + outs.val)) 0 fun e => e.clearMon outs.val))) ∧
    (∀ (w : Writer) (outs : Fin 16384), d.accepts w (pageAddr pgPROT 0x6C) (BitVec.ofNat 32 (0x30000 + outs.val)) → exec (.clearGateSupply w outs) s = .next (s.done (d.took w pgPROT 0x6C (BitVec.ofNat 32 (0x30000 + outs.val)) 0 fun e => e.clearSupply outs.val)))

/-- Commands of the lanes, their lockstep and their shadow complete with the effect of their rules. A lockstep difference, an input that still disagrees in the second cycle and memory errors raise their sources; LANE.CMD switches, tests and rejoins; the handover happens at its tick; a failed lane withdraws, also when told by its interface die; the survivor becomes ACTIVE; roles are assigned; a failed lane is reset and rejoins; state blocks and edge streams are sent, taken and compared; a debugger halts and acts. -/
def Obligations.LaneCommandsComplete : Prop :=
  ∀ (s : State) (d : Dev), s.dev = d →
    (∀ (l : Lane) (group : Fin 5), d.up (.ctl l) = true → exec (.lockstepCpu l group) s = .next (s.done (((d.sl l (pgCPU l) R.CPU_LSSTAT_GROUP group.val).onLane l fun x => { x with mismatch := true }).raise (32 + 16 * l.idx)))) ∧
    (∀ (l : Lane) (island : Bool) (x : PairInput) (agree : Bool) (held : List HeldChange), (if island then d.up (.iface l) else d.up (.ctl l)) = true → agree = true → held = (((d.lanes.at l).heldIn.filter fun h => h.1 == (island, x)).map fun h => h.2) → exec (.inputDisagree l island x agree) s = .next (s.done (held.foldl (fun e c => e.deliver l c) (d.onLane l fun y => { y with disagree := y.disagree.filter (fun p => p.1 != (island, x)), heldIn := y.heldIn.filter fun h => h.1 != (island, x) })))) ∧
    (∀ (l : Lane), d.up (.ctl l) = true → exec (.cpuEccFatal l) s = .next (s.done (d.raise (33 + 16 * l.idx)))) ∧
    (∀ (l : Lane), d.up (.ctl l) = true → exec (.cpuEccCorr l) s = .next (s.done (((d.incL l (pgCPU l) R.CPU_ECCCNT_CORR).causeL l (pgCPU l) 2).raise (34 + 16 * l.idx)))) ∧
    (∀ (w : Writer) (l : Lane), d.accepts w (pageAddr pgLANE 0x44) (keyWord 0x5C 1) → d.handover = none → d.active = some l → (d.lanes.at l.other).role = .standby → (d.lanes.at l.other).eligible = true → (d.link (.ctlCross .a)).live = true → (d.link (.ctlCross .b)).live = true → exec (.laneSwitch w) s = .next (s.done (d.took w pgLANE 0x44 (keyWord 0x5C 1) 0 fun e => e.fixHandover l.other true))) ∧
    (∀ (w : Writer) (passA : Bool) (passB : Bool), ({ d with boot := { d.boot with given := some ({ noFacts with passA := passA, passB := passB }) } }).accepts w (pageAddr pgLANE 0x44) (keyWord 0x5C 2) → d.mode.cur = .maintenance → exec (.laneSelftest w passA passB) s = .next (s.done (d.withFacts ({ noFacts with passA := passA, passB := passB }) fun x => x.took w pgLANE 0x44 (keyWord 0x5C 2) 0 fun e => { e.laneSelftest e.openFacts.passA e.openFacts.passB with freeCtr := e.freeCtr + 10 }))) ∧
    (∀ (w : Writer), d.accepts w (pageAddr pgLANE 0x44) (keyWord 0x5C 3) → (d.lanes.at .b).role = .failed → (d.lanes.at .a).role ≠ .failed → exec (.laneRejoin w) s = .next (s.done (d.took w pgLANE 0x44 (keyWord 0x5C 3) 0 fun e => e.peerRequest .b))) ∧
    (∀ (h : Handover), d.handover = some h → h.tick ≤ d.now → (d.lanes.at h.lane).role = .standby → exec .handover s = .next (s.done ((({ d with handover := none }).switchTo h.lane h.cmd).activateFollow))) ∧
    (∀ (l : Lane), (d.lanes.at l).role = .failed → (d.lanes.at l).withdrawAt.isSome = true → exec (.silentWithdrawal l) s = .next (s.done (d.withdraw l))) ∧
    (∀ (l : Lane), d.inputHeld l false .frame = false → (d.lanes.at l).role = .failed → (d.lanes.at l).silent = false → d.isoUp l = true → exec (.laneDownSymbol l) s = .next (s.done (d.withdraw l))) ∧
    (∀ (l : Lane) (k : Fin 8), (d.lanes.at l).role = .standby → (d.dies[k]).activePort = some l → (d.lanes.at l.other).role = .failed ∨ (d.lanes.at l.other).role = .down → exec (.survivorActive l k) s = .next (s.done ((d.switchTo l false).onLane l fun x => { x with standbyTo := (List.finRange 8).filter (· != k) }))) ∧
    (∀ (l : Lane) (k : Fin 8), (d.lanes.at l).role ≠ .standby → (d.dies[k]).activePort = some l → exec (.survivorActive l k) s = .next (s.done (d.onLane l fun x => { x with standbyTo := x.standbyTo.filter (· != k) }))) ∧
    (exec .roleAssign s = .next (s.done (d.roleAssign.activateFollow))) ∧
    (∀ (l : Lane), d.g pgLANE R.LANE_CFG_AUTORESET = 1 → (d.lanes.at l).failedAt + d.g pgLANE R.LANE_CFG_HOLDOFF * 500000 ≤ d.now → d.laneFailed l = true → d.laneRuns l.other = true → exec (.peerReset l) s = .next (s.done (d.peerRequest l))) ∧
    (∀ (l : Lane), (d.lanes.at l).rejoining = true → d.g pgLANE R.LANE_CFG_REJOIN_N ≤ (d.lanes.at l).rejoinCnt → d.eligOk l = true → exec (.laneRejoined l) s = .next (s.done ((((((d.onLane l fun x => { x with rejoining := false, eligible := true, role := if x.role = .down then .standby else x.role }).s pgLANE R.LANE_FAILREC_VALID 0 l.idx).cause pgLANE 2).endCause (44 + 16 * l.other.idx)).listenAgain l).activateFollow))) ∧
    (∀ (l : Lane), (d.lanes.at l).role = .active → (d.link (.ctlCross l.other)).live = true → exec (.stateShadowSend l) s = .next (s.done ((d.onLane l fun x => { x with exchanged := true }).onShadow l.other fun x => { x with way := some (d.stateShadow l) }))) ∧
    (∀ (l : Lane) (good : Fin 32), d.inputHeld l false .frame = false → d.follows l = true → (d.link (.ctlCross l)).live = true → exec (.stateShadowReceive l good) s = .next (s.done (d.shadowBlocks l good.val))) ∧
    (∀ (ended : List StreamEdge) (r : Dev × Bool), d.ctlCrossed = true → d.g pgLANE R.LANE_ECMP_EN ≠ 0 → ended = (d.lanes.a.stream ++ d.lanes.b.stream).filter d.periodOver → r = (d.periodsOf ended).foldl d.periodJudged (d, true) → exec .edgeStreamCompare s = .next (s.done (r.1.eachLane fun e l => e.onLane l fun x => { x with stream := x.stream.filter fun k => !ended.contains k, rejoinCnt := if x.rejoining then (if r.2 ∧ x.shadowOk then x.rejoinCnt + 1 else 0) else x.rejoinCnt }))) ∧
    (∀ (l : Lane) (quill : Bool) (on : Bool), d.inputHeld l false .debug = false → d.debugReaches l = true → (on = true → d.modeIs [.standby, .maintenance] = true) → exec (.debugHalt l quill on) s = .next (s.done (if quill then d.onLane l (fun x => { x with haltedQuill := on }) else (d.onLane l fun x => { x with halted := on, core := [] }).sl l (pgCPU l) R.CPU_DBG_HALTED (if on then 1 else 0)))) ∧
    (∀ (l : Lane) (a : DebugAct), d.inputHeld l false .debug = false → d.debugReaches l = true → (d.lanes.at l).haltedQuill = true → d.modeIs [.standby, .maintenance] = true → (d.quill.at l).run = none → exec (.debugAction l true a) s = .next (s.done (match a with | .resume => (d.onLane l fun x => { x with haltedQuill := false }).qNext l d.now | .step => d.quillStep l | .writeReg r v => d.onQuill l (fun u => { u with q := u.q.setIfInBounds r.val v }) | .writeMem m n v => d.qSetMem l m n v | .readReg r => { d with host := { d.host with readData := [(d.quill.at l).q.getD r.val 0] } } | .readMem m n => { d with host := { d.host with readData := [d.qMem l m n] } }))) ∧
    (∀ (l : Lane) (a : DebugAct), d.inputHeld l false .debug = false → d.debugReaches l = true → (d.lanes.at l).halted = true → exec (.debugAction l false a) s = .next (s.done (match a with | .resume => d.haltTaken l false false | .step => d.onLane l (fun x => { x with core := [] }) | .writeReg r v => if r = 0 then d else d.coreSet l r.val v | .writeMem _ n v => d.coreSet l (64 + n) v | .readReg r => d.coreRead l r.val | .readMem _ n => d.coreRead l (64 + n)))) ∧
    (∀ (l : Lane) (island : Bool) (x : PairInput) (agree : Bool) (n : Nat) (e : Dev), (if island then d.up (.iface l) else d.up (.ctl l)) = true → agree = false → (match (d.lanes.at l).disagree.find? (fun p => p.1 == (island, x)) with | some p => p.2 + 1 | none => 0) = n → (d.onLane l fun y => { y with disagree := ((island, x), n) :: y.disagree.filter fun p => p.1 != (island, x) }) = e → exec (.inputDisagree l island x agree) s = .next (s.done (if n = 2 then e.disagreeRaised l island else e))) ∧
    (∀ (l : Lane) (m : DebugMem) (n : Nat), d.inputHeld l false .debug = false → d.debugReaches l = true → exec (.debugAction l true (.readMem m n)) s = .next (s.done { d with host := { d.host with readData := [d.qMem l m n] } })) ∧
    (∀ (l : Lane) (m : DebugMem) (n : Nat), d.inputHeld l false .debug = false → d.debugReaches l = true → exec (.debugAction l false (.readMem m n)) s = .next (s.done (d.coreRead l (64 + n)))) ∧
    (∀ (l : Lane) (quill : Bool) (a : DebugAct), d.inputHeld l false .debug = true → exec (.debugAction l quill a) s = .next (s.done (d.holdChange l false .debug (.debug quill a))))

/-- Commands of the safety islands complete with the effect of their rules. An island's cycle forms its decision, partner words are compared and followed, a lockstep difference takes it out of service, relayed values are taken, STO and input discrepancies are latched, safe inputs, requests and acknowledgements act, stops start and delays expire, the Assayer samples, and the safe brake engages and is tested. -/
def Obligations.SafetyIslandCommandsComplete : Prop :=
  ∀ (s : State) (d : Dev), s.dev = d →
    (∀ (i : Lane), d.islandOn i = true → d.now % 125000 = 0 → exec (.safetyCycleEnd i) s = .next (s.done ((d.safetyCycle i).slNotices i))) ∧
    (∀ (i : Lane) (word : DecisionWord), d.inputHeld i true .frame = false → d.islandOn i = true → d.partnerOn i = true → d.decisionMeets i word = true → exec (.decisionWordReceive i word) s = .next (s.done (d.decisionTaken i word))) ∧
    (∀ (i : Lane) (word : DecisionWord), d.inputHeld i true .frame = true → exec (.decisionWordReceive i word) s = .next (s.done (d.holdChange i true .frame (.decision word)))) ∧
    (∀ (i : Lane) (group : Fin 6), d.islandOn i = true → exec (.islandLockstep i group) s = .next (s.done ((d.islandRaise i 0).islandOut i))) ∧
    (∀ (i l : Lane), d.inputHeld i true .frame = false → d.up (.iface i) = true → d.active = some l → d.relayArrives i = true → exec (.activeValueRelay i 0) s = .next (s.done (d.onIsland i fun x => { x with relay := some (d.relayValues l 0), relayAt := d.now, tcmds1 := (((d.relayValues l 0).ax1.tcmd).map sint).toList ++ x.tcmds1, tcmds2 := (((d.relayValues l 0).ax2.tcmd).map sint).toList ++ x.tcmds2 }))) ∧
    (∀ (i l : Lane) (failed : BitVec 22), d.inputHeld i true .frame = false → d.up (.iface i) = true → d.active = some l → d.relayArrives i = true → failed ≠ 0 → exec (.activeValueRelay i failed) s = .next (s.done ((d.onIsland i fun x => { x with relay := some (d.relayValues l failed), relayAt := d.now, tcmds1 := (((d.relayValues l failed).ax1.tcmd).map sint).toList ++ x.tcmds1, tcmds2 := (((d.relayValues l failed).ax2.tcmd).map sint).toList ++ x.tcmds2 }).raise 157))) ∧
    (∀ (i : Lane) (t : Nat), (d.islands.at i).degradedAt = some t → d.islandOn i = true → d.gl i (pgSAFE i) R.SAFE_CFG_DEGR = 1 → t + d.gl i (pgSAFE i) R.SAFE_CFG_DEGR_T * 30000000000 ≤ d.now → exec (.safetyDegradedTimeout i) s = .next (s.done (d.onIsland i fun x => { x with degradedReact := true }))) ∧
    (∀ (i : Lane) (t : Nat), (d.islands.at i).stoDiffAt = some t → d.islandOn i = true → t + d.gl i (pgSAFE i) R.SAFE_STO_DISC * 500000 ≤ d.now → exec (.stoDiscrepancy i) s = .next (s.done (d.stoDiscLatched i))) ∧
    (∀ (i : Lane) (n : Fin 2) (ch : Fin 2) (high : Bool) (held : Nat), d.up (.iface i) = true → d.inputHeld i true (.sdi n) = false → d.gl i (pgSAFE i) R.SAFE_SDIN_FILT n.val * 50000 ≤ held → exec (.sdinChange i n ch high held) s = .next (s.done (d.sdinTaken i n ch high))) ∧
    (∀ (i : Lane) (n : Fin 2) (ch : Fin 2) (high : Bool) (held : Nat), d.up (.iface i) = true → d.inputHeld i true (.sdi n) = true → d.gl i (pgSAFE i) R.SAFE_SDIN_FILT n.val * 50000 ≤ held → exec (.sdinChange i n ch high held) s = .next (s.done (d.holdChange i true (.sdi n) (.sdi n ch high)))) ∧
    (∀ (i : Lane) (n : Fin 2) (t : Nat), (d.islands.at i).sdiBadAt.getD n.val none = some t → d.islandOn i = true → t + d.gl i (pgSAFE i) R.SAFE_SDIN_DISC n.val * 500000 < d.now → exec (.sdinDiscrepancy i n) s = .next (s.done ((((d.onIsland i fun x => { x with sdiFault := x.sdiFault.set n.val true }).islandRaise i 5).safeCause i 2).showSdin i))) ∧
    (∀ (w : Writer) (i : Lane) (value : Word), d.accepts w (pageAddr (pgSAFE i) 0x48) value → exec (.safeRequest w i value) s = .next (s.done (d.took w (pgSAFE i) 0x48 value 0 fun e => e.reqSeen i value))) ∧
    (∀ (w : Writer) (i : Lane) (key : Fin 256), d.accepts w (pageAddr (pgSAFE i) 0x4C) (BitVec.ofNat 32 key.val) → exec (.safeAck w i key) s = .next (s.done (d.took w (pgSAFE i) 0x4C (BitVec.ofNat 32 key.val) 0 fun e => e.safeAck key.val))) ∧
    (∀ (i : Lane) (x : Fin 2), d.islandOn i = true → ((d.islands.at i).ax x).stopReq = true → d.safeState i x = 3 → exec (.safeStopRequest i x) s = .next (s.done (((d.onSafeAx i x fun a => { a with stopReq := false }).onAxis x fun a => { a with ss1Req := a.ss1Req.put i true }).axisStop x ((d.onSafeAx i x fun a => { a with stopReq := false }).sf i x R.SAFE_SS_RAMP)))) ∧
    (∀ (i : Lane) (x : Fin 2), d.islandOn i = true → ((d.islands.at i).ax x).stopReq = true → d.safeState i x = 2 → exec (.safeStopRequest i x) s = .next (s.done ((d.onSafeAx i x fun a => { a with stopReq := false }).motionStop x))) ∧
    (∀ (i : Lane) (x : Fin 2), d.islandOn i = true → ((d.islands.at i).ax x).t0 + d.sf i x R.SAFE_SS_DELAY * 500000 ≤ d.now → d.safeState i x = 3 → exec (.ssDelayExpiry i x) s = .next (s.done (d.stopEnds i x (d.safeView i x)))) ∧
    (∀ (i : Lane) (x : Fin 2), d.islandOn i = true → ((d.islands.at i).ax x).t0 + d.sf i x R.SAFE_SS_DELAY * 500000 ≤ d.now → d.safeState i x = 2 → exec (.ssDelayExpiry i x) s = .next (s.done (d.stopEnds i x (d.safeView i x)))) ∧
    (∀ (i : Lane) (u : List Int), d.islandOn i = true → d.now % 5000 = 0 → d.gl i pgASSAY R.ASSAY_CFG_EN ≠ 0 → exec (.isecSample i u) s = .next (s.done (d.eachAxis fun e x => e.assayAdds i u x))) ∧
    (∀ (i : Lane), d.up (.iface i) = true → d.gl i (pgSAFE i) R.SAFE_REQ_BRAKE = 1 ∨ (d.islands.at i).pduBrake = true ∨ (d.islands.at i).brakeAsked = true ∨ (d.islands.at i).inService = false → exec (.sbcEngage i) s = .next (s.done (d.setBrake i false))) ∧
    (∀ (i : Lane) (x : Fin 2), d.up (.iface i) = true → d.gl i (pgSAFE i) R.SAFE_SBC_AXES / 2 ^ x.val % 2 = 1 → d.safeState i x = 4 → ((d.islands.at i).ax x).t0 + d.gl i (pgSAFE i) R.SAFE_SBC_DLY * 5000000 ≤ d.now → exec (.sbcEngage i) s = .next (s.done (d.setBrake i false))) ∧
    (∀ (i : Lane) (seen : Option Nat), d.islandOn i = true → d.gl i (pgSAFE i) R.SAFE_SBCSTAT_RELEASED ≠ 0 → (d.islands.at i).sbcTesting = false → (d.islands.at i).sbcTestAt + d.gl i (pgSAFE i) R.SAFE_SBC_TPER * 500000000 ≤ d.now → exec (.sbcTest i seen) s = .next (s.done ((d.sl i (pgSAFE i) (d.sbcSwitch i) 0).onIsland i fun x => { x with sbcTesting := true, sbcTestAt := d.now }))) ∧
    (∀ (i : Lane) (t : Nat), d.islandOn i = true → d.gl i (pgSAFE i) R.SAFE_SBCSTAT_RELEASED ≠ 0 → (d.islands.at i).sbcTesting = true → (d.islands.at i).sbcTestAt + d.gl i (pgSAFE i) R.SAFE_SBC_TPW * 500 ≤ d.now → t ≤ (d.sl i (pgSAFE i) (d.sbcSwitch i) 1).gl i (pgSAFE i) R.SAFE_SBC_TPW → exec (.sbcTest i (some t)) s = .next (s.done ((d.sl i (pgSAFE i) (d.sbcSwitch i) 1).onIsland i fun x => { x with sbcTesting := false, sbcTestHigh := !x.sbcTestHigh }))) ∧
    (∀ (i : Lane) (seen : Option Nat), d.islandOn i = true → d.gl i (pgSAFE i) R.SAFE_SBCSTAT_RELEASED ≠ 0 → (d.islands.at i).sbcTesting = true → (d.islands.at i).sbcTestAt + d.gl i (pgSAFE i) R.SAFE_SBC_TPW * 500 ≤ d.now → (∀ t, seen = some t → d.gl i (pgSAFE i) R.SAFE_SBC_TPW < t) → exec (.sbcTest i seen) s = .next (s.done ((((d.sl i (pgSAFE i) (d.sbcSwitch i) 1).onIsland i fun x => { x with sbcTesting := false, sbcTestHigh := !x.sbcTestHigh }).setBrake i false).sbcFault i))) ∧
    (∀ (i : Lane) (milliamp : Nat) (e : Dev), d.islandOn i = true → d.sl i (pgSAFE i) R.SAFE_SBCSTAT_I (min milliamp 65535) = e → ¬ (e.gl i (pgSAFE i) R.SAFE_SBCSTAT_RELEASED = 1 ∧ milliamp < e.gl i (pgSAFE i) R.SAFE_SBC2_IMIN ∧ e.gl i (pgSAFE i) R.SAFE_SBCSTAT_FAULT = 0) → exec (.sbcCoilCheck i milliamp) s = .next (s.done (e.onIsland i fun x => { x with sbcLowAt := none }))) ∧
    (∀ (i : Lane) (milliamp t : Nat) (e : Dev), d.islandOn i = true → d.sl i (pgSAFE i) R.SAFE_SBCSTAT_I (min milliamp 65535) = e → (e.gl i (pgSAFE i) R.SAFE_SBCSTAT_RELEASED = 1 ∧ milliamp < e.gl i (pgSAFE i) R.SAFE_SBC2_IMIN ∧ e.gl i (pgSAFE i) R.SAFE_SBCSTAT_FAULT = 0) → t = (e.islands.at i).sbcLowAt.getD e.now → exec (.sbcCoilCheck i milliamp) s = .next (s.done (if t + 5000000 ≤ e.now then (e.onIsland i fun x => { x with sbcLowAt := some t }).sbcFault i else e.onIsland i fun x => { x with sbcLowAt := some t })))

/-- Commands of the safety layer complete with the effect of their rules. A safety PDU that reaches an island is taken by every consumed entry whose path it is; a missing copy and a timeout are counted and applied; a due produced entry sends its PDU; clears and rebinds act once their write is accepted; entries bind at cycle ends and are verified. -/
def Obligations.SafetyLayerCommandsComplete : Prop :=
  ∀ (s : State) (d : Dev), s.dev = d →
    (∀ (i : Lane) (n : Fin 48) (id : Fin 536870912) (data : List Byte) (age : Nat) (e : Dev), (if (n.val = 7 ∨ n.val = 8) ∧ portLane n.val = i ∧ d.rigOn (portLane n.val) then d.rigHeard (portLane n.val) (id.val % 64) else d) = e → e.slOn i = true → e.pduReaches i n.val = true → exec (.safetyPduReceive i n id data age) s = .next (s.done ((List.range 1024).foldl (fun u k => (u.slPaths i k n.val id.val).foldl (fun v p => v.slTake i k p data (e.arrivalStamp n.val age)) u) e))) ∧
    (∀ (i : Lane) (k : Fin 1024) (c : SlCopy), (d.slE i k.val).copy = some c → d.slOn i = true → c.waits = true → c.at' + d.cw i k.val R.CONN_CMPW * 500 ≤ d.now → exec (.dualMissing i k) s = .next (s.done (d.slMissing i k.val))) ∧
    (∀ (i : Lane) (k : Fin 1024) (e : Nat), d.slOn i = true → d.slEnd i k.val = some e → d.cw i k.val R.CONN_DIR ≠ 1 → e ≤ d.now → exec (.slTimeout i k) s = .next (s.done (d.slTimesOut i k.val))) ∧
    (∀ (i : Lane) (k : Fin 1024) (payload : List Byte) (partner : Option Word), d.slOn i = true → d.cw i k.val R.CONN_EN ≠ 0 → d.cw i k.val R.CONN_DIR ≠ 0 → d.cst i k.val = 2 → d.now % 125000 = 0 → d.cw i k.val R.CONN_PERIOD ≠ 0 → (d.now - (d.slE i k.val).bindAt) / 125000 ≠ 0 → (d.now - (d.slE i k.val).bindAt) / 125000 % d.cw i k.val R.CONN_PERIOD = 0 → exec (.safetyPduProduce i k payload partner) s = .next (s.done (d.pduSends i k.val payload partner))) ∧
    (∀ (w : Writer) (value : Word), d.accepts w (pageAddr pgSLAYER 0x58) value → R.SLAYER_CLR_KEY.get value = 0x4D → exec (.slayerClear w value) s = .next (s.done (d.took w pgSLAYER 0x58 value 0 fun e => e.slayerClear value))) ∧
    (∀ (w : Writer) (value : Word), d.accepts w (pageAddr pgSLAYER 0x50) value → R.SLAYER_REBIND_KEY.get value = 0x7B → exec (.rebind w value) s = .next (s.done (d.took w pgSLAYER 0x50 value 0 fun e => e.rebind true value))) ∧
    (d.now % 125000 = 0 → exec .bindTick s = .next (s.done (d.eachLane fun e i => if e.slOn i then e.slBindAll i else if e.up (.iface i) then e.rebindDue i else e))) ∧
    (∀ (i : Lane), d.slOn i = true → exec (.entryCheckVerify i) s = .next (s.done (d.slVerify i)))

/-- Commands of the CAN controllers complete with the effect of their rules. A frame is filtered and queued or counted; the error states follow; filters, queues and transmit buffers take their writes; a frame goes on the bus, and its attempt ends as sent or not; a queue's window is read. -/
def Obligations.CanCommandsComplete : Prop :=
  ∀ (s : State) (d : Dev), s.dev = d →
    (∀ (n : Fin 4) (f : CanFrame) (sofAge : Nat), d.canTakes n f = true → d.canLoops n = false → d.canSafety n f = false → ¬ (f.fmt.val = 4 ∧ 64 < f.data.length) → (d.canHeard n).canDiverted n f = false → (d.canHeard n).filterOf n f (d.now - sofAge) = none → exec (.canFrameReceive n f sofAge) s = .next (s.done ((d.canHeard n).canNoMatch n f (if (d.canHeard n).cg n R.CAN_CFG_TSPOINT = 0 then (d.now - sofAge) else (d.canHeard n).now)))) ∧
    (∀ (n : Fin 4) (f : CanFrame) (sofAge : Nat) (i : Nat) (c : Word), d.canTakes n f = true → d.canLoops n = false → d.canSafety n f = false → ¬ (f.fmt.val = 4 ∧ 64 < f.data.length) → (d.canHeard n).canDiverted n f = false → (d.canHeard n).filterOf n f (d.now - sofAge) = some (i, c) → exec (.canFrameReceive n f sofAge) s = .next (s.done ((d.canHeard n).canMatch n f (d.now - sofAge) (if (d.canHeard n).cg n R.CAN_CFG_TSPOINT = 0 then (d.now - sofAge) else (d.canHeard n).now) i c))) ∧
    (∀ (n : Fin 4) (f : CanFrame) (sofAge : Nat), d.canTakes n f = true → d.canLoops n = false → d.canSafety n f = true → exec (.canFrameReceive n f sofAge) s = .next (s.done ((d.canFrameTaken n f (d.now - sofAge)).pduArrives (3 + n.val) f.id.val f.data (d.arrivalStamp (3 + n.val) sofAge)))) ∧
    (∀ (n : Fin 4), d.canLive n = true → exec (.busOff n) s = .next (s.done (((d.cs n R.CAN_STAT_STATE 4).canCause n 3).raiseCond (320 + 4 * n.val)))) ∧
    (∀ (n : Fin 4), d.canOn n = true → 128 ≤ d.cg n R.CAN_ERR_TEC → d.cg n R.CAN_STAT_STATE = 2 ∨ d.cg n R.CAN_STAT_STATE = 1 → exec (.errorPassive n) s = .next (s.done (((d.cs n R.CAN_STAT_STATE 3).canCause n 4).raiseCond (321 + 4 * n.val)))) ∧
    (∀ (n : Fin 4) (e : Dev), d.canOn n = true → d.cg n R.CAN_ERR_TEC < 128 → (d.cs n R.CAN_ERR_REC (128 + (Config.freeWord d.freeCtr).toNat % 128)).fresh = e → d.cg n R.CAN_STAT_STATE = 2 ∨ d.cg n R.CAN_STAT_STATE = 1 → exec (.errorPassive n) s = .next (s.done (((e.cs n R.CAN_STAT_STATE 3).canCause n 4).raiseCond (321 + 4 * n.val)))) ∧
    (∀ (n : Fin 4), d.canOn n = true → d.cg n R.CAN_STAT_STATE = 4 → d.cg n R.CAN_CFG_AUTORECOV ≠ 0 → exec (.busOffRecovery n) s = .next (s.done (d.errorActive n 2))) ∧
    (∀ (w : Writer) (n : Fin 4) (f : Fin 128) (value : Word) (t : Target), d.target (rgFILTER + 0x2000 * n.val + 64 * f.val + 0x20) = some t → d.accepts w (rgFILTER + 0x2000 * n.val + 64 * f.val + 0x20) value → exec (.filterUpdate w n f value) s = .next (s.done (d.tookAt w t (rgFILTER + 0x2000 * n.val + 64 * f.val + 0x20) value 0xFFFFFFFF#32 [] fun e => e.filterUpdate n f.val value))) ∧
    (∀ (w : Writer) (n : Fin 4) (q : Fin 2) (k : Fin 22) (l : Lane), d.arrives w = true → (d.who w).readsNothing = false → d.readLane w (d.openCopies (pgCAN n)) = some l → exec (.queueWindowRead w n q k) s = .next (s.done (d.readOf w (d.queueWindowRead (d.who w).ident n q.val k.val)))) ∧
    (∀ (w : Writer) (n : Fin 4) (q : Fin 2), d.accepts w (pageAddr (pgCAN n) 0x64) (BitVec.ofNat 32 (1 + 0x100 * q.val)) → exec (.queueTake w n q) s = .next (s.done (d.took w (pgCAN n) 0x64 (BitVec.ofNat 32 (1 + 0x100 * q.val)) 0 fun e => (e.queueTake (d.who w) n q.val).getD e))) ∧
    (∀ (w : Writer) (n : Fin 4) (q : Fin 2), d.accepts w (pageAddr (pgCAN n) 0x64) (BitVec.ofNat 32 (2 + 0x100 * q.val)) → exec (.queueGive w n q) s = .next (s.done (d.took w (pgCAN n) 0x64 (BitVec.ofNat 32 (2 + 0x100 * q.val)) 0 fun e => (e.queueGive (d.who w) n q.val).getD e))) ∧
    (∀ (w : Writer) (n : Fin 4) (value : Word), d.accepts w (pageAddr (pgCAN n) 0x254) value → exec (.txBufferArm w n value) s = .next (s.done (d.took w (pgCAN n) 0x254 value 0xFFFFFFFF#32 fun e => exceptD (e.txBufferArm (d.who w) n value) e))) ∧
    (∀ (n : Fin 4) (k : Nat), d.canSends n = true → d.exclusiveDue n = some k → exec (.canTransmit n) s = .next (s.done ((d.busStart n (d.cellBuf n k)).onCan n fun u => { u with ended := k :: u.ended }))) ∧
    (∀ (n : Fin 4) (b : Fin 32), d.canSends n = true → d.exclusiveDue n = none → (d.can[n]).pdus = [] ∨ d.exclusiveNow n = true → d.offered n = some b → exec (.canTransmit n) s = .next (s.done (d.busStart n b))) ∧
    (∀ (n : Fin 4), d.canSends n = true → d.exclusiveDue n = none → (d.can[n]).pdus ≠ [] → d.exclusiveNow n = false → exec (.canTransmit n) s = .next (s.done (d.pduStart n))) ∧
    (∀ (n : Fin 4) (sofAge : Nat) (b : Fin 32), (d.can[n]).bus = some b → (d.can[n]).refOut = none → d.canLoops n = false → exec (.txComplete n (.sent) sofAge) s = .next (s.done (d.canSent n b (if d.cg n R.CAN_CFG_TSPOINT = 0 then d.now - sofAge else d.now)))) ∧
    (∀ (n : Fin 4) (r : TxOutcome) (sofAge : Nat) (b : Fin 32), (d.can[n]).bus = some b → r ≠ .sent → exec (.txComplete n r sofAge) s = .next (s.done (d.canNotSent n b r))) ∧
    (∀ (n : Fin 4) (sofAge : Nat) (b : Fin 32) (c : Nat) (e : Dev), (d.can[n]).bus = some b → (d.can[n]).refOut = some c → d.canLoops n = false → d.canSent n b (if d.cg n R.CAN_CFG_TSPOINT = 0 then d.now - sofAge else d.now) = e → exec (.txComplete n (.sent) sofAge) s = .next (s.done (e.cycleStarts n (e.now - sofAge) c))) ∧
    (∀ (n : Fin 4) (r : TxOutcome) (sofAge : Nat), (d.can[n]).bus = none → (d.can[n]).busPdu = true → r ≠ .sent ∨ d.canLoops n = false → exec (.txComplete n r sofAge) s = .next (s.done ((d.busOver n r).onCan n fun u => { u with pdus := if r = .sent then u.pdus.drop 1 else u.pdus }))) ∧
    (∀ (n : Fin 4) (sofAge : Nat) (f : CanFrame), d.canOnBus n = some f → d.canLoops n = true → d.canTakes n f = true → exec (.txComplete n (.sent) sofAge) s = .next (s.done ((d.txEnds n (.sent) sofAge).canArrives n f sofAge))) ∧
    (∀ (w : Writer) (n : Fin 4) (value : Word), d.accepts w (pageAddr (pgCAN n) 0x74) value → exec (.txCancel w n value) s = .next (s.done (d.took w (pgCAN n) 0x74 value 0 fun e => (e.txCancel (d.who w) n value).getD e)))

/-- Commands of the CAN ruling complete with the effect of their rules. The master sends references, a reference received starts a cycle and ends an own mastership, a lost reference and a takeover act when due, a cell's ACT word applies the cell, cells act at their mark and miss at their window's end. -/
def Obligations.RulingCommandsComplete : Prop :=
  ∀ (s : State) (d : Dev), s.dev = d →
    (∀ (n : Fin 4) (b : Fin 32), d.canSends n = true → d.bufEnabled n b = true → d.cg n R.CAN_RULCFG_EN ≠ 0 → d.cg n R.CAN_RULSTAT_MASTER ≠ 0 → (d.can[n]).refAt = none → b.val = d.cg n R.CAN_RULCFG_REFBUF → ((d.can[n]).bufs[b]).state = 1 → exec (.rulingReferenceSend n) s = .next (s.done (d.refSends n b ((d.cg n R.CAN_RULSTAT_CYC + 1) % 2 ^ d.cg n R.CAN_RULCFG_CYCX)))) ∧
    (∀ (n : Fin 4) (b : Fin 32) (t : Nat), d.canSends n = true → d.bufEnabled n b = true → d.cg n R.CAN_RULCFG_EN ≠ 0 → d.cg n R.CAN_RULSTAT_MASTER ≠ 0 → (d.can[n]).refAt = some t → t + d.cg n R.CAN_RULCYC_T ≤ d.now → b.val = d.cg n R.CAN_RULCFG_REFBUF → ((d.can[n]).bufs[b]).state = 1 → exec (.rulingReferenceSend n) s = .next (s.done (d.refSends n b ((d.cg n R.CAN_RULSTAT_CYC + 1) % 2 ^ d.cg n R.CAN_RULCFG_CYCX)))) ∧
    (∀ (n : Fin 4) (b : Fin 32), d.canSends n = true → d.bufEnabled n b = true → d.cg n R.CAN_RULCFG_EN ≠ 0 → d.cg n R.CAN_RULSTAT_MASTER ≠ 0 → d.cg n R.CAN_RULSTAT_REF_OK = 0 → b.val = d.cg n R.CAN_RULCFG_REFBUF → ((d.can[n]).bufs[b]).state = 1 → exec (.rulingReferenceSend n) s = .next (s.done (d.refSends n b ((d.cg n R.CAN_RULSTAT_CYC + 1) % 2 ^ d.cg n R.CAN_RULCFG_CYCX)))) ∧
    (∀ (n : Fin 4) (f : CanFrame) (sofAge i : Nat) (c : Word) (u v e : Dev), d.canTakes n f = true → d.canLoops n = false → d.canSafety n f = false → d.canReference n f (d.now - sofAge) = true → ¬ (f.fmt.val = 4 ∧ 64 < f.data.length) → d.canHeard n = u → u.canDiverted n f = false → u.filterOf n f (d.now - sofAge) = some (i, c) → R.FILT_ACTION.get c = 3 → u.setWord (canLane n) (filtAddr n i 10) (BitVec.ofNat 32 (satInc 4294967295 (u.word (canLane n) (filtAddr n i 10)).toNat)) = v → (v.onCan n fun x => { x with ended := v.rxChecks n i (d.now - sofAge) ++ x.ended }) = e → i = e.cg n R.CAN_RULCFG_REFFILT → e.cg n R.CAN_RULCFG_EN = 1 → exec (.rulingReferenceReceive n f sofAge) s = .next (s.done (e.referenceTaken n f (d.now - sofAge)))) ∧
    (∀ (n : Fin 4) (t : Nat), (d.can[n]).refAt = some t → d.canOn n = true → d.cg n R.CAN_RULCFG_EN ≠ 0 → d.cg n R.CAN_RULSTAT_MASTER ≠ 1 → (d.can[n]).refGone = false → 3 * d.cg n R.CAN_RULCYC_T ≤ 2 * (d.now - t) → exec (.refLost n) s = .next (s.done ((((d.cs n R.CAN_RULSTAT_REF_OK 0).onCan n fun u => { u with refGone := true, acted := [], ended := [] }).canCause n 7).raise (323 + 4 * n.val)))) ∧
    (∀ (n : Fin 4) (t : Nat), (d.can[n]).refAt = some t → d.canLive n = true → d.cg n R.CAN_RULCFG_EN ≠ 0 → d.cg n R.CAN_RULCFG_ROLE = 2 → d.cg n R.CAN_RULSTAT_MASTER ≠ 1 → t + d.cg n R.CAN_RULCYC_T + d.cg n R.CAN_RULBK_T ≤ d.now → exec (.rulingBackupTakeover n) s = .next (s.done (d.cs n R.CAN_RULSTAT_MASTER 1))) ∧
    (∀ (w : Writer) (k : Fin 1024) (value : Word) (t : Target), d.target (rgRULING + 32 * k.val + 28) = some t → d.accepts w (rgRULING + 32 * k.val + 28) value → exec (.rulingCellWrite w k value) s = .next (s.done (d.tookAt w t (rgRULING + 32 * k.val + 28) value 0xFFFFFFFF#32 [] fun e => exceptD (e.rulingCellWrite k.val value) e))) ∧
    (∀ (n : Fin 4) (k : Fin 1024) (js : List Nat), d.canOn n = true → d.cellReady n k.val = true → js = ((List.range 1024).filter fun j => d.cellOf n j R.CELL_MARK == d.cellOf n k.val R.CELL_MARK && d.cellReady n j) → exec (.rulingCellMark n k) s = .next (s.done (js.foldl (fun e j => if (e.onCan n fun u => { u with acted := j :: u.acted }).cellOf n j R.CELL_KIND = 3 then ((e.onCan n fun u => { u with acted := j :: u.acted }).canCause n 8).onCan n (fun u => { u with ended := j :: u.ended }) else e.onCan n fun u => { u with acted := j :: u.acted }) d))) ∧
    (∀ (n : Fin 4) (k : Fin 1024) (c : Nat), d.canOn n = true → d.cg n R.CAN_RULSTAT_REF_OK ≠ 0 → (d.can[n]).acted.contains k.val = true → (d.can[n]).ended.contains k.val = false → d.cycleTime n d.now = some c → d.cellOf n k.val R.CELL_MARK + d.cellOf n k.val R.CELL_WIN ≤ c → exec (.rulingMiss n k) s = .next (s.done (if (d.cellMiss n k.val).cellOf n k.val R.CELL_KIND = 0 ∧ (d.cellMiss n k.val).rulingReady n ((d.cellMiss n k.val).cellBuf n k.val) = true ∧ ((d.can[n]).bufs[(d.cellMiss n k.val).cellBuf n k.val]).keep = false ∧ (d.can[n]).bus ≠ some ((d.cellMiss n k.val).cellBuf n k.val) then (d.cellMiss n k.val).bufDone n ((d.cellMiss n k.val).cellBuf n k.val) 4 else (d.cellMiss n k.val))))

/-- Commands of the RigRaong link complete with the effect of their rules. A head starts cycles, a node takes a cycle start and fills its slot, requests are answered, responses and notices taken, errors counted, a lost head and a takeover act when due, and synchronisation events are queued and taken. -/
def Obligations.LinkNetworkCommandsComplete : Prop :=
  ∀ (s : State) (d : Dev), s.dev = d →
    (∀ (l : Lane), d.rigOn l = true → d.rg l R.LINK_STAT_ISHEAD ≠ 0 → (d.rig.at l).cycAt = none → exec (.linkCycleStart l) s = .next (s.done (d.headCycle l))) ∧
    (∀ (l : Lane) (t : Nat), d.rigOn l = true → d.rg l R.LINK_STAT_ISHEAD ≠ 0 → (d.rig.at l).cycAt = some t → t + d.rg l R.LINK_CYCLE_CYC * 500 ≤ d.now → exec (.linkCycleStart l) s = .next (s.done (d.headCycle l))) ∧
    (∀ (l : Lane) (src : Fin 64) (count : Word), d.rigOn l = true → d.rg l R.LINK_STAT_ISHEAD ≠ 1 → exec (.cycleStartReceive l src count) s = .next (s.done (((d.rs l R.LINK_CYCCNT_N count.toNat).rigCycle l src.val).endCause (rigSrc l 0)))) ∧
    (∀ (l : Lane) (src : Fin 64) (count : Word), d.rigOn l = true → d.rg l R.LINK_STAT_ISHEAD = 1 → src.val < d.rg l R.LINK_NODE_ADDR → exec (.cycleStartReceive l src count) s = .next (s.done ((((((d.rs l R.LINK_STAT_ISHEAD 0).rigCause l 3).raise (rigSrc l 1)).rs l R.LINK_CYCCNT_N count.toNat).rigCycle l src.val).endCause (rigSrc l 0)))) ∧
    (∀ (l : Lane) (collision : Option Nat) (t : Nat), (d.rig.at l).cycAt = some t → d.rigOn l = true → (d.rig.at l).stopped = false → (d.rg l R.LINK_STAT_ISHEAD == 1 && decide (d.now < (d.rig.at l).lineEnd) && (d.rig.at l).sent.any (·.typ == 0) && collision.isSome) = false → (t + 5 * d.rg l R.LINK_SLOT_START) ≤ d.now → d.now < (t + 5 * d.rg l R.LINK_SLOT_START) + 5 * d.rg l R.LINK_SLOT_LEN → d.rg l R.LINK_STAT_HEADOK ≠ 0 ∨ d.rg l R.LINK_STAT_ISHEAD ≠ 0 → exec (.linkSlot l collision) s = .next (s.done (d.slotFills l t (t + 5 * d.rg l R.LINK_SLOT_START) collision))) ∧
    (∀ (l : Lane) (collision : Option Nat) (t : Nat), (d.rig.at l).cycAt = some t → d.rigOn l = true → (d.rig.at l).stopped = false → (d.rg l R.LINK_STAT_ISHEAD == 1 && decide (d.now < (d.rig.at l).lineEnd) && (d.rig.at l).sent.any (·.typ == 0) && collision.isSome) = true → exec (.linkSlot l collision) s = .next (s.done ((d.rigSends l [] d.now).rigCollides l))) ∧
    (∀ (l : Lane) (dst : Fin 64) (epoch : Fin 256) (header : Word) (owner : Bool) (tag : Fin 256) (data : List Word), d.rigOn l = true → d.rg l R.LINK_NODE_ADDR = dst.val → d.rg l R.LINK_NODE_EPOCH ≠ epoch.val → exec (.regReq l dst epoch header owner tag data) s = .next (s.done (d.rigMismatch l tag.val))) ∧
    (∀ (l : Lane) (dst : Fin 64) (epoch : Fin 256) (header : Word) (owner : Bool) (tag : Fin 256) (data : List Word), d.rigOn l = true → d.rg l R.LINK_NODE_ADDR = dst.val → d.rg l R.LINK_NODE_EPOCH = epoch.val → exec (.regReq l dst epoch header owner tag data) s = .next (s.done (d.rigAnswer l header owner tag.val data))) ∧
    (∀ (l : Lane) (src : Fin 64) (rstat : Word) (tag : Fin 256) (data : List Word), d.rigOn l = true → (d.rigHeard l src.val).remoteWaits l tag.val = true → exec (.regRsp l src rstat tag data) s = .next (s.done ((d.rigHeard l src.val).endRequest (rstat.toNat / 2 ^ 24 % 16) data))) ∧
    (∀ (l : Lane) (src : Fin 64) (x : Word) (y : Word) (e : Dev), d.rigOn l = true → d.rigHeard l src.val = e → e.rigOn l = true → e.rg l R.LINK_STAT_ISHEAD ≠ 0 → ¬ (x = 0 ∧ y = 0) → exec (.notice l src (.interrupt x y)) s = .next (s.done (e.rs l (if src.val < 32 then R.LINK_NOTICE0_NODE else R.LINK_NOTICE1_NODE) (e.rg l (if src.val < 32 then R.LINK_NOTICE0_NODE else R.LINK_NOTICE1_NODE) ||| 2 ^ (src.val % 32))))) ∧
    (∀ (l : Lane), d.rigOn l = true → exec (.frameError l) s = .next (s.done (((d.rs l R.LINK_ERR_CRC (satInc 255 (d.rg l R.LINK_ERR_CRC))).rigCause l 4).raise (rigSrc l 3)))) ∧
    (∀ (l : Lane) (t : Nat), d.rigOn l = true → d.rg l R.LINK_STAT_ISHEAD ≠ 1 → (d.rig.at l).headAt = some t → t + 2 * d.rg l R.LINK_CYCLE_CYC * 500 ≤ d.now → exec (.headLost l) s = .next (s.done (((d.rs l R.LINK_STAT_HEADOK 0).rigCause l 1).raiseCond (rigSrc l 0)))) ∧
    (∀ (l : Lane) (t : Nat), d.rigOn l = true → d.rg l R.LINK_CFG_HEAD = 2 → d.rg l R.LINK_STAT_ISHEAD ≠ 1 → (d.rig.at l).headAt = some t → t + 4 * d.rg l R.LINK_CYCLE_CYC * 500 ≤ d.now → exec (.headTakeover l) s = .next (s.done (((((d.rs l R.LINK_STAT_ISHEAD 1).rigCause l 2).endCause (rigSrc l 0)).onRig l fun r => { r with cycAt := none }).linkCycleStart l))) ∧
    (∀ (w : Writer) (l : Lane) (evt : Fin 256), d.accepts w (pageAddr (pgLINK l) 0x6C) (BitVec.ofNat 32 evt.val) → exec (.syncTx w l evt) s = .next (s.done (d.took w (pgLINK l) 0x6C (BitVec.ofNat 32 evt.val) 0 fun e => e.syncTx l evt.val))) ∧
    (∀ (l : Lane) (src : Fin 64) (evt : Fin 256) (due : Word) (e : Dev), d.rigOn l = true → (d.rig.at l).events.contains (src.val, evt.val, due) = false → (if src.val = d.rg l R.LINK_NODE_ADDR then d else d.rigHeard l src.val) = e → 0 ≤ stampDiff e.now due.toNat → exec (.syncEvent l src evt due) s = .next (s.done (((((e.onRig l fun r => { r with events := r.events.erase (src.val, evt.val, due) }).rs l R.LINK_SYNCRX_SRC src.val).rs l R.LINK_SYNCRX_EVT evt.val).rs l R.LINK_SYNCRX_LATE (decide (0 < stampDiff e.now due.toNat)).toNat).rigCause l 6))) ∧
    (∀ (l : Lane) (src : Fin 64) (evt : Fin 256) (due : Word) (e : Dev), d.rigOn l = true → (d.rig.at l).events.contains (src.val, evt.val, due) = false → (if src.val = d.rg l R.LINK_NODE_ADDR then d else d.rigHeard l src.val) = e → stampDiff e.now due.toNat < 0 → exec (.syncEvent l src evt due) s = .next (s.done (e.onRig l fun r => { r with events := r.events ++ [(src.val, evt.val, due)] }))) ∧
    (∀ (l : Lane) (src : Fin 64) (evt : Fin 256) (due : Word), d.rigOn l = true → (d.rig.at l).events.contains (src.val, evt.val, due) = true → 0 ≤ stampDiff d.now due.toNat → exec (.syncEvent l src evt due) s = .next (s.done (((((d.onRig l fun r => { r with events := r.events.erase (src.val, evt.val, due) }).rs l R.LINK_SYNCRX_SRC src.val).rs l R.LINK_SYNCRX_EVT evt.val).rs l R.LINK_SYNCRX_LATE 0).rigCause l 6)))

/-- Commands of Ethernet and of TIME complete with the effect of their rules. Ethernet frames are kept, counted or dropped, read and sent; the link comes and goes; management accesses start and end; the messages of 802.1AS are taken; TIME takes source events, times them out, stamps TIMEREF pulses, and a read of NOW_LO latches NOW_HI. -/
def Obligations.EthernetAndTimeCommandsComplete : Prop :=
  ∀ (s : State) (d : Dev), s.dev = d →
    (∀ (data : List Byte) (fcsOk : Bool) (age : Nat), d.ethOn = true → d.eg R.ETH_STAT_LINK ≠ 0 → fcsOk = true ∧ 60 ≤ data.length ∧ data.length ≤ 1518 → d.ethTakes data = true → (match ethTag data with | some t => d.ethPath t | none => false) = false → ((d.eth.rx.map fun p => p.2.length).foldl (fun a b => a + b) 0 + data.length ≤ 16384) → exec (.ethFrameReceive data fcsOk age) s = .next (s.done (({ d with eth := { d.eth with rx := d.eth.rx ++ [(d.now - age, data)] } }).ethCause 0))) ∧
    (∀ (data : List Byte) (fcsOk : Bool) (age : Nat), d.ethOn = true → d.eg R.ETH_STAT_LINK ≠ 0 → fcsOk = false ∨ data.length < 60 ∨ 1518 < data.length → exec (.ethFrameReceive data fcsOk age) s = .next (s.done (d.es R.ETH_CNT_RXERR (satInc 65535 (d.eg R.ETH_CNT_RXERR))))) ∧
    (∀ (data : List Byte) (fcsOk : Bool) (age : Nat) (t : Nat), d.ethGood data fcsOk = true → ethTag data = some t → d.ethPath t = true → exec (.ethFrameReceive data fcsOk age) s = .next (s.done ((d.ethFrameTaken data fcsOk age).pduArrives 9 t (data.drop 16) (d.now - age)))) ∧
    (∀ (w : Writer) (l : Lane), d.arrives w = true → (d.who w).readsNothing = false → d.readLane w (d.openCopies pgETH) = some l → exec (.ethRxdataRead w) s = .next (s.done (d.readOf w d.ethRead))) ∧
    (∀ (w : Writer) (value : Word), d.accepts w (pageAddr pgETH 0x70) value → exec (.ethTxdata w value) s = .next (s.done (d.took w pgETH 0x70 value 0 fun e => (e.ethTxdata (d.who w) value).getD e))) ∧
    (∀ (w : Writer) (value : Word), d.accepts w (pageAddr pgETH 0x6C) value → exec (.ethTxlen w value) s = .next (s.done (d.took w pgETH 0x6C value 0 fun e => exceptD (e.ethTxlen (d.who w) (R.ETH_TXLEN_LEN.get value)) e))) ∧
    (d.up (.iface .a) = true → d.eg R.ETH_STAT_LINK ≠ 0 → exec .ethLinkDown s = .next (s.done (if ((((d.es R.ETH_STAT_LINK 0).es R.ETH_STAT_AN_DONE 0).es R.ETH_STAT_PTPLOCK 0).ethCause 2).eg H.CTRL_ENABLE = 1 then ((((d.es R.ETH_STAT_LINK 0).es R.ETH_STAT_AN_DONE 0).es R.ETH_STAT_PTPLOCK 0).ethCause 2).raiseCond 346 else ((((d.es R.ETH_STAT_LINK 0).es R.ETH_STAT_AN_DONE 0).es R.ETH_STAT_PTPLOCK 0).ethCause 2)))) ∧
    (d.ethOn = true → d.eg R.ETH_STAT_LINK ≠ 1 → exec .ethLinkUp s = .next (s.done ((((d.es R.ETH_STAT_LINK 1).es R.ETH_STAT_AN_DONE (d.eg R.ETH_CFG_AN)).ethCause 2).endCause 346))) ∧
    (d.eth.sending = true → d.eth.pdus = [] → exec .ethTxdone s = .next (s.done (({ d with eth := { d.eth with sending := false, pdus := [] } }).ethCause 1))) ∧
    (∀ (b : List Byte), d.eth.sending = true → d.eth.pdus.getLast? = some b → exec .ethTxdone s = .next (s.done (({ d with eth := { d.eth with sending := false, sent := some (ethFcs b), pdus := [] } }).ethCause 1))) ∧
    (∀ (w : Writer) (value : Word), d.accepts w (pageAddr pgETH 0x74) (R.ETH_MDIO_GO.put value 1) → exec (.mdioGo w value) s = .next (s.done (d.took w pgETH 0x74 (R.ETH_MDIO_GO.put value 1) (if R.ETH_MDIO_GO.get (d.seenWordBy w pgETH 0x74) = 1 then R.ETH_MDIO_GO.mask else 0) fun e => e.mdioGo (R.ETH_MDIO_GO.put value 1)))) ∧
    (∀ (data : Fin 65536), d.up (.iface .a) = true → d.eg R.ETH_MDIO_GO ≠ 0 → exec (.mdioDone data) s = .next (s.done (((if d.eg R.ETH_MDIO_READ = 1 then d.es R.ETH_MDIO_DATA data.val else d).es R.ETH_MDIO_GO 0).ethCause 4))) ∧
    (∀ (age : Nat), d.ethOn = true → d.eg R.ETH_STAT_LINK ≠ 0 → d.eg R.ETH_CFG_PTP ≠ 0 → exec (.ptpMessage (.sync) age) s = .next (s.done ({ d with eth := { d.eth with syncAt := some (d.now - age) } }))) ∧
    (∀ (age : Nat) (ns : Nat) (x : Nat) (y : Int), d.ethOn = true → d.eg R.ETH_STAT_LINK ≠ 0 → d.eg R.ETH_CFG_PTP ≠ 0 → d.eth.syncAt = some x → d.eth.delay = some y → exec (.ptpMessage (.followUp ns) age) s = .next (s.done (({ d with eth := { d.eth with gptp := some ((ns + y).toNat, x) } }).es R.ETH_STAT_PTPLOCK 1))) ∧
    (∀ (age : Nat) (t1 : Nat) (t2 : Nat) (t3 : Nat) (t4 : Nat), d.ethOn = true → d.eg R.ETH_STAT_LINK ≠ 0 → d.eg R.ETH_CFG_PTP ≠ 0 → exec (.ptpMessage (.peerDelay t1 t2 t3 t4) age) s = .next (s.done ({ d with eth := { d.eth with delay := some ((((t4 : Int) - t1) - ((t3 : Int) - t2)) / 2) } }))) ∧
    (∀ (age : Nat), d.ethOn = true → d.eg R.ETH_STAT_LINK ≠ 0 → d.eg R.ETH_CFG_PTP ≠ 0 → exec (.ptpMessage (.requestTaken) age) s = .next (s.done ({ d with eth := { d.eth with ptpSent := d.eth.ptpSent ++ [.answer (d.now - age)] } }))) ∧
    (∀ (age : Nat), d.ethOn = true → d.eg R.ETH_STAT_LINK ≠ 0 → d.eg R.ETH_CFG_PTP ≠ 0 → exec (.ptpMessage (.requestSent) age) s = .next (s.done ({ d with eth := { d.eth with ptpSent := d.eth.ptpSent ++ [.request (d.now - age)] } }))) ∧
    (∀ (domain : Nat) (age : Nat) (a : Int) (b : Int), d.sourcePair domain age = some (a, b) → d.copies pgTIME ≠ [] → d.tg H.CTRL_ENABLE ≠ 0 → exec (.timeSourceEvent domain age) s = .next (s.done (d.timeTaken a b))) ∧
    (∀ (t : Nat), d.time.lastEvent = some t → d.copies pgTIME ≠ [] → d.tg H.CTRL_ENABLE ≠ 0 → t + 4 * d.tg R.TIME_EXPINT_T * 500 ≤ d.now → exec .timeEventTimeout s = .next (s.done (if ({ d.s pgTIME R.TIME_STAT_VALID 0 with time := { (d.s pgTIME R.TIME_STAT_VALID 0).time with lastEvent := none, good := 0, bad := 0 } }).tg R.TIME_STAT_SYNC = 1 then ((({ d.s pgTIME R.TIME_STAT_VALID 0 with time := { (d.s pgTIME R.TIME_STAT_VALID 0).time with lastEvent := none, good := 0, bad := 0 } }).s pgTIME R.TIME_STAT_SYNC 0).cause pgTIME 1).raise 348 else ({ d.s pgTIME R.TIME_STAT_VALID 0 with time := { (d.s pgTIME R.TIME_STAT_VALID 0).time with lastEvent := none, good := 0, bad := 0 } })))) ∧
    (∀ (rising : Bool) (age : Nat), d.up (.iface .b) = true → rising ≠ (d.tg R.TIME_CFG_PPSPOL == 1) → exec (.timerefPulse rising age) s = .next (s.done ((d.s pgTIME R.TIME_PPS_T_T ((d.now - age) % 2 ^ 32)).cause pgTIME 4))) ∧
    (∀ (w : Writer) (l : Lane), d.arrives w = true → (d.who w).readsNothing = false → d.readLane w (d.openCopies pgTIME) = some l → exec (.nowLoRead w) s = .next (s.done (d.readOf w (d.nowLoRead (d.who w).ident))))

/-- Commands of Hallmark, Ledger and Tinker complete with the effect of their rules. Hallmark takes data, check-in codes, starts, closes and restores; Ledger raises, clears, forces and counts its sources and finalises FIRST; Tinker starts and ends slice tests, sweeps, aborts and clears failures. -/
def Obligations.ServiceCommandsComplete : Prop :=
  ∀ (s : State) (d : Dev), s.dev = d →
    (∀ (w : Writer) (u : Fin 16) (value : Word), d.accepts w (pageAddr pgHALLMARK (0x88 + 0x20 * u.val)) value → exec (.hallmarkData4 w u value) s = .next (s.done (d.took w pgHALLMARK (0x88 + 0x20 * u.val) value 0 fun e => ((e.tinkerNeedBoth true u.val).hmData u.val (wordBytes value)).getD e))) ∧
    (∀ (w : Writer) (u : Fin 16) (value : Word), d.accepts w (pageAddr pgHALLMARK (0x8C + 0x20 * u.val)) value → exec (.hallmarkData1 w u value) s = .next (s.done (d.took w pgHALLMARK (0x8C + 0x20 * u.val) value 0 fun e => ((e.tinkerNeedBoth true u.val).hmData u.val [BitVec.ofNat 8 value.toNat]).getD e))) ∧
    (∀ (w : Writer) (u : Fin 16) (value : Word), d.accepts w (pageAddr pgHALLMARK (0x90 + 0x20 * u.val)) value → exec (.hallmarkCheckin w u value) s = .next (s.done (d.took w pgHALLMARK (0x90 + 0x20 * u.val) value 0 fun e => e.hmSet u.val R.HALLMARK_CHECKIN_C value.toNat))) ∧
    (∀ (w : Writer) (u : Fin 16), d.accepts w (pageAddr pgHALLMARK (0x94 + 0x20 * u.val)) 0x40000000#32 → exec (.hallmarkStart w u) s = .next (s.done (d.took w pgHALLMARK (0x94 + 0x20 * u.val) 0x40000000#32 0 fun e => e.hmStart u.val))) ∧
    (∀ (w : Writer) (u : Fin 16) (alive : Fin 256), d.accepts w (pageAddr pgHALLMARK (0x94 + 0x20 * u.val)) (BitVec.ofNat 32 (0x80000000 + alive.val)) → exec (.appendClose w u alive) s = .next (s.done (d.took w pgHALLMARK (0x94 + 0x20 * u.val) (BitVec.ofNat 32 (0x80000000 + alive.val)) 0 fun e => (e.hmClose u.val alive.val).getD e))) ∧
    (∀ (w : Writer) (u : Fin 16) (alive : Fin 256), d.accepts w (pageAddr pgHALLMARK (0x94 + 0x20 * u.val)) (BitVec.ofNat 32 (0x80000000 + alive.val)) → exec (.stripClose w u alive) s = .next (s.done (d.took w pgHALLMARK (0x94 + 0x20 * u.val) (BitVec.ofNat 32 (0x80000000 + alive.val)) 0 fun e => (e.hmClose u.val alive.val).getD e))) ∧
    (∀ (w : Writer) (u : Fin 16) (value : Word), d.accepts w (pageAddr pgHALLMARK (0x84 + 0x20 * u.val)) value → exec (.hallmarkValueRestore w u value) s = .next (s.done (d.took w pgHALLMARK (0x84 + 0x20 * u.val) value 0 id))) ∧
    (∀ (n : Fin 384) (age : Nat) (detail : Fin 8), d.copies pgLEDGER ≠ [] → exec (.ledgerRaise n age detail) s = .next (s.done (d.raiseAt n.val (d.now - age) detail.val))) ∧
    (∀ (w : Writer) (n : Fin 384), d.accepts w (pageAddr pgLEDGER (0x200 + 4 * n.val)) (d.fieldWord w pgLEDGER R.LEDGER_SRC_STATUS 1 n.val) → (srcDefault n.val).isSome = true → exec (.sourceClear w n) s = .next (s.done (d.took w pgLEDGER (0x200 + 4 * n.val) (d.fieldWord w pgLEDGER R.LEDGER_SRC_STATUS 1 n.val) (R.LEDGER_SRC_STATUS.mask ||| R.LEDGER_SRC_FORCE.mask) fun e => e.sourceClear n.val))) ∧
    (∀ (w : Writer) (key : Fin 256), d.accepts w (pageAddr pgLEDGER 0x50) (keyWord key.val 0) → exec (.clrall w key) s = .next (s.done (d.took w pgLEDGER 0x50 (keyWord key.val 0) 0 fun e => e.clrall key.val))) ∧
    (∀ (w : Writer) (n : Fin 384) (on : Bool), d.accepts w (pageAddr pgLEDGER (0x200 + 4 * n.val)) (d.fieldWord w pgLEDGER R.LEDGER_SRC_FORCE on.toNat n.val) → (srcDefault n.val).isSome = true → R.LEDGER_SRC_FORCE.get (d.seenWordBy w pgLEDGER (0x200 + 4 * n.val)) ≠ on.toNat ∨ (on = true ∧ mayForce (d.who w) = true) → exec (.sourceForce w n on) s = .next (s.done (d.took w pgLEDGER (0x200 + 4 * n.val) (d.fieldWord w pgLEDGER R.LEDGER_SRC_FORCE on.toNat n.val) (R.LEDGER_SRC_STATUS.mask ||| R.LEDGER_SRC_FORCE.mask) fun e => e.sourceForce n.val on))) ∧
    (∀ (w : Writer), d.accepts w (pageAddr pgLEDGER 0x44) (d.fieldWord w pgLEDGER R.LEDGER_FIRST_VALID 1) → exec (.firstRearm w) s = .next (s.done (d.took w pgLEDGER 0x44 (d.fieldWord w pgLEDGER R.LEDGER_FIRST_VALID 1) 0xFFFFFFFF#32 fun e => e.firstRearm))) ∧
    (d.g pgLEDGER R.LEDGER_FIRST_VALID = 1 → d.g pgLEDGER R.LEDGER_FIRST_FINAL = 0 → d.ledger.firstStamp + 1000 ≤ d.now → exec .firstFinal s = .next (s.done ((d.s pgLEDGER R.LEDGER_FIRST_FINAL 1).cause pgLEDGER 1))) ∧
    (∀ (w : Writer) (n : Fin 384), d.accepts w (pageAddr pgLEDGER (0x200 + 4 * n.val)) (d.fieldWord w pgLEDGER R.LEDGER_SRC_CNTCLR 1 n.val) → (srcDefault n.val).isSome = true → exec (.cntclr w n) s = .next (s.done (d.took w pgLEDGER (0x200 + 4 * n.val) (d.fieldWord w pgLEDGER R.LEDGER_SRC_CNTCLR 1 n.val) (R.LEDGER_SRC_STATUS.mask ||| R.LEDGER_SRC_FORCE.mask) fun e => e.cntclr n.val))) ∧
    (∀ (x : Die) (n : Nat), d.g pgTINKER H.CTRL_ENABLE ≠ 0 → d.up x = true → d.tinker.sweep = none → ((d.tinker.starts.any fun p => p.1 == x && decide (d.now < p.2 + 500 * d.g pgTINKER R.TINKER_CFG_GAP)) = false) → ((d.tinker.tests.any fun p => p.1 == x) = false) → (((List.range 46).map fun k => ((match d.tinker.turn.find? (fun p => p.1 == x) with | some p => p.2 + 1 | none => 0) + k) % 46).find? (fun s => sliceOn x s && decide (s < 46) && d.sliceOnline s && d.sliceIdle x s) = some n) → exec (.tinkerSliceStart x) s = .next (s.done (d.onTinker fun t => { t with tests := (x, n, d.now) :: t.tests, starts := (x, d.now) :: t.starts.filter (fun p => p.1 != x), turn := (x, n) :: t.turn.filter (fun p => p.1 != x) }))) ∧
    (∀ (x : Die) (sn : Fin 64) (sigOk : Bool), d.up x = true → ((d.tinker.tests.any fun t => t.1 == x && t.2.1 == sn.val && decide (t.2.2 ≤ d.now)) = true) → exec (.tinkerSliceEnd x sn sigOk) s = .next (s.done (d.sliceEnds x sn.val sigOk))) ∧
    (∀ (w : Writer), d.accepts w (pageAddr pgTINKER 0x44) (keyWord 0x8E 1) → exec (.tinkerSweep w) s = .next (s.done (d.took w pgTINKER 0x44 (keyWord 0x8E 1) 0 fun e => e.tinkerSweep.getD e))) ∧
    (∀ (w : Writer), d.accepts w (pageAddr pgTINKER 0x44) (keyWord 0x8E 2) → exec (.tinkerAbort w) s = .next (s.done (d.took w pgTINKER 0x44 (keyWord 0x8E 2) 0 fun e => e.tinkerAbort))) ∧
    (∀ (w : Writer) (n : Fin 2) (value : Word), d.accepts w (pageAddr pgTINKER (0x50 + 4 * n.val)) value → exec (.tinkerFailClear w n value) s = .next (s.done (d.took w pgTINKER (0x50 + 4 * n.val) value 0xFFFFFFFF#32 fun e => e.tinkerFailClear n.val value)))

/-- Thermal commands complete with the effect of their rules. A reading of an available sensor is taken, a clear acts once accepted, the record of a shutdown is written on each interface die, DORMANT is entered when it is, and a retry is judged by two rounds of readings. -/
def Obligations.ThermalCommandsComplete : Prop :=
  ∀ (s : State) (d : Dev), s.dev = d →
    (∀ (sn : Fin 20) (count age : Nat), d.modeIs [.dormant, .watch] = false → d.sensAvail sn.val = true → d.copies pgTEMP ≠ [] → exec (.tempReading sn count age) s = .next (s.done (d.tempTaken sn (satS 16 (d.tempOf sn.val count)) age))) ∧
    (∀ (w : Writer) (value : Word), d.accepts w (pageAddr pgTEMP 0x44) value → exec (.tempClear w value) s = .next (s.done (d.took w pgTEMP 0x44 value 0 fun e => e.tempClear value))) ∧
    (∀ (l : Lane) (r : ThermalRec), d.thermal.pend = some r → d.thermal.active = true → d.up (.iface l) = true → d.thermal.written.contains l = false → exec (.thermalRecordWritten l) s = .next (s.done (d.recordStored l r))) ∧
    (d.thermal.active = true → ((([Lane.a, Lane.b].filter fun l => d.up (.iface l)).all fun l => d.thermal.written.contains l) = true) → d.thermalOff = true → exec .thermalDormantEntry s = .next (s.done ({ (d.goMode .dormant true) with thermal := { (d.goMode .dormant true).thermal with active := false, pend := none, written := [], done := [], since := (d.goMode .dormant true).now, retry := 500000000 * d.g pgTEMP R.TEMP_CFG_RETRY } }))) ∧
    (∀ (first : List (Option Int)) (second : List (Option Int)), d.mode.cur = .dormant → d.thermalLatch = true → (([Lane.a, Lane.b].any fun l => d.up (.iface l)) = true ∨ d.thermal.since + d.thermal.retry ≤ d.now) → exec (.thermalRetryWake first second) s = .next (s.done (d.retryJudged first second)))

/-- Commands of update, unlock and attestation complete with the effect of their rules. The update commands begin, finish, activate, abort, prefer, commit and provision once accepted; erases, page programs, verifications, settling and failures follow; challenges, tokens, object words and quotes act as their rules say. -/
def Obligations.UpdateCommandsComplete : Prop :=
  ∀ (s : State) (d : Dev), s.dev = d →
    (∀ (w : Writer) (bank : Fin 2), d.accepts w (pageAddr pgNVM 0x44) (updWord 1 bank.val 0) → exec (.updBegin w bank) s = .next (s.done (d.took w pgNVM 0x44 (updWord 1 bank.val 0) 0 fun e => e.updBegin bank.val))) ∧
    (d.updState = 1 → exec .eraseComplete s = .next (s.done (((d.onNvm fun _ n => { n with words := n.words.filter fun kw => kw.1 / 0x80000 != d.boot.bank }).s pgNVM R.NVM_WADDR_PAGE 0).setUpd 2))) ∧
    (∀ (w : Writer) (value : Word), d.accepts w (pageAddr pgNVM 0x1FC) value → exec (.pageProgram w value) s = .next (s.done (d.took w pgNVM 0x1FC value 0 fun e => e.pageProgram))) ∧
    (d.updState = 3 → exec .programComplete s = .next (s.done (d.setUpd 2))) ∧
    (∀ (w : Writer), d.accepts w (pageAddr pgNVM 0x44) (updWord 2 0 0) → exec (.updFinish w) s = .next (s.done (d.took w pgNVM 0x44 (updWord 2 0 0) 0 fun e => (e.tinkerNeedBoth true 22).updFinish))) ∧
    (∀ (e : Dev), d.updState = 4 → (d.onNvm fun _ n => { n with full := n.full.set d.boot.bank true }) = e → exec .verifyComplete s = .next (s.done (((e.bankShow e.boot.bank (e.bankCode e.boot.bank)).setUpd 0).cause pgNVM 0))) ∧
    (∀ (w : Writer) (bank : Fin 2) (scope : Fin 8), d.accepts w (pageAddr pgNVM 0x44) (updWord 3 bank.val scope.val) → exec (.updActivate w bank scope) s = .next (s.done (d.took w pgNVM 0x44 (updWord 3 bank.val scope.val) 0 fun e => { e with boot := { e.boot with actReq := some (bank.val, scope.val, (d.who w).ident) } }))) ∧
    (∀ (b : Nat) (l : Lane) (t : Nat), d.boot.act = some (b, l, true, t) → d.updState = 6 → t + d.g pgNVM R.NVM_UPDCFG_SETTLE * 500000 ≤ d.now → exec .activationSettle s = .next (s.done (d.tryLane b l.other false))) ∧
    (∀ (b : Nat) (l : Lane) (x : Bool) (t : Nat), d.boot.act = some (b, l, x, t) → d.updState = 5 → (d.lanes.at l).eligible = false → t + d.g pgNVM R.NVM_UPDCFG_TMO * 500000 ≤ d.now → exec .updateFailed s = .next (s.done (d.updFails ([Lane.a, Lane.b].filter fun m => d.boot.run.at m == some b)))) ∧
    (∀ (w : Writer), d.accepts w (pageAddr pgNVM 0x44) (updWord 4 0 0) → exec (.updAbort w) s = .next (s.done (d.took w pgNVM 0x44 (updWord 4 0 0) 0 fun e => e.updAbort))) ∧
    (∀ (w : Writer) (bank : Fin 2), d.accepts w (pageAddr pgNVM 0x44) (updWord 5 bank.val 0) → exec (.updSetpref w bank) s = .next (s.done (d.took w pgNVM 0x44 (updWord 5 bank.val 0) 0 fun e => e.updSetpref bank.val))) ∧
    (∀ (w : Writer), d.accepts w (pageAddr pgNVM 0x44) (updWord 6 0 0) → exec (.updCommitSvn w) s = .next (s.done (d.took w pgNVM 0x44 (updWord 6 0 0) 0 fun e => e.updCommitSvn))) ∧
    (∀ (w : Writer) (healthy : Bool), ({ d with boot := { d.boot with given := some ({ noFacts with healthy := healthy }) } }).accepts w (pageAddr pgNVM 0x44) (updWord 7 0 0) → exec (.updProvision w healthy) s = .next (s.done (d.withFacts ({ noFacts with healthy := healthy }) fun x => x.took w pgNVM 0x44 (updWord 7 0 0) 0 fun e => { e.updProvision e.openFacts.healthy with freeCtr := e.freeCtr + 10 }))) ∧
    (∀ (w : Writer) (entropy : Option (List Word)), ({ d with boot := { d.boot with given := some ({ noFacts with entropy := entropy }) } }).accepts w (pageAddr pgNVM 0x5C) (keyWord 0xE1 1) → exec (.unlockChallenge w entropy) s = .next (s.done (d.withFacts ({ noFacts with entropy := entropy }) fun x => x.took w pgNVM 0x5C (keyWord 0xE1 1) 0 fun e => { e.challenge e.openFacts.entropy with freeCtr := e.freeCtr + 10 }))) ∧
    (∀ (w : Writer), d.accepts w (pageAddr pgNVM 0x5C) (keyWord 0xE1 2) → exec (.unlockSubmit w) s = .next (s.done (d.took w pgNVM 0x5C (keyWord 0xE1 2) 0 fun e => (e.tinkerNeedBoth true 22).submit))) ∧
    (∀ (w : Writer) (v : Word), d.accepts w (pageAddr pgNVM 0xC4) v → exec (.objdataAccess w (some v)) s = .next (s.done (d.took w pgNVM 0xC4 v 0xFFFFFFFF#32 fun e => e.objWrite v))) ∧
    (∀ (w : Writer) (l : Lane), d.arrives w = true → (d.who w).readsNothing = false → d.readLane w (d.openCopies pgNVM) = some l → exec (.objdataAccess w (none)) s = .next (s.done (d.readOf w (d.objWord, d.objNext)))) ∧
    (∀ (entropy : Option (List Word)), d.chainClosed = true → d.nvmDies ≠ [] → exec (.jtagChallenge entropy) s = .next (s.done (({ d with host := { d.host with readData := (List.range 8).map fun i => BitVec.ofNat 32 (d.g pgNVM R.NVM_CHAL_C i) } }).challenge entropy))) ∧
    (∀ (token : List Word), (d.tinkerNeedBoth true 22).chainClosed = true → (d.tinkerNeedBoth true 22).nvmDies ≠ [] → exec (.jtagTokenSubmit token) s = .next (s.done (({ (d.tinkerNeedBoth true 22) with boot := { (d.tinkerNeedBoth true 22).boot with token := (List.range 945).map fun i => (i, token.getD i 0) } }).submit))) ∧
    (∀ (w : Writer) (value : Word), d.accepts w (pageAddr pgNVM 0x60) value → R.NVM_QUOTE_KEY.get value = 0x51 → R.NVM_QUOTE_GO.get value = 1 → exec (.quote w value) s = .next (s.done (d.took w pgNVM 0x60 value 0 fun e => (e.tinkerNeedBoth true 22).quoteGo))) ∧
    (∀ (l : Lane) (nonce : List Word), d.boot.quote = some (l, nonce) → (({ d with boot := { d.boot with quote := none } }).s pgNVM R.NVM_QUOTE_BUSY 0).up (.iface l) = true → exec .quoteComplete s = .next (s.done ((({ d with boot := { d.boot with quote := none } }).s pgNVM R.NVM_QUOTE_BUSY 0).quoteMade l nonce)))

/-- Resource claims and releases act once accepted, and protection takes and gives back what it must. CLAIM of RES claims or releases for its writer; a protection function with a cause takes its resource, or waits behind a higher one and is reported; a take without a cause ends. -/
def Obligations.ResourceCommandsComplete : Prop :=
  ∀ (s : State) (d : Dev), s.dev = d →
    (∀ (w : Writer) (r : Fin 256), d.accepts w (pageAddr pgRES 0x40) (keyWord 0x3A (0x100 + r.val)) → exec (.resourceClaim w r) s = .next (s.done (d.took w pgRES 0x40 (keyWord 0x3A (0x100 + r.val)) 0 fun e => e.resourceClaim (d.who w) r.val))) ∧
    (∀ (w : Writer) (r : Fin 256), d.accepts w (pageAddr pgRES 0x40) (keyWord 0x3A (0x200 + r.val)) → exec (.resourceRelease w r) s = .next (s.done (d.took w pgRES 0x40 (keyWord 0x3A (0x200 + r.val)) 0 fun e => e.resourceRelease (d.who w) r.val))) ∧
    (∀ (r : Fin 256) (f : Fin 6), d.copies pgRES ≠ [] → d.takeCause r.val (0x40 + f.val) = true → ((d.res.takes.any fun t => t.res == r.val && t.fn == 0x40 + f.val) = false) → d.resTaker r.val = none → exec (.resourceTake r f) s = .next (s.done (({ d with res := { d.res with takes := { res := r.val, fn := 0x40 + f.val, on := true } :: d.res.takes } }).takeStarts r.val))) ∧
    (∀ (r : Fin 256) (f : Fin 6) (k : Nat), d.copies pgRES ≠ [] → d.takeCause r.val (0x40 + f.val) = true → ((d.res.takes.any fun t => t.res == r.val && t.fn == 0x40 + f.val) = false) → d.resTaker r.val = some k → k < 0x40 + f.val → exec (.resourceTake r f) s = .next (s.done ((({ d with res := { d.res with takes := { res := r.val, fn := 0x40 + f.val, on := false } :: d.res.takes } }).cause pgRES 2).raise 378))) ∧
    (∀ (r : Fin 256) (f : Fin 6), d.takeCause r.val (0x40 + f.val) = false → exec (.resourceTakeEnd r f) s = .next (s.done (if (({ d with res := { d.res with takes := d.res.takes.filter (fun t : Take => !(t.res == r.val && t.fn == 0x40 + f.val)) } }).resTaker r.val).isSome then ({ d with res := { d.res with takes := d.res.takes.filter (fun t : Take => !(t.res == r.val && t.fn == 0x40 + f.val)) } }) else match ({ d with res := { d.res with takes := d.res.takes.filter (fun t : Take => !(t.res == r.val && t.fn == 0x40 + f.val)) } }).nextTake r.val with | none => { ({ d with res := { d.res with takes := d.res.takes.filter (fun t : Take => !(t.res == r.val && t.fn == 0x40 + f.val)) } }) with res := { ({ d with res := { d.res with takes := d.res.takes.filter (fun t : Take => !(t.res == r.val && t.fn == 0x40 + f.val)) } }).res with takes := ({ d with res := { d.res with takes := d.res.takes.filter (fun t : Take => !(t.res == r.val && t.fn == 0x40 + f.val)) } }).res.takes.filter (fun t : Take => t.res != r.val) } } | some n => ({ ({ d with res := { d.res with takes := d.res.takes.filter (fun t : Take => !(t.res == r.val && t.fn == 0x40 + f.val)) } }) with res := { ({ d with res := { d.res with takes := d.res.takes.filter (fun t : Take => !(t.res == r.val && t.fn == 0x40 + f.val)) } }).res with takes := ({ d with res := { d.res with takes := d.res.takes.filter (fun t : Take => !(t.res == r.val && t.fn == 0x40 + f.val)) } }).res.takes.map (fun t : Take => if t.res = r.val ∧ t.fn = n then { t with on := true } else t) } }).takeStarts r.val)))

/-- A step runs the command at the front of the queue on the rest of the queue. For every command c, every queue r and every state s, step of s with c :: r waiting is exec of c on s with r waiting. -/
def Obligations.StepRunsTheFrontCommand : Prop :=
 ∀ (c : Instr) (r : List Instr) (s : State), step { s with pending := c :: r } = exec c { s with pending := r }

/-- On an empty queue a step lets one tick of device time pass. With no command waiting a step answers the state in which the device has ticked, and while a main clock runs that tick adds exactly one to device time; besides, the accumulator of a lane whose main clock stands follows device time, and nothing else changes. That a step on an empty queue is a tick is the model's choice (assumption 2). -/
def Obligations.EmptyQueueIsOneTick : Prop :=
 ∀ s : State, s.pending = [] →
   step s = .next { s with dev := s.dev.tick } ∧
   (s.dev.clocks.a.main = true ∨ s.dev.clocks.b.main = true →
     ∃ c : PerLane ClockState, step s = .next { s with dev := { s.dev with now := s.dev.now + 1, clocks := c } } ∧
       ∀ l : Lane, c.at l = if s.dev.power.aonRunning.at l = true ∧ (s.dev.clocks.at l).main = false
         then { s.dev.clocks.at l with acc := (s.dev.now + 1) * 128 } else s.dev.clocks.at l)

/-- Every command answers a next state and leaves the rest of the queue alone. For every command and every state exec answers a next state, never a fault or a refusal, and the queue of the next state is the queue it was given. -/
def Obligations.EveryCommandCompletes : Prop :=
 ∀ (c : Instr) (s : State), ∃ t : State, exec c s = .next t ∧ t.pending = s.pending

/-- A step keeps a queue of well-formed commands well-formed, in order. Where every waiting command is well-formed, every step answers a next state whose queue is the old one without its front command, so each command in it is well-formed. -/
def Obligations.QueueStaysWellFormed : Prop :=
 ∀ s : State, (∀ c ∈ s.pending, c.wellFormed = true) →
   ∃ t : State, step s = .next t ∧ t.pending = s.pending.tail ∧ ∀ c ∈ t.pending, c.wellFormed = true

/-- After reset every register reads its reset value, the register cells are canonical, no gate is on and nothing waits. In State.reset the queue is empty, every word of every copy reads the reset value of the field tables, the cells are canonical, no output has its gate on, no link is live, no lane has a role and no run, request or commit is in progress. The values of state that no register shows are the model's choice (assumption 5). -/
def Obligations.ResetState : Prop :=
 State.reset.pending = [] ∧ (∀ (l : Lane) (a : Nat), State.reset.dev.word l a = addrReset a) ∧ State.reset.dev.canonical ∧
 (∀ o : Fin 14, (State.reset.dev.outs[o]).gateOn = false ∧ (State.reset.dev.outs[o]).on = false) ∧ State.reset.dev.legsApart ∧
 (∀ k : LinkRx, (State.reset.dev.link k).live = false) ∧ State.reset.dev.active = none ∧
 (∀ l : Lane, (State.reset.dev.quill.at l).run = none) ∧ State.reset.dev.host.request = none ∧ State.reset.dev.commitPending = []

/-- A word stored in one copy of a register reads back there, every other word reads as before, and the cells stay canonical. On canonical cells, storing a word at an address of a lane's copy makes that address read it, leaves every other address of that copy and every address of the other copy as it was, keeps the cells canonical and changes nothing but the cells. Addresses are below 0x1000000. -/
def Obligations.RegisterWordsKeepTheirPlaces : Prop :=
 ∀ (d : Dev) (l : Lane) (a : Nat) (v : Word), d.canonical → a < 0x1000000 →
   (d.setWord l a v).word l a = v ∧
   (∀ (m : Lane) (b : Nat), b < 0x1000000 → (m, b) ≠ (l, a) → (d.setWord l a v).word m b = d.word m b) ∧
   (d.setWord l a v).canonical ∧ d.setWord l a v = { d with regs := (d.setWord l a v).regs }

/-- The store of an accepted write sets the RW and RWL bits it carries, clears the W1C bits it writes 1 to, and touches no other word. In every copy that the write reaches the stored word takes the carried value in its RW and RWL fields but for the kept bits, clears the W1C bits written 1, and keeps every other bit; every other word of the two copies reads as before; besides the cells only staged and frozen words change. -/
def Obligations.AcceptedWriteStoresItsFields : Prop :=
 ∀ (d : Dev) (t : Target) (k : Nat) (v keep : Word), d.canonical → k < 0x1000000 → t.copies.Nodup →
   let rw := accMask t.flds (fun x => x == .rw || x == .rwl) &&& ~~~keep
   let w1 := accMask t.flds (· == .w1c) &&& ~~~keep
   (∀ l ∈ t.copies, (d.store t k v keep).word l k = ((d.word l k &&& ~~~rw) ||| (v &&& rw)) &&& ~~~(v &&& w1)) ∧
   (∀ l, l ∉ t.copies → (d.store t k v keep).word l k = d.word l k) ∧
   (∀ (l : Lane) (b : Nat), b < 0x1000000 → b ≠ k → (d.store t k v keep).word l b = d.word l b) ∧
   d.store t k v keep = { d with regs := (d.store t k v keep).regs, staged := (d.store t k v keep).staged, frozen := (d.store t k v keep).frozen }

/-- A read of a register without a read side effect leaves the device as it is. A READ frame by any identity whose words all stand in pages other than the CAN, TIME, NVM and ETH pages, or in table regions, leaves the device as it is whatever its result; a word read by itself there does the same, and where the word exists and its page is up the value is the one the register shows that identity. -/
def Obligations.PlainReadsLeaveTheDevice : Prop :=
 let plain := fun a : Nat => 0x2D000 ≤ a ∨ (a / 0x1000 ∉ [0x24, 0x25, 0x26, 0x27] ∧ a / 0x1000 ≠ pgTIME ∧ a / 0x1000 ≠ pgNVM ∧ a / 0x1000 ≠ pgETH)
 ∀ (d : Dev) (w : Writer) (who : Who),
   (∀ (header : Word) (count : Nat), (∀ i < count, plain (frameAddr header i)) → (d.readFrame w who header count).2.2 = d) ∧
   (∀ (a : Nat) (t : Target) (l : Lane), plain a → a % 4 = 0 → d.target a = some t → d.readLane w t.copies = some l →
     (a < 0x2D000 → (d.target (a / 0x1000 * 0x1000)).map (·.copies) = some t.copies) →
     d.readWord w who a = (.ok, d.showWord who.ident l a, d))

/-- A refused write sets CAUSE.REFUSED of its target page, and a core that wrote takes an access fault. For every refused write that arrives, of an address with a target page, in a page or in a region, the command leaves CAUSE.REFUSED set in every available copy of that page, the result shown, and a store access fault exactly where the writer is a core; beside that mark stands at most one of the marks that the chapters give a refusal. The state is the one that the device then settles. -/
def Obligations.RefusedWriteMarksItsPage : Prop :=
 ∀ (s : State) (d : Dev), s.dev = d → ∀ (w : Writer) (a : Nat) (v : Word) (p : Nat),
   d.arrives w = true → (d.verdict w a v).good = false → (match d.target a with | some t => some t.page | none => if a < 0x2D000 then some (a / 0x1000) else none) = some p →
   ∃ g : Dev → Dev, refusalMark g v ∧
     exec (.registerWrite w a v) s = .next (s.done ((g (d.markRefused p)).showAccess w (d.verdict w a v))) ∧
     (∀ l ∈ d.copies p, ((d.markRefused p).word l (pageAddr p 0x0C)).getLsbD 30 = true) ∧
     (∀ e : Dev, (e.showAccess w (d.verdict w a v)).host.access = d.verdict w a v ∧
       (e.showAccess w (d.verdict w a v)).host.coreFault = coreWriter w)

/-- A WRITE frame with a refused word writes no word and has the result of the first refused one. Where the checks, all made on the device as the frame found it, refuse some word of a WRITE frame, the frame has the result of the first refused word and leaves exactly what a refused write of that word alone leaves. -/
def Obligations.FrameWithARefusedWordWritesNothing : Prop :=
 ∀ (d : Dev) (w : Writer) (who : Who) (header : Word) (ws : List Word) (k : Nat) (v : Word),
   (frameWrites header ws).find? (fun kv => !(d.judgeAs w who kv.1 kv.2).1.good) = some (k, v) →
   (d.writeFrame w who header ws).1 = (d.judgeAs w who k v).1 ∧ (d.writeFrame w who header ws).1.good = false ∧
   (d.writeFrame w who header ws).2.showAccess w (d.judgeAs w who k v).1 = d.writeAs w who k v

/-- Clearing ENABLE of a protecting page, changing a converter's mode, clearing its reference and asking a busy urgent channel are refused with BLOCK. A write that clears ENABLE of GATE, PROT, MOD, SAFE, ASSAY or LANE in READY, RUN, HOLD or DISCHARGE, one that changes a field of CONV_xx.MODE outside STANDBY and MAINTENANCE, one that clears CONV_xx.REF.EN in those four modes, and one that sets URGENT3.REQ while it is set, has the result BLOCK or that of a check that comes before it in R116's order; a field changes as R116 says. -/
def Obligations.BlockConditionsRefuse : Prop :=
 ∀ (d : Dev) (w : Writer) (v : Word),
   (∀ p ∈ [0x1E, 0x1F, 0x1C, 0x1D, 0x20, 0x21, 0x22, 0x0B], d.liveMode = true → H.CTRL_ENABLE.get (d.present w p 4) = 1 →
     H.CTRL_ENABLE.get v = 0 → blockOrEarlier (d.verdict w (pageAddr p 4) v)) ∧
   (∀ (l : Lane) (c : Fin 2), d.cfgMode = false →
     (∃ f ∈ [R.CONV_MODE_TB, R.CONV_MODE_GANG, R.CONV_MODE_PHASE], f.get v ≠ f.get (d.present w (pgCONV l c) 0x40)) →
     blockOrEarlier (d.verdict w (pageAddr (pgCONV l c) 0x40) v)) ∧
   (∀ (l : Lane) (c : Fin 2), d.liveMode = true → R.CONV_REF_EN.get (d.present w (pgCONV l c) 0x44) = 1 → R.CONV_REF_EN.get v = 0 →
     blockOrEarlier (d.verdict w (pageAddr (pgCONV l c) 0x44) v)) ∧
   (∀ l : Lane, d.gl l (pgSEQ l) R.SEQ_URGENT3_REQ = 1 → R.SEQ_URGENT3_REQ.get v = 1 →
     blockOrEarlier (d.verdict w (pageAddr (pgSEQ l) 0x54) v))

/-- The product of an operand and a coefficient is the rounded shifted product, saturated to 32 bits. For every operand and every coefficient entry, the shift read lies between 0 and 63, and the product is a nearest integer to operand times value over two to the shift, a half away from zero, clamped to the signed 32-bit range. -/
def Obligations.CoefficientProductIsRounded : Prop :=
 ∀ (d : Dev) (l : Lane) (k : Nat) (x : Int),
   (d.qCoef l k).2 < 64 ∧ -2147483648 ≤ (d.qCoef l k).1 ∧ (d.qCoef l k).1 ≤ 2147483647 ∧
   ∃ r : Int, roundsTo (x * (d.qCoef l k).1) (2 ^ (d.qCoef l k).2) r ∧
     d.qTimes l k x = max (-2147483648) (min 2147483647 r)

/-- ROT writes Park or inverse Park of its pairs, and ICLK the inverse Clarke quad of its pair. Where ROT or ICLK issues, the command completes, and the destination registers hold the rounded and saturated results that R302 gives for FLG bit 0 clear and set, formed from exact products rounded once. -/
def Obligations.QuillRotations : Prop :=
 ∀ (s : State) (d : Dev), s.dev = d → ∀ (l : Lane) (i : QIns) (f : QForm) (t : Nat),
   (d.qReady l 0x27 i f t →
     let x := d.qr l i.sa; let y := d.qr l (i.sa + 1); let c := d.qr l i.sb; let n := d.qr l (i.sb + 1)
     ∃ (e : Dev) (u v : Int), exec (.qRot l) s = .next (s.done e) ∧
       roundsTo (if i.flg = 0 then x * c + y * n else x * c - y * n) (2 ^ 30) u ∧
       roundsTo (if i.flg = 0 then -x * n + y * c else x * n + y * c) (2 ^ 30) v ∧
       e.qr l i.dst = max (-2147483648) (min 2147483647 u) ∧ e.qr l (i.dst + 1) = max (-2147483648) (min 2147483647 v)) ∧
   (d.qReady l 0x28 i f t →
     let a := d.qr l i.sa; let b := d.qr l (i.sa + 1)
     ∃ (e : Dev) (u v : Int), exec (.qIclk l) s = .next (s.done e) ∧ e.qr l i.dst = a ∧ e.qr l (i.dst + 3) = 0 ∧
       (i.flg = 1 → e.qr l (i.dst + 1) = b ∧ e.qr l (i.dst + 2) = 0) ∧
       (i.flg = 0 → roundsTo (-a * 2 ^ 29 + 929887697 * b) (2 ^ 30) u ∧ roundsTo (-a * 2 ^ 29 - 929887697 * b) (2 ^ 30) v ∧
         e.qr l (i.dst + 1) = max (-2147483648) (min 2147483647 u) ∧ e.qr l (i.dst + 2) = max (-2147483648) (min 2147483647 v)))

/-- A trigger of an idle Quill starts its run at the trigger tick, and the first instruction issues two cycles later. Where a trigger is due, no run is in progress and no TRIG0 of the same tick goes before it (R298), the command completes in a device whose Quill runs that entry, with the trigger tick as cycle 0 and cycle 2 as the first one in which an instruction may issue. Device time is read after the self-tests that the input stage's units need. -/
def Obligations.TriggerStartsAnIdleQuill : Prop :=
 ∀ (s : State) (d : Dev), s.dev = d → ∀ (l : Lane) (en : Fin 2) (bad : Fin 64), d.trigDue l en = true → ((d.tinkerQuill l).quill.at l).run = none →
   en = 0 ∨ (d.tinkerQuill l).trigDue l 0 = false →
   ∃ e : Dev, exec (.quillTrigger l en bad) s = .next (s.done e) ∧ (e.quill.at l).run = some en ∧
     (e.quill.at l).t0 = (d.tinkerQuill l).now ∧ (e.quill.at l).nextAt = (d.tinkerQuill l).now + 2 ∧
     (e.quill.at l).pc = (if en = 0 then 0 else 2048)

/-- Decoding an encoded Quill instruction gives it back, and encoding a decoded word gives the word back. For every instruction whose fields fit their bits the two halves that the encoder writes decode to it, field by field, and for every pair of halves the decoded instruction fits and encodes to those halves: no bit of the 64 is dropped. -/
def Obligations.QuillWordsRoundTrip : Prop :=
 (∀ i : QIns, qFits i → qDecode (qEncodeHigh i) (qEncodeLow i) = i) ∧
 (∀ hi lo : Word, qFits (qDecode hi lo) ∧ qEncodeHigh (qDecode hi lo) = hi ∧ qEncodeLow (qDecode hi lo) = lo)

/-- A Quill fetches exactly the instruction whose two halves stand at its program counter, and the other words of the memory stay. Where the halves of an encoded instruction are set at a word of a bank of a program memory in canonical form, the memory stays canonical, the Quill whose program counter and bank name that word fetches that instruction, and every other word of either bank holds what it held. -/
def Obligations.QuillFetchesWhatWasWritten : Prop :=
 ∀ (d : Dev) (l : Lane) (i : QIns), qFits i → cellsRising (d.quill.at l).prog → (d.quill.at l).pc < 4096 → d.qBank l < 2 →
   let n := (d.quill.at l).pc
   let e := d.onQuill l fun u => (u.setHalf (d.qBank l) n 1 (qEncodeHigh i)).setHalf (d.qBank l) n 0 (qEncodeLow i)
   e.qAtPc l = i ∧ cellsRising (e.quill.at l).prog ∧ e.quill.at l.other = d.quill.at l.other ∧
   ∀ b m h : Nat, b < 2 → m < 4096 → h < 2 → (b, m) ≠ (d.qBank l, n) → (e.quill.at l).half b m h = (d.quill.at l).half b m h

/-- A computing instruction of Quill changes its own Quill's registers and counters and nothing else. Where an instruction that computes registers from registers issues, the command completes in a device that, before it settles as after every command, differs in that lane's Quill and its STAT and SATCNT words alone: every other word of both register copies, the other Quill, the program and every other state are as before, and so is each register of the Quill outside the four that start at DST. -/
def Obligations.QuillAluFrame : Prop :=
 ∀ (s : State) (d : Dev), s.dev = d → d.canonical → ∀ (l : Lane) (i : QIns) (f : QForm) (t : Nat) (c : Instr) (op : Nat),
   (c, op) ∈ [(Instr.qNop l, 0x00), (.qLdi l, 0x01), (.qMov l, 0x02), (.qAdd l, 0x03), (.qSub l, 0x04), (.qNeg l, 0x05), (.qAbs l, 0x06), (.qMin l, 0x07),
     (.qMax l, 0x08), (.qShl l, 0x0B), (.qShr l, 0x0C), (.qAnd l, 0x0D), (.qOr l, 0x0E), (.qXor l, 0x0F), (.qSel l, 0x10), (.qMul l, 0x20), (.qMac l, 0x21),
     (.qMsu l, 0x22), (.qMulk l, 0x23), (.qMack l, 0x24), (.qVmulk l, 0x25), (.qDot2 l, 0x26), (.qRot l, 0x27), (.qIclk l, 0x28), (.qLd l, 0x40),
     (.qLdx l, 0x41)] →
   d.qReady l op i f t →
   ∃ e : Dev, exec c s = .next (s.done e) ∧ e = { d with quill := e.quill, regs := e.regs } ∧ e.quill.at l.other = d.quill.at l.other ∧
     (e.quill.at l).prog = (d.quill.at l).prog ∧ (e.quill.at l).run = (d.quill.at l).run ∧ (e.quill.at l).flags = (d.quill.at l).flags ∧
     (∀ r : Fin 32, r.val < i.dst ∨ i.dst + 4 ≤ r.val → (e.quill.at l).q[r] = (d.quill.at l).q[r]) ∧
     (∀ (m : Lane) (a : Nat), a < 0x1000000 → (m, a) ≠ (l, pageAddr (pgQUILL l) R.QUILL_STAT_PC.off) →
       (m, a) ≠ (l, pageAddr (pgQUILL l) R.QUILL_SATCNT_TOTAL.off) → e.word m a = d.word m a)

/-- A clear that meets a raise of its source in one tick changes nothing, a raise records its tick and sets STATUS, and a forced source stays live. Where a source was raised in the present tick a clear leaves the Ledger as it is, so STATUS stays set; the record of a raise names the present tick and sets STATUS in every available copy, so it outlasts an earlier clear of that tick as well; a source whose FORCE reads 1 is live. -/
def Obligations.RaiseAndClearInOneTick : Prop :=
 ∀ (d : Dev) (n : Nat),
   (d.raisedNow n = true → d.sourceClear n = d) ∧
   (∀ (stamp detail : Nat) (forced : Bool), (d.recordRaise n stamp detail forced).raisedNow n = true) ∧
   (∀ (stamp detail : Nat) (forced : Bool), d.canonical → n < 384 → ∀ l ∈ d.copies pgLEDGER,
     (d.recordRaise n stamp detail forced).gl l pgLEDGER R.LEDGER_SRC_STATUS n = 1) ∧
   (d.g pgLEDGER R.LEDGER_SRC_FORCE n = 1 → d.srcLive n = true)

/-- A STRIP close that fails counts, marks its unit and raises the source of its result. Where a STRIP close leaves RESULT CHECK_FAIL or ALIVE_FAIL, its last effects are these: FAILCNT of the unit increments, its bit of FAILSUM is set, and HM_CHECK or HM_ALIVE is raised; a close that passes ends with none of them. -/
def Obligations.StripThatFails : Prop :=
 ∀ (d : Dev) (u alive : Nat), ∃ e : Dev,
   let c := d.hmPartnerCloses u
   let counted := e.inc pgHALLMARK R.HALLMARK_STAT_FAILCNT u
   let marked := counted.s pgHALLMARK R.HALLMARK_FAILSUM_U (counted.g pgHALLMARK R.HALLMARK_FAILSUM_U ||| 2 ^ u)
   (c.hmStripGood u alive = false → d.hmStrip u alive = marked.raise 364) ∧
   (c.hmStripGood u alive = true → c.hmStripLive u alive = false → d.hmStrip u alive = marked.raise 365) ∧
   (c.hmStripGood u alive = true → c.hmStripLive u alive = true → d.hmStrip u alive = c.hmStripShown u alive 1)

/-- A die that does not run drives none of its lands and reads none. In every state, an interface die that does not run drives no output, so that each of its lands stands as in the table of R71, excites no resolver and reads no level at HVIL_SNS; while neither interface die runs, nothing drives the HVIL loop, pulls IRQ_N (unless something outside holds it) or pulls FAULT_N. -/
def Obligations.OutputsOfADieThatIsDown : Prop :=
 ∀ d : Dev,
   (∀ o : OutLand, d.up (.iface o.lane) = false → d.drives o = false) ∧
   (∀ l : Lane, d.up (.iface l) = false → d.excitation l = none ∧ d.hvilSense l = none) ∧
   (d.up (.iface .a) = false → d.up (.iface .b) = false →
     d.hvilDriven = false ∧ d.irqLow = d.lands.irqHeld.getD false ∧ d.faultN = false)

/-- SYNC_OUT passes to IB when IA is lost and keeps its level until the next period start of IB's TB0. Where IA drove SYNC_OUT before a command and does not run after its effect while IB does, what every command ends with leaves IB driving SYNC_OUT at the level that IA left, whatever IB's own TB0 does; a period start of IB's TB0 then ends the hold, and IB drives the land by its own TB0. While IA runs in a lane that has not failed, it drives the land. -/
def Obligations.SyncOutChangesHands : Prop :=
 ∀ (s : State) (d e : Dev), s.dev = d → d.lands.syncBy = some .a →
   (∃ m : Dev, (s.done e).dev = Dev.syncFollow d m) ∧
   (e.up (.iface .a) = false → e.up (.iface .b) = true →
     (Dev.syncFollow d e).lands.syncBy = some .b ∧
     (∀ v : Bool, d.syncOut = some v → (Dev.syncFollow d e).syncOut = some v) ∧
     ((Dev.syncFollow d e).syncPeriod .b 0).lands.syncHeld = none ∧ ((Dev.syncFollow d e).syncPeriod .b 0).lands.syncBy = some .b) ∧
   (e.up (.iface .a) = true → e.lanes.a.role ≠ .failed → e.syncDriver = some .a)

/-- A port whose class is SENSOR or SAFETY reads nothing. A read command of a writer whose class is SENSOR, or SAFETY, completes with the result CLASS and a word of zeros, and sets nothing off: no queue or buffer advances and NOW_HI is not latched. -/
def Obligations.SensorAndSafetyPortsReadNothing : Prop :=
  ∀ (s : State) (d : Dev), s.dev = d → ∀ w : Writer, d.arrives w = true → (d.who w).readsNothing = true →
    let e : Dev := { d.showAccess w .cls with host := { (d.showAccess w .cls).host with readData := [0] } }
    (∀ (n : Fin 4) (q : Fin 2) (k : Fin 22), exec (.queueWindowRead w n q k) s = .next (s.done e)) ∧
    exec (.ethRxdataRead w) s = .next (s.done e) ∧
    exec (.nowLoRead w) s = .next (s.done e) ∧
    exec (.objdataAccess w none) s = .next (s.done e)
end

