-- ==== Sys2Proof/Laws/Access.lean ====
section
/-! SUPPORT. A register write, once: what an accepted one does, what a refused one leaves, and the target of a page's register. -/

namespace Sys2Proof.Machine

/-- An accepted write of a target whose plan does not ignore it stores the word, moves the claims and runs the register's effect. -/
theorem write_took {d : Dev} {w : Writer} {k : Nat} {v : Word} {t : Target} {u : Who} {p : Plan} (ht : d.target k = some t)
    (hu : d.whoAt w k = u) (hp : d.planOf t k (d.wrOf w u t k v) = p) (hi : p.ignore = false)
    (hm : t.region = true ∨ ¬(t.page = pgMOTION 0 ∨ t.page = pgMOTION 1) ∨ ¬(0x50 ≤ t.o ∧ t.o ≤ 0x68))
    (ha : d.accepts w k v) : d.write w k v = d.tookAt w t k v p.keep p.claims p.run := by
  have hm' : ¬ (!t.region ∧ (t.page = pgMOTION 0 ∨ t.page = pgMOTION 1) ∧ 0x50 ≤ t.o ∧ t.o ≤ 0x68) := by
    rintro ⟨h1, h2, h3⟩
    rcases hm with h | h | h
    · simp [h] at h1
    · exact h h2
    · exact h h3
  subst hu hp
  have ha' : (d.judgeAs w (d.whoAt w k) k v).1.good = true := ha.2
  simp only [Dev.write, Dev.writeAs, ha.1, ha', if_true, Dev.tookAt, Dev.verdict]
  congr 1
  simp only [Dev.effectAs, ht, hi, if_neg hm', Bool.false_eq_true, if_false]

/-- The identity of a writer is its own at every register but the firmware's view of HOST.PROXY. -/
theorem page_who {w : Writer} {d : Dev} {p o : Nat} (h4 : p ≠ pgHOST ∨ o ≠ 0x50) (ho : o < 0x1000) :
    d.whoAt w (pageAddr p o) = d.who w := by
  have h6 : pageAddr p o ≠ pageAddr pgHOST 0x50 := by unfold pageAddr pgHOST at *; omega
  cases w <;> simp [Dev.whoAt, h6]

/-- The target of a register of a page. -/
theorem page_target {d : Dev} {p o : Nat} (h4 : o % 4 = 0) (hp : p < 45) (ho : o < 4 * pageRegs p) (hs : pageRegs p ≤ 1024) :
    d.target (pageAddr p o) = some (d.pageTarget p o) := by
  have h1 : pageAddr p o / 0x1000 = p := by unfold pageAddr; omega
  have h2 : pageAddr p o % 0x1000 = o := by unfold pageAddr; omega
  have h3 : pageAddr p o < 0x2D000 := by unfold pageAddr; omega
  have h5 : pageAddr p o % 4 = 0 := by unfold pageAddr; omega
  simp [Dev.target, h1, h2, h3, h5, Nat.not_le.mpr ho, Dev.pageTarget]

/-- A read shows its result and nothing of the writer's identity but the access fault of a core. -/
@[simp] theorem showAccess_access (d : Dev) (w : Writer) (r : Result) : (d.showAccess w r).host.access = r := rfl
@[simp] theorem showAccess_coreFault (d : Dev) (w : Writer) (r : Result) : (d.showAccess w r).host.coreFault = (!r.good && coreWriter w) := rfl
@[simp] theorem showAccess_regs (d : Dev) (w : Writer) (r : Result) : (d.showAccess w r).regs = d.regs := rfl

end Sys2Proof.Machine
end

