-- ==== Sys2Proof/Laws/Cells.lean ====
section
/-! SUPPORT. Lists of cells: a read after a write, the other keys, and the canonical form that every operation keeps. -/

namespace Sys2Proof.Machine

/-- A key that stands before every key of a rising list is not in it. -/
theorem cellsGet_before {c : List (Nat × Word)} {k : Nat} (h : ∀ p ∈ c, k < p.1) : cellsGet c k = none := by
  cases c with
  | nil => rfl
  | cons x r =>
    have hx := h x (by simp)
    have h1 : ¬ x.1 = k := by omega
    simp [cellsGet, h1, hx]

theorem cellsGet_put_same (c : List (Nat × Word)) (k : Nat) (w : Word) : cellsGet (cellsPut c k w) k = some w := by
  induction c with
  | nil => simp [cellsPut, cellsGet]
  | cons x r ih =>
    obtain ⟨i, v⟩ := x
    by_cases h1 : k < i
    · simp [cellsPut, cellsGet, h1]
    · by_cases h2 : i = k
      · simp [cellsPut, cellsGet, h2]
      · simp [cellsPut, cellsGet, h1, h2, ih]

theorem cellsGet_put_other {c : List (Nat × Word)} {k j : Nat} (w : Word) (hj : j ≠ k) : cellsGet (cellsPut c k w) j = cellsGet c j := by
  induction c with
  | nil =>
    have h1 : ¬ k = j := Ne.symm hj
    simp [cellsPut, cellsGet, h1]
  | cons x r ih =>
    obtain ⟨i, v⟩ := x
    have h1 : ¬ k = j := Ne.symm hj
    by_cases h2 : k < i
    · by_cases h3 : j < k
      · have h4 : ¬ i = j := by omega
        have h5 : j < i := by omega
        simp [cellsPut, cellsGet, h1, h2, h3, h4, h5]
      · simp [cellsPut, cellsGet, h1, h2, h3]
    · by_cases h3 : i = k
      · subst h3
        simp [cellsPut, cellsGet, h1]
      · simp [cellsPut, cellsGet, h2, h3, ih]

theorem cellsPut_keys {c : List (Nat × Word)} {k : Nat} {w : Word} {p : Nat × Word} (h : p ∈ cellsPut c k w) : p = (k, w) ∨ p ∈ c := by
  induction c with
  | nil => simpa [cellsPut] using h
  | cons x r ih =>
    obtain ⟨i, v⟩ := x
    by_cases h1 : k < i
    · simpa [cellsPut, h1] using h
    · by_cases h2 : i = k
      · subst h2
        have h := by simpa [cellsPut] using h
        rcases h with h | h
        · exact .inl h
        · exact .inr (by simp [h])
      · have h := by simpa [cellsPut, h1, h2] using h
        rcases h with h | h
        · exact .inr (by simp [h])
        · rcases ih h with h | h
          · exact .inl h
          · exact .inr (by simp [h])

theorem cellsPut_rising {c : List (Nat × Word)} (k : Nat) (w : Word) (h : cellsRising c) : cellsRising (cellsPut c k w) := by
  induction c with
  | nil => simp [cellsPut, cellsRising]
  | cons x r ih =>
    obtain ⟨i, v⟩ := x
    have h' := List.pairwise_cons.mp h
    by_cases h1 : k < i
    · simp only [cellsPut, h1, if_true]
      refine List.pairwise_cons.mpr ⟨?_, h⟩
      intro p hp
      rcases List.mem_cons.mp hp with hp | hp
      · subst hp; exact h1
      · exact Nat.lt_trans h1 (h'.1 p hp)
    · by_cases h2 : i = k
      · subst h2
        simp only [cellsPut, Nat.lt_irrefl, if_false, if_true]
        exact List.pairwise_cons.mpr ⟨h'.1, h'.2⟩
      · simp only [cellsPut, h1, h2, if_false]
        refine List.pairwise_cons.mpr ⟨?_, ih h'.2⟩
        intro p hp
        rcases cellsPut_keys hp with hp | hp
        · subst hp; show i < k; omega
        · exact h'.1 p hp

theorem cellsErase_mem {c : List (Nat × Word)} {k : Nat} {p : Nat × Word} (h : p ∈ cellsErase c k) : p ∈ c := by
  induction c with
  | nil => simp [cellsErase] at h
  | cons x r ih =>
    obtain ⟨i, v⟩ := x
    by_cases h1 : k < i
    · simpa [cellsErase, h1] using h
    · by_cases h2 : i = k
      · subst h2
        have h := by simpa [cellsErase] using h
        exact List.mem_cons_of_mem _ h
      · have h := by simpa [cellsErase, h1, h2] using h
        rcases h with h | h
        · simp [h]
        · exact List.mem_cons_of_mem _ (ih h)

theorem cellsErase_rising {c : List (Nat × Word)} (k : Nat) (h : cellsRising c) : cellsRising (cellsErase c k) := by
  induction c with
  | nil => simp [cellsErase, cellsRising]
  | cons x r ih =>
    obtain ⟨i, v⟩ := x
    have h' := List.pairwise_cons.mp h
    by_cases h1 : k < i
    · simpa only [cellsErase, h1, if_true] using h
    · by_cases h2 : i = k
      · subst h2
        simpa only [cellsErase, Nat.lt_irrefl, if_false, if_true] using h'.2
      · simp only [cellsErase, h1, h2, if_false]
        exact List.pairwise_cons.mpr ⟨fun p hp => h'.1 p (cellsErase_mem hp), ih h'.2⟩

theorem cellsGet_erase_same {c : List (Nat × Word)} {k : Nat} (h : cellsRising c) : cellsGet (cellsErase c k) k = none := by
  induction c with
  | nil => rfl
  | cons x r ih =>
    obtain ⟨i, v⟩ := x
    have h' := List.pairwise_cons.mp h
    by_cases h1 : k < i
    · have h2 : ¬ i = k := by omega
      simp [cellsErase, cellsGet, h1, h2]
    · by_cases h2 : i = k
      · subst h2
        simpa [cellsErase] using cellsGet_before h'.1
      · simp [cellsErase, cellsGet, h1, h2, ih h'.2]

theorem cellsGet_erase_other {c : List (Nat × Word)} {k j : Nat} (h : cellsRising c) (hj : j ≠ k) : cellsGet (cellsErase c k) j = cellsGet c j := by
  induction c with
  | nil => rfl
  | cons x r ih =>
    obtain ⟨i, v⟩ := x
    have h' := List.pairwise_cons.mp h
    by_cases h1 : k < i
    · simp [cellsErase, h1]
    · by_cases h2 : i = k
      · subst h2
        have h3 : ¬ i = j := Ne.symm hj
        by_cases h4 : j < i
        · have := cellsGet_before (c := r) (k := j) fun p hp => Nat.lt_trans h4 (h'.1 p hp)
          simp [cellsErase, cellsGet, h3, h4, this]
        · simp [cellsErase, cellsGet, h3, h4]
      · simp [cellsErase, cellsGet, h1, h2, ih h'.2]

/-- Putting a word that is not the reset value keeps the canonical form. -/
theorem cellsPut_wf {c : List (Nat × Word)} {k : Nat} {w : Word} (h : cellsWf c) (hw : w ≠ addrReset (k % 0x1000000)) : cellsWf (cellsPut c k w) := by
  refine ⟨cellsPut_rising k w h.1, fun p hp => ?_⟩
  rcases cellsPut_keys hp with hp | hp
  · subst hp; exact hw
  · exact h.2 p hp

/-- Erasing a word keeps the canonical form. -/
theorem cellsErase_wf {c : List (Nat × Word)} (k : Nat) (h : cellsWf c) : cellsWf (cellsErase c k) :=
  ⟨cellsErase_rising k h.1, fun p hp => h.2 p (cellsErase_mem hp)⟩

/-- Two addresses of the copies have different keys. -/
theorem regKey_inj {l m : Lane} {a b : Nat} (ha : a < 0x1000000) (hb : b < 0x1000000) (h : regKey l a = regKey m b) : l = m ∧ a = b := by
  cases l <;> cases m <;> simp [regKey, Lane.idx] at h ⊢ <;> omega

theorem regKey_mod {l : Lane} {a : Nat} (ha : a < 0x1000000) : regKey l a % 0x1000000 = a := by
  cases l <;> simp [regKey, Lane.idx] <;> omega

/-- A program memory keeps its canonical form. -/
theorem QuillUnit.setHalf_rising {u : QuillUnit} (b n h : Nat) (w : Word) (hr : cellsRising u.prog) : cellsRising (u.setHalf b n h w).prog := by
  unfold QuillUnit.setHalf
  split
  · exact cellsErase_rising _ hr
  · exact cellsPut_rising _ w hr

end Sys2Proof.Machine
end

