-- ==== Sys2Proof/Laws/Quill.lean ====
section
/-! SUPPORT. The issue of a Quill instruction, once, and the halves of a program word. -/

namespace Sys2Proof.Machine

/-- Where the instruction is ready, its issue advances the run and does what the instruction does. -/
theorem qIssue_ready {d : Dev} {l : Lane} {op : Nat} {i : QIns} {f : QForm} {t : Nat} (h : d.qReady l op i f t)
    (run : QIns → Nat → Dev → Dev) : d.qIssue l op run = run i t (d.qAdvance l i f t) := by
  obtain ⟨h1, h2, h3, h4, h5, h6, h7, h8⟩ := h
  have h9 : (d.quill.at l).run.isNone = false := by cases hr : (d.quill.at l).run <;> simp_all
  have h3' : qForm op = some f := h2 ▸ h3
  unfold Dev.qIssue
  simp [h1, h3', h9, h2, h5, h6, Nat.not_lt.mpr h7, Nat.not_le.mpr h8]

/-- The high half of an instruction word is the sum of its fields at their places. -/
theorem qEncodeHigh_toNat {i : QIns} (h : qFits i) :
    (qEncodeHigh i).toNat = i.op * 2 ^ 24 + i.dst * 2 ^ 19 + i.sa * 2 ^ 14 + i.sb * 2 ^ 9 + i.sc * 2 ^ 4 + i.flg := by
  obtain ⟨h1, h2, h3, h4, h5, h6, -, -, -⟩ := h
  simp only [qEncodeHigh, BitVec.toNat_ofNat]
  omega

end Sys2Proof.Machine
end

