-- ==== Sys2Proof/Laws/State.lean ====
section
/-! SUPPORT. The fields of the state after each update of one part of it: the part updated, and every other field as before. -/

namespace Sys2Proof.Machine

/-! `Dev.onAxis` -/

@[simp] theorem Dev.onAxis_now (d : Dev) (x : Fin 2) (f : AxisState → AxisState) : (d.onAxis x f).now = d.now := rfl
@[simp] theorem Dev.onAxis_regs (d : Dev) (x : Fin 2) (f : AxisState → AxisState) : (d.onAxis x f).regs = d.regs := rfl
@[simp] theorem Dev.onAxis_staged (d : Dev) (x : Fin 2) (f : AxisState → AxisState) : (d.onAxis x f).staged = d.staged := rfl
@[simp] theorem Dev.onAxis_commitPending (d : Dev) (x : Fin 2) (f : AxisState → AxisState) : (d.onAxis x f).commitPending = d.commitPending := rfl
@[simp] theorem Dev.onAxis_freeCtr (d : Dev) (x : Fin 2) (f : AxisState → AxisState) : (d.onAxis x f).freeCtr = d.freeCtr := rfl
@[simp] theorem Dev.onAxis_links (d : Dev) (x : Fin 2) (f : AxisState → AxisState) : (d.onAxis x f).links = d.links := rfl
@[simp] theorem Dev.onAxis_dies (d : Dev) (x : Fin 2) (f : AxisState → AxisState) : (d.onAxis x f).dies = d.dies := rfl
@[simp] theorem Dev.onAxis_outs (d : Dev) (x : Fin 2) (f : AxisState → AxisState) : (d.onAxis x f).outs = d.outs := rfl
@[simp] theorem Dev.onAxis_power (d : Dev) (x : Fin 2) (f : AxisState → AxisState) : (d.onAxis x f).power = d.power := rfl
@[simp] theorem Dev.onAxis_clocks (d : Dev) (x : Fin 2) (f : AxisState → AxisState) : (d.onAxis x f).clocks = d.clocks := rfl
@[simp] theorem Dev.onAxis_mode (d : Dev) (x : Fin 2) (f : AxisState → AxisState) : (d.onAxis x f).mode = d.mode := rfl
@[simp] theorem Dev.onAxis_lanes (d : Dev) (x : Fin 2) (f : AxisState → AxisState) : (d.onAxis x f).lanes = d.lanes := rfl
@[simp] theorem Dev.onAxis_handover (d : Dev) (x : Fin 2) (f : AxisState → AxisState) : (d.onAxis x f).handover = d.handover := rfl
@[simp] theorem Dev.onAxis_host (d : Dev) (x : Fin 2) (f : AxisState → AxisState) : (d.onAxis x f).host = d.host := rfl
@[simp] theorem Dev.onAxis_ledger (d : Dev) (x : Fin 2) (f : AxisState → AxisState) : (d.onAxis x f).ledger = d.ledger := rfl
@[simp] theorem Dev.onAxis_mods (d : Dev) (x : Fin 2) (f : AxisState → AxisState) : (d.onAxis x f).mods = d.mods := rfl
@[simp] theorem Dev.onAxis_prot (d : Dev) (x : Fin 2) (f : AxisState → AxisState) : (d.onAxis x f).prot = d.prot := rfl
@[simp] theorem Dev.onAxis_bridges (d : Dev) (x : Fin 2) (f : AxisState → AxisState) : (d.onAxis x f).bridges = d.bridges := rfl
@[simp] theorem Dev.onAxis_islands (d : Dev) (x : Fin 2) (f : AxisState → AxisState) : (d.onAxis x f).islands = d.islands := rfl
@[simp] theorem Dev.onAxis_motion (d : Dev) (x : Fin 2) (f : AxisState → AxisState) : (d.onAxis x f).motion = d.motion := rfl
@[simp] theorem Dev.onAxis_meas (d : Dev) (x : Fin 2) (f : AxisState → AxisState) : (d.onAxis x f).meas = d.meas := rfl
@[simp] theorem Dev.onAxis_field1 (d : Dev) (x : Fin 2) (f : AxisState → AxisState) : (d.onAxis x f).field1 = d.field1 := rfl
@[simp] theorem Dev.onAxis_field2 (d : Dev) (x : Fin 2) (f : AxisState → AxisState) : (d.onAxis x f).field2 = d.field2 := rfl
@[simp] theorem Dev.onAxis_quill (d : Dev) (x : Fin 2) (f : AxisState → AxisState) : (d.onAxis x f).quill = d.quill := rfl
@[simp] theorem Dev.onAxis_pos (d : Dev) (x : Fin 2) (f : AxisState → AxisState) : (d.onAxis x f).pos = d.pos := rfl
@[simp] theorem Dev.onAxis_slay (d : Dev) (x : Fin 2) (f : AxisState → AxisState) : (d.onAxis x f).slay = d.slay := rfl
@[simp] theorem Dev.onAxis_can (d : Dev) (x : Fin 2) (f : AxisState → AxisState) : (d.onAxis x f).can = d.can := rfl
@[simp] theorem Dev.onAxis_ruling (d : Dev) (x : Fin 2) (f : AxisState → AxisState) : (d.onAxis x f).ruling = d.ruling := rfl
@[simp] theorem Dev.onAxis_rig (d : Dev) (x : Fin 2) (f : AxisState → AxisState) : (d.onAxis x f).rig = d.rig := rfl
@[simp] theorem Dev.onAxis_eth (d : Dev) (x : Fin 2) (f : AxisState → AxisState) : (d.onAxis x f).eth = d.eth := rfl
@[simp] theorem Dev.onAxis_time (d : Dev) (x : Fin 2) (f : AxisState → AxisState) : (d.onAxis x f).time = d.time := rfl
@[simp] theorem Dev.onAxis_tinker (d : Dev) (x : Fin 2) (f : AxisState → AxisState) : (d.onAxis x f).tinker = d.tinker := rfl
@[simp] theorem Dev.onAxis_sensors (d : Dev) (x : Fin 2) (f : AxisState → AxisState) : (d.onAxis x f).sensors = d.sensors := rfl
@[simp] theorem Dev.onAxis_thermal (d : Dev) (x : Fin 2) (f : AxisState → AxisState) : (d.onAxis x f).thermal = d.thermal := rfl
@[simp] theorem Dev.onAxis_nvm (d : Dev) (x : Fin 2) (f : AxisState → AxisState) : (d.onAxis x f).nvm = d.nvm := rfl
@[simp] theorem Dev.onAxis_boot (d : Dev) (x : Fin 2) (f : AxisState → AxisState) : (d.onAxis x f).boot = d.boot := rfl
@[simp] theorem Dev.onAxis_res (d : Dev) (x : Fin 2) (f : AxisState → AxisState) : (d.onAxis x f).res = d.res := rfl
@[simp] theorem Dev.onAxis_cal (d : Dev) (x : Fin 2) (f : AxisState → AxisState) : (d.onAxis x f).cal = d.cal := rfl
@[simp] theorem Dev.onAxis_frozen (d : Dev) (x : Fin 2) (f : AxisState → AxisState) : (d.onAxis x f).frozen = d.frozen := rfl
@[simp] theorem Dev.onAxis_gateSent (d : Dev) (x : Fin 2) (f : AxisState → AxisState) : (d.onAxis x f).gateSent = d.gateSent := rfl
@[simp] theorem Dev.onAxis_lands (d : Dev) (x : Fin 2) (f : AxisState → AxisState) : (d.onAxis x f).lands = d.lands := rfl
@[simp] theorem Dev.onAxis_shadows (d : Dev) (x : Fin 2) (f : AxisState → AxisState) : (d.onAxis x f).shadows = d.shadows := rfl
@[simp] theorem Dev.onAxis_axes (d : Dev) (x : Fin 2) (f : AxisState → AxisState) : (d.onAxis x f).axes = d.axes.set x (f d.axes[x]) := rfl

/-! `Dev.onBridge` -/

@[simp] theorem Dev.onBridge_now (d : Dev) (b : Fin 2) (f : BridgeState → BridgeState) : (d.onBridge b f).now = d.now := rfl
@[simp] theorem Dev.onBridge_regs (d : Dev) (b : Fin 2) (f : BridgeState → BridgeState) : (d.onBridge b f).regs = d.regs := rfl
@[simp] theorem Dev.onBridge_staged (d : Dev) (b : Fin 2) (f : BridgeState → BridgeState) : (d.onBridge b f).staged = d.staged := rfl
@[simp] theorem Dev.onBridge_commitPending (d : Dev) (b : Fin 2) (f : BridgeState → BridgeState) : (d.onBridge b f).commitPending = d.commitPending := rfl
@[simp] theorem Dev.onBridge_freeCtr (d : Dev) (b : Fin 2) (f : BridgeState → BridgeState) : (d.onBridge b f).freeCtr = d.freeCtr := rfl
@[simp] theorem Dev.onBridge_links (d : Dev) (b : Fin 2) (f : BridgeState → BridgeState) : (d.onBridge b f).links = d.links := rfl
@[simp] theorem Dev.onBridge_dies (d : Dev) (b : Fin 2) (f : BridgeState → BridgeState) : (d.onBridge b f).dies = d.dies := rfl
@[simp] theorem Dev.onBridge_outs (d : Dev) (b : Fin 2) (f : BridgeState → BridgeState) : (d.onBridge b f).outs = d.outs := rfl
@[simp] theorem Dev.onBridge_power (d : Dev) (b : Fin 2) (f : BridgeState → BridgeState) : (d.onBridge b f).power = d.power := rfl
@[simp] theorem Dev.onBridge_clocks (d : Dev) (b : Fin 2) (f : BridgeState → BridgeState) : (d.onBridge b f).clocks = d.clocks := rfl
@[simp] theorem Dev.onBridge_mode (d : Dev) (b : Fin 2) (f : BridgeState → BridgeState) : (d.onBridge b f).mode = d.mode := rfl
@[simp] theorem Dev.onBridge_lanes (d : Dev) (b : Fin 2) (f : BridgeState → BridgeState) : (d.onBridge b f).lanes = d.lanes := rfl
@[simp] theorem Dev.onBridge_handover (d : Dev) (b : Fin 2) (f : BridgeState → BridgeState) : (d.onBridge b f).handover = d.handover := rfl
@[simp] theorem Dev.onBridge_host (d : Dev) (b : Fin 2) (f : BridgeState → BridgeState) : (d.onBridge b f).host = d.host := rfl
@[simp] theorem Dev.onBridge_ledger (d : Dev) (b : Fin 2) (f : BridgeState → BridgeState) : (d.onBridge b f).ledger = d.ledger := rfl
@[simp] theorem Dev.onBridge_mods (d : Dev) (b : Fin 2) (f : BridgeState → BridgeState) : (d.onBridge b f).mods = d.mods := rfl
@[simp] theorem Dev.onBridge_prot (d : Dev) (b : Fin 2) (f : BridgeState → BridgeState) : (d.onBridge b f).prot = d.prot := rfl
@[simp] theorem Dev.onBridge_axes (d : Dev) (b : Fin 2) (f : BridgeState → BridgeState) : (d.onBridge b f).axes = d.axes := rfl
@[simp] theorem Dev.onBridge_islands (d : Dev) (b : Fin 2) (f : BridgeState → BridgeState) : (d.onBridge b f).islands = d.islands := rfl
@[simp] theorem Dev.onBridge_motion (d : Dev) (b : Fin 2) (f : BridgeState → BridgeState) : (d.onBridge b f).motion = d.motion := rfl
@[simp] theorem Dev.onBridge_meas (d : Dev) (b : Fin 2) (f : BridgeState → BridgeState) : (d.onBridge b f).meas = d.meas := rfl
@[simp] theorem Dev.onBridge_field1 (d : Dev) (b : Fin 2) (f : BridgeState → BridgeState) : (d.onBridge b f).field1 = d.field1 := rfl
@[simp] theorem Dev.onBridge_field2 (d : Dev) (b : Fin 2) (f : BridgeState → BridgeState) : (d.onBridge b f).field2 = d.field2 := rfl
@[simp] theorem Dev.onBridge_quill (d : Dev) (b : Fin 2) (f : BridgeState → BridgeState) : (d.onBridge b f).quill = d.quill := rfl
@[simp] theorem Dev.onBridge_pos (d : Dev) (b : Fin 2) (f : BridgeState → BridgeState) : (d.onBridge b f).pos = d.pos := rfl
@[simp] theorem Dev.onBridge_slay (d : Dev) (b : Fin 2) (f : BridgeState → BridgeState) : (d.onBridge b f).slay = d.slay := rfl
@[simp] theorem Dev.onBridge_can (d : Dev) (b : Fin 2) (f : BridgeState → BridgeState) : (d.onBridge b f).can = d.can := rfl
@[simp] theorem Dev.onBridge_ruling (d : Dev) (b : Fin 2) (f : BridgeState → BridgeState) : (d.onBridge b f).ruling = d.ruling := rfl
@[simp] theorem Dev.onBridge_rig (d : Dev) (b : Fin 2) (f : BridgeState → BridgeState) : (d.onBridge b f).rig = d.rig := rfl
@[simp] theorem Dev.onBridge_eth (d : Dev) (b : Fin 2) (f : BridgeState → BridgeState) : (d.onBridge b f).eth = d.eth := rfl
@[simp] theorem Dev.onBridge_time (d : Dev) (b : Fin 2) (f : BridgeState → BridgeState) : (d.onBridge b f).time = d.time := rfl
@[simp] theorem Dev.onBridge_tinker (d : Dev) (b : Fin 2) (f : BridgeState → BridgeState) : (d.onBridge b f).tinker = d.tinker := rfl
@[simp] theorem Dev.onBridge_sensors (d : Dev) (b : Fin 2) (f : BridgeState → BridgeState) : (d.onBridge b f).sensors = d.sensors := rfl
@[simp] theorem Dev.onBridge_thermal (d : Dev) (b : Fin 2) (f : BridgeState → BridgeState) : (d.onBridge b f).thermal = d.thermal := rfl
@[simp] theorem Dev.onBridge_nvm (d : Dev) (b : Fin 2) (f : BridgeState → BridgeState) : (d.onBridge b f).nvm = d.nvm := rfl
@[simp] theorem Dev.onBridge_boot (d : Dev) (b : Fin 2) (f : BridgeState → BridgeState) : (d.onBridge b f).boot = d.boot := rfl
@[simp] theorem Dev.onBridge_res (d : Dev) (b : Fin 2) (f : BridgeState → BridgeState) : (d.onBridge b f).res = d.res := rfl
@[simp] theorem Dev.onBridge_cal (d : Dev) (b : Fin 2) (f : BridgeState → BridgeState) : (d.onBridge b f).cal = d.cal := rfl
@[simp] theorem Dev.onBridge_frozen (d : Dev) (b : Fin 2) (f : BridgeState → BridgeState) : (d.onBridge b f).frozen = d.frozen := rfl
@[simp] theorem Dev.onBridge_gateSent (d : Dev) (b : Fin 2) (f : BridgeState → BridgeState) : (d.onBridge b f).gateSent = d.gateSent := rfl
@[simp] theorem Dev.onBridge_lands (d : Dev) (b : Fin 2) (f : BridgeState → BridgeState) : (d.onBridge b f).lands = d.lands := rfl
@[simp] theorem Dev.onBridge_shadows (d : Dev) (b : Fin 2) (f : BridgeState → BridgeState) : (d.onBridge b f).shadows = d.shadows := rfl
@[simp] theorem Dev.onBridge_bridges (d : Dev) (b : Fin 2) (f : BridgeState → BridgeState) : (d.onBridge b f).bridges = d.bridges.set b (f d.bridges[b]) := rfl

/-! `Dev.onCan` -/

@[simp] theorem Dev.onCan_now (d : Dev) (n : Fin 4) (f : CanUnit → CanUnit) : (d.onCan n f).now = d.now := rfl
@[simp] theorem Dev.onCan_regs (d : Dev) (n : Fin 4) (f : CanUnit → CanUnit) : (d.onCan n f).regs = d.regs := rfl
@[simp] theorem Dev.onCan_staged (d : Dev) (n : Fin 4) (f : CanUnit → CanUnit) : (d.onCan n f).staged = d.staged := rfl
@[simp] theorem Dev.onCan_commitPending (d : Dev) (n : Fin 4) (f : CanUnit → CanUnit) : (d.onCan n f).commitPending = d.commitPending := rfl
@[simp] theorem Dev.onCan_freeCtr (d : Dev) (n : Fin 4) (f : CanUnit → CanUnit) : (d.onCan n f).freeCtr = d.freeCtr := rfl
@[simp] theorem Dev.onCan_links (d : Dev) (n : Fin 4) (f : CanUnit → CanUnit) : (d.onCan n f).links = d.links := rfl
@[simp] theorem Dev.onCan_dies (d : Dev) (n : Fin 4) (f : CanUnit → CanUnit) : (d.onCan n f).dies = d.dies := rfl
@[simp] theorem Dev.onCan_outs (d : Dev) (n : Fin 4) (f : CanUnit → CanUnit) : (d.onCan n f).outs = d.outs := rfl
@[simp] theorem Dev.onCan_power (d : Dev) (n : Fin 4) (f : CanUnit → CanUnit) : (d.onCan n f).power = d.power := rfl
@[simp] theorem Dev.onCan_clocks (d : Dev) (n : Fin 4) (f : CanUnit → CanUnit) : (d.onCan n f).clocks = d.clocks := rfl
@[simp] theorem Dev.onCan_mode (d : Dev) (n : Fin 4) (f : CanUnit → CanUnit) : (d.onCan n f).mode = d.mode := rfl
@[simp] theorem Dev.onCan_lanes (d : Dev) (n : Fin 4) (f : CanUnit → CanUnit) : (d.onCan n f).lanes = d.lanes := rfl
@[simp] theorem Dev.onCan_handover (d : Dev) (n : Fin 4) (f : CanUnit → CanUnit) : (d.onCan n f).handover = d.handover := rfl
@[simp] theorem Dev.onCan_host (d : Dev) (n : Fin 4) (f : CanUnit → CanUnit) : (d.onCan n f).host = d.host := rfl
@[simp] theorem Dev.onCan_ledger (d : Dev) (n : Fin 4) (f : CanUnit → CanUnit) : (d.onCan n f).ledger = d.ledger := rfl
@[simp] theorem Dev.onCan_mods (d : Dev) (n : Fin 4) (f : CanUnit → CanUnit) : (d.onCan n f).mods = d.mods := rfl
@[simp] theorem Dev.onCan_prot (d : Dev) (n : Fin 4) (f : CanUnit → CanUnit) : (d.onCan n f).prot = d.prot := rfl
@[simp] theorem Dev.onCan_bridges (d : Dev) (n : Fin 4) (f : CanUnit → CanUnit) : (d.onCan n f).bridges = d.bridges := rfl
@[simp] theorem Dev.onCan_axes (d : Dev) (n : Fin 4) (f : CanUnit → CanUnit) : (d.onCan n f).axes = d.axes := rfl
@[simp] theorem Dev.onCan_islands (d : Dev) (n : Fin 4) (f : CanUnit → CanUnit) : (d.onCan n f).islands = d.islands := rfl
@[simp] theorem Dev.onCan_motion (d : Dev) (n : Fin 4) (f : CanUnit → CanUnit) : (d.onCan n f).motion = d.motion := rfl
@[simp] theorem Dev.onCan_meas (d : Dev) (n : Fin 4) (f : CanUnit → CanUnit) : (d.onCan n f).meas = d.meas := rfl
@[simp] theorem Dev.onCan_field1 (d : Dev) (n : Fin 4) (f : CanUnit → CanUnit) : (d.onCan n f).field1 = d.field1 := rfl
@[simp] theorem Dev.onCan_field2 (d : Dev) (n : Fin 4) (f : CanUnit → CanUnit) : (d.onCan n f).field2 = d.field2 := rfl
@[simp] theorem Dev.onCan_quill (d : Dev) (n : Fin 4) (f : CanUnit → CanUnit) : (d.onCan n f).quill = d.quill := rfl
@[simp] theorem Dev.onCan_pos (d : Dev) (n : Fin 4) (f : CanUnit → CanUnit) : (d.onCan n f).pos = d.pos := rfl
@[simp] theorem Dev.onCan_slay (d : Dev) (n : Fin 4) (f : CanUnit → CanUnit) : (d.onCan n f).slay = d.slay := rfl
@[simp] theorem Dev.onCan_ruling (d : Dev) (n : Fin 4) (f : CanUnit → CanUnit) : (d.onCan n f).ruling = d.ruling := rfl
@[simp] theorem Dev.onCan_rig (d : Dev) (n : Fin 4) (f : CanUnit → CanUnit) : (d.onCan n f).rig = d.rig := rfl
@[simp] theorem Dev.onCan_eth (d : Dev) (n : Fin 4) (f : CanUnit → CanUnit) : (d.onCan n f).eth = d.eth := rfl
@[simp] theorem Dev.onCan_time (d : Dev) (n : Fin 4) (f : CanUnit → CanUnit) : (d.onCan n f).time = d.time := rfl
@[simp] theorem Dev.onCan_tinker (d : Dev) (n : Fin 4) (f : CanUnit → CanUnit) : (d.onCan n f).tinker = d.tinker := rfl
@[simp] theorem Dev.onCan_sensors (d : Dev) (n : Fin 4) (f : CanUnit → CanUnit) : (d.onCan n f).sensors = d.sensors := rfl
@[simp] theorem Dev.onCan_thermal (d : Dev) (n : Fin 4) (f : CanUnit → CanUnit) : (d.onCan n f).thermal = d.thermal := rfl
@[simp] theorem Dev.onCan_nvm (d : Dev) (n : Fin 4) (f : CanUnit → CanUnit) : (d.onCan n f).nvm = d.nvm := rfl
@[simp] theorem Dev.onCan_boot (d : Dev) (n : Fin 4) (f : CanUnit → CanUnit) : (d.onCan n f).boot = d.boot := rfl
@[simp] theorem Dev.onCan_res (d : Dev) (n : Fin 4) (f : CanUnit → CanUnit) : (d.onCan n f).res = d.res := rfl
@[simp] theorem Dev.onCan_cal (d : Dev) (n : Fin 4) (f : CanUnit → CanUnit) : (d.onCan n f).cal = d.cal := rfl
@[simp] theorem Dev.onCan_frozen (d : Dev) (n : Fin 4) (f : CanUnit → CanUnit) : (d.onCan n f).frozen = d.frozen := rfl
@[simp] theorem Dev.onCan_gateSent (d : Dev) (n : Fin 4) (f : CanUnit → CanUnit) : (d.onCan n f).gateSent = d.gateSent := rfl
@[simp] theorem Dev.onCan_lands (d : Dev) (n : Fin 4) (f : CanUnit → CanUnit) : (d.onCan n f).lands = d.lands := rfl
@[simp] theorem Dev.onCan_shadows (d : Dev) (n : Fin 4) (f : CanUnit → CanUnit) : (d.onCan n f).shadows = d.shadows := rfl
@[simp] theorem Dev.onCan_can (d : Dev) (n : Fin 4) (f : CanUnit → CanUnit) : (d.onCan n f).can = d.can.set n (f d.can[n]) := rfl

/-! `Dev.onClk` -/

@[simp] theorem Dev.onClk_now (d : Dev) (l : Lane) (f : ClockState → ClockState) : (d.onClk l f).now = d.now := rfl
@[simp] theorem Dev.onClk_regs (d : Dev) (l : Lane) (f : ClockState → ClockState) : (d.onClk l f).regs = d.regs := rfl
@[simp] theorem Dev.onClk_staged (d : Dev) (l : Lane) (f : ClockState → ClockState) : (d.onClk l f).staged = d.staged := rfl
@[simp] theorem Dev.onClk_commitPending (d : Dev) (l : Lane) (f : ClockState → ClockState) : (d.onClk l f).commitPending = d.commitPending := rfl
@[simp] theorem Dev.onClk_freeCtr (d : Dev) (l : Lane) (f : ClockState → ClockState) : (d.onClk l f).freeCtr = d.freeCtr := rfl
@[simp] theorem Dev.onClk_links (d : Dev) (l : Lane) (f : ClockState → ClockState) : (d.onClk l f).links = d.links := rfl
@[simp] theorem Dev.onClk_dies (d : Dev) (l : Lane) (f : ClockState → ClockState) : (d.onClk l f).dies = d.dies := rfl
@[simp] theorem Dev.onClk_outs (d : Dev) (l : Lane) (f : ClockState → ClockState) : (d.onClk l f).outs = d.outs := rfl
@[simp] theorem Dev.onClk_power (d : Dev) (l : Lane) (f : ClockState → ClockState) : (d.onClk l f).power = d.power := rfl
@[simp] theorem Dev.onClk_mode (d : Dev) (l : Lane) (f : ClockState → ClockState) : (d.onClk l f).mode = d.mode := rfl
@[simp] theorem Dev.onClk_lanes (d : Dev) (l : Lane) (f : ClockState → ClockState) : (d.onClk l f).lanes = d.lanes := rfl
@[simp] theorem Dev.onClk_handover (d : Dev) (l : Lane) (f : ClockState → ClockState) : (d.onClk l f).handover = d.handover := rfl
@[simp] theorem Dev.onClk_host (d : Dev) (l : Lane) (f : ClockState → ClockState) : (d.onClk l f).host = d.host := rfl
@[simp] theorem Dev.onClk_ledger (d : Dev) (l : Lane) (f : ClockState → ClockState) : (d.onClk l f).ledger = d.ledger := rfl
@[simp] theorem Dev.onClk_mods (d : Dev) (l : Lane) (f : ClockState → ClockState) : (d.onClk l f).mods = d.mods := rfl
@[simp] theorem Dev.onClk_prot (d : Dev) (l : Lane) (f : ClockState → ClockState) : (d.onClk l f).prot = d.prot := rfl
@[simp] theorem Dev.onClk_bridges (d : Dev) (l : Lane) (f : ClockState → ClockState) : (d.onClk l f).bridges = d.bridges := rfl
@[simp] theorem Dev.onClk_axes (d : Dev) (l : Lane) (f : ClockState → ClockState) : (d.onClk l f).axes = d.axes := rfl
@[simp] theorem Dev.onClk_islands (d : Dev) (l : Lane) (f : ClockState → ClockState) : (d.onClk l f).islands = d.islands := rfl
@[simp] theorem Dev.onClk_motion (d : Dev) (l : Lane) (f : ClockState → ClockState) : (d.onClk l f).motion = d.motion := rfl
@[simp] theorem Dev.onClk_meas (d : Dev) (l : Lane) (f : ClockState → ClockState) : (d.onClk l f).meas = d.meas := rfl
@[simp] theorem Dev.onClk_field1 (d : Dev) (l : Lane) (f : ClockState → ClockState) : (d.onClk l f).field1 = d.field1 := rfl
@[simp] theorem Dev.onClk_field2 (d : Dev) (l : Lane) (f : ClockState → ClockState) : (d.onClk l f).field2 = d.field2 := rfl
@[simp] theorem Dev.onClk_quill (d : Dev) (l : Lane) (f : ClockState → ClockState) : (d.onClk l f).quill = d.quill := rfl
@[simp] theorem Dev.onClk_pos (d : Dev) (l : Lane) (f : ClockState → ClockState) : (d.onClk l f).pos = d.pos := rfl
@[simp] theorem Dev.onClk_slay (d : Dev) (l : Lane) (f : ClockState → ClockState) : (d.onClk l f).slay = d.slay := rfl
@[simp] theorem Dev.onClk_can (d : Dev) (l : Lane) (f : ClockState → ClockState) : (d.onClk l f).can = d.can := rfl
@[simp] theorem Dev.onClk_ruling (d : Dev) (l : Lane) (f : ClockState → ClockState) : (d.onClk l f).ruling = d.ruling := rfl
@[simp] theorem Dev.onClk_rig (d : Dev) (l : Lane) (f : ClockState → ClockState) : (d.onClk l f).rig = d.rig := rfl
@[simp] theorem Dev.onClk_eth (d : Dev) (l : Lane) (f : ClockState → ClockState) : (d.onClk l f).eth = d.eth := rfl
@[simp] theorem Dev.onClk_time (d : Dev) (l : Lane) (f : ClockState → ClockState) : (d.onClk l f).time = d.time := rfl
@[simp] theorem Dev.onClk_tinker (d : Dev) (l : Lane) (f : ClockState → ClockState) : (d.onClk l f).tinker = d.tinker := rfl
@[simp] theorem Dev.onClk_sensors (d : Dev) (l : Lane) (f : ClockState → ClockState) : (d.onClk l f).sensors = d.sensors := rfl
@[simp] theorem Dev.onClk_thermal (d : Dev) (l : Lane) (f : ClockState → ClockState) : (d.onClk l f).thermal = d.thermal := rfl
@[simp] theorem Dev.onClk_nvm (d : Dev) (l : Lane) (f : ClockState → ClockState) : (d.onClk l f).nvm = d.nvm := rfl
@[simp] theorem Dev.onClk_boot (d : Dev) (l : Lane) (f : ClockState → ClockState) : (d.onClk l f).boot = d.boot := rfl
@[simp] theorem Dev.onClk_res (d : Dev) (l : Lane) (f : ClockState → ClockState) : (d.onClk l f).res = d.res := rfl
@[simp] theorem Dev.onClk_cal (d : Dev) (l : Lane) (f : ClockState → ClockState) : (d.onClk l f).cal = d.cal := rfl
@[simp] theorem Dev.onClk_frozen (d : Dev) (l : Lane) (f : ClockState → ClockState) : (d.onClk l f).frozen = d.frozen := rfl
@[simp] theorem Dev.onClk_gateSent (d : Dev) (l : Lane) (f : ClockState → ClockState) : (d.onClk l f).gateSent = d.gateSent := rfl
@[simp] theorem Dev.onClk_lands (d : Dev) (l : Lane) (f : ClockState → ClockState) : (d.onClk l f).lands = d.lands := rfl
@[simp] theorem Dev.onClk_shadows (d : Dev) (l : Lane) (f : ClockState → ClockState) : (d.onClk l f).shadows = d.shadows := rfl
@[simp] theorem Dev.onClk_clocks (d : Dev) (l : Lane) (f : ClockState → ClockState) : (d.onClk l f).clocks = d.clocks.put l (f (d.clocks.at l)) := rfl

/-! `Dev.onDie` -/

@[simp] theorem Dev.onDie_now (d : Dev) (k : DieIx) (f : DieState → DieState) : (d.onDie k f).now = d.now := rfl
@[simp] theorem Dev.onDie_regs (d : Dev) (k : DieIx) (f : DieState → DieState) : (d.onDie k f).regs = d.regs := rfl
@[simp] theorem Dev.onDie_staged (d : Dev) (k : DieIx) (f : DieState → DieState) : (d.onDie k f).staged = d.staged := rfl
@[simp] theorem Dev.onDie_commitPending (d : Dev) (k : DieIx) (f : DieState → DieState) : (d.onDie k f).commitPending = d.commitPending := rfl
@[simp] theorem Dev.onDie_freeCtr (d : Dev) (k : DieIx) (f : DieState → DieState) : (d.onDie k f).freeCtr = d.freeCtr := rfl
@[simp] theorem Dev.onDie_links (d : Dev) (k : DieIx) (f : DieState → DieState) : (d.onDie k f).links = d.links := rfl
@[simp] theorem Dev.onDie_outs (d : Dev) (k : DieIx) (f : DieState → DieState) : (d.onDie k f).outs = d.outs := rfl
@[simp] theorem Dev.onDie_power (d : Dev) (k : DieIx) (f : DieState → DieState) : (d.onDie k f).power = d.power := rfl
@[simp] theorem Dev.onDie_clocks (d : Dev) (k : DieIx) (f : DieState → DieState) : (d.onDie k f).clocks = d.clocks := rfl
@[simp] theorem Dev.onDie_mode (d : Dev) (k : DieIx) (f : DieState → DieState) : (d.onDie k f).mode = d.mode := rfl
@[simp] theorem Dev.onDie_lanes (d : Dev) (k : DieIx) (f : DieState → DieState) : (d.onDie k f).lanes = d.lanes := rfl
@[simp] theorem Dev.onDie_handover (d : Dev) (k : DieIx) (f : DieState → DieState) : (d.onDie k f).handover = d.handover := rfl
@[simp] theorem Dev.onDie_host (d : Dev) (k : DieIx) (f : DieState → DieState) : (d.onDie k f).host = d.host := rfl
@[simp] theorem Dev.onDie_ledger (d : Dev) (k : DieIx) (f : DieState → DieState) : (d.onDie k f).ledger = d.ledger := rfl
@[simp] theorem Dev.onDie_mods (d : Dev) (k : DieIx) (f : DieState → DieState) : (d.onDie k f).mods = d.mods := rfl
@[simp] theorem Dev.onDie_prot (d : Dev) (k : DieIx) (f : DieState → DieState) : (d.onDie k f).prot = d.prot := rfl
@[simp] theorem Dev.onDie_bridges (d : Dev) (k : DieIx) (f : DieState → DieState) : (d.onDie k f).bridges = d.bridges := rfl
@[simp] theorem Dev.onDie_axes (d : Dev) (k : DieIx) (f : DieState → DieState) : (d.onDie k f).axes = d.axes := rfl
@[simp] theorem Dev.onDie_islands (d : Dev) (k : DieIx) (f : DieState → DieState) : (d.onDie k f).islands = d.islands := rfl
@[simp] theorem Dev.onDie_motion (d : Dev) (k : DieIx) (f : DieState → DieState) : (d.onDie k f).motion = d.motion := rfl
@[simp] theorem Dev.onDie_meas (d : Dev) (k : DieIx) (f : DieState → DieState) : (d.onDie k f).meas = d.meas := rfl
@[simp] theorem Dev.onDie_field1 (d : Dev) (k : DieIx) (f : DieState → DieState) : (d.onDie k f).field1 = d.field1 := rfl
@[simp] theorem Dev.onDie_field2 (d : Dev) (k : DieIx) (f : DieState → DieState) : (d.onDie k f).field2 = d.field2 := rfl
@[simp] theorem Dev.onDie_quill (d : Dev) (k : DieIx) (f : DieState → DieState) : (d.onDie k f).quill = d.quill := rfl
@[simp] theorem Dev.onDie_pos (d : Dev) (k : DieIx) (f : DieState → DieState) : (d.onDie k f).pos = d.pos := rfl
@[simp] theorem Dev.onDie_slay (d : Dev) (k : DieIx) (f : DieState → DieState) : (d.onDie k f).slay = d.slay := rfl
@[simp] theorem Dev.onDie_can (d : Dev) (k : DieIx) (f : DieState → DieState) : (d.onDie k f).can = d.can := rfl
@[simp] theorem Dev.onDie_ruling (d : Dev) (k : DieIx) (f : DieState → DieState) : (d.onDie k f).ruling = d.ruling := rfl
@[simp] theorem Dev.onDie_rig (d : Dev) (k : DieIx) (f : DieState → DieState) : (d.onDie k f).rig = d.rig := rfl
@[simp] theorem Dev.onDie_eth (d : Dev) (k : DieIx) (f : DieState → DieState) : (d.onDie k f).eth = d.eth := rfl
@[simp] theorem Dev.onDie_time (d : Dev) (k : DieIx) (f : DieState → DieState) : (d.onDie k f).time = d.time := rfl
@[simp] theorem Dev.onDie_tinker (d : Dev) (k : DieIx) (f : DieState → DieState) : (d.onDie k f).tinker = d.tinker := rfl
@[simp] theorem Dev.onDie_sensors (d : Dev) (k : DieIx) (f : DieState → DieState) : (d.onDie k f).sensors = d.sensors := rfl
@[simp] theorem Dev.onDie_thermal (d : Dev) (k : DieIx) (f : DieState → DieState) : (d.onDie k f).thermal = d.thermal := rfl
@[simp] theorem Dev.onDie_nvm (d : Dev) (k : DieIx) (f : DieState → DieState) : (d.onDie k f).nvm = d.nvm := rfl
@[simp] theorem Dev.onDie_boot (d : Dev) (k : DieIx) (f : DieState → DieState) : (d.onDie k f).boot = d.boot := rfl
@[simp] theorem Dev.onDie_res (d : Dev) (k : DieIx) (f : DieState → DieState) : (d.onDie k f).res = d.res := rfl
@[simp] theorem Dev.onDie_cal (d : Dev) (k : DieIx) (f : DieState → DieState) : (d.onDie k f).cal = d.cal := rfl
@[simp] theorem Dev.onDie_frozen (d : Dev) (k : DieIx) (f : DieState → DieState) : (d.onDie k f).frozen = d.frozen := rfl
@[simp] theorem Dev.onDie_gateSent (d : Dev) (k : DieIx) (f : DieState → DieState) : (d.onDie k f).gateSent = d.gateSent := rfl
@[simp] theorem Dev.onDie_lands (d : Dev) (k : DieIx) (f : DieState → DieState) : (d.onDie k f).lands = d.lands := rfl
@[simp] theorem Dev.onDie_shadows (d : Dev) (k : DieIx) (f : DieState → DieState) : (d.onDie k f).shadows = d.shadows := rfl
@[simp] theorem Dev.onDie_dies (d : Dev) (k : DieIx) (f : DieState → DieState) : (d.onDie k f).dies = d.dies.set k (f d.dies[k]) := rfl

/-! `Dev.onIsland` -/

@[simp] theorem Dev.onIsland_now (d : Dev) (i : Lane) (f : Island → Island) : (d.onIsland i f).now = d.now := rfl
@[simp] theorem Dev.onIsland_regs (d : Dev) (i : Lane) (f : Island → Island) : (d.onIsland i f).regs = d.regs := rfl
@[simp] theorem Dev.onIsland_staged (d : Dev) (i : Lane) (f : Island → Island) : (d.onIsland i f).staged = d.staged := rfl
@[simp] theorem Dev.onIsland_commitPending (d : Dev) (i : Lane) (f : Island → Island) : (d.onIsland i f).commitPending = d.commitPending := rfl
@[simp] theorem Dev.onIsland_freeCtr (d : Dev) (i : Lane) (f : Island → Island) : (d.onIsland i f).freeCtr = d.freeCtr := rfl
@[simp] theorem Dev.onIsland_links (d : Dev) (i : Lane) (f : Island → Island) : (d.onIsland i f).links = d.links := rfl
@[simp] theorem Dev.onIsland_dies (d : Dev) (i : Lane) (f : Island → Island) : (d.onIsland i f).dies = d.dies := rfl
@[simp] theorem Dev.onIsland_outs (d : Dev) (i : Lane) (f : Island → Island) : (d.onIsland i f).outs = d.outs := rfl
@[simp] theorem Dev.onIsland_power (d : Dev) (i : Lane) (f : Island → Island) : (d.onIsland i f).power = d.power := rfl
@[simp] theorem Dev.onIsland_clocks (d : Dev) (i : Lane) (f : Island → Island) : (d.onIsland i f).clocks = d.clocks := rfl
@[simp] theorem Dev.onIsland_mode (d : Dev) (i : Lane) (f : Island → Island) : (d.onIsland i f).mode = d.mode := rfl
@[simp] theorem Dev.onIsland_lanes (d : Dev) (i : Lane) (f : Island → Island) : (d.onIsland i f).lanes = d.lanes := rfl
@[simp] theorem Dev.onIsland_handover (d : Dev) (i : Lane) (f : Island → Island) : (d.onIsland i f).handover = d.handover := rfl
@[simp] theorem Dev.onIsland_host (d : Dev) (i : Lane) (f : Island → Island) : (d.onIsland i f).host = d.host := rfl
@[simp] theorem Dev.onIsland_ledger (d : Dev) (i : Lane) (f : Island → Island) : (d.onIsland i f).ledger = d.ledger := rfl
@[simp] theorem Dev.onIsland_mods (d : Dev) (i : Lane) (f : Island → Island) : (d.onIsland i f).mods = d.mods := rfl
@[simp] theorem Dev.onIsland_prot (d : Dev) (i : Lane) (f : Island → Island) : (d.onIsland i f).prot = d.prot := rfl
@[simp] theorem Dev.onIsland_bridges (d : Dev) (i : Lane) (f : Island → Island) : (d.onIsland i f).bridges = d.bridges := rfl
@[simp] theorem Dev.onIsland_axes (d : Dev) (i : Lane) (f : Island → Island) : (d.onIsland i f).axes = d.axes := rfl
@[simp] theorem Dev.onIsland_motion (d : Dev) (i : Lane) (f : Island → Island) : (d.onIsland i f).motion = d.motion := rfl
@[simp] theorem Dev.onIsland_meas (d : Dev) (i : Lane) (f : Island → Island) : (d.onIsland i f).meas = d.meas := rfl
@[simp] theorem Dev.onIsland_field1 (d : Dev) (i : Lane) (f : Island → Island) : (d.onIsland i f).field1 = d.field1 := rfl
@[simp] theorem Dev.onIsland_field2 (d : Dev) (i : Lane) (f : Island → Island) : (d.onIsland i f).field2 = d.field2 := rfl
@[simp] theorem Dev.onIsland_quill (d : Dev) (i : Lane) (f : Island → Island) : (d.onIsland i f).quill = d.quill := rfl
@[simp] theorem Dev.onIsland_pos (d : Dev) (i : Lane) (f : Island → Island) : (d.onIsland i f).pos = d.pos := rfl
@[simp] theorem Dev.onIsland_slay (d : Dev) (i : Lane) (f : Island → Island) : (d.onIsland i f).slay = d.slay := rfl
@[simp] theorem Dev.onIsland_can (d : Dev) (i : Lane) (f : Island → Island) : (d.onIsland i f).can = d.can := rfl
@[simp] theorem Dev.onIsland_ruling (d : Dev) (i : Lane) (f : Island → Island) : (d.onIsland i f).ruling = d.ruling := rfl
@[simp] theorem Dev.onIsland_rig (d : Dev) (i : Lane) (f : Island → Island) : (d.onIsland i f).rig = d.rig := rfl
@[simp] theorem Dev.onIsland_eth (d : Dev) (i : Lane) (f : Island → Island) : (d.onIsland i f).eth = d.eth := rfl
@[simp] theorem Dev.onIsland_time (d : Dev) (i : Lane) (f : Island → Island) : (d.onIsland i f).time = d.time := rfl
@[simp] theorem Dev.onIsland_tinker (d : Dev) (i : Lane) (f : Island → Island) : (d.onIsland i f).tinker = d.tinker := rfl
@[simp] theorem Dev.onIsland_sensors (d : Dev) (i : Lane) (f : Island → Island) : (d.onIsland i f).sensors = d.sensors := rfl
@[simp] theorem Dev.onIsland_thermal (d : Dev) (i : Lane) (f : Island → Island) : (d.onIsland i f).thermal = d.thermal := rfl
@[simp] theorem Dev.onIsland_nvm (d : Dev) (i : Lane) (f : Island → Island) : (d.onIsland i f).nvm = d.nvm := rfl
@[simp] theorem Dev.onIsland_boot (d : Dev) (i : Lane) (f : Island → Island) : (d.onIsland i f).boot = d.boot := rfl
@[simp] theorem Dev.onIsland_res (d : Dev) (i : Lane) (f : Island → Island) : (d.onIsland i f).res = d.res := rfl
@[simp] theorem Dev.onIsland_cal (d : Dev) (i : Lane) (f : Island → Island) : (d.onIsland i f).cal = d.cal := rfl
@[simp] theorem Dev.onIsland_frozen (d : Dev) (i : Lane) (f : Island → Island) : (d.onIsland i f).frozen = d.frozen := rfl
@[simp] theorem Dev.onIsland_gateSent (d : Dev) (i : Lane) (f : Island → Island) : (d.onIsland i f).gateSent = d.gateSent := rfl
@[simp] theorem Dev.onIsland_lands (d : Dev) (i : Lane) (f : Island → Island) : (d.onIsland i f).lands = d.lands := rfl
@[simp] theorem Dev.onIsland_shadows (d : Dev) (i : Lane) (f : Island → Island) : (d.onIsland i f).shadows = d.shadows := rfl
@[simp] theorem Dev.onIsland_islands (d : Dev) (i : Lane) (f : Island → Island) : (d.onIsland i f).islands = d.islands.put i (f (d.islands.at i)) := rfl

/-! `Dev.onLane` -/

@[simp] theorem Dev.onLane_now (d : Dev) (l : Lane) (f : LaneState → LaneState) : (d.onLane l f).now = d.now := rfl
@[simp] theorem Dev.onLane_regs (d : Dev) (l : Lane) (f : LaneState → LaneState) : (d.onLane l f).regs = d.regs := rfl
@[simp] theorem Dev.onLane_staged (d : Dev) (l : Lane) (f : LaneState → LaneState) : (d.onLane l f).staged = d.staged := rfl
@[simp] theorem Dev.onLane_commitPending (d : Dev) (l : Lane) (f : LaneState → LaneState) : (d.onLane l f).commitPending = d.commitPending := rfl
@[simp] theorem Dev.onLane_freeCtr (d : Dev) (l : Lane) (f : LaneState → LaneState) : (d.onLane l f).freeCtr = d.freeCtr := rfl
@[simp] theorem Dev.onLane_links (d : Dev) (l : Lane) (f : LaneState → LaneState) : (d.onLane l f).links = d.links := rfl
@[simp] theorem Dev.onLane_dies (d : Dev) (l : Lane) (f : LaneState → LaneState) : (d.onLane l f).dies = d.dies := rfl
@[simp] theorem Dev.onLane_outs (d : Dev) (l : Lane) (f : LaneState → LaneState) : (d.onLane l f).outs = d.outs := rfl
@[simp] theorem Dev.onLane_power (d : Dev) (l : Lane) (f : LaneState → LaneState) : (d.onLane l f).power = d.power := rfl
@[simp] theorem Dev.onLane_clocks (d : Dev) (l : Lane) (f : LaneState → LaneState) : (d.onLane l f).clocks = d.clocks := rfl
@[simp] theorem Dev.onLane_mode (d : Dev) (l : Lane) (f : LaneState → LaneState) : (d.onLane l f).mode = d.mode := rfl
@[simp] theorem Dev.onLane_handover (d : Dev) (l : Lane) (f : LaneState → LaneState) : (d.onLane l f).handover = d.handover := rfl
@[simp] theorem Dev.onLane_host (d : Dev) (l : Lane) (f : LaneState → LaneState) : (d.onLane l f).host = d.host := rfl
@[simp] theorem Dev.onLane_ledger (d : Dev) (l : Lane) (f : LaneState → LaneState) : (d.onLane l f).ledger = d.ledger := rfl
@[simp] theorem Dev.onLane_mods (d : Dev) (l : Lane) (f : LaneState → LaneState) : (d.onLane l f).mods = d.mods := rfl
@[simp] theorem Dev.onLane_prot (d : Dev) (l : Lane) (f : LaneState → LaneState) : (d.onLane l f).prot = d.prot := rfl
@[simp] theorem Dev.onLane_bridges (d : Dev) (l : Lane) (f : LaneState → LaneState) : (d.onLane l f).bridges = d.bridges := rfl
@[simp] theorem Dev.onLane_axes (d : Dev) (l : Lane) (f : LaneState → LaneState) : (d.onLane l f).axes = d.axes := rfl
@[simp] theorem Dev.onLane_islands (d : Dev) (l : Lane) (f : LaneState → LaneState) : (d.onLane l f).islands = d.islands := rfl
@[simp] theorem Dev.onLane_motion (d : Dev) (l : Lane) (f : LaneState → LaneState) : (d.onLane l f).motion = d.motion := rfl
@[simp] theorem Dev.onLane_meas (d : Dev) (l : Lane) (f : LaneState → LaneState) : (d.onLane l f).meas = d.meas := rfl
@[simp] theorem Dev.onLane_field1 (d : Dev) (l : Lane) (f : LaneState → LaneState) : (d.onLane l f).field1 = d.field1 := rfl
@[simp] theorem Dev.onLane_field2 (d : Dev) (l : Lane) (f : LaneState → LaneState) : (d.onLane l f).field2 = d.field2 := rfl
@[simp] theorem Dev.onLane_quill (d : Dev) (l : Lane) (f : LaneState → LaneState) : (d.onLane l f).quill = d.quill := rfl
@[simp] theorem Dev.onLane_pos (d : Dev) (l : Lane) (f : LaneState → LaneState) : (d.onLane l f).pos = d.pos := rfl
@[simp] theorem Dev.onLane_slay (d : Dev) (l : Lane) (f : LaneState → LaneState) : (d.onLane l f).slay = d.slay := rfl
@[simp] theorem Dev.onLane_can (d : Dev) (l : Lane) (f : LaneState → LaneState) : (d.onLane l f).can = d.can := rfl
@[simp] theorem Dev.onLane_ruling (d : Dev) (l : Lane) (f : LaneState → LaneState) : (d.onLane l f).ruling = d.ruling := rfl
@[simp] theorem Dev.onLane_rig (d : Dev) (l : Lane) (f : LaneState → LaneState) : (d.onLane l f).rig = d.rig := rfl
@[simp] theorem Dev.onLane_eth (d : Dev) (l : Lane) (f : LaneState → LaneState) : (d.onLane l f).eth = d.eth := rfl
@[simp] theorem Dev.onLane_time (d : Dev) (l : Lane) (f : LaneState → LaneState) : (d.onLane l f).time = d.time := rfl
@[simp] theorem Dev.onLane_tinker (d : Dev) (l : Lane) (f : LaneState → LaneState) : (d.onLane l f).tinker = d.tinker := rfl
@[simp] theorem Dev.onLane_sensors (d : Dev) (l : Lane) (f : LaneState → LaneState) : (d.onLane l f).sensors = d.sensors := rfl
@[simp] theorem Dev.onLane_thermal (d : Dev) (l : Lane) (f : LaneState → LaneState) : (d.onLane l f).thermal = d.thermal := rfl
@[simp] theorem Dev.onLane_nvm (d : Dev) (l : Lane) (f : LaneState → LaneState) : (d.onLane l f).nvm = d.nvm := rfl
@[simp] theorem Dev.onLane_boot (d : Dev) (l : Lane) (f : LaneState → LaneState) : (d.onLane l f).boot = d.boot := rfl
@[simp] theorem Dev.onLane_res (d : Dev) (l : Lane) (f : LaneState → LaneState) : (d.onLane l f).res = d.res := rfl
@[simp] theorem Dev.onLane_cal (d : Dev) (l : Lane) (f : LaneState → LaneState) : (d.onLane l f).cal = d.cal := rfl
@[simp] theorem Dev.onLane_frozen (d : Dev) (l : Lane) (f : LaneState → LaneState) : (d.onLane l f).frozen = d.frozen := rfl
@[simp] theorem Dev.onLane_gateSent (d : Dev) (l : Lane) (f : LaneState → LaneState) : (d.onLane l f).gateSent = d.gateSent := rfl
@[simp] theorem Dev.onLane_lands (d : Dev) (l : Lane) (f : LaneState → LaneState) : (d.onLane l f).lands = d.lands := rfl
@[simp] theorem Dev.onLane_shadows (d : Dev) (l : Lane) (f : LaneState → LaneState) : (d.onLane l f).shadows = d.shadows := rfl
@[simp] theorem Dev.onLane_lanes (d : Dev) (l : Lane) (f : LaneState → LaneState) : (d.onLane l f).lanes = d.lanes.put l (f (d.lanes.at l)) := rfl

/-! `Dev.onLink` -/

@[simp] theorem Dev.onLink_now (d : Dev) (k : LinkRx) (f : LinkRxState → LinkRxState) : (d.onLink k f).now = d.now := rfl
@[simp] theorem Dev.onLink_regs (d : Dev) (k : LinkRx) (f : LinkRxState → LinkRxState) : (d.onLink k f).regs = d.regs := rfl
@[simp] theorem Dev.onLink_staged (d : Dev) (k : LinkRx) (f : LinkRxState → LinkRxState) : (d.onLink k f).staged = d.staged := rfl
@[simp] theorem Dev.onLink_commitPending (d : Dev) (k : LinkRx) (f : LinkRxState → LinkRxState) : (d.onLink k f).commitPending = d.commitPending := rfl
@[simp] theorem Dev.onLink_freeCtr (d : Dev) (k : LinkRx) (f : LinkRxState → LinkRxState) : (d.onLink k f).freeCtr = d.freeCtr := rfl
@[simp] theorem Dev.onLink_dies (d : Dev) (k : LinkRx) (f : LinkRxState → LinkRxState) : (d.onLink k f).dies = d.dies := rfl
@[simp] theorem Dev.onLink_outs (d : Dev) (k : LinkRx) (f : LinkRxState → LinkRxState) : (d.onLink k f).outs = d.outs := rfl
@[simp] theorem Dev.onLink_power (d : Dev) (k : LinkRx) (f : LinkRxState → LinkRxState) : (d.onLink k f).power = d.power := rfl
@[simp] theorem Dev.onLink_clocks (d : Dev) (k : LinkRx) (f : LinkRxState → LinkRxState) : (d.onLink k f).clocks = d.clocks := rfl
@[simp] theorem Dev.onLink_mode (d : Dev) (k : LinkRx) (f : LinkRxState → LinkRxState) : (d.onLink k f).mode = d.mode := rfl
@[simp] theorem Dev.onLink_lanes (d : Dev) (k : LinkRx) (f : LinkRxState → LinkRxState) : (d.onLink k f).lanes = d.lanes := rfl
@[simp] theorem Dev.onLink_handover (d : Dev) (k : LinkRx) (f : LinkRxState → LinkRxState) : (d.onLink k f).handover = d.handover := rfl
@[simp] theorem Dev.onLink_host (d : Dev) (k : LinkRx) (f : LinkRxState → LinkRxState) : (d.onLink k f).host = d.host := rfl
@[simp] theorem Dev.onLink_ledger (d : Dev) (k : LinkRx) (f : LinkRxState → LinkRxState) : (d.onLink k f).ledger = d.ledger := rfl
@[simp] theorem Dev.onLink_mods (d : Dev) (k : LinkRx) (f : LinkRxState → LinkRxState) : (d.onLink k f).mods = d.mods := rfl
@[simp] theorem Dev.onLink_prot (d : Dev) (k : LinkRx) (f : LinkRxState → LinkRxState) : (d.onLink k f).prot = d.prot := rfl
@[simp] theorem Dev.onLink_bridges (d : Dev) (k : LinkRx) (f : LinkRxState → LinkRxState) : (d.onLink k f).bridges = d.bridges := rfl
@[simp] theorem Dev.onLink_axes (d : Dev) (k : LinkRx) (f : LinkRxState → LinkRxState) : (d.onLink k f).axes = d.axes := rfl
@[simp] theorem Dev.onLink_islands (d : Dev) (k : LinkRx) (f : LinkRxState → LinkRxState) : (d.onLink k f).islands = d.islands := rfl
@[simp] theorem Dev.onLink_motion (d : Dev) (k : LinkRx) (f : LinkRxState → LinkRxState) : (d.onLink k f).motion = d.motion := rfl
@[simp] theorem Dev.onLink_meas (d : Dev) (k : LinkRx) (f : LinkRxState → LinkRxState) : (d.onLink k f).meas = d.meas := rfl
@[simp] theorem Dev.onLink_field1 (d : Dev) (k : LinkRx) (f : LinkRxState → LinkRxState) : (d.onLink k f).field1 = d.field1 := rfl
@[simp] theorem Dev.onLink_field2 (d : Dev) (k : LinkRx) (f : LinkRxState → LinkRxState) : (d.onLink k f).field2 = d.field2 := rfl
@[simp] theorem Dev.onLink_quill (d : Dev) (k : LinkRx) (f : LinkRxState → LinkRxState) : (d.onLink k f).quill = d.quill := rfl
@[simp] theorem Dev.onLink_pos (d : Dev) (k : LinkRx) (f : LinkRxState → LinkRxState) : (d.onLink k f).pos = d.pos := rfl
@[simp] theorem Dev.onLink_slay (d : Dev) (k : LinkRx) (f : LinkRxState → LinkRxState) : (d.onLink k f).slay = d.slay := rfl
@[simp] theorem Dev.onLink_can (d : Dev) (k : LinkRx) (f : LinkRxState → LinkRxState) : (d.onLink k f).can = d.can := rfl
@[simp] theorem Dev.onLink_ruling (d : Dev) (k : LinkRx) (f : LinkRxState → LinkRxState) : (d.onLink k f).ruling = d.ruling := rfl
@[simp] theorem Dev.onLink_rig (d : Dev) (k : LinkRx) (f : LinkRxState → LinkRxState) : (d.onLink k f).rig = d.rig := rfl
@[simp] theorem Dev.onLink_eth (d : Dev) (k : LinkRx) (f : LinkRxState → LinkRxState) : (d.onLink k f).eth = d.eth := rfl
@[simp] theorem Dev.onLink_time (d : Dev) (k : LinkRx) (f : LinkRxState → LinkRxState) : (d.onLink k f).time = d.time := rfl
@[simp] theorem Dev.onLink_tinker (d : Dev) (k : LinkRx) (f : LinkRxState → LinkRxState) : (d.onLink k f).tinker = d.tinker := rfl
@[simp] theorem Dev.onLink_sensors (d : Dev) (k : LinkRx) (f : LinkRxState → LinkRxState) : (d.onLink k f).sensors = d.sensors := rfl
@[simp] theorem Dev.onLink_thermal (d : Dev) (k : LinkRx) (f : LinkRxState → LinkRxState) : (d.onLink k f).thermal = d.thermal := rfl
@[simp] theorem Dev.onLink_nvm (d : Dev) (k : LinkRx) (f : LinkRxState → LinkRxState) : (d.onLink k f).nvm = d.nvm := rfl
@[simp] theorem Dev.onLink_boot (d : Dev) (k : LinkRx) (f : LinkRxState → LinkRxState) : (d.onLink k f).boot = d.boot := rfl
@[simp] theorem Dev.onLink_res (d : Dev) (k : LinkRx) (f : LinkRxState → LinkRxState) : (d.onLink k f).res = d.res := rfl
@[simp] theorem Dev.onLink_cal (d : Dev) (k : LinkRx) (f : LinkRxState → LinkRxState) : (d.onLink k f).cal = d.cal := rfl
@[simp] theorem Dev.onLink_frozen (d : Dev) (k : LinkRx) (f : LinkRxState → LinkRxState) : (d.onLink k f).frozen = d.frozen := rfl
@[simp] theorem Dev.onLink_gateSent (d : Dev) (k : LinkRx) (f : LinkRxState → LinkRxState) : (d.onLink k f).gateSent = d.gateSent := rfl
@[simp] theorem Dev.onLink_lands (d : Dev) (k : LinkRx) (f : LinkRxState → LinkRxState) : (d.onLink k f).lands = d.lands := rfl
@[simp] theorem Dev.onLink_shadows (d : Dev) (k : LinkRx) (f : LinkRxState → LinkRxState) : (d.onLink k f).shadows = d.shadows := rfl
@[simp] theorem Dev.onLink_links (d : Dev) (k : LinkRx) (f : LinkRxState → LinkRxState) : (d.onLink k f).links = d.links.set (linkIx k) (f d.links[linkIx k]) := rfl

/-! `Dev.onMeas` -/

@[simp] theorem Dev.onMeas_now (d : Dev) (l : Lane) (f : MeasUnit → MeasUnit) : (d.onMeas l f).now = d.now := rfl
@[simp] theorem Dev.onMeas_regs (d : Dev) (l : Lane) (f : MeasUnit → MeasUnit) : (d.onMeas l f).regs = d.regs := rfl
@[simp] theorem Dev.onMeas_staged (d : Dev) (l : Lane) (f : MeasUnit → MeasUnit) : (d.onMeas l f).staged = d.staged := rfl
@[simp] theorem Dev.onMeas_commitPending (d : Dev) (l : Lane) (f : MeasUnit → MeasUnit) : (d.onMeas l f).commitPending = d.commitPending := rfl
@[simp] theorem Dev.onMeas_freeCtr (d : Dev) (l : Lane) (f : MeasUnit → MeasUnit) : (d.onMeas l f).freeCtr = d.freeCtr := rfl
@[simp] theorem Dev.onMeas_links (d : Dev) (l : Lane) (f : MeasUnit → MeasUnit) : (d.onMeas l f).links = d.links := rfl
@[simp] theorem Dev.onMeas_dies (d : Dev) (l : Lane) (f : MeasUnit → MeasUnit) : (d.onMeas l f).dies = d.dies := rfl
@[simp] theorem Dev.onMeas_outs (d : Dev) (l : Lane) (f : MeasUnit → MeasUnit) : (d.onMeas l f).outs = d.outs := rfl
@[simp] theorem Dev.onMeas_power (d : Dev) (l : Lane) (f : MeasUnit → MeasUnit) : (d.onMeas l f).power = d.power := rfl
@[simp] theorem Dev.onMeas_clocks (d : Dev) (l : Lane) (f : MeasUnit → MeasUnit) : (d.onMeas l f).clocks = d.clocks := rfl
@[simp] theorem Dev.onMeas_mode (d : Dev) (l : Lane) (f : MeasUnit → MeasUnit) : (d.onMeas l f).mode = d.mode := rfl
@[simp] theorem Dev.onMeas_lanes (d : Dev) (l : Lane) (f : MeasUnit → MeasUnit) : (d.onMeas l f).lanes = d.lanes := rfl
@[simp] theorem Dev.onMeas_handover (d : Dev) (l : Lane) (f : MeasUnit → MeasUnit) : (d.onMeas l f).handover = d.handover := rfl
@[simp] theorem Dev.onMeas_host (d : Dev) (l : Lane) (f : MeasUnit → MeasUnit) : (d.onMeas l f).host = d.host := rfl
@[simp] theorem Dev.onMeas_ledger (d : Dev) (l : Lane) (f : MeasUnit → MeasUnit) : (d.onMeas l f).ledger = d.ledger := rfl
@[simp] theorem Dev.onMeas_mods (d : Dev) (l : Lane) (f : MeasUnit → MeasUnit) : (d.onMeas l f).mods = d.mods := rfl
@[simp] theorem Dev.onMeas_prot (d : Dev) (l : Lane) (f : MeasUnit → MeasUnit) : (d.onMeas l f).prot = d.prot := rfl
@[simp] theorem Dev.onMeas_bridges (d : Dev) (l : Lane) (f : MeasUnit → MeasUnit) : (d.onMeas l f).bridges = d.bridges := rfl
@[simp] theorem Dev.onMeas_axes (d : Dev) (l : Lane) (f : MeasUnit → MeasUnit) : (d.onMeas l f).axes = d.axes := rfl
@[simp] theorem Dev.onMeas_islands (d : Dev) (l : Lane) (f : MeasUnit → MeasUnit) : (d.onMeas l f).islands = d.islands := rfl
@[simp] theorem Dev.onMeas_motion (d : Dev) (l : Lane) (f : MeasUnit → MeasUnit) : (d.onMeas l f).motion = d.motion := rfl
@[simp] theorem Dev.onMeas_field1 (d : Dev) (l : Lane) (f : MeasUnit → MeasUnit) : (d.onMeas l f).field1 = d.field1 := rfl
@[simp] theorem Dev.onMeas_field2 (d : Dev) (l : Lane) (f : MeasUnit → MeasUnit) : (d.onMeas l f).field2 = d.field2 := rfl
@[simp] theorem Dev.onMeas_quill (d : Dev) (l : Lane) (f : MeasUnit → MeasUnit) : (d.onMeas l f).quill = d.quill := rfl
@[simp] theorem Dev.onMeas_pos (d : Dev) (l : Lane) (f : MeasUnit → MeasUnit) : (d.onMeas l f).pos = d.pos := rfl
@[simp] theorem Dev.onMeas_slay (d : Dev) (l : Lane) (f : MeasUnit → MeasUnit) : (d.onMeas l f).slay = d.slay := rfl
@[simp] theorem Dev.onMeas_can (d : Dev) (l : Lane) (f : MeasUnit → MeasUnit) : (d.onMeas l f).can = d.can := rfl
@[simp] theorem Dev.onMeas_ruling (d : Dev) (l : Lane) (f : MeasUnit → MeasUnit) : (d.onMeas l f).ruling = d.ruling := rfl
@[simp] theorem Dev.onMeas_rig (d : Dev) (l : Lane) (f : MeasUnit → MeasUnit) : (d.onMeas l f).rig = d.rig := rfl
@[simp] theorem Dev.onMeas_eth (d : Dev) (l : Lane) (f : MeasUnit → MeasUnit) : (d.onMeas l f).eth = d.eth := rfl
@[simp] theorem Dev.onMeas_time (d : Dev) (l : Lane) (f : MeasUnit → MeasUnit) : (d.onMeas l f).time = d.time := rfl
@[simp] theorem Dev.onMeas_tinker (d : Dev) (l : Lane) (f : MeasUnit → MeasUnit) : (d.onMeas l f).tinker = d.tinker := rfl
@[simp] theorem Dev.onMeas_sensors (d : Dev) (l : Lane) (f : MeasUnit → MeasUnit) : (d.onMeas l f).sensors = d.sensors := rfl
@[simp] theorem Dev.onMeas_thermal (d : Dev) (l : Lane) (f : MeasUnit → MeasUnit) : (d.onMeas l f).thermal = d.thermal := rfl
@[simp] theorem Dev.onMeas_nvm (d : Dev) (l : Lane) (f : MeasUnit → MeasUnit) : (d.onMeas l f).nvm = d.nvm := rfl
@[simp] theorem Dev.onMeas_boot (d : Dev) (l : Lane) (f : MeasUnit → MeasUnit) : (d.onMeas l f).boot = d.boot := rfl
@[simp] theorem Dev.onMeas_res (d : Dev) (l : Lane) (f : MeasUnit → MeasUnit) : (d.onMeas l f).res = d.res := rfl
@[simp] theorem Dev.onMeas_cal (d : Dev) (l : Lane) (f : MeasUnit → MeasUnit) : (d.onMeas l f).cal = d.cal := rfl
@[simp] theorem Dev.onMeas_frozen (d : Dev) (l : Lane) (f : MeasUnit → MeasUnit) : (d.onMeas l f).frozen = d.frozen := rfl
@[simp] theorem Dev.onMeas_gateSent (d : Dev) (l : Lane) (f : MeasUnit → MeasUnit) : (d.onMeas l f).gateSent = d.gateSent := rfl
@[simp] theorem Dev.onMeas_lands (d : Dev) (l : Lane) (f : MeasUnit → MeasUnit) : (d.onMeas l f).lands = d.lands := rfl
@[simp] theorem Dev.onMeas_shadows (d : Dev) (l : Lane) (f : MeasUnit → MeasUnit) : (d.onMeas l f).shadows = d.shadows := rfl
@[simp] theorem Dev.onMeas_meas (d : Dev) (l : Lane) (f : MeasUnit → MeasUnit) : (d.onMeas l f).meas = d.meas.put l (f (d.meas.at l)) := rfl

/-! `Dev.onMod` -/

@[simp] theorem Dev.onMod_now (d : Dev) (l : Lane) (f : ModUnit → ModUnit) : (d.onMod l f).now = d.now := rfl
@[simp] theorem Dev.onMod_regs (d : Dev) (l : Lane) (f : ModUnit → ModUnit) : (d.onMod l f).regs = d.regs := rfl
@[simp] theorem Dev.onMod_staged (d : Dev) (l : Lane) (f : ModUnit → ModUnit) : (d.onMod l f).staged = d.staged := rfl
@[simp] theorem Dev.onMod_commitPending (d : Dev) (l : Lane) (f : ModUnit → ModUnit) : (d.onMod l f).commitPending = d.commitPending := rfl
@[simp] theorem Dev.onMod_freeCtr (d : Dev) (l : Lane) (f : ModUnit → ModUnit) : (d.onMod l f).freeCtr = d.freeCtr := rfl
@[simp] theorem Dev.onMod_links (d : Dev) (l : Lane) (f : ModUnit → ModUnit) : (d.onMod l f).links = d.links := rfl
@[simp] theorem Dev.onMod_dies (d : Dev) (l : Lane) (f : ModUnit → ModUnit) : (d.onMod l f).dies = d.dies := rfl
@[simp] theorem Dev.onMod_outs (d : Dev) (l : Lane) (f : ModUnit → ModUnit) : (d.onMod l f).outs = d.outs := rfl
@[simp] theorem Dev.onMod_power (d : Dev) (l : Lane) (f : ModUnit → ModUnit) : (d.onMod l f).power = d.power := rfl
@[simp] theorem Dev.onMod_clocks (d : Dev) (l : Lane) (f : ModUnit → ModUnit) : (d.onMod l f).clocks = d.clocks := rfl
@[simp] theorem Dev.onMod_mode (d : Dev) (l : Lane) (f : ModUnit → ModUnit) : (d.onMod l f).mode = d.mode := rfl
@[simp] theorem Dev.onMod_lanes (d : Dev) (l : Lane) (f : ModUnit → ModUnit) : (d.onMod l f).lanes = d.lanes := rfl
@[simp] theorem Dev.onMod_handover (d : Dev) (l : Lane) (f : ModUnit → ModUnit) : (d.onMod l f).handover = d.handover := rfl
@[simp] theorem Dev.onMod_host (d : Dev) (l : Lane) (f : ModUnit → ModUnit) : (d.onMod l f).host = d.host := rfl
@[simp] theorem Dev.onMod_ledger (d : Dev) (l : Lane) (f : ModUnit → ModUnit) : (d.onMod l f).ledger = d.ledger := rfl
@[simp] theorem Dev.onMod_prot (d : Dev) (l : Lane) (f : ModUnit → ModUnit) : (d.onMod l f).prot = d.prot := rfl
@[simp] theorem Dev.onMod_bridges (d : Dev) (l : Lane) (f : ModUnit → ModUnit) : (d.onMod l f).bridges = d.bridges := rfl
@[simp] theorem Dev.onMod_axes (d : Dev) (l : Lane) (f : ModUnit → ModUnit) : (d.onMod l f).axes = d.axes := rfl
@[simp] theorem Dev.onMod_islands (d : Dev) (l : Lane) (f : ModUnit → ModUnit) : (d.onMod l f).islands = d.islands := rfl
@[simp] theorem Dev.onMod_motion (d : Dev) (l : Lane) (f : ModUnit → ModUnit) : (d.onMod l f).motion = d.motion := rfl
@[simp] theorem Dev.onMod_meas (d : Dev) (l : Lane) (f : ModUnit → ModUnit) : (d.onMod l f).meas = d.meas := rfl
@[simp] theorem Dev.onMod_field1 (d : Dev) (l : Lane) (f : ModUnit → ModUnit) : (d.onMod l f).field1 = d.field1 := rfl
@[simp] theorem Dev.onMod_field2 (d : Dev) (l : Lane) (f : ModUnit → ModUnit) : (d.onMod l f).field2 = d.field2 := rfl
@[simp] theorem Dev.onMod_quill (d : Dev) (l : Lane) (f : ModUnit → ModUnit) : (d.onMod l f).quill = d.quill := rfl
@[simp] theorem Dev.onMod_pos (d : Dev) (l : Lane) (f : ModUnit → ModUnit) : (d.onMod l f).pos = d.pos := rfl
@[simp] theorem Dev.onMod_slay (d : Dev) (l : Lane) (f : ModUnit → ModUnit) : (d.onMod l f).slay = d.slay := rfl
@[simp] theorem Dev.onMod_can (d : Dev) (l : Lane) (f : ModUnit → ModUnit) : (d.onMod l f).can = d.can := rfl
@[simp] theorem Dev.onMod_ruling (d : Dev) (l : Lane) (f : ModUnit → ModUnit) : (d.onMod l f).ruling = d.ruling := rfl
@[simp] theorem Dev.onMod_rig (d : Dev) (l : Lane) (f : ModUnit → ModUnit) : (d.onMod l f).rig = d.rig := rfl
@[simp] theorem Dev.onMod_eth (d : Dev) (l : Lane) (f : ModUnit → ModUnit) : (d.onMod l f).eth = d.eth := rfl
@[simp] theorem Dev.onMod_time (d : Dev) (l : Lane) (f : ModUnit → ModUnit) : (d.onMod l f).time = d.time := rfl
@[simp] theorem Dev.onMod_tinker (d : Dev) (l : Lane) (f : ModUnit → ModUnit) : (d.onMod l f).tinker = d.tinker := rfl
@[simp] theorem Dev.onMod_sensors (d : Dev) (l : Lane) (f : ModUnit → ModUnit) : (d.onMod l f).sensors = d.sensors := rfl
@[simp] theorem Dev.onMod_thermal (d : Dev) (l : Lane) (f : ModUnit → ModUnit) : (d.onMod l f).thermal = d.thermal := rfl
@[simp] theorem Dev.onMod_nvm (d : Dev) (l : Lane) (f : ModUnit → ModUnit) : (d.onMod l f).nvm = d.nvm := rfl
@[simp] theorem Dev.onMod_boot (d : Dev) (l : Lane) (f : ModUnit → ModUnit) : (d.onMod l f).boot = d.boot := rfl
@[simp] theorem Dev.onMod_res (d : Dev) (l : Lane) (f : ModUnit → ModUnit) : (d.onMod l f).res = d.res := rfl
@[simp] theorem Dev.onMod_cal (d : Dev) (l : Lane) (f : ModUnit → ModUnit) : (d.onMod l f).cal = d.cal := rfl
@[simp] theorem Dev.onMod_frozen (d : Dev) (l : Lane) (f : ModUnit → ModUnit) : (d.onMod l f).frozen = d.frozen := rfl
@[simp] theorem Dev.onMod_gateSent (d : Dev) (l : Lane) (f : ModUnit → ModUnit) : (d.onMod l f).gateSent = d.gateSent := rfl
@[simp] theorem Dev.onMod_lands (d : Dev) (l : Lane) (f : ModUnit → ModUnit) : (d.onMod l f).lands = d.lands := rfl
@[simp] theorem Dev.onMod_shadows (d : Dev) (l : Lane) (f : ModUnit → ModUnit) : (d.onMod l f).shadows = d.shadows := rfl
@[simp] theorem Dev.onMod_mods (d : Dev) (l : Lane) (f : ModUnit → ModUnit) : (d.onMod l f).mods = d.mods.put l (f (d.mods.at l)) := rfl

/-! `Dev.onMotion` -/

@[simp] theorem Dev.onMotion_now (d : Dev) (x : Fin 2) (f : MotionState → MotionState) : (d.onMotion x f).now = d.now := rfl
@[simp] theorem Dev.onMotion_regs (d : Dev) (x : Fin 2) (f : MotionState → MotionState) : (d.onMotion x f).regs = d.regs := rfl
@[simp] theorem Dev.onMotion_staged (d : Dev) (x : Fin 2) (f : MotionState → MotionState) : (d.onMotion x f).staged = d.staged := rfl
@[simp] theorem Dev.onMotion_commitPending (d : Dev) (x : Fin 2) (f : MotionState → MotionState) : (d.onMotion x f).commitPending = d.commitPending := rfl
@[simp] theorem Dev.onMotion_freeCtr (d : Dev) (x : Fin 2) (f : MotionState → MotionState) : (d.onMotion x f).freeCtr = d.freeCtr := rfl
@[simp] theorem Dev.onMotion_links (d : Dev) (x : Fin 2) (f : MotionState → MotionState) : (d.onMotion x f).links = d.links := rfl
@[simp] theorem Dev.onMotion_dies (d : Dev) (x : Fin 2) (f : MotionState → MotionState) : (d.onMotion x f).dies = d.dies := rfl
@[simp] theorem Dev.onMotion_outs (d : Dev) (x : Fin 2) (f : MotionState → MotionState) : (d.onMotion x f).outs = d.outs := rfl
@[simp] theorem Dev.onMotion_power (d : Dev) (x : Fin 2) (f : MotionState → MotionState) : (d.onMotion x f).power = d.power := rfl
@[simp] theorem Dev.onMotion_clocks (d : Dev) (x : Fin 2) (f : MotionState → MotionState) : (d.onMotion x f).clocks = d.clocks := rfl
@[simp] theorem Dev.onMotion_mode (d : Dev) (x : Fin 2) (f : MotionState → MotionState) : (d.onMotion x f).mode = d.mode := rfl
@[simp] theorem Dev.onMotion_lanes (d : Dev) (x : Fin 2) (f : MotionState → MotionState) : (d.onMotion x f).lanes = d.lanes := rfl
@[simp] theorem Dev.onMotion_handover (d : Dev) (x : Fin 2) (f : MotionState → MotionState) : (d.onMotion x f).handover = d.handover := rfl
@[simp] theorem Dev.onMotion_host (d : Dev) (x : Fin 2) (f : MotionState → MotionState) : (d.onMotion x f).host = d.host := rfl
@[simp] theorem Dev.onMotion_ledger (d : Dev) (x : Fin 2) (f : MotionState → MotionState) : (d.onMotion x f).ledger = d.ledger := rfl
@[simp] theorem Dev.onMotion_mods (d : Dev) (x : Fin 2) (f : MotionState → MotionState) : (d.onMotion x f).mods = d.mods := rfl
@[simp] theorem Dev.onMotion_prot (d : Dev) (x : Fin 2) (f : MotionState → MotionState) : (d.onMotion x f).prot = d.prot := rfl
@[simp] theorem Dev.onMotion_bridges (d : Dev) (x : Fin 2) (f : MotionState → MotionState) : (d.onMotion x f).bridges = d.bridges := rfl
@[simp] theorem Dev.onMotion_axes (d : Dev) (x : Fin 2) (f : MotionState → MotionState) : (d.onMotion x f).axes = d.axes := rfl
@[simp] theorem Dev.onMotion_islands (d : Dev) (x : Fin 2) (f : MotionState → MotionState) : (d.onMotion x f).islands = d.islands := rfl
@[simp] theorem Dev.onMotion_meas (d : Dev) (x : Fin 2) (f : MotionState → MotionState) : (d.onMotion x f).meas = d.meas := rfl
@[simp] theorem Dev.onMotion_field1 (d : Dev) (x : Fin 2) (f : MotionState → MotionState) : (d.onMotion x f).field1 = d.field1 := rfl
@[simp] theorem Dev.onMotion_field2 (d : Dev) (x : Fin 2) (f : MotionState → MotionState) : (d.onMotion x f).field2 = d.field2 := rfl
@[simp] theorem Dev.onMotion_quill (d : Dev) (x : Fin 2) (f : MotionState → MotionState) : (d.onMotion x f).quill = d.quill := rfl
@[simp] theorem Dev.onMotion_pos (d : Dev) (x : Fin 2) (f : MotionState → MotionState) : (d.onMotion x f).pos = d.pos := rfl
@[simp] theorem Dev.onMotion_slay (d : Dev) (x : Fin 2) (f : MotionState → MotionState) : (d.onMotion x f).slay = d.slay := rfl
@[simp] theorem Dev.onMotion_can (d : Dev) (x : Fin 2) (f : MotionState → MotionState) : (d.onMotion x f).can = d.can := rfl
@[simp] theorem Dev.onMotion_ruling (d : Dev) (x : Fin 2) (f : MotionState → MotionState) : (d.onMotion x f).ruling = d.ruling := rfl
@[simp] theorem Dev.onMotion_rig (d : Dev) (x : Fin 2) (f : MotionState → MotionState) : (d.onMotion x f).rig = d.rig := rfl
@[simp] theorem Dev.onMotion_eth (d : Dev) (x : Fin 2) (f : MotionState → MotionState) : (d.onMotion x f).eth = d.eth := rfl
@[simp] theorem Dev.onMotion_time (d : Dev) (x : Fin 2) (f : MotionState → MotionState) : (d.onMotion x f).time = d.time := rfl
@[simp] theorem Dev.onMotion_tinker (d : Dev) (x : Fin 2) (f : MotionState → MotionState) : (d.onMotion x f).tinker = d.tinker := rfl
@[simp] theorem Dev.onMotion_sensors (d : Dev) (x : Fin 2) (f : MotionState → MotionState) : (d.onMotion x f).sensors = d.sensors := rfl
@[simp] theorem Dev.onMotion_thermal (d : Dev) (x : Fin 2) (f : MotionState → MotionState) : (d.onMotion x f).thermal = d.thermal := rfl
@[simp] theorem Dev.onMotion_nvm (d : Dev) (x : Fin 2) (f : MotionState → MotionState) : (d.onMotion x f).nvm = d.nvm := rfl
@[simp] theorem Dev.onMotion_boot (d : Dev) (x : Fin 2) (f : MotionState → MotionState) : (d.onMotion x f).boot = d.boot := rfl
@[simp] theorem Dev.onMotion_res (d : Dev) (x : Fin 2) (f : MotionState → MotionState) : (d.onMotion x f).res = d.res := rfl
@[simp] theorem Dev.onMotion_cal (d : Dev) (x : Fin 2) (f : MotionState → MotionState) : (d.onMotion x f).cal = d.cal := rfl
@[simp] theorem Dev.onMotion_frozen (d : Dev) (x : Fin 2) (f : MotionState → MotionState) : (d.onMotion x f).frozen = d.frozen := rfl
@[simp] theorem Dev.onMotion_gateSent (d : Dev) (x : Fin 2) (f : MotionState → MotionState) : (d.onMotion x f).gateSent = d.gateSent := rfl
@[simp] theorem Dev.onMotion_lands (d : Dev) (x : Fin 2) (f : MotionState → MotionState) : (d.onMotion x f).lands = d.lands := rfl
@[simp] theorem Dev.onMotion_shadows (d : Dev) (x : Fin 2) (f : MotionState → MotionState) : (d.onMotion x f).shadows = d.shadows := rfl
@[simp] theorem Dev.onMotion_motion (d : Dev) (x : Fin 2) (f : MotionState → MotionState) : (d.onMotion x f).motion = d.motion.set x (f d.motion[x]) := rfl

/-! `Dev.onOut` -/

@[simp] theorem Dev.onOut_now (d : Dev) (o : OutIx) (f : OutState → OutState) : (d.onOut o f).now = d.now := rfl
@[simp] theorem Dev.onOut_regs (d : Dev) (o : OutIx) (f : OutState → OutState) : (d.onOut o f).regs = d.regs := rfl
@[simp] theorem Dev.onOut_staged (d : Dev) (o : OutIx) (f : OutState → OutState) : (d.onOut o f).staged = d.staged := rfl
@[simp] theorem Dev.onOut_commitPending (d : Dev) (o : OutIx) (f : OutState → OutState) : (d.onOut o f).commitPending = d.commitPending := rfl
@[simp] theorem Dev.onOut_freeCtr (d : Dev) (o : OutIx) (f : OutState → OutState) : (d.onOut o f).freeCtr = d.freeCtr := rfl
@[simp] theorem Dev.onOut_links (d : Dev) (o : OutIx) (f : OutState → OutState) : (d.onOut o f).links = d.links := rfl
@[simp] theorem Dev.onOut_dies (d : Dev) (o : OutIx) (f : OutState → OutState) : (d.onOut o f).dies = d.dies := rfl
@[simp] theorem Dev.onOut_power (d : Dev) (o : OutIx) (f : OutState → OutState) : (d.onOut o f).power = d.power := rfl
@[simp] theorem Dev.onOut_clocks (d : Dev) (o : OutIx) (f : OutState → OutState) : (d.onOut o f).clocks = d.clocks := rfl
@[simp] theorem Dev.onOut_mode (d : Dev) (o : OutIx) (f : OutState → OutState) : (d.onOut o f).mode = d.mode := rfl
@[simp] theorem Dev.onOut_lanes (d : Dev) (o : OutIx) (f : OutState → OutState) : (d.onOut o f).lanes = d.lanes := rfl
@[simp] theorem Dev.onOut_handover (d : Dev) (o : OutIx) (f : OutState → OutState) : (d.onOut o f).handover = d.handover := rfl
@[simp] theorem Dev.onOut_host (d : Dev) (o : OutIx) (f : OutState → OutState) : (d.onOut o f).host = d.host := rfl
@[simp] theorem Dev.onOut_ledger (d : Dev) (o : OutIx) (f : OutState → OutState) : (d.onOut o f).ledger = d.ledger := rfl
@[simp] theorem Dev.onOut_mods (d : Dev) (o : OutIx) (f : OutState → OutState) : (d.onOut o f).mods = d.mods := rfl
@[simp] theorem Dev.onOut_prot (d : Dev) (o : OutIx) (f : OutState → OutState) : (d.onOut o f).prot = d.prot := rfl
@[simp] theorem Dev.onOut_bridges (d : Dev) (o : OutIx) (f : OutState → OutState) : (d.onOut o f).bridges = d.bridges := rfl
@[simp] theorem Dev.onOut_axes (d : Dev) (o : OutIx) (f : OutState → OutState) : (d.onOut o f).axes = d.axes := rfl
@[simp] theorem Dev.onOut_islands (d : Dev) (o : OutIx) (f : OutState → OutState) : (d.onOut o f).islands = d.islands := rfl
@[simp] theorem Dev.onOut_motion (d : Dev) (o : OutIx) (f : OutState → OutState) : (d.onOut o f).motion = d.motion := rfl
@[simp] theorem Dev.onOut_meas (d : Dev) (o : OutIx) (f : OutState → OutState) : (d.onOut o f).meas = d.meas := rfl
@[simp] theorem Dev.onOut_field1 (d : Dev) (o : OutIx) (f : OutState → OutState) : (d.onOut o f).field1 = d.field1 := rfl
@[simp] theorem Dev.onOut_field2 (d : Dev) (o : OutIx) (f : OutState → OutState) : (d.onOut o f).field2 = d.field2 := rfl
@[simp] theorem Dev.onOut_quill (d : Dev) (o : OutIx) (f : OutState → OutState) : (d.onOut o f).quill = d.quill := rfl
@[simp] theorem Dev.onOut_pos (d : Dev) (o : OutIx) (f : OutState → OutState) : (d.onOut o f).pos = d.pos := rfl
@[simp] theorem Dev.onOut_slay (d : Dev) (o : OutIx) (f : OutState → OutState) : (d.onOut o f).slay = d.slay := rfl
@[simp] theorem Dev.onOut_can (d : Dev) (o : OutIx) (f : OutState → OutState) : (d.onOut o f).can = d.can := rfl
@[simp] theorem Dev.onOut_ruling (d : Dev) (o : OutIx) (f : OutState → OutState) : (d.onOut o f).ruling = d.ruling := rfl
@[simp] theorem Dev.onOut_rig (d : Dev) (o : OutIx) (f : OutState → OutState) : (d.onOut o f).rig = d.rig := rfl
@[simp] theorem Dev.onOut_eth (d : Dev) (o : OutIx) (f : OutState → OutState) : (d.onOut o f).eth = d.eth := rfl
@[simp] theorem Dev.onOut_time (d : Dev) (o : OutIx) (f : OutState → OutState) : (d.onOut o f).time = d.time := rfl
@[simp] theorem Dev.onOut_tinker (d : Dev) (o : OutIx) (f : OutState → OutState) : (d.onOut o f).tinker = d.tinker := rfl
@[simp] theorem Dev.onOut_sensors (d : Dev) (o : OutIx) (f : OutState → OutState) : (d.onOut o f).sensors = d.sensors := rfl
@[simp] theorem Dev.onOut_thermal (d : Dev) (o : OutIx) (f : OutState → OutState) : (d.onOut o f).thermal = d.thermal := rfl
@[simp] theorem Dev.onOut_nvm (d : Dev) (o : OutIx) (f : OutState → OutState) : (d.onOut o f).nvm = d.nvm := rfl
@[simp] theorem Dev.onOut_boot (d : Dev) (o : OutIx) (f : OutState → OutState) : (d.onOut o f).boot = d.boot := rfl
@[simp] theorem Dev.onOut_res (d : Dev) (o : OutIx) (f : OutState → OutState) : (d.onOut o f).res = d.res := rfl
@[simp] theorem Dev.onOut_cal (d : Dev) (o : OutIx) (f : OutState → OutState) : (d.onOut o f).cal = d.cal := rfl
@[simp] theorem Dev.onOut_frozen (d : Dev) (o : OutIx) (f : OutState → OutState) : (d.onOut o f).frozen = d.frozen := rfl
@[simp] theorem Dev.onOut_gateSent (d : Dev) (o : OutIx) (f : OutState → OutState) : (d.onOut o f).gateSent = d.gateSent := rfl
@[simp] theorem Dev.onOut_lands (d : Dev) (o : OutIx) (f : OutState → OutState) : (d.onOut o f).lands = d.lands := rfl
@[simp] theorem Dev.onOut_shadows (d : Dev) (o : OutIx) (f : OutState → OutState) : (d.onOut o f).shadows = d.shadows := rfl
@[simp] theorem Dev.onOut_outs (d : Dev) (o : OutIx) (f : OutState → OutState) : (d.onOut o f).outs = d.outs.set o (f d.outs[o]) := rfl

/-! `Dev.onPos` -/

@[simp] theorem Dev.onPos_now (d : Dev) (l : Lane) (f : PosUnit → PosUnit) : (d.onPos l f).now = d.now := rfl
@[simp] theorem Dev.onPos_regs (d : Dev) (l : Lane) (f : PosUnit → PosUnit) : (d.onPos l f).regs = d.regs := rfl
@[simp] theorem Dev.onPos_staged (d : Dev) (l : Lane) (f : PosUnit → PosUnit) : (d.onPos l f).staged = d.staged := rfl
@[simp] theorem Dev.onPos_commitPending (d : Dev) (l : Lane) (f : PosUnit → PosUnit) : (d.onPos l f).commitPending = d.commitPending := rfl
@[simp] theorem Dev.onPos_freeCtr (d : Dev) (l : Lane) (f : PosUnit → PosUnit) : (d.onPos l f).freeCtr = d.freeCtr := rfl
@[simp] theorem Dev.onPos_links (d : Dev) (l : Lane) (f : PosUnit → PosUnit) : (d.onPos l f).links = d.links := rfl
@[simp] theorem Dev.onPos_dies (d : Dev) (l : Lane) (f : PosUnit → PosUnit) : (d.onPos l f).dies = d.dies := rfl
@[simp] theorem Dev.onPos_outs (d : Dev) (l : Lane) (f : PosUnit → PosUnit) : (d.onPos l f).outs = d.outs := rfl
@[simp] theorem Dev.onPos_power (d : Dev) (l : Lane) (f : PosUnit → PosUnit) : (d.onPos l f).power = d.power := rfl
@[simp] theorem Dev.onPos_clocks (d : Dev) (l : Lane) (f : PosUnit → PosUnit) : (d.onPos l f).clocks = d.clocks := rfl
@[simp] theorem Dev.onPos_mode (d : Dev) (l : Lane) (f : PosUnit → PosUnit) : (d.onPos l f).mode = d.mode := rfl
@[simp] theorem Dev.onPos_lanes (d : Dev) (l : Lane) (f : PosUnit → PosUnit) : (d.onPos l f).lanes = d.lanes := rfl
@[simp] theorem Dev.onPos_handover (d : Dev) (l : Lane) (f : PosUnit → PosUnit) : (d.onPos l f).handover = d.handover := rfl
@[simp] theorem Dev.onPos_host (d : Dev) (l : Lane) (f : PosUnit → PosUnit) : (d.onPos l f).host = d.host := rfl
@[simp] theorem Dev.onPos_ledger (d : Dev) (l : Lane) (f : PosUnit → PosUnit) : (d.onPos l f).ledger = d.ledger := rfl
@[simp] theorem Dev.onPos_mods (d : Dev) (l : Lane) (f : PosUnit → PosUnit) : (d.onPos l f).mods = d.mods := rfl
@[simp] theorem Dev.onPos_prot (d : Dev) (l : Lane) (f : PosUnit → PosUnit) : (d.onPos l f).prot = d.prot := rfl
@[simp] theorem Dev.onPos_bridges (d : Dev) (l : Lane) (f : PosUnit → PosUnit) : (d.onPos l f).bridges = d.bridges := rfl
@[simp] theorem Dev.onPos_axes (d : Dev) (l : Lane) (f : PosUnit → PosUnit) : (d.onPos l f).axes = d.axes := rfl
@[simp] theorem Dev.onPos_islands (d : Dev) (l : Lane) (f : PosUnit → PosUnit) : (d.onPos l f).islands = d.islands := rfl
@[simp] theorem Dev.onPos_motion (d : Dev) (l : Lane) (f : PosUnit → PosUnit) : (d.onPos l f).motion = d.motion := rfl
@[simp] theorem Dev.onPos_meas (d : Dev) (l : Lane) (f : PosUnit → PosUnit) : (d.onPos l f).meas = d.meas := rfl
@[simp] theorem Dev.onPos_field1 (d : Dev) (l : Lane) (f : PosUnit → PosUnit) : (d.onPos l f).field1 = d.field1 := rfl
@[simp] theorem Dev.onPos_field2 (d : Dev) (l : Lane) (f : PosUnit → PosUnit) : (d.onPos l f).field2 = d.field2 := rfl
@[simp] theorem Dev.onPos_quill (d : Dev) (l : Lane) (f : PosUnit → PosUnit) : (d.onPos l f).quill = d.quill := rfl
@[simp] theorem Dev.onPos_slay (d : Dev) (l : Lane) (f : PosUnit → PosUnit) : (d.onPos l f).slay = d.slay := rfl
@[simp] theorem Dev.onPos_can (d : Dev) (l : Lane) (f : PosUnit → PosUnit) : (d.onPos l f).can = d.can := rfl
@[simp] theorem Dev.onPos_ruling (d : Dev) (l : Lane) (f : PosUnit → PosUnit) : (d.onPos l f).ruling = d.ruling := rfl
@[simp] theorem Dev.onPos_rig (d : Dev) (l : Lane) (f : PosUnit → PosUnit) : (d.onPos l f).rig = d.rig := rfl
@[simp] theorem Dev.onPos_eth (d : Dev) (l : Lane) (f : PosUnit → PosUnit) : (d.onPos l f).eth = d.eth := rfl
@[simp] theorem Dev.onPos_time (d : Dev) (l : Lane) (f : PosUnit → PosUnit) : (d.onPos l f).time = d.time := rfl
@[simp] theorem Dev.onPos_tinker (d : Dev) (l : Lane) (f : PosUnit → PosUnit) : (d.onPos l f).tinker = d.tinker := rfl
@[simp] theorem Dev.onPos_sensors (d : Dev) (l : Lane) (f : PosUnit → PosUnit) : (d.onPos l f).sensors = d.sensors := rfl
@[simp] theorem Dev.onPos_thermal (d : Dev) (l : Lane) (f : PosUnit → PosUnit) : (d.onPos l f).thermal = d.thermal := rfl
@[simp] theorem Dev.onPos_nvm (d : Dev) (l : Lane) (f : PosUnit → PosUnit) : (d.onPos l f).nvm = d.nvm := rfl
@[simp] theorem Dev.onPos_boot (d : Dev) (l : Lane) (f : PosUnit → PosUnit) : (d.onPos l f).boot = d.boot := rfl
@[simp] theorem Dev.onPos_res (d : Dev) (l : Lane) (f : PosUnit → PosUnit) : (d.onPos l f).res = d.res := rfl
@[simp] theorem Dev.onPos_cal (d : Dev) (l : Lane) (f : PosUnit → PosUnit) : (d.onPos l f).cal = d.cal := rfl
@[simp] theorem Dev.onPos_frozen (d : Dev) (l : Lane) (f : PosUnit → PosUnit) : (d.onPos l f).frozen = d.frozen := rfl
@[simp] theorem Dev.onPos_gateSent (d : Dev) (l : Lane) (f : PosUnit → PosUnit) : (d.onPos l f).gateSent = d.gateSent := rfl
@[simp] theorem Dev.onPos_lands (d : Dev) (l : Lane) (f : PosUnit → PosUnit) : (d.onPos l f).lands = d.lands := rfl
@[simp] theorem Dev.onPos_shadows (d : Dev) (l : Lane) (f : PosUnit → PosUnit) : (d.onPos l f).shadows = d.shadows := rfl
@[simp] theorem Dev.onPos_pos (d : Dev) (l : Lane) (f : PosUnit → PosUnit) : (d.onPos l f).pos = d.pos.put l (f (d.pos.at l)) := rfl

/-! `Dev.onProt` -/

@[simp] theorem Dev.onProt_now (d : Dev) (l : Lane) (f : ProtUnit → ProtUnit) : (d.onProt l f).now = d.now := rfl
@[simp] theorem Dev.onProt_regs (d : Dev) (l : Lane) (f : ProtUnit → ProtUnit) : (d.onProt l f).regs = d.regs := rfl
@[simp] theorem Dev.onProt_staged (d : Dev) (l : Lane) (f : ProtUnit → ProtUnit) : (d.onProt l f).staged = d.staged := rfl
@[simp] theorem Dev.onProt_commitPending (d : Dev) (l : Lane) (f : ProtUnit → ProtUnit) : (d.onProt l f).commitPending = d.commitPending := rfl
@[simp] theorem Dev.onProt_freeCtr (d : Dev) (l : Lane) (f : ProtUnit → ProtUnit) : (d.onProt l f).freeCtr = d.freeCtr := rfl
@[simp] theorem Dev.onProt_links (d : Dev) (l : Lane) (f : ProtUnit → ProtUnit) : (d.onProt l f).links = d.links := rfl
@[simp] theorem Dev.onProt_dies (d : Dev) (l : Lane) (f : ProtUnit → ProtUnit) : (d.onProt l f).dies = d.dies := rfl
@[simp] theorem Dev.onProt_outs (d : Dev) (l : Lane) (f : ProtUnit → ProtUnit) : (d.onProt l f).outs = d.outs := rfl
@[simp] theorem Dev.onProt_power (d : Dev) (l : Lane) (f : ProtUnit → ProtUnit) : (d.onProt l f).power = d.power := rfl
@[simp] theorem Dev.onProt_clocks (d : Dev) (l : Lane) (f : ProtUnit → ProtUnit) : (d.onProt l f).clocks = d.clocks := rfl
@[simp] theorem Dev.onProt_mode (d : Dev) (l : Lane) (f : ProtUnit → ProtUnit) : (d.onProt l f).mode = d.mode := rfl
@[simp] theorem Dev.onProt_lanes (d : Dev) (l : Lane) (f : ProtUnit → ProtUnit) : (d.onProt l f).lanes = d.lanes := rfl
@[simp] theorem Dev.onProt_handover (d : Dev) (l : Lane) (f : ProtUnit → ProtUnit) : (d.onProt l f).handover = d.handover := rfl
@[simp] theorem Dev.onProt_host (d : Dev) (l : Lane) (f : ProtUnit → ProtUnit) : (d.onProt l f).host = d.host := rfl
@[simp] theorem Dev.onProt_ledger (d : Dev) (l : Lane) (f : ProtUnit → ProtUnit) : (d.onProt l f).ledger = d.ledger := rfl
@[simp] theorem Dev.onProt_mods (d : Dev) (l : Lane) (f : ProtUnit → ProtUnit) : (d.onProt l f).mods = d.mods := rfl
@[simp] theorem Dev.onProt_bridges (d : Dev) (l : Lane) (f : ProtUnit → ProtUnit) : (d.onProt l f).bridges = d.bridges := rfl
@[simp] theorem Dev.onProt_axes (d : Dev) (l : Lane) (f : ProtUnit → ProtUnit) : (d.onProt l f).axes = d.axes := rfl
@[simp] theorem Dev.onProt_islands (d : Dev) (l : Lane) (f : ProtUnit → ProtUnit) : (d.onProt l f).islands = d.islands := rfl
@[simp] theorem Dev.onProt_motion (d : Dev) (l : Lane) (f : ProtUnit → ProtUnit) : (d.onProt l f).motion = d.motion := rfl
@[simp] theorem Dev.onProt_meas (d : Dev) (l : Lane) (f : ProtUnit → ProtUnit) : (d.onProt l f).meas = d.meas := rfl
@[simp] theorem Dev.onProt_field1 (d : Dev) (l : Lane) (f : ProtUnit → ProtUnit) : (d.onProt l f).field1 = d.field1 := rfl
@[simp] theorem Dev.onProt_field2 (d : Dev) (l : Lane) (f : ProtUnit → ProtUnit) : (d.onProt l f).field2 = d.field2 := rfl
@[simp] theorem Dev.onProt_quill (d : Dev) (l : Lane) (f : ProtUnit → ProtUnit) : (d.onProt l f).quill = d.quill := rfl
@[simp] theorem Dev.onProt_pos (d : Dev) (l : Lane) (f : ProtUnit → ProtUnit) : (d.onProt l f).pos = d.pos := rfl
@[simp] theorem Dev.onProt_slay (d : Dev) (l : Lane) (f : ProtUnit → ProtUnit) : (d.onProt l f).slay = d.slay := rfl
@[simp] theorem Dev.onProt_can (d : Dev) (l : Lane) (f : ProtUnit → ProtUnit) : (d.onProt l f).can = d.can := rfl
@[simp] theorem Dev.onProt_ruling (d : Dev) (l : Lane) (f : ProtUnit → ProtUnit) : (d.onProt l f).ruling = d.ruling := rfl
@[simp] theorem Dev.onProt_rig (d : Dev) (l : Lane) (f : ProtUnit → ProtUnit) : (d.onProt l f).rig = d.rig := rfl
@[simp] theorem Dev.onProt_eth (d : Dev) (l : Lane) (f : ProtUnit → ProtUnit) : (d.onProt l f).eth = d.eth := rfl
@[simp] theorem Dev.onProt_time (d : Dev) (l : Lane) (f : ProtUnit → ProtUnit) : (d.onProt l f).time = d.time := rfl
@[simp] theorem Dev.onProt_tinker (d : Dev) (l : Lane) (f : ProtUnit → ProtUnit) : (d.onProt l f).tinker = d.tinker := rfl
@[simp] theorem Dev.onProt_sensors (d : Dev) (l : Lane) (f : ProtUnit → ProtUnit) : (d.onProt l f).sensors = d.sensors := rfl
@[simp] theorem Dev.onProt_thermal (d : Dev) (l : Lane) (f : ProtUnit → ProtUnit) : (d.onProt l f).thermal = d.thermal := rfl
@[simp] theorem Dev.onProt_nvm (d : Dev) (l : Lane) (f : ProtUnit → ProtUnit) : (d.onProt l f).nvm = d.nvm := rfl
@[simp] theorem Dev.onProt_boot (d : Dev) (l : Lane) (f : ProtUnit → ProtUnit) : (d.onProt l f).boot = d.boot := rfl
@[simp] theorem Dev.onProt_res (d : Dev) (l : Lane) (f : ProtUnit → ProtUnit) : (d.onProt l f).res = d.res := rfl
@[simp] theorem Dev.onProt_cal (d : Dev) (l : Lane) (f : ProtUnit → ProtUnit) : (d.onProt l f).cal = d.cal := rfl
@[simp] theorem Dev.onProt_frozen (d : Dev) (l : Lane) (f : ProtUnit → ProtUnit) : (d.onProt l f).frozen = d.frozen := rfl
@[simp] theorem Dev.onProt_gateSent (d : Dev) (l : Lane) (f : ProtUnit → ProtUnit) : (d.onProt l f).gateSent = d.gateSent := rfl
@[simp] theorem Dev.onProt_lands (d : Dev) (l : Lane) (f : ProtUnit → ProtUnit) : (d.onProt l f).lands = d.lands := rfl
@[simp] theorem Dev.onProt_shadows (d : Dev) (l : Lane) (f : ProtUnit → ProtUnit) : (d.onProt l f).shadows = d.shadows := rfl
@[simp] theorem Dev.onProt_prot (d : Dev) (l : Lane) (f : ProtUnit → ProtUnit) : (d.onProt l f).prot = d.prot.put l (f (d.prot.at l)) := rfl

/-! `Dev.onQuill` -/

@[simp] theorem Dev.onQuill_now (d : Dev) (l : Lane) (f : QuillUnit → QuillUnit) : (d.onQuill l f).now = d.now := rfl
@[simp] theorem Dev.onQuill_regs (d : Dev) (l : Lane) (f : QuillUnit → QuillUnit) : (d.onQuill l f).regs = d.regs := rfl
@[simp] theorem Dev.onQuill_staged (d : Dev) (l : Lane) (f : QuillUnit → QuillUnit) : (d.onQuill l f).staged = d.staged := rfl
@[simp] theorem Dev.onQuill_commitPending (d : Dev) (l : Lane) (f : QuillUnit → QuillUnit) : (d.onQuill l f).commitPending = d.commitPending := rfl
@[simp] theorem Dev.onQuill_freeCtr (d : Dev) (l : Lane) (f : QuillUnit → QuillUnit) : (d.onQuill l f).freeCtr = d.freeCtr := rfl
@[simp] theorem Dev.onQuill_links (d : Dev) (l : Lane) (f : QuillUnit → QuillUnit) : (d.onQuill l f).links = d.links := rfl
@[simp] theorem Dev.onQuill_dies (d : Dev) (l : Lane) (f : QuillUnit → QuillUnit) : (d.onQuill l f).dies = d.dies := rfl
@[simp] theorem Dev.onQuill_outs (d : Dev) (l : Lane) (f : QuillUnit → QuillUnit) : (d.onQuill l f).outs = d.outs := rfl
@[simp] theorem Dev.onQuill_power (d : Dev) (l : Lane) (f : QuillUnit → QuillUnit) : (d.onQuill l f).power = d.power := rfl
@[simp] theorem Dev.onQuill_clocks (d : Dev) (l : Lane) (f : QuillUnit → QuillUnit) : (d.onQuill l f).clocks = d.clocks := rfl
@[simp] theorem Dev.onQuill_mode (d : Dev) (l : Lane) (f : QuillUnit → QuillUnit) : (d.onQuill l f).mode = d.mode := rfl
@[simp] theorem Dev.onQuill_lanes (d : Dev) (l : Lane) (f : QuillUnit → QuillUnit) : (d.onQuill l f).lanes = d.lanes := rfl
@[simp] theorem Dev.onQuill_handover (d : Dev) (l : Lane) (f : QuillUnit → QuillUnit) : (d.onQuill l f).handover = d.handover := rfl
@[simp] theorem Dev.onQuill_host (d : Dev) (l : Lane) (f : QuillUnit → QuillUnit) : (d.onQuill l f).host = d.host := rfl
@[simp] theorem Dev.onQuill_ledger (d : Dev) (l : Lane) (f : QuillUnit → QuillUnit) : (d.onQuill l f).ledger = d.ledger := rfl
@[simp] theorem Dev.onQuill_mods (d : Dev) (l : Lane) (f : QuillUnit → QuillUnit) : (d.onQuill l f).mods = d.mods := rfl
@[simp] theorem Dev.onQuill_prot (d : Dev) (l : Lane) (f : QuillUnit → QuillUnit) : (d.onQuill l f).prot = d.prot := rfl
@[simp] theorem Dev.onQuill_bridges (d : Dev) (l : Lane) (f : QuillUnit → QuillUnit) : (d.onQuill l f).bridges = d.bridges := rfl
@[simp] theorem Dev.onQuill_axes (d : Dev) (l : Lane) (f : QuillUnit → QuillUnit) : (d.onQuill l f).axes = d.axes := rfl
@[simp] theorem Dev.onQuill_islands (d : Dev) (l : Lane) (f : QuillUnit → QuillUnit) : (d.onQuill l f).islands = d.islands := rfl
@[simp] theorem Dev.onQuill_motion (d : Dev) (l : Lane) (f : QuillUnit → QuillUnit) : (d.onQuill l f).motion = d.motion := rfl
@[simp] theorem Dev.onQuill_meas (d : Dev) (l : Lane) (f : QuillUnit → QuillUnit) : (d.onQuill l f).meas = d.meas := rfl
@[simp] theorem Dev.onQuill_field1 (d : Dev) (l : Lane) (f : QuillUnit → QuillUnit) : (d.onQuill l f).field1 = d.field1 := rfl
@[simp] theorem Dev.onQuill_field2 (d : Dev) (l : Lane) (f : QuillUnit → QuillUnit) : (d.onQuill l f).field2 = d.field2 := rfl
@[simp] theorem Dev.onQuill_pos (d : Dev) (l : Lane) (f : QuillUnit → QuillUnit) : (d.onQuill l f).pos = d.pos := rfl
@[simp] theorem Dev.onQuill_slay (d : Dev) (l : Lane) (f : QuillUnit → QuillUnit) : (d.onQuill l f).slay = d.slay := rfl
@[simp] theorem Dev.onQuill_can (d : Dev) (l : Lane) (f : QuillUnit → QuillUnit) : (d.onQuill l f).can = d.can := rfl
@[simp] theorem Dev.onQuill_ruling (d : Dev) (l : Lane) (f : QuillUnit → QuillUnit) : (d.onQuill l f).ruling = d.ruling := rfl
@[simp] theorem Dev.onQuill_rig (d : Dev) (l : Lane) (f : QuillUnit → QuillUnit) : (d.onQuill l f).rig = d.rig := rfl
@[simp] theorem Dev.onQuill_eth (d : Dev) (l : Lane) (f : QuillUnit → QuillUnit) : (d.onQuill l f).eth = d.eth := rfl
@[simp] theorem Dev.onQuill_time (d : Dev) (l : Lane) (f : QuillUnit → QuillUnit) : (d.onQuill l f).time = d.time := rfl
@[simp] theorem Dev.onQuill_tinker (d : Dev) (l : Lane) (f : QuillUnit → QuillUnit) : (d.onQuill l f).tinker = d.tinker := rfl
@[simp] theorem Dev.onQuill_sensors (d : Dev) (l : Lane) (f : QuillUnit → QuillUnit) : (d.onQuill l f).sensors = d.sensors := rfl
@[simp] theorem Dev.onQuill_thermal (d : Dev) (l : Lane) (f : QuillUnit → QuillUnit) : (d.onQuill l f).thermal = d.thermal := rfl
@[simp] theorem Dev.onQuill_nvm (d : Dev) (l : Lane) (f : QuillUnit → QuillUnit) : (d.onQuill l f).nvm = d.nvm := rfl
@[simp] theorem Dev.onQuill_boot (d : Dev) (l : Lane) (f : QuillUnit → QuillUnit) : (d.onQuill l f).boot = d.boot := rfl
@[simp] theorem Dev.onQuill_res (d : Dev) (l : Lane) (f : QuillUnit → QuillUnit) : (d.onQuill l f).res = d.res := rfl
@[simp] theorem Dev.onQuill_cal (d : Dev) (l : Lane) (f : QuillUnit → QuillUnit) : (d.onQuill l f).cal = d.cal := rfl
@[simp] theorem Dev.onQuill_frozen (d : Dev) (l : Lane) (f : QuillUnit → QuillUnit) : (d.onQuill l f).frozen = d.frozen := rfl
@[simp] theorem Dev.onQuill_gateSent (d : Dev) (l : Lane) (f : QuillUnit → QuillUnit) : (d.onQuill l f).gateSent = d.gateSent := rfl
@[simp] theorem Dev.onQuill_lands (d : Dev) (l : Lane) (f : QuillUnit → QuillUnit) : (d.onQuill l f).lands = d.lands := rfl
@[simp] theorem Dev.onQuill_shadows (d : Dev) (l : Lane) (f : QuillUnit → QuillUnit) : (d.onQuill l f).shadows = d.shadows := rfl
@[simp] theorem Dev.onQuill_quill (d : Dev) (l : Lane) (f : QuillUnit → QuillUnit) : (d.onQuill l f).quill = d.quill.put l (f (d.quill.at l)) := rfl

/-! `Dev.onRig` -/

@[simp] theorem Dev.onRig_now (d : Dev) (l : Lane) (f : RigUnit → RigUnit) : (d.onRig l f).now = d.now := rfl
@[simp] theorem Dev.onRig_regs (d : Dev) (l : Lane) (f : RigUnit → RigUnit) : (d.onRig l f).regs = d.regs := rfl
@[simp] theorem Dev.onRig_staged (d : Dev) (l : Lane) (f : RigUnit → RigUnit) : (d.onRig l f).staged = d.staged := rfl
@[simp] theorem Dev.onRig_commitPending (d : Dev) (l : Lane) (f : RigUnit → RigUnit) : (d.onRig l f).commitPending = d.commitPending := rfl
@[simp] theorem Dev.onRig_freeCtr (d : Dev) (l : Lane) (f : RigUnit → RigUnit) : (d.onRig l f).freeCtr = d.freeCtr := rfl
@[simp] theorem Dev.onRig_links (d : Dev) (l : Lane) (f : RigUnit → RigUnit) : (d.onRig l f).links = d.links := rfl
@[simp] theorem Dev.onRig_dies (d : Dev) (l : Lane) (f : RigUnit → RigUnit) : (d.onRig l f).dies = d.dies := rfl
@[simp] theorem Dev.onRig_outs (d : Dev) (l : Lane) (f : RigUnit → RigUnit) : (d.onRig l f).outs = d.outs := rfl
@[simp] theorem Dev.onRig_power (d : Dev) (l : Lane) (f : RigUnit → RigUnit) : (d.onRig l f).power = d.power := rfl
@[simp] theorem Dev.onRig_clocks (d : Dev) (l : Lane) (f : RigUnit → RigUnit) : (d.onRig l f).clocks = d.clocks := rfl
@[simp] theorem Dev.onRig_mode (d : Dev) (l : Lane) (f : RigUnit → RigUnit) : (d.onRig l f).mode = d.mode := rfl
@[simp] theorem Dev.onRig_lanes (d : Dev) (l : Lane) (f : RigUnit → RigUnit) : (d.onRig l f).lanes = d.lanes := rfl
@[simp] theorem Dev.onRig_handover (d : Dev) (l : Lane) (f : RigUnit → RigUnit) : (d.onRig l f).handover = d.handover := rfl
@[simp] theorem Dev.onRig_host (d : Dev) (l : Lane) (f : RigUnit → RigUnit) : (d.onRig l f).host = d.host := rfl
@[simp] theorem Dev.onRig_ledger (d : Dev) (l : Lane) (f : RigUnit → RigUnit) : (d.onRig l f).ledger = d.ledger := rfl
@[simp] theorem Dev.onRig_mods (d : Dev) (l : Lane) (f : RigUnit → RigUnit) : (d.onRig l f).mods = d.mods := rfl
@[simp] theorem Dev.onRig_prot (d : Dev) (l : Lane) (f : RigUnit → RigUnit) : (d.onRig l f).prot = d.prot := rfl
@[simp] theorem Dev.onRig_bridges (d : Dev) (l : Lane) (f : RigUnit → RigUnit) : (d.onRig l f).bridges = d.bridges := rfl
@[simp] theorem Dev.onRig_axes (d : Dev) (l : Lane) (f : RigUnit → RigUnit) : (d.onRig l f).axes = d.axes := rfl
@[simp] theorem Dev.onRig_islands (d : Dev) (l : Lane) (f : RigUnit → RigUnit) : (d.onRig l f).islands = d.islands := rfl
@[simp] theorem Dev.onRig_motion (d : Dev) (l : Lane) (f : RigUnit → RigUnit) : (d.onRig l f).motion = d.motion := rfl
@[simp] theorem Dev.onRig_meas (d : Dev) (l : Lane) (f : RigUnit → RigUnit) : (d.onRig l f).meas = d.meas := rfl
@[simp] theorem Dev.onRig_field1 (d : Dev) (l : Lane) (f : RigUnit → RigUnit) : (d.onRig l f).field1 = d.field1 := rfl
@[simp] theorem Dev.onRig_field2 (d : Dev) (l : Lane) (f : RigUnit → RigUnit) : (d.onRig l f).field2 = d.field2 := rfl
@[simp] theorem Dev.onRig_quill (d : Dev) (l : Lane) (f : RigUnit → RigUnit) : (d.onRig l f).quill = d.quill := rfl
@[simp] theorem Dev.onRig_pos (d : Dev) (l : Lane) (f : RigUnit → RigUnit) : (d.onRig l f).pos = d.pos := rfl
@[simp] theorem Dev.onRig_slay (d : Dev) (l : Lane) (f : RigUnit → RigUnit) : (d.onRig l f).slay = d.slay := rfl
@[simp] theorem Dev.onRig_can (d : Dev) (l : Lane) (f : RigUnit → RigUnit) : (d.onRig l f).can = d.can := rfl
@[simp] theorem Dev.onRig_ruling (d : Dev) (l : Lane) (f : RigUnit → RigUnit) : (d.onRig l f).ruling = d.ruling := rfl
@[simp] theorem Dev.onRig_eth (d : Dev) (l : Lane) (f : RigUnit → RigUnit) : (d.onRig l f).eth = d.eth := rfl
@[simp] theorem Dev.onRig_time (d : Dev) (l : Lane) (f : RigUnit → RigUnit) : (d.onRig l f).time = d.time := rfl
@[simp] theorem Dev.onRig_tinker (d : Dev) (l : Lane) (f : RigUnit → RigUnit) : (d.onRig l f).tinker = d.tinker := rfl
@[simp] theorem Dev.onRig_sensors (d : Dev) (l : Lane) (f : RigUnit → RigUnit) : (d.onRig l f).sensors = d.sensors := rfl
@[simp] theorem Dev.onRig_thermal (d : Dev) (l : Lane) (f : RigUnit → RigUnit) : (d.onRig l f).thermal = d.thermal := rfl
@[simp] theorem Dev.onRig_nvm (d : Dev) (l : Lane) (f : RigUnit → RigUnit) : (d.onRig l f).nvm = d.nvm := rfl
@[simp] theorem Dev.onRig_boot (d : Dev) (l : Lane) (f : RigUnit → RigUnit) : (d.onRig l f).boot = d.boot := rfl
@[simp] theorem Dev.onRig_res (d : Dev) (l : Lane) (f : RigUnit → RigUnit) : (d.onRig l f).res = d.res := rfl
@[simp] theorem Dev.onRig_cal (d : Dev) (l : Lane) (f : RigUnit → RigUnit) : (d.onRig l f).cal = d.cal := rfl
@[simp] theorem Dev.onRig_frozen (d : Dev) (l : Lane) (f : RigUnit → RigUnit) : (d.onRig l f).frozen = d.frozen := rfl
@[simp] theorem Dev.onRig_gateSent (d : Dev) (l : Lane) (f : RigUnit → RigUnit) : (d.onRig l f).gateSent = d.gateSent := rfl
@[simp] theorem Dev.onRig_lands (d : Dev) (l : Lane) (f : RigUnit → RigUnit) : (d.onRig l f).lands = d.lands := rfl
@[simp] theorem Dev.onRig_shadows (d : Dev) (l : Lane) (f : RigUnit → RigUnit) : (d.onRig l f).shadows = d.shadows := rfl
@[simp] theorem Dev.onRig_rig (d : Dev) (l : Lane) (f : RigUnit → RigUnit) : (d.onRig l f).rig = d.rig.put l (f (d.rig.at l)) := rfl

/-! `Dev.onSensor` -/

@[simp] theorem Dev.onSensor_now (d : Dev) (s : Fin 20) (f : TempSensor → TempSensor) : (d.onSensor s f).now = d.now := rfl
@[simp] theorem Dev.onSensor_regs (d : Dev) (s : Fin 20) (f : TempSensor → TempSensor) : (d.onSensor s f).regs = d.regs := rfl
@[simp] theorem Dev.onSensor_staged (d : Dev) (s : Fin 20) (f : TempSensor → TempSensor) : (d.onSensor s f).staged = d.staged := rfl
@[simp] theorem Dev.onSensor_commitPending (d : Dev) (s : Fin 20) (f : TempSensor → TempSensor) : (d.onSensor s f).commitPending = d.commitPending := rfl
@[simp] theorem Dev.onSensor_freeCtr (d : Dev) (s : Fin 20) (f : TempSensor → TempSensor) : (d.onSensor s f).freeCtr = d.freeCtr := rfl
@[simp] theorem Dev.onSensor_links (d : Dev) (s : Fin 20) (f : TempSensor → TempSensor) : (d.onSensor s f).links = d.links := rfl
@[simp] theorem Dev.onSensor_dies (d : Dev) (s : Fin 20) (f : TempSensor → TempSensor) : (d.onSensor s f).dies = d.dies := rfl
@[simp] theorem Dev.onSensor_outs (d : Dev) (s : Fin 20) (f : TempSensor → TempSensor) : (d.onSensor s f).outs = d.outs := rfl
@[simp] theorem Dev.onSensor_power (d : Dev) (s : Fin 20) (f : TempSensor → TempSensor) : (d.onSensor s f).power = d.power := rfl
@[simp] theorem Dev.onSensor_clocks (d : Dev) (s : Fin 20) (f : TempSensor → TempSensor) : (d.onSensor s f).clocks = d.clocks := rfl
@[simp] theorem Dev.onSensor_mode (d : Dev) (s : Fin 20) (f : TempSensor → TempSensor) : (d.onSensor s f).mode = d.mode := rfl
@[simp] theorem Dev.onSensor_lanes (d : Dev) (s : Fin 20) (f : TempSensor → TempSensor) : (d.onSensor s f).lanes = d.lanes := rfl
@[simp] theorem Dev.onSensor_handover (d : Dev) (s : Fin 20) (f : TempSensor → TempSensor) : (d.onSensor s f).handover = d.handover := rfl
@[simp] theorem Dev.onSensor_host (d : Dev) (s : Fin 20) (f : TempSensor → TempSensor) : (d.onSensor s f).host = d.host := rfl
@[simp] theorem Dev.onSensor_ledger (d : Dev) (s : Fin 20) (f : TempSensor → TempSensor) : (d.onSensor s f).ledger = d.ledger := rfl
@[simp] theorem Dev.onSensor_mods (d : Dev) (s : Fin 20) (f : TempSensor → TempSensor) : (d.onSensor s f).mods = d.mods := rfl
@[simp] theorem Dev.onSensor_prot (d : Dev) (s : Fin 20) (f : TempSensor → TempSensor) : (d.onSensor s f).prot = d.prot := rfl
@[simp] theorem Dev.onSensor_bridges (d : Dev) (s : Fin 20) (f : TempSensor → TempSensor) : (d.onSensor s f).bridges = d.bridges := rfl
@[simp] theorem Dev.onSensor_axes (d : Dev) (s : Fin 20) (f : TempSensor → TempSensor) : (d.onSensor s f).axes = d.axes := rfl
@[simp] theorem Dev.onSensor_islands (d : Dev) (s : Fin 20) (f : TempSensor → TempSensor) : (d.onSensor s f).islands = d.islands := rfl
@[simp] theorem Dev.onSensor_motion (d : Dev) (s : Fin 20) (f : TempSensor → TempSensor) : (d.onSensor s f).motion = d.motion := rfl
@[simp] theorem Dev.onSensor_meas (d : Dev) (s : Fin 20) (f : TempSensor → TempSensor) : (d.onSensor s f).meas = d.meas := rfl
@[simp] theorem Dev.onSensor_field1 (d : Dev) (s : Fin 20) (f : TempSensor → TempSensor) : (d.onSensor s f).field1 = d.field1 := rfl
@[simp] theorem Dev.onSensor_field2 (d : Dev) (s : Fin 20) (f : TempSensor → TempSensor) : (d.onSensor s f).field2 = d.field2 := rfl
@[simp] theorem Dev.onSensor_quill (d : Dev) (s : Fin 20) (f : TempSensor → TempSensor) : (d.onSensor s f).quill = d.quill := rfl
@[simp] theorem Dev.onSensor_pos (d : Dev) (s : Fin 20) (f : TempSensor → TempSensor) : (d.onSensor s f).pos = d.pos := rfl
@[simp] theorem Dev.onSensor_slay (d : Dev) (s : Fin 20) (f : TempSensor → TempSensor) : (d.onSensor s f).slay = d.slay := rfl
@[simp] theorem Dev.onSensor_can (d : Dev) (s : Fin 20) (f : TempSensor → TempSensor) : (d.onSensor s f).can = d.can := rfl
@[simp] theorem Dev.onSensor_ruling (d : Dev) (s : Fin 20) (f : TempSensor → TempSensor) : (d.onSensor s f).ruling = d.ruling := rfl
@[simp] theorem Dev.onSensor_rig (d : Dev) (s : Fin 20) (f : TempSensor → TempSensor) : (d.onSensor s f).rig = d.rig := rfl
@[simp] theorem Dev.onSensor_eth (d : Dev) (s : Fin 20) (f : TempSensor → TempSensor) : (d.onSensor s f).eth = d.eth := rfl
@[simp] theorem Dev.onSensor_time (d : Dev) (s : Fin 20) (f : TempSensor → TempSensor) : (d.onSensor s f).time = d.time := rfl
@[simp] theorem Dev.onSensor_tinker (d : Dev) (s : Fin 20) (f : TempSensor → TempSensor) : (d.onSensor s f).tinker = d.tinker := rfl
@[simp] theorem Dev.onSensor_thermal (d : Dev) (s : Fin 20) (f : TempSensor → TempSensor) : (d.onSensor s f).thermal = d.thermal := rfl
@[simp] theorem Dev.onSensor_nvm (d : Dev) (s : Fin 20) (f : TempSensor → TempSensor) : (d.onSensor s f).nvm = d.nvm := rfl
@[simp] theorem Dev.onSensor_boot (d : Dev) (s : Fin 20) (f : TempSensor → TempSensor) : (d.onSensor s f).boot = d.boot := rfl
@[simp] theorem Dev.onSensor_res (d : Dev) (s : Fin 20) (f : TempSensor → TempSensor) : (d.onSensor s f).res = d.res := rfl
@[simp] theorem Dev.onSensor_cal (d : Dev) (s : Fin 20) (f : TempSensor → TempSensor) : (d.onSensor s f).cal = d.cal := rfl
@[simp] theorem Dev.onSensor_frozen (d : Dev) (s : Fin 20) (f : TempSensor → TempSensor) : (d.onSensor s f).frozen = d.frozen := rfl
@[simp] theorem Dev.onSensor_gateSent (d : Dev) (s : Fin 20) (f : TempSensor → TempSensor) : (d.onSensor s f).gateSent = d.gateSent := rfl
@[simp] theorem Dev.onSensor_lands (d : Dev) (s : Fin 20) (f : TempSensor → TempSensor) : (d.onSensor s f).lands = d.lands := rfl
@[simp] theorem Dev.onSensor_shadows (d : Dev) (s : Fin 20) (f : TempSensor → TempSensor) : (d.onSensor s f).shadows = d.shadows := rfl
@[simp] theorem Dev.onSensor_sensors (d : Dev) (s : Fin 20) (f : TempSensor → TempSensor) : (d.onSensor s f).sensors = d.sensors.set s (f d.sensors[s]) := rfl

/-! `Dev.onSlE` -/

@[simp] theorem Dev.onSlE_now (d : Dev) (i : Lane) (n : Nat) (f : SlEntry → SlEntry) : (d.onSlE i n f).now = d.now := rfl
@[simp] theorem Dev.onSlE_regs (d : Dev) (i : Lane) (n : Nat) (f : SlEntry → SlEntry) : (d.onSlE i n f).regs = d.regs := rfl
@[simp] theorem Dev.onSlE_staged (d : Dev) (i : Lane) (n : Nat) (f : SlEntry → SlEntry) : (d.onSlE i n f).staged = d.staged := rfl
@[simp] theorem Dev.onSlE_commitPending (d : Dev) (i : Lane) (n : Nat) (f : SlEntry → SlEntry) : (d.onSlE i n f).commitPending = d.commitPending := rfl
@[simp] theorem Dev.onSlE_freeCtr (d : Dev) (i : Lane) (n : Nat) (f : SlEntry → SlEntry) : (d.onSlE i n f).freeCtr = d.freeCtr := rfl
@[simp] theorem Dev.onSlE_links (d : Dev) (i : Lane) (n : Nat) (f : SlEntry → SlEntry) : (d.onSlE i n f).links = d.links := rfl
@[simp] theorem Dev.onSlE_dies (d : Dev) (i : Lane) (n : Nat) (f : SlEntry → SlEntry) : (d.onSlE i n f).dies = d.dies := rfl
@[simp] theorem Dev.onSlE_outs (d : Dev) (i : Lane) (n : Nat) (f : SlEntry → SlEntry) : (d.onSlE i n f).outs = d.outs := rfl
@[simp] theorem Dev.onSlE_power (d : Dev) (i : Lane) (n : Nat) (f : SlEntry → SlEntry) : (d.onSlE i n f).power = d.power := rfl
@[simp] theorem Dev.onSlE_clocks (d : Dev) (i : Lane) (n : Nat) (f : SlEntry → SlEntry) : (d.onSlE i n f).clocks = d.clocks := rfl
@[simp] theorem Dev.onSlE_mode (d : Dev) (i : Lane) (n : Nat) (f : SlEntry → SlEntry) : (d.onSlE i n f).mode = d.mode := rfl
@[simp] theorem Dev.onSlE_lanes (d : Dev) (i : Lane) (n : Nat) (f : SlEntry → SlEntry) : (d.onSlE i n f).lanes = d.lanes := rfl
@[simp] theorem Dev.onSlE_handover (d : Dev) (i : Lane) (n : Nat) (f : SlEntry → SlEntry) : (d.onSlE i n f).handover = d.handover := rfl
@[simp] theorem Dev.onSlE_host (d : Dev) (i : Lane) (n : Nat) (f : SlEntry → SlEntry) : (d.onSlE i n f).host = d.host := rfl
@[simp] theorem Dev.onSlE_ledger (d : Dev) (i : Lane) (n : Nat) (f : SlEntry → SlEntry) : (d.onSlE i n f).ledger = d.ledger := rfl
@[simp] theorem Dev.onSlE_mods (d : Dev) (i : Lane) (n : Nat) (f : SlEntry → SlEntry) : (d.onSlE i n f).mods = d.mods := rfl
@[simp] theorem Dev.onSlE_prot (d : Dev) (i : Lane) (n : Nat) (f : SlEntry → SlEntry) : (d.onSlE i n f).prot = d.prot := rfl
@[simp] theorem Dev.onSlE_bridges (d : Dev) (i : Lane) (n : Nat) (f : SlEntry → SlEntry) : (d.onSlE i n f).bridges = d.bridges := rfl
@[simp] theorem Dev.onSlE_axes (d : Dev) (i : Lane) (n : Nat) (f : SlEntry → SlEntry) : (d.onSlE i n f).axes = d.axes := rfl
@[simp] theorem Dev.onSlE_islands (d : Dev) (i : Lane) (n : Nat) (f : SlEntry → SlEntry) : (d.onSlE i n f).islands = d.islands := rfl
@[simp] theorem Dev.onSlE_motion (d : Dev) (i : Lane) (n : Nat) (f : SlEntry → SlEntry) : (d.onSlE i n f).motion = d.motion := rfl
@[simp] theorem Dev.onSlE_meas (d : Dev) (i : Lane) (n : Nat) (f : SlEntry → SlEntry) : (d.onSlE i n f).meas = d.meas := rfl
@[simp] theorem Dev.onSlE_field1 (d : Dev) (i : Lane) (n : Nat) (f : SlEntry → SlEntry) : (d.onSlE i n f).field1 = d.field1 := rfl
@[simp] theorem Dev.onSlE_field2 (d : Dev) (i : Lane) (n : Nat) (f : SlEntry → SlEntry) : (d.onSlE i n f).field2 = d.field2 := rfl
@[simp] theorem Dev.onSlE_quill (d : Dev) (i : Lane) (n : Nat) (f : SlEntry → SlEntry) : (d.onSlE i n f).quill = d.quill := rfl
@[simp] theorem Dev.onSlE_pos (d : Dev) (i : Lane) (n : Nat) (f : SlEntry → SlEntry) : (d.onSlE i n f).pos = d.pos := rfl
@[simp] theorem Dev.onSlE_can (d : Dev) (i : Lane) (n : Nat) (f : SlEntry → SlEntry) : (d.onSlE i n f).can = d.can := rfl
@[simp] theorem Dev.onSlE_ruling (d : Dev) (i : Lane) (n : Nat) (f : SlEntry → SlEntry) : (d.onSlE i n f).ruling = d.ruling := rfl
@[simp] theorem Dev.onSlE_rig (d : Dev) (i : Lane) (n : Nat) (f : SlEntry → SlEntry) : (d.onSlE i n f).rig = d.rig := rfl
@[simp] theorem Dev.onSlE_eth (d : Dev) (i : Lane) (n : Nat) (f : SlEntry → SlEntry) : (d.onSlE i n f).eth = d.eth := rfl
@[simp] theorem Dev.onSlE_time (d : Dev) (i : Lane) (n : Nat) (f : SlEntry → SlEntry) : (d.onSlE i n f).time = d.time := rfl
@[simp] theorem Dev.onSlE_tinker (d : Dev) (i : Lane) (n : Nat) (f : SlEntry → SlEntry) : (d.onSlE i n f).tinker = d.tinker := rfl
@[simp] theorem Dev.onSlE_sensors (d : Dev) (i : Lane) (n : Nat) (f : SlEntry → SlEntry) : (d.onSlE i n f).sensors = d.sensors := rfl
@[simp] theorem Dev.onSlE_thermal (d : Dev) (i : Lane) (n : Nat) (f : SlEntry → SlEntry) : (d.onSlE i n f).thermal = d.thermal := rfl
@[simp] theorem Dev.onSlE_nvm (d : Dev) (i : Lane) (n : Nat) (f : SlEntry → SlEntry) : (d.onSlE i n f).nvm = d.nvm := rfl
@[simp] theorem Dev.onSlE_boot (d : Dev) (i : Lane) (n : Nat) (f : SlEntry → SlEntry) : (d.onSlE i n f).boot = d.boot := rfl
@[simp] theorem Dev.onSlE_res (d : Dev) (i : Lane) (n : Nat) (f : SlEntry → SlEntry) : (d.onSlE i n f).res = d.res := rfl
@[simp] theorem Dev.onSlE_cal (d : Dev) (i : Lane) (n : Nat) (f : SlEntry → SlEntry) : (d.onSlE i n f).cal = d.cal := rfl
@[simp] theorem Dev.onSlE_frozen (d : Dev) (i : Lane) (n : Nat) (f : SlEntry → SlEntry) : (d.onSlE i n f).frozen = d.frozen := rfl
@[simp] theorem Dev.onSlE_gateSent (d : Dev) (i : Lane) (n : Nat) (f : SlEntry → SlEntry) : (d.onSlE i n f).gateSent = d.gateSent := rfl
@[simp] theorem Dev.onSlE_lands (d : Dev) (i : Lane) (n : Nat) (f : SlEntry → SlEntry) : (d.onSlE i n f).lands = d.lands := rfl
@[simp] theorem Dev.onSlE_shadows (d : Dev) (i : Lane) (n : Nat) (f : SlEntry → SlEntry) : (d.onSlE i n f).shadows = d.shadows := rfl
@[simp] theorem Dev.onSlE_slay (d : Dev) (i : Lane) (n : Nat) (f : SlEntry → SlEntry) : (d.onSlE i n f).slay = d.slay.put i { d.slay.at i with entries := slInsert (f (d.slE i n)) (d.slay.at i).entries } := rfl

/-! `Dev.onTinker` -/

@[simp] theorem Dev.onTinker_now (d : Dev) (f : TinkerState → TinkerState) : (d.onTinker f).now = d.now := rfl
@[simp] theorem Dev.onTinker_regs (d : Dev) (f : TinkerState → TinkerState) : (d.onTinker f).regs = d.regs := rfl
@[simp] theorem Dev.onTinker_staged (d : Dev) (f : TinkerState → TinkerState) : (d.onTinker f).staged = d.staged := rfl
@[simp] theorem Dev.onTinker_commitPending (d : Dev) (f : TinkerState → TinkerState) : (d.onTinker f).commitPending = d.commitPending := rfl
@[simp] theorem Dev.onTinker_freeCtr (d : Dev) (f : TinkerState → TinkerState) : (d.onTinker f).freeCtr = d.freeCtr := rfl
@[simp] theorem Dev.onTinker_links (d : Dev) (f : TinkerState → TinkerState) : (d.onTinker f).links = d.links := rfl
@[simp] theorem Dev.onTinker_dies (d : Dev) (f : TinkerState → TinkerState) : (d.onTinker f).dies = d.dies := rfl
@[simp] theorem Dev.onTinker_outs (d : Dev) (f : TinkerState → TinkerState) : (d.onTinker f).outs = d.outs := rfl
@[simp] theorem Dev.onTinker_power (d : Dev) (f : TinkerState → TinkerState) : (d.onTinker f).power = d.power := rfl
@[simp] theorem Dev.onTinker_clocks (d : Dev) (f : TinkerState → TinkerState) : (d.onTinker f).clocks = d.clocks := rfl
@[simp] theorem Dev.onTinker_mode (d : Dev) (f : TinkerState → TinkerState) : (d.onTinker f).mode = d.mode := rfl
@[simp] theorem Dev.onTinker_lanes (d : Dev) (f : TinkerState → TinkerState) : (d.onTinker f).lanes = d.lanes := rfl
@[simp] theorem Dev.onTinker_handover (d : Dev) (f : TinkerState → TinkerState) : (d.onTinker f).handover = d.handover := rfl
@[simp] theorem Dev.onTinker_host (d : Dev) (f : TinkerState → TinkerState) : (d.onTinker f).host = d.host := rfl
@[simp] theorem Dev.onTinker_ledger (d : Dev) (f : TinkerState → TinkerState) : (d.onTinker f).ledger = d.ledger := rfl
@[simp] theorem Dev.onTinker_mods (d : Dev) (f : TinkerState → TinkerState) : (d.onTinker f).mods = d.mods := rfl
@[simp] theorem Dev.onTinker_prot (d : Dev) (f : TinkerState → TinkerState) : (d.onTinker f).prot = d.prot := rfl
@[simp] theorem Dev.onTinker_bridges (d : Dev) (f : TinkerState → TinkerState) : (d.onTinker f).bridges = d.bridges := rfl
@[simp] theorem Dev.onTinker_axes (d : Dev) (f : TinkerState → TinkerState) : (d.onTinker f).axes = d.axes := rfl
@[simp] theorem Dev.onTinker_islands (d : Dev) (f : TinkerState → TinkerState) : (d.onTinker f).islands = d.islands := rfl
@[simp] theorem Dev.onTinker_motion (d : Dev) (f : TinkerState → TinkerState) : (d.onTinker f).motion = d.motion := rfl
@[simp] theorem Dev.onTinker_meas (d : Dev) (f : TinkerState → TinkerState) : (d.onTinker f).meas = d.meas := rfl
@[simp] theorem Dev.onTinker_field1 (d : Dev) (f : TinkerState → TinkerState) : (d.onTinker f).field1 = d.field1 := rfl
@[simp] theorem Dev.onTinker_field2 (d : Dev) (f : TinkerState → TinkerState) : (d.onTinker f).field2 = d.field2 := rfl
@[simp] theorem Dev.onTinker_quill (d : Dev) (f : TinkerState → TinkerState) : (d.onTinker f).quill = d.quill := rfl
@[simp] theorem Dev.onTinker_pos (d : Dev) (f : TinkerState → TinkerState) : (d.onTinker f).pos = d.pos := rfl
@[simp] theorem Dev.onTinker_slay (d : Dev) (f : TinkerState → TinkerState) : (d.onTinker f).slay = d.slay := rfl
@[simp] theorem Dev.onTinker_can (d : Dev) (f : TinkerState → TinkerState) : (d.onTinker f).can = d.can := rfl
@[simp] theorem Dev.onTinker_ruling (d : Dev) (f : TinkerState → TinkerState) : (d.onTinker f).ruling = d.ruling := rfl
@[simp] theorem Dev.onTinker_rig (d : Dev) (f : TinkerState → TinkerState) : (d.onTinker f).rig = d.rig := rfl
@[simp] theorem Dev.onTinker_eth (d : Dev) (f : TinkerState → TinkerState) : (d.onTinker f).eth = d.eth := rfl
@[simp] theorem Dev.onTinker_time (d : Dev) (f : TinkerState → TinkerState) : (d.onTinker f).time = d.time := rfl
@[simp] theorem Dev.onTinker_sensors (d : Dev) (f : TinkerState → TinkerState) : (d.onTinker f).sensors = d.sensors := rfl
@[simp] theorem Dev.onTinker_thermal (d : Dev) (f : TinkerState → TinkerState) : (d.onTinker f).thermal = d.thermal := rfl
@[simp] theorem Dev.onTinker_nvm (d : Dev) (f : TinkerState → TinkerState) : (d.onTinker f).nvm = d.nvm := rfl
@[simp] theorem Dev.onTinker_boot (d : Dev) (f : TinkerState → TinkerState) : (d.onTinker f).boot = d.boot := rfl
@[simp] theorem Dev.onTinker_res (d : Dev) (f : TinkerState → TinkerState) : (d.onTinker f).res = d.res := rfl
@[simp] theorem Dev.onTinker_cal (d : Dev) (f : TinkerState → TinkerState) : (d.onTinker f).cal = d.cal := rfl
@[simp] theorem Dev.onTinker_frozen (d : Dev) (f : TinkerState → TinkerState) : (d.onTinker f).frozen = d.frozen := rfl
@[simp] theorem Dev.onTinker_gateSent (d : Dev) (f : TinkerState → TinkerState) : (d.onTinker f).gateSent = d.gateSent := rfl
@[simp] theorem Dev.onTinker_lands (d : Dev) (f : TinkerState → TinkerState) : (d.onTinker f).lands = d.lands := rfl
@[simp] theorem Dev.onTinker_shadows (d : Dev) (f : TinkerState → TinkerState) : (d.onTinker f).shadows = d.shadows := rfl
@[simp] theorem Dev.onTinker_tinker (d : Dev) (f : TinkerState → TinkerState) : (d.onTinker f).tinker = f d.tinker := rfl

/-! `Dev.setWord` -/

@[simp] theorem Dev.setWord_now (d : Dev) (l : Lane) (a : Nat) (w : Word) : (d.setWord l a w).now = d.now := rfl
@[simp] theorem Dev.setWord_staged (d : Dev) (l : Lane) (a : Nat) (w : Word) : (d.setWord l a w).staged = d.staged := rfl
@[simp] theorem Dev.setWord_commitPending (d : Dev) (l : Lane) (a : Nat) (w : Word) : (d.setWord l a w).commitPending = d.commitPending := rfl
@[simp] theorem Dev.setWord_freeCtr (d : Dev) (l : Lane) (a : Nat) (w : Word) : (d.setWord l a w).freeCtr = d.freeCtr := rfl
@[simp] theorem Dev.setWord_links (d : Dev) (l : Lane) (a : Nat) (w : Word) : (d.setWord l a w).links = d.links := rfl
@[simp] theorem Dev.setWord_dies (d : Dev) (l : Lane) (a : Nat) (w : Word) : (d.setWord l a w).dies = d.dies := rfl
@[simp] theorem Dev.setWord_outs (d : Dev) (l : Lane) (a : Nat) (w : Word) : (d.setWord l a w).outs = d.outs := rfl
@[simp] theorem Dev.setWord_power (d : Dev) (l : Lane) (a : Nat) (w : Word) : (d.setWord l a w).power = d.power := rfl
@[simp] theorem Dev.setWord_clocks (d : Dev) (l : Lane) (a : Nat) (w : Word) : (d.setWord l a w).clocks = d.clocks := rfl
@[simp] theorem Dev.setWord_mode (d : Dev) (l : Lane) (a : Nat) (w : Word) : (d.setWord l a w).mode = d.mode := rfl
@[simp] theorem Dev.setWord_lanes (d : Dev) (l : Lane) (a : Nat) (w : Word) : (d.setWord l a w).lanes = d.lanes := rfl
@[simp] theorem Dev.setWord_handover (d : Dev) (l : Lane) (a : Nat) (w : Word) : (d.setWord l a w).handover = d.handover := rfl
@[simp] theorem Dev.setWord_host (d : Dev) (l : Lane) (a : Nat) (w : Word) : (d.setWord l a w).host = d.host := rfl
@[simp] theorem Dev.setWord_ledger (d : Dev) (l : Lane) (a : Nat) (w : Word) : (d.setWord l a w).ledger = d.ledger := rfl
@[simp] theorem Dev.setWord_mods (d : Dev) (l : Lane) (a : Nat) (w : Word) : (d.setWord l a w).mods = d.mods := rfl
@[simp] theorem Dev.setWord_prot (d : Dev) (l : Lane) (a : Nat) (w : Word) : (d.setWord l a w).prot = d.prot := rfl
@[simp] theorem Dev.setWord_bridges (d : Dev) (l : Lane) (a : Nat) (w : Word) : (d.setWord l a w).bridges = d.bridges := rfl
@[simp] theorem Dev.setWord_axes (d : Dev) (l : Lane) (a : Nat) (w : Word) : (d.setWord l a w).axes = d.axes := rfl
@[simp] theorem Dev.setWord_islands (d : Dev) (l : Lane) (a : Nat) (w : Word) : (d.setWord l a w).islands = d.islands := rfl
@[simp] theorem Dev.setWord_motion (d : Dev) (l : Lane) (a : Nat) (w : Word) : (d.setWord l a w).motion = d.motion := rfl
@[simp] theorem Dev.setWord_meas (d : Dev) (l : Lane) (a : Nat) (w : Word) : (d.setWord l a w).meas = d.meas := rfl
@[simp] theorem Dev.setWord_field1 (d : Dev) (l : Lane) (a : Nat) (w : Word) : (d.setWord l a w).field1 = d.field1 := rfl
@[simp] theorem Dev.setWord_field2 (d : Dev) (l : Lane) (a : Nat) (w : Word) : (d.setWord l a w).field2 = d.field2 := rfl
@[simp] theorem Dev.setWord_quill (d : Dev) (l : Lane) (a : Nat) (w : Word) : (d.setWord l a w).quill = d.quill := rfl
@[simp] theorem Dev.setWord_pos (d : Dev) (l : Lane) (a : Nat) (w : Word) : (d.setWord l a w).pos = d.pos := rfl
@[simp] theorem Dev.setWord_slay (d : Dev) (l : Lane) (a : Nat) (w : Word) : (d.setWord l a w).slay = d.slay := rfl
@[simp] theorem Dev.setWord_can (d : Dev) (l : Lane) (a : Nat) (w : Word) : (d.setWord l a w).can = d.can := rfl
@[simp] theorem Dev.setWord_ruling (d : Dev) (l : Lane) (a : Nat) (w : Word) : (d.setWord l a w).ruling = d.ruling := rfl
@[simp] theorem Dev.setWord_rig (d : Dev) (l : Lane) (a : Nat) (w : Word) : (d.setWord l a w).rig = d.rig := rfl
@[simp] theorem Dev.setWord_eth (d : Dev) (l : Lane) (a : Nat) (w : Word) : (d.setWord l a w).eth = d.eth := rfl
@[simp] theorem Dev.setWord_time (d : Dev) (l : Lane) (a : Nat) (w : Word) : (d.setWord l a w).time = d.time := rfl
@[simp] theorem Dev.setWord_tinker (d : Dev) (l : Lane) (a : Nat) (w : Word) : (d.setWord l a w).tinker = d.tinker := rfl
@[simp] theorem Dev.setWord_sensors (d : Dev) (l : Lane) (a : Nat) (w : Word) : (d.setWord l a w).sensors = d.sensors := rfl
@[simp] theorem Dev.setWord_thermal (d : Dev) (l : Lane) (a : Nat) (w : Word) : (d.setWord l a w).thermal = d.thermal := rfl
@[simp] theorem Dev.setWord_nvm (d : Dev) (l : Lane) (a : Nat) (w : Word) : (d.setWord l a w).nvm = d.nvm := rfl
@[simp] theorem Dev.setWord_boot (d : Dev) (l : Lane) (a : Nat) (w : Word) : (d.setWord l a w).boot = d.boot := rfl
@[simp] theorem Dev.setWord_res (d : Dev) (l : Lane) (a : Nat) (w : Word) : (d.setWord l a w).res = d.res := rfl
@[simp] theorem Dev.setWord_cal (d : Dev) (l : Lane) (a : Nat) (w : Word) : (d.setWord l a w).cal = d.cal := rfl
@[simp] theorem Dev.setWord_frozen (d : Dev) (l : Lane) (a : Nat) (w : Word) : (d.setWord l a w).frozen = d.frozen := rfl
@[simp] theorem Dev.setWord_gateSent (d : Dev) (l : Lane) (a : Nat) (w : Word) : (d.setWord l a w).gateSent = d.gateSent := rfl
@[simp] theorem Dev.setWord_lands (d : Dev) (l : Lane) (a : Nat) (w : Word) : (d.setWord l a w).lands = d.lands := rfl
@[simp] theorem Dev.setWord_shadows (d : Dev) (l : Lane) (a : Nat) (w : Word) : (d.setWord l a w).shadows = d.shadows := rfl

/-! `Dev.sl` -/

@[simp] theorem Dev.sl_now (d : Dev) (l : Lane) (p : Nat) (f : Fld) (v : Nat) (i : Nat) : (d.sl l p f v i).now = d.now := rfl
@[simp] theorem Dev.sl_staged (d : Dev) (l : Lane) (p : Nat) (f : Fld) (v : Nat) (i : Nat) : (d.sl l p f v i).staged = d.staged := rfl
@[simp] theorem Dev.sl_commitPending (d : Dev) (l : Lane) (p : Nat) (f : Fld) (v : Nat) (i : Nat) : (d.sl l p f v i).commitPending = d.commitPending := rfl
@[simp] theorem Dev.sl_freeCtr (d : Dev) (l : Lane) (p : Nat) (f : Fld) (v : Nat) (i : Nat) : (d.sl l p f v i).freeCtr = d.freeCtr := rfl
@[simp] theorem Dev.sl_links (d : Dev) (l : Lane) (p : Nat) (f : Fld) (v : Nat) (i : Nat) : (d.sl l p f v i).links = d.links := rfl
@[simp] theorem Dev.sl_dies (d : Dev) (l : Lane) (p : Nat) (f : Fld) (v : Nat) (i : Nat) : (d.sl l p f v i).dies = d.dies := rfl
@[simp] theorem Dev.sl_outs (d : Dev) (l : Lane) (p : Nat) (f : Fld) (v : Nat) (i : Nat) : (d.sl l p f v i).outs = d.outs := rfl
@[simp] theorem Dev.sl_power (d : Dev) (l : Lane) (p : Nat) (f : Fld) (v : Nat) (i : Nat) : (d.sl l p f v i).power = d.power := rfl
@[simp] theorem Dev.sl_clocks (d : Dev) (l : Lane) (p : Nat) (f : Fld) (v : Nat) (i : Nat) : (d.sl l p f v i).clocks = d.clocks := rfl
@[simp] theorem Dev.sl_mode (d : Dev) (l : Lane) (p : Nat) (f : Fld) (v : Nat) (i : Nat) : (d.sl l p f v i).mode = d.mode := rfl
@[simp] theorem Dev.sl_lanes (d : Dev) (l : Lane) (p : Nat) (f : Fld) (v : Nat) (i : Nat) : (d.sl l p f v i).lanes = d.lanes := rfl
@[simp] theorem Dev.sl_handover (d : Dev) (l : Lane) (p : Nat) (f : Fld) (v : Nat) (i : Nat) : (d.sl l p f v i).handover = d.handover := rfl
@[simp] theorem Dev.sl_host (d : Dev) (l : Lane) (p : Nat) (f : Fld) (v : Nat) (i : Nat) : (d.sl l p f v i).host = d.host := rfl
@[simp] theorem Dev.sl_ledger (d : Dev) (l : Lane) (p : Nat) (f : Fld) (v : Nat) (i : Nat) : (d.sl l p f v i).ledger = d.ledger := rfl
@[simp] theorem Dev.sl_mods (d : Dev) (l : Lane) (p : Nat) (f : Fld) (v : Nat) (i : Nat) : (d.sl l p f v i).mods = d.mods := rfl
@[simp] theorem Dev.sl_prot (d : Dev) (l : Lane) (p : Nat) (f : Fld) (v : Nat) (i : Nat) : (d.sl l p f v i).prot = d.prot := rfl
@[simp] theorem Dev.sl_bridges (d : Dev) (l : Lane) (p : Nat) (f : Fld) (v : Nat) (i : Nat) : (d.sl l p f v i).bridges = d.bridges := rfl
@[simp] theorem Dev.sl_axes (d : Dev) (l : Lane) (p : Nat) (f : Fld) (v : Nat) (i : Nat) : (d.sl l p f v i).axes = d.axes := rfl
@[simp] theorem Dev.sl_islands (d : Dev) (l : Lane) (p : Nat) (f : Fld) (v : Nat) (i : Nat) : (d.sl l p f v i).islands = d.islands := rfl
@[simp] theorem Dev.sl_motion (d : Dev) (l : Lane) (p : Nat) (f : Fld) (v : Nat) (i : Nat) : (d.sl l p f v i).motion = d.motion := rfl
@[simp] theorem Dev.sl_meas (d : Dev) (l : Lane) (p : Nat) (f : Fld) (v : Nat) (i : Nat) : (d.sl l p f v i).meas = d.meas := rfl
@[simp] theorem Dev.sl_field1 (d : Dev) (l : Lane) (p : Nat) (f : Fld) (v : Nat) (i : Nat) : (d.sl l p f v i).field1 = d.field1 := rfl
@[simp] theorem Dev.sl_field2 (d : Dev) (l : Lane) (p : Nat) (f : Fld) (v : Nat) (i : Nat) : (d.sl l p f v i).field2 = d.field2 := rfl
@[simp] theorem Dev.sl_quill (d : Dev) (l : Lane) (p : Nat) (f : Fld) (v : Nat) (i : Nat) : (d.sl l p f v i).quill = d.quill := rfl
@[simp] theorem Dev.sl_pos (d : Dev) (l : Lane) (p : Nat) (f : Fld) (v : Nat) (i : Nat) : (d.sl l p f v i).pos = d.pos := rfl
@[simp] theorem Dev.sl_slay (d : Dev) (l : Lane) (p : Nat) (f : Fld) (v : Nat) (i : Nat) : (d.sl l p f v i).slay = d.slay := rfl
@[simp] theorem Dev.sl_can (d : Dev) (l : Lane) (p : Nat) (f : Fld) (v : Nat) (i : Nat) : (d.sl l p f v i).can = d.can := rfl
@[simp] theorem Dev.sl_ruling (d : Dev) (l : Lane) (p : Nat) (f : Fld) (v : Nat) (i : Nat) : (d.sl l p f v i).ruling = d.ruling := rfl
@[simp] theorem Dev.sl_rig (d : Dev) (l : Lane) (p : Nat) (f : Fld) (v : Nat) (i : Nat) : (d.sl l p f v i).rig = d.rig := rfl
@[simp] theorem Dev.sl_eth (d : Dev) (l : Lane) (p : Nat) (f : Fld) (v : Nat) (i : Nat) : (d.sl l p f v i).eth = d.eth := rfl
@[simp] theorem Dev.sl_time (d : Dev) (l : Lane) (p : Nat) (f : Fld) (v : Nat) (i : Nat) : (d.sl l p f v i).time = d.time := rfl
@[simp] theorem Dev.sl_tinker (d : Dev) (l : Lane) (p : Nat) (f : Fld) (v : Nat) (i : Nat) : (d.sl l p f v i).tinker = d.tinker := rfl
@[simp] theorem Dev.sl_sensors (d : Dev) (l : Lane) (p : Nat) (f : Fld) (v : Nat) (i : Nat) : (d.sl l p f v i).sensors = d.sensors := rfl
@[simp] theorem Dev.sl_thermal (d : Dev) (l : Lane) (p : Nat) (f : Fld) (v : Nat) (i : Nat) : (d.sl l p f v i).thermal = d.thermal := rfl
@[simp] theorem Dev.sl_nvm (d : Dev) (l : Lane) (p : Nat) (f : Fld) (v : Nat) (i : Nat) : (d.sl l p f v i).nvm = d.nvm := rfl
@[simp] theorem Dev.sl_boot (d : Dev) (l : Lane) (p : Nat) (f : Fld) (v : Nat) (i : Nat) : (d.sl l p f v i).boot = d.boot := rfl
@[simp] theorem Dev.sl_res (d : Dev) (l : Lane) (p : Nat) (f : Fld) (v : Nat) (i : Nat) : (d.sl l p f v i).res = d.res := rfl
@[simp] theorem Dev.sl_cal (d : Dev) (l : Lane) (p : Nat) (f : Fld) (v : Nat) (i : Nat) : (d.sl l p f v i).cal = d.cal := rfl
@[simp] theorem Dev.sl_frozen (d : Dev) (l : Lane) (p : Nat) (f : Fld) (v : Nat) (i : Nat) : (d.sl l p f v i).frozen = d.frozen := rfl
@[simp] theorem Dev.sl_gateSent (d : Dev) (l : Lane) (p : Nat) (f : Fld) (v : Nat) (i : Nat) : (d.sl l p f v i).gateSent = d.gateSent := rfl
@[simp] theorem Dev.sl_lands (d : Dev) (l : Lane) (p : Nat) (f : Fld) (v : Nat) (i : Nat) : (d.sl l p f v i).lands = d.lands := rfl
@[simp] theorem Dev.sl_shadows (d : Dev) (l : Lane) (p : Nat) (f : Fld) (v : Nat) (i : Nat) : (d.sl l p f v i).shadows = d.shadows := rfl

/-! `Dev.onShadow` -/

@[simp] theorem Dev.onShadow_now (d : Dev) (l : Lane) (f : ShadowRegs → ShadowRegs) : (d.onShadow l f).now = d.now := rfl
@[simp] theorem Dev.onShadow_regs (d : Dev) (l : Lane) (f : ShadowRegs → ShadowRegs) : (d.onShadow l f).regs = d.regs := rfl
@[simp] theorem Dev.onShadow_staged (d : Dev) (l : Lane) (f : ShadowRegs → ShadowRegs) : (d.onShadow l f).staged = d.staged := rfl
@[simp] theorem Dev.onShadow_commitPending (d : Dev) (l : Lane) (f : ShadowRegs → ShadowRegs) : (d.onShadow l f).commitPending = d.commitPending := rfl
@[simp] theorem Dev.onShadow_freeCtr (d : Dev) (l : Lane) (f : ShadowRegs → ShadowRegs) : (d.onShadow l f).freeCtr = d.freeCtr := rfl
@[simp] theorem Dev.onShadow_links (d : Dev) (l : Lane) (f : ShadowRegs → ShadowRegs) : (d.onShadow l f).links = d.links := rfl
@[simp] theorem Dev.onShadow_dies (d : Dev) (l : Lane) (f : ShadowRegs → ShadowRegs) : (d.onShadow l f).dies = d.dies := rfl
@[simp] theorem Dev.onShadow_outs (d : Dev) (l : Lane) (f : ShadowRegs → ShadowRegs) : (d.onShadow l f).outs = d.outs := rfl
@[simp] theorem Dev.onShadow_power (d : Dev) (l : Lane) (f : ShadowRegs → ShadowRegs) : (d.onShadow l f).power = d.power := rfl
@[simp] theorem Dev.onShadow_mode (d : Dev) (l : Lane) (f : ShadowRegs → ShadowRegs) : (d.onShadow l f).mode = d.mode := rfl
@[simp] theorem Dev.onShadow_lanes (d : Dev) (l : Lane) (f : ShadowRegs → ShadowRegs) : (d.onShadow l f).lanes = d.lanes := rfl
@[simp] theorem Dev.onShadow_handover (d : Dev) (l : Lane) (f : ShadowRegs → ShadowRegs) : (d.onShadow l f).handover = d.handover := rfl
@[simp] theorem Dev.onShadow_host (d : Dev) (l : Lane) (f : ShadowRegs → ShadowRegs) : (d.onShadow l f).host = d.host := rfl
@[simp] theorem Dev.onShadow_ledger (d : Dev) (l : Lane) (f : ShadowRegs → ShadowRegs) : (d.onShadow l f).ledger = d.ledger := rfl
@[simp] theorem Dev.onShadow_mods (d : Dev) (l : Lane) (f : ShadowRegs → ShadowRegs) : (d.onShadow l f).mods = d.mods := rfl
@[simp] theorem Dev.onShadow_prot (d : Dev) (l : Lane) (f : ShadowRegs → ShadowRegs) : (d.onShadow l f).prot = d.prot := rfl
@[simp] theorem Dev.onShadow_bridges (d : Dev) (l : Lane) (f : ShadowRegs → ShadowRegs) : (d.onShadow l f).bridges = d.bridges := rfl
@[simp] theorem Dev.onShadow_axes (d : Dev) (l : Lane) (f : ShadowRegs → ShadowRegs) : (d.onShadow l f).axes = d.axes := rfl
@[simp] theorem Dev.onShadow_islands (d : Dev) (l : Lane) (f : ShadowRegs → ShadowRegs) : (d.onShadow l f).islands = d.islands := rfl
@[simp] theorem Dev.onShadow_motion (d : Dev) (l : Lane) (f : ShadowRegs → ShadowRegs) : (d.onShadow l f).motion = d.motion := rfl
@[simp] theorem Dev.onShadow_meas (d : Dev) (l : Lane) (f : ShadowRegs → ShadowRegs) : (d.onShadow l f).meas = d.meas := rfl
@[simp] theorem Dev.onShadow_field1 (d : Dev) (l : Lane) (f : ShadowRegs → ShadowRegs) : (d.onShadow l f).field1 = d.field1 := rfl
@[simp] theorem Dev.onShadow_field2 (d : Dev) (l : Lane) (f : ShadowRegs → ShadowRegs) : (d.onShadow l f).field2 = d.field2 := rfl
@[simp] theorem Dev.onShadow_quill (d : Dev) (l : Lane) (f : ShadowRegs → ShadowRegs) : (d.onShadow l f).quill = d.quill := rfl
@[simp] theorem Dev.onShadow_pos (d : Dev) (l : Lane) (f : ShadowRegs → ShadowRegs) : (d.onShadow l f).pos = d.pos := rfl
@[simp] theorem Dev.onShadow_slay (d : Dev) (l : Lane) (f : ShadowRegs → ShadowRegs) : (d.onShadow l f).slay = d.slay := rfl
@[simp] theorem Dev.onShadow_can (d : Dev) (l : Lane) (f : ShadowRegs → ShadowRegs) : (d.onShadow l f).can = d.can := rfl
@[simp] theorem Dev.onShadow_ruling (d : Dev) (l : Lane) (f : ShadowRegs → ShadowRegs) : (d.onShadow l f).ruling = d.ruling := rfl
@[simp] theorem Dev.onShadow_rig (d : Dev) (l : Lane) (f : ShadowRegs → ShadowRegs) : (d.onShadow l f).rig = d.rig := rfl
@[simp] theorem Dev.onShadow_eth (d : Dev) (l : Lane) (f : ShadowRegs → ShadowRegs) : (d.onShadow l f).eth = d.eth := rfl
@[simp] theorem Dev.onShadow_time (d : Dev) (l : Lane) (f : ShadowRegs → ShadowRegs) : (d.onShadow l f).time = d.time := rfl
@[simp] theorem Dev.onShadow_tinker (d : Dev) (l : Lane) (f : ShadowRegs → ShadowRegs) : (d.onShadow l f).tinker = d.tinker := rfl
@[simp] theorem Dev.onShadow_sensors (d : Dev) (l : Lane) (f : ShadowRegs → ShadowRegs) : (d.onShadow l f).sensors = d.sensors := rfl
@[simp] theorem Dev.onShadow_thermal (d : Dev) (l : Lane) (f : ShadowRegs → ShadowRegs) : (d.onShadow l f).thermal = d.thermal := rfl
@[simp] theorem Dev.onShadow_nvm (d : Dev) (l : Lane) (f : ShadowRegs → ShadowRegs) : (d.onShadow l f).nvm = d.nvm := rfl
@[simp] theorem Dev.onShadow_boot (d : Dev) (l : Lane) (f : ShadowRegs → ShadowRegs) : (d.onShadow l f).boot = d.boot := rfl
@[simp] theorem Dev.onShadow_res (d : Dev) (l : Lane) (f : ShadowRegs → ShadowRegs) : (d.onShadow l f).res = d.res := rfl
@[simp] theorem Dev.onShadow_cal (d : Dev) (l : Lane) (f : ShadowRegs → ShadowRegs) : (d.onShadow l f).cal = d.cal := rfl
@[simp] theorem Dev.onShadow_frozen (d : Dev) (l : Lane) (f : ShadowRegs → ShadowRegs) : (d.onShadow l f).frozen = d.frozen := rfl
@[simp] theorem Dev.onShadow_gateSent (d : Dev) (l : Lane) (f : ShadowRegs → ShadowRegs) : (d.onShadow l f).gateSent = d.gateSent := rfl
@[simp] theorem Dev.onShadow_lands (d : Dev) (l : Lane) (f : ShadowRegs → ShadowRegs) : (d.onShadow l f).lands = d.lands := rfl
@[simp] theorem Dev.onShadow_shadows (d : Dev) (l : Lane) (f : ShadowRegs → ShadowRegs) : (d.onShadow l f).shadows = d.shadows.put l (f (d.shadows.at l)) := rfl
@[simp] theorem Dev.onShadow_clocks (d : Dev) (l : Lane) (f : ShadowRegs → ShadowRegs) : (d.onShadow l f).clocks = d.clocks := rfl

/-! `Dev.slS` -/

@[simp] theorem Dev.slS_now (d : Dev) (l : Lane) (p : Nat) (f : Fld) (v : Int) (i : Nat) : (d.slS l p f v i).now = d.now := rfl
@[simp] theorem Dev.slS_staged (d : Dev) (l : Lane) (p : Nat) (f : Fld) (v : Int) (i : Nat) : (d.slS l p f v i).staged = d.staged := rfl
@[simp] theorem Dev.slS_commitPending (d : Dev) (l : Lane) (p : Nat) (f : Fld) (v : Int) (i : Nat) : (d.slS l p f v i).commitPending = d.commitPending := rfl
@[simp] theorem Dev.slS_freeCtr (d : Dev) (l : Lane) (p : Nat) (f : Fld) (v : Int) (i : Nat) : (d.slS l p f v i).freeCtr = d.freeCtr := rfl
@[simp] theorem Dev.slS_links (d : Dev) (l : Lane) (p : Nat) (f : Fld) (v : Int) (i : Nat) : (d.slS l p f v i).links = d.links := rfl
@[simp] theorem Dev.slS_dies (d : Dev) (l : Lane) (p : Nat) (f : Fld) (v : Int) (i : Nat) : (d.slS l p f v i).dies = d.dies := rfl
@[simp] theorem Dev.slS_outs (d : Dev) (l : Lane) (p : Nat) (f : Fld) (v : Int) (i : Nat) : (d.slS l p f v i).outs = d.outs := rfl
@[simp] theorem Dev.slS_power (d : Dev) (l : Lane) (p : Nat) (f : Fld) (v : Int) (i : Nat) : (d.slS l p f v i).power = d.power := rfl
@[simp] theorem Dev.slS_clocks (d : Dev) (l : Lane) (p : Nat) (f : Fld) (v : Int) (i : Nat) : (d.slS l p f v i).clocks = d.clocks := rfl
@[simp] theorem Dev.slS_mode (d : Dev) (l : Lane) (p : Nat) (f : Fld) (v : Int) (i : Nat) : (d.slS l p f v i).mode = d.mode := rfl
@[simp] theorem Dev.slS_lanes (d : Dev) (l : Lane) (p : Nat) (f : Fld) (v : Int) (i : Nat) : (d.slS l p f v i).lanes = d.lanes := rfl
@[simp] theorem Dev.slS_handover (d : Dev) (l : Lane) (p : Nat) (f : Fld) (v : Int) (i : Nat) : (d.slS l p f v i).handover = d.handover := rfl
@[simp] theorem Dev.slS_host (d : Dev) (l : Lane) (p : Nat) (f : Fld) (v : Int) (i : Nat) : (d.slS l p f v i).host = d.host := rfl
@[simp] theorem Dev.slS_ledger (d : Dev) (l : Lane) (p : Nat) (f : Fld) (v : Int) (i : Nat) : (d.slS l p f v i).ledger = d.ledger := rfl
@[simp] theorem Dev.slS_mods (d : Dev) (l : Lane) (p : Nat) (f : Fld) (v : Int) (i : Nat) : (d.slS l p f v i).mods = d.mods := rfl
@[simp] theorem Dev.slS_prot (d : Dev) (l : Lane) (p : Nat) (f : Fld) (v : Int) (i : Nat) : (d.slS l p f v i).prot = d.prot := rfl
@[simp] theorem Dev.slS_bridges (d : Dev) (l : Lane) (p : Nat) (f : Fld) (v : Int) (i : Nat) : (d.slS l p f v i).bridges = d.bridges := rfl
@[simp] theorem Dev.slS_axes (d : Dev) (l : Lane) (p : Nat) (f : Fld) (v : Int) (i : Nat) : (d.slS l p f v i).axes = d.axes := rfl
@[simp] theorem Dev.slS_islands (d : Dev) (l : Lane) (p : Nat) (f : Fld) (v : Int) (i : Nat) : (d.slS l p f v i).islands = d.islands := rfl
@[simp] theorem Dev.slS_motion (d : Dev) (l : Lane) (p : Nat) (f : Fld) (v : Int) (i : Nat) : (d.slS l p f v i).motion = d.motion := rfl
@[simp] theorem Dev.slS_meas (d : Dev) (l : Lane) (p : Nat) (f : Fld) (v : Int) (i : Nat) : (d.slS l p f v i).meas = d.meas := rfl
@[simp] theorem Dev.slS_field1 (d : Dev) (l : Lane) (p : Nat) (f : Fld) (v : Int) (i : Nat) : (d.slS l p f v i).field1 = d.field1 := rfl
@[simp] theorem Dev.slS_field2 (d : Dev) (l : Lane) (p : Nat) (f : Fld) (v : Int) (i : Nat) : (d.slS l p f v i).field2 = d.field2 := rfl
@[simp] theorem Dev.slS_quill (d : Dev) (l : Lane) (p : Nat) (f : Fld) (v : Int) (i : Nat) : (d.slS l p f v i).quill = d.quill := rfl
@[simp] theorem Dev.slS_pos (d : Dev) (l : Lane) (p : Nat) (f : Fld) (v : Int) (i : Nat) : (d.slS l p f v i).pos = d.pos := rfl
@[simp] theorem Dev.slS_slay (d : Dev) (l : Lane) (p : Nat) (f : Fld) (v : Int) (i : Nat) : (d.slS l p f v i).slay = d.slay := rfl
@[simp] theorem Dev.slS_can (d : Dev) (l : Lane) (p : Nat) (f : Fld) (v : Int) (i : Nat) : (d.slS l p f v i).can = d.can := rfl
@[simp] theorem Dev.slS_ruling (d : Dev) (l : Lane) (p : Nat) (f : Fld) (v : Int) (i : Nat) : (d.slS l p f v i).ruling = d.ruling := rfl
@[simp] theorem Dev.slS_rig (d : Dev) (l : Lane) (p : Nat) (f : Fld) (v : Int) (i : Nat) : (d.slS l p f v i).rig = d.rig := rfl
@[simp] theorem Dev.slS_eth (d : Dev) (l : Lane) (p : Nat) (f : Fld) (v : Int) (i : Nat) : (d.slS l p f v i).eth = d.eth := rfl
@[simp] theorem Dev.slS_time (d : Dev) (l : Lane) (p : Nat) (f : Fld) (v : Int) (i : Nat) : (d.slS l p f v i).time = d.time := rfl
@[simp] theorem Dev.slS_tinker (d : Dev) (l : Lane) (p : Nat) (f : Fld) (v : Int) (i : Nat) : (d.slS l p f v i).tinker = d.tinker := rfl
@[simp] theorem Dev.slS_sensors (d : Dev) (l : Lane) (p : Nat) (f : Fld) (v : Int) (i : Nat) : (d.slS l p f v i).sensors = d.sensors := rfl
@[simp] theorem Dev.slS_thermal (d : Dev) (l : Lane) (p : Nat) (f : Fld) (v : Int) (i : Nat) : (d.slS l p f v i).thermal = d.thermal := rfl
@[simp] theorem Dev.slS_nvm (d : Dev) (l : Lane) (p : Nat) (f : Fld) (v : Int) (i : Nat) : (d.slS l p f v i).nvm = d.nvm := rfl
@[simp] theorem Dev.slS_boot (d : Dev) (l : Lane) (p : Nat) (f : Fld) (v : Int) (i : Nat) : (d.slS l p f v i).boot = d.boot := rfl
@[simp] theorem Dev.slS_res (d : Dev) (l : Lane) (p : Nat) (f : Fld) (v : Int) (i : Nat) : (d.slS l p f v i).res = d.res := rfl
@[simp] theorem Dev.slS_cal (d : Dev) (l : Lane) (p : Nat) (f : Fld) (v : Int) (i : Nat) : (d.slS l p f v i).cal = d.cal := rfl
@[simp] theorem Dev.slS_frozen (d : Dev) (l : Lane) (p : Nat) (f : Fld) (v : Int) (i : Nat) : (d.slS l p f v i).frozen = d.frozen := rfl
@[simp] theorem Dev.slS_gateSent (d : Dev) (l : Lane) (p : Nat) (f : Fld) (v : Int) (i : Nat) : (d.slS l p f v i).gateSent = d.gateSent := rfl
@[simp] theorem Dev.slS_lands (d : Dev) (l : Lane) (p : Nat) (f : Fld) (v : Int) (i : Nat) : (d.slS l p f v i).lands = d.lands := rfl
@[simp] theorem Dev.slS_shadows (d : Dev) (l : Lane) (p : Nat) (f : Fld) (v : Int) (i : Nat) : (d.slS l p f v i).shadows = d.shadows := rfl

/-! The device and the queue after a command -/

@[simp] theorem State.done_dev (s : State) (d : Dev) : (s.done d).dev = s.dev.settle d := rfl
@[simp] theorem State.done_pending (s : State) (d : Dev) : (s.done d).pending = s.pending := rfl
@[simp] theorem State.act_next (s : State) (f : Dev → Dev) : s.act f = .next (s.done (f s.dev)) := rfl

end Sys2Proof.Machine
end

