-- ==== Sys2Proof/Tests/Slice0.lean ====
section
/-! SUPPORT. Tests: ill-formed terms, the worked examples of the spec, and a witness of the hypotheses of every clause of the
statements, on small devices. -/

open Sys2Proof Sys2Proof.Machine

/-! ## Small devices -/

/-- A device whose supplies stand, whose dies run, whose links are live, with lane A ACTIVE and lane B STANDBY. -/
def wUp : Dev := { Dev.reset with
  now := 100000000
  power := { valid := ([.vsup .a, .vsup .b, .vio, .vctl .a, .vctl .b, .vposL, .vnegL] : List Supply).map fun u => (u, some 0)
             running := [.iface .a, .iface .b, .ctl .a, .ctl .b] ++ (List.finRange 8).map Die.drv
             vioLevel := some 2, vioMv := 3300, aonRunning := { a := true, b := true } }
  clocks := { a := { main := true, refMade := true, refXtal := true, aonXtal := true, pllI := true, pllC := true }
              b := { main := true, refMade := true, refXtal := true, aonXtal := true, pllI := true, pllC := true } }
  links := Vector.replicate 44 { started := true, live := true }
  dies := Vector.replicate 8 { powered := true, activePort := some .a, everActive := true
                               ports := { a := { active := true, calOk := true }, b := { calOk := true } }, applied := some [] }
  lanes := { a := { role := .active, up := true, stOk := true, eligible := true, pagesMatch := true, exchanged := true }
             b := { role := .standby, up := true, stOk := true, eligible := true, pagesMatch := true, exchanged := true } }
  islands := { a := { inService := true, partner := true }, b := { inService := true, partner := true } }
  host := { opened := { a := true, b := true } }
  lands := { syncBy := some .a } }

/-- The same while every pair of both lanes disagrees on its inputs. -/
def wHeld : Dev :=
  let all : List ((Bool × PairInput) × Nat) := [((true, .sto .a), 0), ((true, .sdi 1), 0), ((true, .hvil), 0), ((true, .frame), 0),
    ((false, .frame), 0), ((false, .debug), 0)]
  (wUp.onLane .a fun x => { x with disagree := all }).onLane .b fun x => { x with disagree := all }

/-- A decision word that asks for nothing. -/
def wWord : DecisionWord := { state1 := 0, state2 := 0, monitors := 0, viol1 := 0, viol2 := 0, brake := false, inputs := 0 }

/-- The same device with its clocks not chosen yet. -/
def wCold : Dev := { wUp with clocks := { a := {}, b := {} } }

/-- A host frame that reads one word of SYS. -/
def wFrame : HostFrame :=
  { opcode := 1, page := 1, woff := 16, count := 0, fixed := false, low := 0, data := [], alive := 0, crc := 0, lengthOk := true }

/-- The frame with opcode `n` and the CRC that its words have. -/
def wSealed (n : Fin 16) (f : HostFrame) : HostFrame := { f with opcode := n, crc := ({ f with opcode := n } : HostFrame).check }

/-- The low-voltage class, with leg 2's high side on a bootstrap. -/
def wBoot : Dev := (wUp.s pgSYS R.SYS_CONFIG_SIZE 1).sl .a (pgMOD .a) R.MOD_LEG_CFG_BOOT 1 2

/-- A priority symbol that forces OUT 2 off is on its way from modulator `l` to die 6. -/
def wSymbol (l : Lane) : Dev := wUp.onMaster l 6 fun m => { m with symbol := some (symbolWord [none, none, some false, none], 2) }

/-- A servo tick of motion unit 2 is due. -/
def wServo : Dev := wUp.onMotion 1 fun m => { m with due := true }

/-- That device after what the lanes that track take at the tick. -/
def wServed : Dev := wServo.eachLane fun e l => e.shadowTrack l (2 ^ (1 + (1 : Fin 2).val))

/-- The target of an address. -/
def wTarget (k : Nat) : Target :=
  (wUp.target k).getD { page := 0, o := 0, flds := [], copies := [], mirrored := false, region := false }

/-- A head of link A. -/
def wRig : Dev := (wUp.rs .a H.CTRL_ENABLE 1).rs .a R.LINK_STAT_ISHEAD 1

/-- The same with a relayed read that waits for its answer. -/
def wRemote : Dev :=
  let d := wRig.onRig .a fun r => { r with tag := 8 }
  { d with host := { request := some { port := .host, frame := { wFrame with opcode := 4, data := [3] }, at' := 0 } } }

/-- Channel 0 of position unit A fed by source `n`. -/
def wSrc (n : Nat) : Dev :=
  let d := wUp.sl .a (pgPOS .a) R.POS_SRC0_SEL n
  (d.sl .a (pgPOS .a) R.POS_FRM_CFG_VALUE 0x04018C80).sl .a (pgPOS .a) R.POS_FRM_TIME_VALUE 0x00100000

/-- Resolver channel 0 of position unit A on a port that listens. -/
def wListen : Dev := (wSrc 4).sl .a (pgPOS .a) R.POS_CFG_RES_ROLE 1

/-- WATCH with more edges than SPEED_LEVEL in its window. -/
def wWatch : Dev :=
  let d := { wUp with mode := { wUp.mode with cur := .watch } }
  ((d.sl .a pgSYS R.SYS_WAKE_EN_SPEED_WATCH 1).sl .a pgPWR R.PWR_WATCH_SPEED_LEVEL 1).onPos .a fun u => { u with watchAt := [0, 0] }

/-- Interface die A without its supply. -/
def wPart : Dev := { wUp with power := { wUp.power with running := wUp.power.running.filter fun x => x != .iface .a } }

/-- SYNC_OUT held high by IA. -/
def wSync : Dev :=
  let d := wUp.sl .a (pgMOD .a) R.MOD_SYNC_OUTEN 1
  { d with lands := { d.lands with syncHeld := some true } }

/-- The ports before START_UP opens them. -/
def wClosed : Dev := { wUp with host := {} }

/-- Axis 1 with an open catch window. -/
def wCatch : Dev := wUp.onAxis 0 fun a => { a with catchWin := some wUp.now, catchNext := wUp.now }

/-- Lane A's Quill in a run whose next instruction has these halves; register n holds n. -/
def wQuill (hi lo : Word) : Dev :=
  (wUp.onQuill .a fun u => { (u.setHalf 0 0 1 hi).setHalf 0 0 0 lo with
    run := some 0, t0 := wUp.now - 20, nextAt := wUp.now - 10, q := Vector.ofFn fun r => BitVec.ofNat 32 r.val }).sl
    .a (pgQUILL .a) R.QUILL_RUN_MAXCYC 20

/-- Lane A's Quill with the trigger of entry 0 due. -/
def wTrig : Dev :=
  let p := pgQUILL .a
  let d := ((wUp.sl .a p H.CTRL_ENABLE 1).sl .a p R.QUILL_TRIG_EN 1 0).sl .a p R.QUILL_TRIG_SRC 1 0
  d.onTb .a 0 fun t => { t with running := true, t0 := wUp.now }

/-- The same with both triggers due in one tick. -/
def wTrigs : Dev := (wTrig.sl .a (pgQUILL .a) R.QUILL_TRIG_EN 1 1).sl .a (pgQUILL .a) R.QUILL_TRIG_SRC 1 1

/-- An export. -/
def wShadow : Shadow := { entry := 0, run := 3, mask := 1, regs := [7], base := 0, words := [], at' := 5 }

/-- Output 2 on, configured with its protections enabled. -/
def wGateOn : Dev := wUp.onOut 2 fun x => { x with
  on := true, gateOn := true, phaseOn := true, cfg := some (List.replicate 40 0xFFFFFFFF#32) }

/-- Bridge 0 with ASC waiting for its low sides, which are available. -/
def wAsc : Dev :=
  let d := ([6, 7, 8] : List (Fin 14)).foldl (fun d o => d.onOut o fun x => { x with cfg := some (List.replicate 40 0xFFFFFFFF#32) }) wUp
  let d := (d.sl .a (pgSAFE .a) R.SAFE_CFG_ASC_EN 1).sl .b (pgSAFE .b) R.SAFE_CFG_ASC_EN 1
  d.onBridge 0 fun b => { b with waitHigh := some false }

/-- Driver die 1 used and reached by no live link, while lane A starts its link. -/
def wLost : Dev :=
  let d := (List.finRange 4).foldl (fun d o => d.s pgGATE R.GATE_OCFG_EN 1 ((dieOuts 1).getD o.val 13).val) wUp
  let d := (d.onLink (.drvDie .a 1) fun _ => {}).onLink (.drvDie .b 1) fun _ => {}
  (d.onLink (.drvMaster .a 1) fun _ => {}).onMaster .a 1 fun m => { m with startAt := some 7 }

/-- DISCHARGE that has run into its limit with the DC link still at voltage. -/
def wDischarge : Dev :=
  let d := wUp.onProt .a fun p => { p with volt := some 300 }
  { d with mode := { d.mode with cur := .discharge }, now := 40000000000000 }

/-- The safety layer of island A at work, with CAN 0 as a port of class SAFETY. -/
def wSafety : Dev :=
  let d := wUp.sl .a pgSLAYER R.SLAYER_CFG_EN 1
  let d := (d.sl .a (portPage 3) H.CTRL_ENABLE 1).sl .a (portPage 3) R.CAN_CFG_FDEN 1
  d.setWord .a (pageAddr pgHOST 0x4C) 0x00000040#32

/-- A first copy that waits for its second. -/
def wCopy : SlCopy := { seq := 0, time := 0, payload := [], path := 0, at' := 0, waits := true }

/-- CAN 0 active on its bus. -/
def wCan : Dev := (wUp.cs 0 H.CTRL_ENABLE 1).cs 0 R.CAN_STAT_STATE 2

/-- A classical frame. -/
def wFrameCan : CanFrame :=
  { fmt := 0, rtr := false, brs := false, esi := false, sec := false, id := 5, sdt := 0, vcid := 0, af := 0, data := [1] }

/-- A filter word that takes every classical base frame. -/
def wFilterCfg : Word := (R.FILT_ACTION.put (R.FILT_FMT.put (R.FILT_EN.put 0 1) 1) 1)

/-- CAN 0 with that filter as its first. -/
def wFilter : Dev := wCan.setWord .a (filtAddr 0 0 8) wFilterCfg

/-- CAN 0 with its ruling enabled. -/
def wRuling : Dev := (wCan.cs 0 R.CAN_RULCFG_EN 1).cs 0 R.CAN_RULCYC_T 1000

/-- The filter word of the reference. -/
def wRefFilterCfg : Word := R.FILT_ACTION.put wFilterCfg 3

/-- The ruling with its reference filter. -/
def wRefFilter : Dev := wRuling.setWord .a (filtAddr 0 0 8) wRefFilterCfg

/-- That device after the frame is heard, and with its filter's hit counted. -/
def wHeard : Dev := wRefFilter.canHeard 0
def wHits : Dev :=
  wHeard.setWord (canLane 0) (filtAddr 0 0 10) (BitVec.ofNat 32 (satInc 4294967295 (wHeard.word (canLane 0) (filtAddr 0 0 10)).toNat))

/-- CAN 0 with a safety path of identifier 0x100. -/
def wPath : Dev :=
  let d := (wCan.cs 0 R.CAN_CFG_FDEN 1).cwSet .a 0 R.CONN_EN 1
  (d.cwSet .a 0 R.CONN_P0PORT 3).cwSet .a 0 R.CONN_PATH0_ID 0x100

/-- A cell of CAN 0 whose mark has come. -/
def wCell0 : Dev :=
  let a := rgRULING + 32 * 4
  let d := (wRuling.cs 0 R.CAN_RULSTAT_REF_OK 1).onCan 0 fun u => { u with refAt := some (wUp.now - 20) }
  ((d.setWord .a a 10).setWord .a (a + 4) 1000).setWord .a (a + 28) (R.CELL_BUF.put (R.CELL_EN.put 0 1) 6)

/-- That cell's buffer ready for its exclusive window. -/
def wCell : Dev :=
  (wCell0.onCan 0 fun u => { u with acted := [4] }).onBuf 0 6 fun x => { x with state := 1, ruling := true }

/-- Ethernet enabled with its link up. -/
def wEth : Dev := (wUp.es H.CTRL_ENABLE 1).es R.ETH_STAT_LINK 1

/-- The same with a safety path of stream tag 5. -/
def wEthPath : Dev := ((wEth.cwSet .a 0 R.CONN_EN 1).cwSet .a 0 R.CONN_P0PORT 9).cwSet .a 0 R.CONN_PATH0_ID 5

/-- Hallmark unit 3 owned by lane A's firmware and enabled. -/
def wHall : Dev := (wUp.setOwner 19 48).hmSet 3 R.HALLMARK_CFG_EN 1

/-- Tinker enabled with slice 24 online. -/
def wTinker : Dev := (wUp.s pgTINKER H.CTRL_ENABLE 1).s pgTINKER R.TINKER_EN0_S 0x01000000

/-- MAINTENANCE, where a sweep may start. -/
def wSweep : Dev := { wUp with mode := { wUp.mode with cur := .maintenance } }

/-- The record of a thermal shutdown. -/
def wRec : ThermalRec := { time := 7, sensor := 3, temp := 2800, mode := 4, blind := false }

/-- A thermal shutdown with its record written and both axes off. -/
def wHot : Dev := { wUp with thermal := { wUp.thermal with active := true, written := [.a, .b], done := [0, 1] } }

/-- DORMANT with the thermal latch set. -/
def wLatch : Dev :=
  let d := wUp.sl .a pgTEMP R.TEMP_SHUT_LATCH 1
  { d with mode := { d.mode with cur := .dormant } }

/-- An axis in a catch window. -/
def wTake : Dev := wUp.onAxis 0 fun a => { a with catchWin := some 5 }

/-- Leg 0 taken by PROTECTION while DISCHARGE wants it. -/
def wTake2 : Dev :=
  let d := wUp.s pgPROT R.PROT_DISCH_METHOD 1
  { d with mode := { d.mode with cur := .discharge, method := 1 }, res := { d.res with takes := [{ res := 2, fn := 0x41, on := true }] } }

/-- A device in RUN with GATE enabled, converter A0's reference on and an urgent request waiting on lane B. -/
def wLive : Dev :=
  let d := { wUp with mode := { wUp.mode with cur := .run } }
  ((d.s 0x1E H.CTRL_ENABLE 1).sl .a (pgCONV .a 0) R.CONV_REF_EN 1).sl .b (pgSEQ .b) R.SEQ_URGENT3_REQ 1

/-! ## WellFormed refuses an ill-formed term of each check -/

/-- A host frame of `n` words. -/
def wFrameOf (n : Nat) : HostFrame := { wFrame with data := List.replicate n 0 }
/-- A CAN frame of format `f`, identifier `i` and `n` bytes. -/
def wCanOf (f : Fin 5) (i : Fin 536870912) (n : Nat) : CanFrame := { wFrameCan with fmt := f, id := i, data := List.replicate n 0 }

theorem smoke_link_start : (Instr.linkStartUp (.ctlCross .b) 4 5 0).wellFormed = false ∧ (Instr.linkStartUp (.ctlCross .b) 5 4 65536).wellFormed = false ∧
    (Instr.linkStartUp (.drvDie .b 0) 5 4 65535).wellFormed = true := by decide
theorem smoke_proxy : (Instr.proxyWrite (.port 0) .leave).wellFormed = false ∧ (Instr.proxyWrite (.laneFw .a) .leave).wellFormed = true := by decide
theorem smoke_pair_input : (Instr.inputDisagree .a true .debug true).wellFormed = false ∧ (Instr.inputDisagree .a false .debug true).wellFormed = true := by decide
theorem smoke_debug_memory : (Instr.debugAction .a false (.readMem .data (2 ^ 32))).wellFormed = false ∧
    (Instr.debugAction .a false (.writeMem .prog 0 0)).wellFormed = false ∧ (Instr.debugAction .a false (.writeMem .data 0 0)).wellFormed = true := by decide
theorem smoke_address : (Instr.registerWrite (.port 0) 4294967296 0).wellFormed = false ∧
    (Instr.registerWrite (.port 0) 4294967292 0).wellFormed = true := by decide
theorem smoke_host_frames : (Instr.hostRead .host (wFrameOf 65)).wellFormed = false ∧ (Instr.hostWrite .host (wFrameOf 65)).wellFormed = false ∧
    (Instr.hostFetch .host (wFrameOf 65)).wellFormed = false ∧ (Instr.remoteRead .host (wFrameOf 65)).wellFormed = false ∧
    (Instr.remoteWrite .host (wFrameOf 65)).wellFormed = false ∧ (Instr.remoteWrite .host (wFrameOf 64)).wellFormed = true := by decide
theorem smoke_ssi_bits : (Instr.ssiFrameComplete .a (2 ^ 63)).wellFormed = false := by decide
theorem smoke_sent_pulses : (Instr.sentFrame .a false 0 (List.replicate 9 0) none 0).wellFormed = false := by decide
theorem smoke_gate_measures : (Instr.gatePhaseEnd 0 0 true 256 0).wellFormed = false ∧ (Instr.gatePhaseEnd 0 0 true 0 256).wellFormed = false ∧
    (Instr.gatePhaseEnd 0 256 true 0 0).wellFormed = false ∧ (Instr.softTurnOffStep 0 256 true).wellFormed = false ∧
    (Instr.plateauShort 0 256 true).wellFormed = false := by decide
theorem smoke_gate_supply : (Instr.gateSupply 0 256 0).wellFormed = false ∧ (Instr.gateSupply 0 0 256).wellFormed = false ∧
    (Instr.gateSupplyRecovered 0 256 0).wellFormed = false ∧ (Instr.gateSupplyRecovered 0 0 256).wellFormed = false := by decide
theorem smoke_isec : (Instr.isecSample .a [0, 0, 0, 0, 0]).wellFormed = false ∧
    (Instr.isecSample .a [0, 0, 0, 0, 0, 32768]).wellFormed = false := by decide
theorem smoke_safety_pdu : (Instr.safetyPduReceive .a 0 0 (List.replicate 65 0) 0).wellFormed = false ∧
    (Instr.safetyPduProduce .a 0 (List.replicate 49 0) none).wellFormed = false := by decide
theorem smoke_can_data : (Instr.canFrameReceive 0 (wCanOf 0 0 9) 0).wellFormed = false ∧ (Instr.canFrameReceive 0 (wCanOf 1 0 9) 0).wellFormed = false ∧
    (Instr.canFrameReceive 0 (wCanOf 2 0 65) 0).wellFormed = false ∧ (Instr.canFrameReceive 0 (wCanOf 3 0 65) 0).wellFormed = false ∧
    (Instr.canFrameReceive 0 (wCanOf 4 0 0) 0).wellFormed = false := by decide
theorem smoke_can_identifier : (Instr.canFrameReceive 0 (wCanOf 0 2048 8) 0).wellFormed = false ∧
    (Instr.canFrameReceive 0 (wCanOf 1 2048 8) 0).wellFormed = true ∧ (Instr.rulingReferenceReceive 0 (wCanOf 2 2048 8) 0).wellFormed = false := by decide
theorem smoke_link_words : (Instr.regReq .a 0 0 0 true 0 (List.replicate 65 0)).wellFormed = false ∧
    (Instr.regRsp .a 0 0 0 (List.replicate 65 0)).wellFormed = false := by decide
set_option maxRecDepth 100000 in
theorem smoke_eth : (Instr.ethFrameReceive (List.replicate 1519 0) true 0).wellFormed = false := by decide
theorem smoke_retry : (Instr.thermalRetryWake (List.replicate 19 none) (List.replicate 20 none)).wellFormed = false ∧
    (Instr.thermalRetryWake (List.replicate 20 none) (List.replicate 21 none)).wellFormed = false := by decide
theorem smoke_entropy : (Instr.unlockChallenge (.port 0) (some [0])).wellFormed = false ∧
    (Instr.jtagChallenge (some (List.replicate 9 0))).wellFormed = false ∧ (Instr.jtagChallenge none).wellFormed = true := by decide
set_option maxRecDepth 100000 in
theorem smoke_token : (Instr.jtagTokenSubmit (List.replicate 944 0)).wellFormed = false := by decide

/-! ## Worked examples of the spec -/

/-- Code `n` over the nine bytes "123456789". -/
def wCheck (n : Nat) : Nat := (checkCode n).over (([1, 2, 3, 4, 5, 6, 7, 8, 9] : List Nat).map fun k => BitVec.ofNat 8 (0x30 + k))

set_option maxRecDepth 100000 in
/-- The check values of R560's table (16_hallmark_ledger_tinker.md). -/
theorem test_check_values : [0, 1, 2, 3].map wCheck = [0xDF, 0x29B1, 0xCBF43926, 0xE3069283] := by decide

/-- The worked word of 08_quill_control_engine.md: PI q15, q4, q12, q8, k32. -/
theorem test_pi_word : qEncodeHigh { op := 0x2B, dst := 15, sa := 4, sb := 12, sc := 8, flg := 0, k := 32, x := 0, imm := 0x08000000 } = 0x2B791880#32 ∧
    qEncodeLow { op := 0x2B, dst := 15, sa := 4, sb := 12, sc := 8, flg := 0, k := 32, x := 0, imm := 0x08000000 } = 0x08000000#32 := by decide

/-- Steps 4 and 6 of the window integration of 05_measurement.md: a mean of 5,605 and a slope word of -400. -/
theorem test_window_sums : winMean { n := 592, s0 := 3317864, s1 := 963139304 } = (5605, false) ∧
    winSlope { n := 592, s0 := 3317864, s1 := 963139304 } 20 = (-400, false) := by decide

/-- Fifteen counts in 36,621 ticks (06_position_feedback.md). -/
theorem test_window_speed : windowSpeed [(15, 1036621), (7, 1017000), (0, 1000000)] = some 52428934 := by decide

/-- Channel 0 of POS_A as that example sets it, at REVPOS `r`. -/
def wIndex (r : Nat) : Dev :=
  let d := (((wSrc 1).setCh .a 0 R.POS_STATE_REFD 1).setCh .a 0 R.POS_IDX_CFG_EN 1).setCh .a 0 R.POS_IDX_CFG_TOL 2
  ((d.setCh .a 0 R.POS_IDX_CFG_MLIM 3).setCh .a 0 R.POS_REVPOS_REVPOS r).setCh .a 0 R.POS_POS_POS 1040382

set_option maxRecDepth 100000 in
/-- Step two of that example: REVPOS 8,190 is two counts short and is corrected. -/
theorem test_index_corrects :
    let d := (((wIndex 8190).setCh .a 0 R.POS_CPR_CPR 8192).setChS .a 0 R.POS_LIM_HI_LIM 2000000).judgeIndex .a 0 1040000
    d.ch .a 0 R.POS_REVPOS_REVPOS = 0 ∧ d.chS .a 0 R.POS_POS_POS = 1040384 ∧ d.chS .a 0 R.POS_IDX_CORR_LAST = -2 ∧ d.ch .a 0 R.POS_STATE_MCNT = 0 := by
  decide

set_option maxRecDepth 100000 in
/-- Step three: REVPOS 3 lies beyond TOL and is counted, not corrected. -/
theorem test_index_mismatch :
    let d := (((wIndex 3).setCh .a 0 R.POS_CPR_CPR 8192).setChS .a 0 R.POS_LIM_HI_LIM 2000000).judgeIndex .a 0 21040000
    d.ch .a 0 R.POS_REVPOS_REVPOS = 3 ∧ d.ch .a 0 R.POS_STATE_MCNT = 1 ∧ d.g pgLEDGER R.LEDGER_SRC_STATUS 128 = 1 := by
  decide

/-- The edge message of 10_modulator.md: its check byte, and the tick that a port at 1,067,311 reads from it. -/
theorem test_edge_message : edgeCrc 0x0527D080#32 = 0x80 ∧
    heldEdge 1067311 0 0x0527D080#32 = { out := 0, level := false, pset := false, seq := 5, due := 1067326, dueF := 16 } := by decide

/-- The first two adaptations of 11_gate_drive_protection.md. -/
theorem test_adapt_steps : adaptStep 128 100 125 1 0 15 = (115, false) ∧ adaptStep 115 100 109 1 0 15 = (110, false) := by decide

/-- The machine of the torque example of 13_safety_functions.md. -/
def wMachine : Dev :=
  let d := (wUp.sl .a pgASSAY R.ASSAY_MACH_PP 4 0).sl .a pgASSAY R.ASSAY_MACH_PSI 20000 0
  (d.sl .a pgASSAY R.ASSAY_LD_L 250000 0).sl .a pgASSAY R.ASSAY_LQ_L 600000 0

/-- 606 Nm at -150 A and 400 A. -/
theorem test_torque : wMachine.assayTorque .a 0 (-150000000) 400000000 = 606000000 := by decide

/-- The set-point of 09_motion_and_stepping.md half way through its segment: 15,360 counts, 204,800 counts/s, 655,360 counts/s². -/
theorem test_hermite : hermite 0 0 (40960 * 2 ^ 32) (163840 * 2 ^ 16) 500 1000 125000 = (15360 * 2 ^ 32, 204800 * 2 ^ 16, 655360 * 2 ^ 16) := by decide

/-- Its resume segment lasts 894 periods. -/
theorem test_resume_duration :
    resumeDur 500 (24960 * 2 ^ 32) { vmax := 250000 * 2 ^ 16, amax := 3000000, dmax := 3000000, jmax := 0, st := 125000 } = 894 := by decide

/-- Sleep time of 03_power_clocks_modes.md: 10 s of always-on cycles end at 0x1_6A05_F6E2. -/
def wAsleep : Dev := (({ wUp with now := 0x40000000 } : Dev).onClk .a fun c => { c with main := false, acc := 0x40000000 * 128 + 640000160000 }).onClk
  .b fun c => { c with main := false }
theorem test_sleep_time : (wAsleep.mainClockStart .a).now = 0x16A05F6E2 := by decide

/-- The re-checked frame of 16_hallmark_ledger_tinker.md: units 2 and 3 after their nine bytes. -/
def wFrame9 : Dev :=
  let d := ((wUp.setOwner 18 48).setOwner 19 48).hmSet 2 R.HALLMARK_CFG_EN 1
  let d := ((d.hmSet 2 R.HALLMARK_CFG_MODE 2).hmSet 2 R.HALLMARK_CFG_CODE 1).hmSet 2 R.HALLMARK_CFG_PAIREN 1
  let d := (((d.hmSet 2 R.HALLMARK_CFG_PAIR 3).hmSet 3 R.HALLMARK_CFG_EN 1).hmSet 3 R.HALLMARK_CFG_MODE 1).hmSet 3 R.HALLMARK_CFG_CODE 3
  let d := (d.hmStart 2).hmStart 3
  ((d.hmData 2 (([1, 2, 3, 4, 5, 6, 7, 8, 9] : List Nat).map fun k => BitVec.ofNat 8 (0x30 + k))).getD d)

set_option maxRecDepth 100000 in
/-- Its check 0x29B1 passes and leaves unit 3's CRC-32C; 0x29B0 fails and discards it. -/
theorem test_rechecked_frame :
    let d := ((wFrame9.hmSet 2 R.HALLMARK_CHECKIN_C 0x29B1).hmClose 2 0).getD wUp
    d.hm 2 R.HALLMARK_STAT_RESULT = 1 ∧ wFrame9.hm 2 R.HALLMARK_STAT_BYTES = 9 ∧ d.hm 3 R.HALLMARK_OUT_C = 0xE3069283 ∧ d.hm 2 R.HALLMARK_STAT_BYTES = 0 := by decide
set_option maxRecDepth 100000 in
theorem test_rechecked_frame_fails :
    let d := ((wFrame9.hmSet 2 R.HALLMARK_CHECKIN_C 0x29B0).hmClose 2 0).getD wUp
    d.hm 3 R.HALLMARK_OUT_C = 0 ∧ d.hm 3 R.HALLMARK_STAT_DISCARDED = 1 ∧ d.g pgHALLMARK R.HALLMARK_FAILSUM_U = 4 ∧ d.g pgLEDGER R.LEDGER_SRC_STATUS 364 = 1 := by decide

/-- The encoder angle of 21_worked_bring_up.md: REVPOS 5,000 with 4 pole pairs is 1,895,825,408. -/
theorem test_align_angle :
    let d := ((wSrc 1).setCh .a 0 R.POS_CPR_CPR 8192).sl .a (pgFIELD 0) R.FIELD_ANGSRC_PP 4
    d.recAngle .a 0 .a 0 { revpos := 5000 } = 1895825408 := by decide

/-! ## What the hypotheses of the statements are met by -/

theorem wit_LinkCommandsComplete_linkFrameReceive0 : ((match linkPair (.drvDie .a 2 : LinkRx) with | some p => (wUp : Dev).inputHeld p.1 p.2 .frame | none => false) = false) ∧ (((wUp : Dev).link (.drvDie .a 2 : LinkRx)).live = true) ∧ ((wUp : Dev).senderOn (.drvDie .a 2 : LinkRx) = true) ∧ ((true : Bool) = true) ∧ (1 ≤ (wUp : Dev).frameStep (.drvDie .a 2 : LinkRx) (5 : Fin 256).val ∧ (wUp : Dev).frameStep (.drvDie .a 2 : LinkRx) (5 : Fin 256).val ≤ 8) := by decide

theorem wit_LinkCommandsComplete_linkFrameReceive1 : ((match linkPair (.ifaceCross .b : LinkRx) with | some p => ({ wUp with links := Vector.replicate 44 { started := true, live := true, lastSeq := some 250 } } : Dev).inputHeld p.1 p.2 .frame | none => false) = false) ∧ ((({ wUp with links := Vector.replicate 44 { started := true, live := true, lastSeq := some 250 } } : Dev).link (.ifaceCross .b : LinkRx)).live = true) ∧ (({ wUp with links := Vector.replicate 44 { started := true, live := true, lastSeq := some 250 } } : Dev).senderOn (.ifaceCross .b : LinkRx) = true) ∧ ((true : Bool) = false ∨ ({ wUp with links := Vector.replicate 44 { started := true, live := true, lastSeq := some 250 } } : Dev).frameStep (.ifaceCross .b : LinkRx) (3 : Fin 256).val = 0 ∨ 8 < ({ wUp with links := Vector.replicate 44 { started := true, live := true, lastSeq := some 250 } } : Dev).frameStep (.ifaceCross .b : LinkRx) (3 : Fin 256).val) := by decide

theorem wit_LinkCommandsComplete_linkFrameReceive2 : (linkPair (.ctlCross .a : LinkRx) = some ((.a : Lane), (false : Bool))) ∧ ((wHeld : Dev).inputHeld (.a : Lane) (false : Bool) .frame = true) := by decide

theorem wit_LinkCommandsComplete_linkLost3 : ((({ wUp with now := 96 } : Dev).link (.drvMaster .b 7 : LinkRx)).live = true) ∧ ((({ wUp with now := 96 } : Dev).link (.drvMaster .b 7 : LinkRx)).lastAccept + 3 * ({ wUp with now := 96 } : Dev).linkGap (.drvMaster .b 7 : LinkRx) ≤ ({ wUp with now := 96 } : Dev).now) := by decide

theorem wit_LinkCommandsComplete_linkStartUp4 : ((wUp : Dev).endsUp (.drvMaster .a 6 : LinkRx) = true) ∧ ((wUp : Dev).linkBarred (.drvMaster .a 6 : LinkRx) = false) := by decide

theorem wit_LinkCommandsComplete_roleDesignationApply5 : (((wUp : Dev).link (.drvDie (.b : Lane) (4 : Fin 8))).live = true) ∧ ((((wUp : Dev).dies[(4 : Fin 8)]).ports.at (.b : Lane)).handover = none) := by decide

theorem wit_LinkCommandsComplete_roleDesignationApply6 : ((({ wUp with dies := Vector.replicate 8 { powered := true, ports := { a := { handover := some 7 }, b := {} } } } : Dev).link (.drvDie (.a : Lane) (4 : Fin 8))).live = true) ∧ (((({ wUp with dies := Vector.replicate 8 { powered := true, ports := { a := { handover := some 7 }, b := {} } } } : Dev).dies[(4 : Fin 8)]).ports.at (.a : Lane)).handover = some (7 : Nat)) ∧ ((7 : Nat) ≤ ({ wUp with dies := Vector.replicate 8 { powered := true, ports := { a := { handover := some 7 }, b := {} } } } : Dev).now) := by decide

theorem wit_LinkCommandsComplete_edgeMessageReceive7 : ((((wUp : Dev).tinkerOut (3 : Fin 8) ((0x00000096#32 : Word).toNat / 2 ^ 30)).link (.drvDie (.a : Lane) (3 : Fin 8))).live = true) ∧ (((((wUp : Dev).tinkerOut (3 : Fin 8) ((0x00000096#32 : Word).toNat / 2 ^ 30)).dies[(3 : Fin 8)]).ports.at (.a : Lane)).calOk = true) ∧ (((wUp : Dev).tinkerOut (3 : Fin 8) ((0x00000096#32 : Word).toNat / 2 ^ 30)).mayArrive (.a : Lane) = true) ∧ (edgeCrc (0x00000096#32 : Word) = (0x00000096#32 : Word).toNat % 256) ∧ (dieOut (3 : Fin 8) ((0x00000096#32 : Word).toNat / 2 ^ 30) = some ((dieOut 3 0).getD 0 : OutIx)) := by decide

theorem wit_LinkCommandsComplete_edgeExecute8 : ((({ wUp with dies := Vector.replicate 8 { powered := true, activePort := some .b, ports := { a := {}, b := { held := [{ out := 8, level := true, pset := false, seq := 1, due := 50, dueF := 0 }] } } } } : Dev).dies[outDie (8 : Fin 14)]).activePort = some (.b : Lane)) ∧ ((takeDue (8 : Fin 14) (({ wUp with dies := Vector.replicate 8 { powered := true, activePort := some .b, ports := { a := {}, b := { held := [{ out := 8, level := true, pset := false, seq := 1, due := 50, dueF := 0 }] } } } } : Dev).portTick (outDie (8 : Fin 14)) (.b : Lane)) ((({ wUp with dies := Vector.replicate 8 { powered := true, activePort := some .b, ports := { a := {}, b := { held := [{ out := 8, level := true, pset := false, seq := 1, due := 50, dueF := 0 }] } } } } : Dev).dies[outDie (8 : Fin 14)]).ports.at (.b : Lane)).held).1 = some ({ out := 8, level := true, pset := false, seq := 1, due := 50, dueF := 0 } : HeldEdge)) := by decide

theorem wit_LinkCommandsComplete_prioritySymbolReceive9 : (((wSymbol .a : Dev).symbolOuts (6 : Fin 8) (.a : Lane)).foldl (fun x y => x.tinkerOut (6 : Fin 8) y) (wSymbol .a : Dev) = ((Dev.symbolOuts (wSymbol .a) 6 .a).foldl (fun x y => x.tinkerOut 6 y) (wSymbol .a) : Dev)) ∧ (((((Dev.symbolOuts (wSymbol .a) 6 .a).foldl (fun x y => x.tinkerOut 6 y) (wSymbol .a) : Dev).mods.at (.a : Lane)).masters[(6 : Fin 8)]).symbol = some ((symbolWord [none, none, some false, none] : Word), (2 : Nat))) ∧ ((((Dev.symbolOuts (wSymbol .a) 6 .a).foldl (fun x y => x.tinkerOut 6 y) (wSymbol .a) : Dev).link (.drvDie (.a : Lane) (6 : Fin 8))).live = true) ∧ (edgeCrc ((symbolWord [none, none, some false, none] : Word) ^^^ (0 : Word)) = ((symbolWord [none, none, some false, none] : Word) ^^^ (0 : Word)).toNat % 256) := by decide

theorem wit_LinkCommandsComplete_prioritySymbolReceive10 : (((wSymbol .a : Dev).symbolOuts (6 : Fin 8) (.a : Lane)).foldl (fun x y => x.tinkerOut (6 : Fin 8) y) (wSymbol .a : Dev) = ((Dev.symbolOuts (wSymbol .a) 6 .a).foldl (fun x y => x.tinkerOut 6 y) (wSymbol .a) : Dev)) ∧ (((((Dev.symbolOuts (wSymbol .a) 6 .a).foldl (fun x y => x.tinkerOut 6 y) (wSymbol .a) : Dev).mods.at (.a : Lane)).masters[(6 : Fin 8)]).symbol = some ((symbolWord [none, none, some false, none] : Word), (2 : Nat))) ∧ ((((Dev.symbolOuts (wSymbol .a) 6 .a).foldl (fun x y => x.tinkerOut 6 y) (wSymbol .a) : Dev).link (.drvDie (.a : Lane) (6 : Fin 8))).live = false ∨ edgeCrc ((symbolWord [none, none, some false, none] : Word) ^^^ (0x00000100 : Word)) ≠ ((symbolWord [none, none, some false, none] : Word) ^^^ (0x00000100 : Word)).toNat % 256) := by decide

theorem wit_LinkCommandsComplete_stoSymbolReceive11 : (((wUp : Dev).link (.drvDie (.b : Lane) (7 : Fin 8))).live = true) ∧ ((wUp : Dev).mayArrive (.b : Lane) = true) := by decide

theorem wit_SupplyAndClockCommandsComplete_stoChannelChange0 : ((wUp : Dev).up (.iface (.b : Lane)) = true) ∧ ((wUp : Dev).inputHeld (.b : Lane) true (.sto (.a : Lane)) = false) ∧ ((wUp : Dev).gl (.b : Lane) (pgSAFE (.b : Lane)) R.SAFE_STO_FILT * 125 ≤ 2 * (1000 : Nat)) := by decide

theorem wit_SupplyAndClockCommandsComplete_stoChannelChange1 : ((wHeld : Dev).up (.iface (.b : Lane)) = true) ∧ ((wHeld : Dev).inputHeld (.b : Lane) true (.sto (.a : Lane)) = true) ∧ ((wHeld : Dev).gl (.b : Lane) (pgSAFE (.b : Lane)) R.SAFE_STO_FILT * 125 ≤ 2 * (1000 : Nat)) := by decide

theorem wit_SupplyAndClockCommandsComplete_supplyValid2 : ((Dev.reset : Dev).supplyOk (.vsup .a : Supply) = false) ∧ (supplyAbove (.vsup .a : Supply) (12000 : Nat) = true) := by decide

theorem wit_SupplyAndClockCommandsComplete_domainResetRelease3 : (({ Dev.reset with power := { valid := [(.vsup .a, none)] } } : Dev).inReset (.iface .a : Die) = true) ∧ (({ Dev.reset with power := { valid := [(.vsup .a, none)] } } : Dev).supplyStood (dieSupply (.iface .a : Die)) = true) ∧ ((match (.iface .a : Die) with | .iface _ => ({ Dev.reset with power := { valid := [(.vsup .a, none)] } } : Dev).asleep | _ => false) = false) := by decide

theorem wit_SupplyAndClockCommandsComplete_domainResetRelease4 : (({ Dev.reset with power := { valid := [(.vsup .a, none)], aonRunning := { a := false, b := true } }, mode := { cur := .watch } } : Dev).inReset (.iface (.a : Lane)) = true) ∧ (({ Dev.reset with power := { valid := [(.vsup .a, none)], aonRunning := { a := false, b := true } }, mode := { cur := .watch } } : Dev).supplyStood (dieSupply (.iface (.a : Lane))) = true) ∧ (({ Dev.reset with power := { valid := [(.vsup .a, none)], aonRunning := { a := false, b := true } }, mode := { cur := .watch } } : Dev).asleep = true) := by decide

theorem wit_SupplyAndClockCommandsComplete_supplyInvalid5 : ((wUp : Dev).supplyOk (.vctl .b : Supply) = true) ∧ (supplyBelow (.vctl .b : Supply) (5000 : Nat) = true) := by decide

theorem wit_SupplyAndClockCommandsComplete_xtalReady6 : ((wCold : Dev).up (.iface (.b : Lane)) = true) ∧ (((wCold : Dev).clocks.at (.b : Lane)).refMade = false) ∧ ((wCold : Dev).gl (.b : Lane) pgCLK R.CLK_SRC_REF_SEL = 0) := by decide

theorem wit_SupplyAndClockCommandsComplete_xtalAbsent7 : ((wCold : Dev).up (.iface (.a : Lane)) = true) ∧ (((wCold : Dev).clocks.at (.a : Lane)).refMade = false) ∧ ((wCold : Dev).gl (.a : Lane) pgCLK R.CLK_SRC_REF_SEL = 0) := by decide

theorem wit_SupplyAndClockCommandsComplete_pllLock8 : ((wUp : Dev).up (.iface (.a : Lane)) = true) ∧ (((wUp : Dev).clocks.at (.a : Lane)).refMade = true ∨ (wUp : Dev).gl (.a : Lane) pgCLK R.CLK_SRC_REF_SEL = 1) := by decide

theorem wit_SupplyAndClockCommandsComplete_pllLock9 : ((wUp : Dev).up (.ctl (.a : Lane)) = true) ∧ (((wUp : Dev).clocks.at (.a : Lane)).pllI = true) ∧ ((wUp : Dev).isoUp (.a : Lane) = true) := by decide

theorem wit_SupplyAndClockCommandsComplete_clkTrimUpdate12 : ((wUp : Dev).lanes.a.role ≠ .failed ∧ (wUp : Dev).lanes.a.role ≠ .down) ∧ (((wUp : Dev).link (.ifaceCross .b)).live = true) ∧ (-25000 ≤ (-120 : Int) ∧ (-120 : Int) ≤ 25000) := by decide

theorem wit_SupplyAndClockCommandsComplete_clkTrimUpdate13 : ((wUp : Dev).lanes.a.role ≠ .failed ∧ (wUp : Dev).lanes.a.role ≠ .down) ∧ (((wUp : Dev).link (.ifaceCross .b)).live = true) ∧ (25000 < (25001 : Int)) := by decide

theorem wit_SupplyAndClockCommandsComplete_aonCalibration14 : (((wUp : Dev).clocks.at (.b : Lane)).main = true) := by decide

theorem wit_SupplyAndClockCommandsComplete_aonXtalReady15 : ((wUp : Dev).power.aonRunning.at (.b : Lane) = true) ∧ ((wUp : Dev).gl (.b : Lane) pgCLK R.CLK_SRC_AON_SEL = 0) := by decide

theorem wit_SupplyAndClockCommandsComplete_mainClockStop16 : (((wUp : Dev).clocks.at (.a : Lane)).main = true) := by decide

theorem wit_SupplyAndClockCommandsComplete_mainClockStart17 : (((Dev.reset : Dev).clocks.at (.a : Lane)).main = false) ∧ (((Dev.reset : Dev).clocks.at (.a : Lane).other).main = false) := by decide

theorem wit_SupplyAndClockCommandsComplete_mainClockStart18 : ((({ wUp with clocks := { a := { main := true }, b := {} } } : Dev).clocks.at (.b : Lane)).main = false) ∧ ((({ wUp with clocks := { a := { main := true }, b := {} } } : Dev).clocks.at (.b : Lane).other).main = true) := by decide

theorem wit_SupplyAndClockCommandsComplete_firstFinal19 : ((wUp.s pgLEDGER R.LEDGER_FIRST_VALID 1 : Dev).g pgLEDGER R.LEDGER_FIRST_VALID = 1) ∧ ((wUp.s pgLEDGER R.LEDGER_FIRST_VALID 1 : Dev).g pgLEDGER R.LEDGER_FIRST_FINAL = 0) ∧ ((wUp.s pgLEDGER R.LEDGER_FIRST_VALID 1 : Dev).ledger.firstStamp + 1000 ≤ (wUp.s pgLEDGER R.LEDGER_FIRST_VALID 1 : Dev).now) := by decide

theorem wit_ModeAndResetCommandsComplete_startUp0 : (({ wUp with lanes := { a := {}, b := {} } } : Dev).mayStart (.a : Lane) = true) := by decide

theorem wit_ModeAndResetCommandsComplete_defaultModeEntry1 : ((({ wUp with boot := { wUp.boot with defaultDue := true } }).s pgSYS R.SYS_CONFIG_DEFAULT_MODE 1 : Dev).boot.defaultDue = true) ∧ ((({ wUp with boot := { wUp.boot with defaultDue := true } }).s pgSYS R.SYS_CONFIG_DEFAULT_MODE 1 : Dev).mode.cur = .standby) ∧ ((({ wUp with boot := { wUp.boot with defaultDue := true } }).s pgSYS R.SYS_CONFIG_DEFAULT_MODE 1 : Dev).supervisor = false) ∧ ((({ wUp with boot := { wUp.boot with defaultDue := true } }).s pgSYS R.SYS_CONFIG_DEFAULT_MODE 1 : Dev).boot.refused = false) ∧ ((({ wUp with boot := { wUp.boot with defaultDue := true } }).s pgSYS R.SYS_CONFIG_DEFAULT_MODE 1 : Dev).thermal.active = false) ∧ ((({ wUp with boot := { wUp.boot with defaultDue := true } }).s pgSYS R.SYS_CONFIG_DEFAULT_MODE 1 : Dev).g pgSYS R.SYS_CONFIG_DEFAULT_MODE = 1) := by decide

theorem wit_ModeAndResetCommandsComplete_supervisorReadyRetry2 : ((wUp.s pgSYS R.SYS_CONFIG_SUPERVISOR 1 : Dev).supervisor = true) ∧ ((wUp.s pgSYS R.SYS_CONFIG_SUPERVISOR 1 : Dev).mode.cur = .standby) ∧ ((wUp.s pgSYS R.SYS_CONFIG_SUPERVISOR 1 : Dev).mode.pendingReq = none) ∧ ((wUp.s pgSYS R.SYS_CONFIG_SUPERVISOR 1 : Dev).mode.superReqAt + 50000000 ≤ (wUp.s pgSYS R.SYS_CONFIG_SUPERVISOR 1 : Dev).now ∨ (wUp.s pgSYS R.SYS_CONFIG_SUPERVISOR 1 : Dev).mode.superReqAt = 0) := by decide

theorem wit_ModeAndResetCommandsComplete_supervisorStatusQuery3 : (((wUp.s pgSYS R.SYS_CONFIG_SUPERVISOR 1).cs 0 H.CTRL_ENABLE 1 : Dev).supervisor = true) ∧ (((wUp.s pgSYS R.SYS_CONFIG_SUPERVISOR 1).cs 0 H.CTRL_ENABLE 1 : Dev).canOn 0 = true) ∧ ((0x1F481200 : Nat) = 0x1F481200) ∧ ((true : Bool) = true) := by decide

theorem wit_ModeAndResetCommandsComplete_readyRequestTimeout4 : (({ wUp with mode := { wUp.mode with pendingReq := some (3, 0, true) } } : Dev).mode.pendingReq = some (3, (0 : Nat), (true : Bool))) ∧ (({ wUp with mode := { wUp.mode with pendingReq := some (3, 0, true) } } : Dev).mode.cur = .standby) ∧ ((0 : Nat) + 50000000 ≤ ({ wUp with mode := { wUp.mode with pendingReq := some (3, 0, true) } } : Dev).now) ∧ (({ wUp with mode := { wUp.mode with pendingReq := some (3, 0, true) } } : Dev).readyFails = some (10 : Nat)) := by decide

theorem wit_ModeAndResetCommandsComplete_modeTransitionComplete5 : (({ wUp with mode := { wUp.mode with pendingReq := some (6, 0, true) } } : Dev).mode.pendingReq = some ((6 : Nat), (0 : Nat), (true : Bool))) ∧ (({ wUp with mode := { wUp.mode with pendingReq := some (6, 0, true) } } : Dev).thermal.active = false) ∧ (({ wUp with mode := { wUp.mode with pendingReq := some (6, 0, true) } } : Dev).modeConds (Mode.ofCode (6 : Nat)) (true : Bool) = some none) ∧ (Mode.ofCode (6 : Nat) ≠ .run ∨ ({ wUp with mode := { wUp.mode with pendingReq := some (6, 0, true) } } : Dev).runTick = true) := by decide

theorem wit_ModeAndResetCommandsComplete_hvilChange6 : (([.a, .b] : List Lane) = [Lane.a, Lane.b].filter (fun i => (wUp : Dev).up (.iface i))) ∧ (([.a, .b] : List Lane) = [] ∨ ([.a, .b] : List Lane).all ((wUp : Dev).inputHeld · true .hvil) = false) := by decide

theorem wit_ModeAndResetCommandsComplete_hvilChange7 : (([.a, .b] : List Lane) = [Lane.a, Lane.b].filter (fun i => (wHeld : Dev).up (.iface i))) ∧ (([.a, .b] : List Lane) ≠ []) ∧ (([.a, .b] : List Lane).all ((wHeld : Dev).inputHeld · true .hvil) = true) := by decide

theorem wit_ModeAndResetCommandsComplete_dischargeComplete8 : (({ wUp with mode := { wUp.mode with cur := .discharge } } : Dev).mode.cur = .discharge) := by decide

theorem wit_ModeAndResetCommandsComplete_dclWatchSample9 : (({ wUp with mode := { wUp.mode with cur := .watch } } : Dev).mode.cur = .watch) ∧ (({ wUp with mode := { wUp.mode with cur := .watch } } : Dev).supplyOk (.vctl (.a : Lane)) = true) ∧ (({ wUp with mode := { wUp.mode with cur := .watch } } : Dev).g pgPWR R.PWR_WATCH_DCL_LEVEL < (4000 : Nat)) := by decide

theorem wit_ModeAndResetCommandsComplete_speedWatch10 : ((wWatch : Dev).mode.cur = .watch) ∧ ((wWatch : Dev).power.aonRunning.at (.a : Lane) = true) ∧ ((wWatch : Dev).gl (.a : Lane) pgPWR R.PWR_WATCH_SPEED_LEVEL < (wWatch : Dev).watchCounts (.a : Lane)) ∧ ((wWatch : Dev).gl (.a : Lane) pgSYS R.SYS_WAKE_EN_SPEED_WATCH = 1) := by decide

theorem wit_ModeAndResetCommandsComplete_wakeEvent11 : ((({ wUp with mode := { wUp.mode with cur := .dormant } }).s pgSYS R.SYS_WAKE_EN_WAKE 1 : Dev).mode.cur = .dormant ∨ (({ wUp with mode := { wUp.mode with cur := .dormant } }).s pgSYS R.SYS_WAKE_EN_WAKE 1 : Dev).mode.cur = .watch) ∧ ((.b : Lane) ∈ wakeLanes (.wake : WakeSource)) ∧ ((({ wUp with mode := { wUp.mode with cur := .dormant } }).s pgSYS R.SYS_WAKE_EN_WAKE 1 : Dev).power.aonRunning.at (.b : Lane) = true) ∧ ((({ wUp with mode := { wUp.mode with cur := .dormant } }).s pgSYS R.SYS_WAKE_EN_WAKE 1 : Dev).gl (.b : Lane) pgSYS (wakeFlds (.wake : WakeSource)).1 / 2 ^ (wakeFlds (.wake : WakeSource)).2.2 % 2 = 1) ∧ ((.wake : WakeSource) = .sto ∨ (.wake : WakeSource) = .hvil ∨ (({ wUp with mode := { wUp.mode with cur := .dormant } }).s pgSYS R.SYS_WAKE_EN_WAKE 1 : Dev).gl (.b : Lane) pgSYS R.SYS_WAKE_CFG_FILT + 1 ≤ (5000 : Nat)) := by decide

theorem wit_ModeAndResetCommandsComplete_wakeTimer12 : (((({ wUp with mode := { wUp.mode with cur := .dormant, wakeCycles := 5 } }).s pgSYS R.SYS_WAKE_EN_TIMER 1).s pgSYS R.SYS_WAKE_CFG_TIMER 3 : Dev).mode.cur = .dormant ∨ ((({ wUp with mode := { wUp.mode with cur := .dormant, wakeCycles := 5 } }).s pgSYS R.SYS_WAKE_EN_TIMER 1).s pgSYS R.SYS_WAKE_CFG_TIMER 3 : Dev).mode.cur = .watch) ∧ (0 < ((({ wUp with mode := { wUp.mode with cur := .dormant, wakeCycles := 5 } }).s pgSYS R.SYS_WAKE_EN_TIMER 1).s pgSYS R.SYS_WAKE_CFG_TIMER 3 : Dev).g pgSYS R.SYS_WAKE_CFG_TIMER) ∧ (((({ wUp with mode := { wUp.mode with cur := .dormant, wakeCycles := 5 } }).s pgSYS R.SYS_WAKE_EN_TIMER 1).s pgSYS R.SYS_WAKE_CFG_TIMER 3 : Dev).g pgSYS R.SYS_WAKE_EN_TIMER = 1) ∧ (((({ wUp with mode := { wUp.mode with cur := .dormant, wakeCycles := 5 } }).s pgSYS R.SYS_WAKE_EN_TIMER 1).s pgSYS R.SYS_WAKE_CFG_TIMER 3 : Dev).g pgSYS R.SYS_WAKE_CFG_TIMER ≤ ((({ wUp with mode := { wUp.mode with cur := .dormant, wakeCycles := 5 } }).s pgSYS R.SYS_WAKE_EN_TIMER 1).s pgSYS R.SYS_WAKE_CFG_TIMER 3 : Dev).mode.wakeCycles) := by decide

theorem wit_ModeAndResetCommandsComplete_watchdogExpiry13 : ((wUp.sl .a (pgCPU .a) R.CPU_WDOG_CFG_EN 1 : Dev).gl (.a : Lane) (pgCPU (.a : Lane)) R.CPU_WDOG_CFG_EN = 1) ∧ ((wUp.sl .a (pgCPU .a) R.CPU_WDOG_CFG_EN 1 : Dev).up (.ctl (.a : Lane)) = true) ∧ (((wUp.sl .a (pgCPU .a) R.CPU_WDOG_CFG_EN 1 : Dev).lanes.at (.a : Lane)).kickAt + (wUp.sl .a (pgCPU .a) R.CPU_WDOG_CFG_EN 1 : Dev).gl (.a : Lane) (pgCPU (.a : Lane)) R.CPU_WDOG_CFG_PERIOD * 500 ≤ (wUp.sl .a (pgCPU .a) R.CPU_WDOG_CFG_EN 1 : Dev).now) := by decide

theorem wit_ModeAndResetCommandsComplete_debugReset14 : (({ wUp with host := { debugOwner := true } } : Dev).power.vioLevel.isSome = true) ∧ (({ wUp with host := { debugOwner := true } } : Dev).host.debugOwner = true) := by decide

theorem wit_ModeAndResetCommandsComplete_debugReset15 : (({ wUp with host := { debugOwner := true } } : Dev).power.vioLevel.isSome = true) ∧ (({ wUp with host := { debugOwner := true } } : Dev).host.debugOwner = true) := by decide

theorem wit_ModeAndResetCommandsComplete_modeRequest16 : ((wUp : Dev).accepts (.port 0 : Writer) (pageAddr pgSYS 0x44) (BitVec.ofNat 32 (3 : Fin 8).val)) := by decide

theorem wit_ModeAndResetCommandsComplete_resetRequest17 : ((wUp : Dev).accepts (.port 0 : Writer) (pageAddr pgSYS 0x4C) (keyWord 0xC3 0 : Word)) := by decide

theorem wit_ModeAndResetCommandsComplete_watchdogKick18 : ((wUp : Dev).accepts (.laneFw .a : Writer) (pageAddr (pgCPU (.a : Lane)) 0x44) (BitVec.ofNat 32 (0xA5C3 : Fin 65536).val)) := by decide

theorem wit_ModeAndResetCommandsComplete_modeTransitionComplete19 : (({ wUp with mode := { wUp.mode with pendingReq := some (3, 0, true) }, thermal := { wUp.thermal with active := true } } : Dev).mode.pendingReq = some ((3 : Nat), (0 : Nat), (true : Bool))) ∧ (({ wUp with mode := { wUp.mode with pendingReq := some (3, 0, true) }, thermal := { wUp.thermal with active := true } } : Dev).thermal.active = true) := by decide

theorem wit_RegisterCommandsComplete_registerWrite0 : ((wUp : Dev).accepts (.laneFw .a : Writer) (0x1060 : Nat) (5 : Word)) := by decide

theorem wit_RegisterCommandsComplete_registerWrite1 : ((wUp : Dev).arrives (.laneFw .a : Writer) = true) ∧ (((wUp : Dev).verdict (.laneFw .a : Writer) (0x2D000 : Nat) (5 : Word)).good = false) := by decide

theorem wit_RegisterCommandsComplete_ctrlCommit2 : ((wUp : Dev).accepts (.laneFw .a : Writer) (pageAddr (0x10 : Fin 45).val 4) ((wUp : Dev).fieldWord (.laneFw .a : Writer) (0x10 : Fin 45).val H.CTRL_COMMIT 1)) := by decide

theorem wit_RegisterCommandsComplete_commitPoint3 : (({ wUp with commitPending := [(0x1E, 5)] } : Dev).commitPending.any (fun x => x.1 == (0x1E : Fin 45).val && decide (x.2 < ({ wUp with commitPending := [(0x1E, 5)] } : Dev).now)) = true) := by decide

theorem wit_RegisterCommandsComplete_ctrlSoftrst4 : ((wUp : Dev).accepts (.laneFw .a : Writer) (pageAddr (0x10 : Fin 45).val 4) ((wUp : Dev).fieldWord (.laneFw .a : Writer) (0x10 : Fin 45).val H.CTRL_SOFTRST 1)) := by decide

theorem wit_RegisterCommandsComplete_ctrlFreeze5 : ((wUp : Dev).accepts (.laneFw .a : Writer) (pageAddr (0x10 : Fin 45).val 4) ((wUp : Dev).fieldWord (.laneFw .a : Writer) (0x10 : Fin 45).val H.CTRL_FREEZE (true : Bool).toNat)) ∧ (H.CTRL_FREEZE.get ((wUp : Dev).seenWordBy (.laneFw .a : Writer) (0x10 : Fin 45).val 4) ≠ (true : Bool).toNat) := by decide

theorem wit_RegisterCommandsComplete_ctrlEnable6 : ((wUp : Dev).accepts (.laneFw .a : Writer) (pageAddr (0x1C : Fin 45).val 4) ((wUp : Dev).fieldWord (.laneFw .a : Writer) (0x1C : Fin 45).val H.CTRL_ENABLE (true : Bool).toNat)) ∧ (H.CTRL_ENABLE.get ((wUp : Dev).seenWordBy (.laneFw .a : Writer) (0x1C : Fin 45).val 4) ≠ (true : Bool).toNat) := by decide

theorem wit_RegisterCommandsComplete_pageLock7 : ((wUp : Dev).accepts (.laneFw .a : Writer) (pageAddr (0x1F : Fin 45).val 0x18) 0x6C000000#32) := by decide

theorem wit_RegisterCommandsComplete_pageUnlock8 : ((wUp : Dev).accepts (.laneFw .a : Writer) (pageAddr (0x1F : Fin 45).val 0x18) 0x93000000#32) := by decide

theorem wit_RegisterCommandsComplete_pageHardLock9 : ((wUp : Dev).accepts (.laneFw .a : Writer) (pageAddr (0x1F : Fin 45).val 0x18) 0xE7000000#32) := by decide

theorem wit_RegisterCommandsComplete_pageForce10 : ((wUp : Dev).accepts (.laneFw .a : Writer) (pageAddr (0x1F : Fin 45).val 0x14) (3 : Word)) := by decide

theorem wit_RegisterCommandsComplete_causeClear11 : ((wUp : Dev).accepts (.laneFw .a : Writer) (pageAddr (0x1F : Fin 45).val 0x0C) (3 : Word)) := by decide

theorem wit_RegisterCommandsComplete_pageClaim12 : ((wUp : Dev).accepts (.laneFw .a : Writer) (pageAddr (0x1F : Fin 45).val 0x28) (BitVec.ofNat 32 ((wUp : Dev).who (.laneFw .a : Writer)).ident)) := by decide

theorem wit_RegisterCommandsComplete_pageRelease13 : ((wUp : Dev).accepts (.laneFw .a : Writer) (pageAddr (0x1F : Fin 45).val 0x28) 63) := by decide

theorem wit_RegisterCommandsComplete_portClassWrite15 : ((wUp : Dev).accepts (.port 0 : Writer) (pageAddr pgHOST 0x4C) (0 : Word)) := by decide

theorem wit_RegisterCommandsComplete_proxyWrite16 : ((wUp : Dev).target (pageAddr pgHOST 0x50) = some (wTarget (pageAddr pgHOST 0x50) : Target)) ∧ ((wUp : Dev).accepts (.laneFw .a : Writer) (pageAddr pgHOST 0x50) (BitVec.ofNat 32 (R.HOST_PROXY_EN.mask.toNat + (R.HOST_PROXY_PORT.put 0 3).toNat) : Word)) := by decide

theorem wit_RegisterCommandsComplete_interruptNotice17 : ((((wRig.setWord .a (pageAddr pgSYS 0x0C) 0xF#32).setWord .a (pageAddr pgSYS 0x10) 0xF#32).s pgSYS H.EVENT_SUMMARY 1 : Dev).rigOn (.a : Lane) = true) ∧ ((((wRig.setWord .a (pageAddr pgSYS 0x0C) 0xF#32).setWord .a (pageAddr pgSYS 0x10) 0xF#32).s pgSYS H.EVENT_SUMMARY 1 : Dev).summary (.a : Lane) 0 ≠ 0 ∨ (((wRig.setWord .a (pageAddr pgSYS 0x0C) 0xF#32).setWord .a (pageAddr pgSYS 0x10) 0xF#32).s pgSYS H.EVENT_SUMMARY 1 : Dev).summary (.a : Lane) 1 ≠ 0) := by decide

theorem wit_RegisterCommandsComplete_pinMismatch18 : ((wUp : Dev).up (.iface (.a : Lane)) = true) ∧ ((wUp : Dev).irqDrives (.a : Lane).other = false) ∧ ((true : Bool) ≠ (wUp : Dev).irqDrives (.a : Lane)) := by decide

theorem wit_RegisterCommandsComplete_registerWrite19 : ((wClosed : Dev).arrives (.port 0 : Writer) = false) := by decide

theorem wit_RegisterCommandsComplete_proxyWrite22 : (({ wUp with host := { wUp.host with proxyHeld := { a := [some 3], b := [] } } } : Dev).host.proxyHeld.at (.a : Lane) = (some 3 : Option Nat) :: ([] : List (Option Nat))) := by decide

set_option maxRecDepth 100000 in
theorem wit_HostFrameCommandsComplete_hostRead0 : ((wUp : Dev).power.vioLevel.isSome = true) ∧ ((wUp : Dev).portOpen (.host : HostPort).num = true) ∧ ((wUp : Dev).frameCheck (.host : HostPort) ((wSealed 1 wFrame : HostFrame).spelling 1) = 0) := by decide

set_option maxRecDepth 100000 in
theorem wit_HostFrameCommandsComplete_hostRead1 : ((wUp : Dev).power.vioLevel.isSome = true) ∧ ((wUp : Dev).portOpen (.host : HostPort).num = true) ∧ ((wUp : Dev).frameCheck (.host : HostPort) (({ wFrame with opcode := 7 } : HostFrame).spelling 1) ≠ 0) := by decide

set_option maxRecDepth 100000 in
theorem wit_HostFrameCommandsComplete_hostWrite2 : ((wUp : Dev).power.vioLevel.isSome = true) ∧ ((wUp : Dev).portOpen (.host : HostPort).num = true) ∧ ((wUp : Dev).frameCheck (.host : HostPort) ((wSealed 2 { wFrame with data := [7] } : HostFrame).spelling 2) = 0) := by decide

set_option maxRecDepth 100000 in
theorem wit_HostFrameCommandsComplete_hostWrite3 : ((wUp : Dev).power.vioLevel.isSome = true) ∧ ((wUp : Dev).portOpen (.host : HostPort).num = true) ∧ ((wUp : Dev).frameCheck (.host : HostPort) (({ wFrame with data := [7] } : HostFrame).spelling 2) ≠ 0) := by decide

set_option maxRecDepth 100000 in
theorem wit_HostFrameCommandsComplete_hostFetch4 : ((wUp : Dev).power.vioLevel.isSome = true) ∧ ((wUp : Dev).portOpen (.host : HostPort).num = true) ∧ ((wUp : Dev).frameCheck (.host : HostPort) ((wSealed 3 wFrame : HostFrame).spelling 3) = 0) := by decide

set_option maxRecDepth 100000 in
theorem wit_HostFrameCommandsComplete_hostFetch5 : ((wUp : Dev).power.vioLevel.isSome = true) ∧ ((wUp : Dev).portOpen (.host : HostPort).num = true) ∧ ((wUp : Dev).frameCheck (.host : HostPort) ((wFrame : HostFrame).spelling 3) ≠ 0) := by decide

set_option maxRecDepth 100000 in
theorem wit_HostFrameCommandsComplete_remoteRead6 : ((wRig : Dev).power.vioLevel.isSome = true) ∧ ((wRig : Dev).portOpen (.host : HostPort).num = true) ∧ ((wRig : Dev).frameCheck (.host : HostPort) ((wSealed 4 { wFrame with data := [0x00000003] } : HostFrame).spelling 4) = 0) := by decide

set_option maxRecDepth 100000 in
theorem wit_HostFrameCommandsComplete_remoteRead7 : ((wRig : Dev).power.vioLevel.isSome = true) ∧ ((wRig : Dev).portOpen (.host : HostPort).num = true) ∧ ((wRig : Dev).frameCheck (.host : HostPort) (({ wFrame with data := [0x00000003] } : HostFrame).spelling 4) ≠ 0) := by decide

set_option maxRecDepth 100000 in
theorem wit_HostFrameCommandsComplete_remoteWrite8 : ((wRig : Dev).power.vioLevel.isSome = true) ∧ ((wRig : Dev).portOpen (.host : HostPort).num = true) ∧ ((wRig : Dev).frameCheck (.host : HostPort) ((wSealed 5 { wFrame with data := [0x00000003, 9] } : HostFrame).spelling 5) = 0) := by decide

set_option maxRecDepth 100000 in
theorem wit_HostFrameCommandsComplete_remoteWrite9 : ((wRig : Dev).power.vioLevel.isSome = true) ∧ ((wRig : Dev).portOpen (.host : HostPort).num = true) ∧ ((wRig : Dev).frameCheck (.host : HostPort) (({ wFrame with data := [0x00000003, 9] } : HostFrame).spelling 5) ≠ 0) := by decide

theorem wit_HostFrameCommandsComplete_hostRequestComplete10 : (({ wUp with host := { request := some { port := .host, frame := { wFrame with opcode := 2, data := [7] }, at' := 0 } } } : Dev).host.request = some ({ port := .host, frame := { wFrame with opcode := 2, data := [7] }, at' := 0 } : HostReq)) ∧ (({ port := .host, frame := { wFrame with opcode := 2, data := [7] }, at' := 0 } : HostReq).frame.opcode.val = 2) ∧ ((0 : Fin 48) = match ({ port := .host, frame := { wFrame with opcode := 2, data := [7] }, at' := 0 } : HostReq).port with | .host => 0 | .service => 2) := by decide

theorem wit_HostFrameCommandsComplete_hostRequestComplete11 : (({ wUp with host := { request := some { port := .service, frame := wFrame, at' := 0 } } } : Dev).host.request = some ({ port := .service, frame := wFrame, at' := 0 } : HostReq)) ∧ (({ port := .service, frame := wFrame, at' := 0 } : HostReq).frame.opcode.val = 1) ∧ ((2 : Fin 48) = match ({ port := .service, frame := wFrame, at' := 0 } : HostReq).port with | .host => 0 | .service => 2) := by decide

theorem wit_HostFrameCommandsComplete_remoteTimeout12 : (({ wUp with host := { request := some { port := .host, frame := { wFrame with opcode := 4 }, at' := 0 } } } : Dev).host.request = some ({ port := .host, frame := { wFrame with opcode := 4 }, at' := 0 } : HostReq)) ∧ (({ port := .host, frame := { wFrame with opcode := 4 }, at' := 0 } : HostReq).frame.isRemote = true) ∧ (({ port := .host, frame := { wFrame with opcode := 4 }, at' := 0 } : HostReq).at' + 1500 * ({ wUp with host := { request := some { port := .host, frame := { wFrame with opcode := 4 }, at' := 0 } } } : Dev).rg ({ port := .host, frame := { wFrame with opcode := 4 }, at' := 0 } : HostReq).frame.routeLink R.LINK_CYCLE_CYC + 10000 ≤ ({ wUp with host := { request := some { port := .host, frame := { wFrame with opcode := 4 }, at' := 0 } } } : Dev).now) := by decide

theorem wit_MeasurementCommandsComplete_conversionComplete0 : ((wUp : Dev).up (.ctl (.a : Lane)) = true) ∧ (30 ≤ (wUp : Dev).now) := by decide

theorem wit_MeasurementCommandsComplete_spareTurnEnd1 : (((wUp.onRot .a 0 1 fun r => { r with n := 4096 } : Dev).meas.at (.a : Lane)).convs[(0 : Fin 2)].rots[(1 : Fin 3).val]? = some ({ slots := [3, 4], spare := 5, n := 4096 } : RotState)) ∧ (4096 ≤ ({ slots := [3, 4], spare := 5, n := 4096 } : RotState).n) ∧ (({ slots := [3, 4], spare := 5, n := 4096 } : RotState).exch = none) ∧ (({ slots := [3, 4], spare := 5, n := 4096 } : RotState).stopped = false) := by decide

theorem wit_MeasurementCommandsComplete_referenceSettled2 : ((wUp.sl .b (pgCONV .b 1) R.CONV_REF_EN 1 : Dev).gl (.b : Lane) (pgCONV (.b : Lane) (1 : Fin 2)) R.CONV_REF_EN = 1) ∧ (((wUp.sl .b (pgCONV .b 1) R.CONV_REF_EN 1 : Dev).meas.at (.b : Lane)).convs[(1 : Fin 2)].refAt + 1000000 ≤ (wUp.sl .b (pgCONV .b 1) R.CONV_REF_EN 1 : Dev).now) := by decide

theorem wit_MeasurementCommandsComplete_windowClose3 : (((wUp.sl .a (pgCONV .a 0) R.CONV_GRP1_WEN 1).onGroup .a 0 1 fun x => { x with prev := some (some 10, 40, {}) } : Dev).grpWen (.a : Lane) (0 : Fin 2) (1 : Fin 3) = true) ∧ (((wUp.sl .a (pgCONV .a 0) R.CONV_GRP1_WEN 1).onGroup .a 0 1 fun x => { x with prev := some (some 10, 40, {}) } : Dev).up (.ctl (.a : Lane)) = true) ∧ ((((wUp.sl .a (pgCONV .a 0) R.CONV_GRP1_WEN 1).onGroup .a 0 1 fun x => { x with prev := some (some 10, 40, {}) } : Dev).meas.at (.a : Lane)).convs[(0 : Fin 2)].groups[(1 : Fin 3)].prev = some ((some 10 : Option Nat), (40 : Nat), ({} : WinAcc))) ∧ ((40 : Nat) + 32 ≤ ((wUp.sl .a (pgCONV .a 0) R.CONV_GRP1_WEN 1).onGroup .a 0 1 fun x => { x with prev := some (some 10, 40, {}) } : Dev).now) := by decide

theorem wit_MeasurementCommandsComplete_windowClose4 : (((wUp.sl .a (pgCONV .a 0) R.CONV_GRP1_WEN 1).onTb .a 0 fun t => { t with ran := true } : Dev).grpWen (.a : Lane) (0 : Fin 2) (1 : Fin 3) = true) ∧ (((wUp.sl .a (pgCONV .a 0) R.CONV_GRP1_WEN 1).onTb .a 0 fun t => { t with ran := true } : Dev).up (.ctl (.a : Lane)) = true) ∧ ((((wUp.sl .a (pgCONV .a 0) R.CONV_GRP1_WEN 1).onTb .a 0 fun t => { t with ran := true } : Dev).meas.at (.a : Lane)).convs[(0 : Fin 2)].groups[(1 : Fin 3)].prev = none) ∧ ((((wUp.sl .a (pgCONV .a 0) R.CONV_GRP1_WEN 1).onTb .a 0 fun t => { t with ran := true } : Dev).meas.at (.a : Lane)).convs[(0 : Fin 2)].groups[(1 : Fin 3)].closed = false) ∧ (((((wUp.sl .a (pgCONV .a 0) R.CONV_GRP1_WEN 1).onTb .a 0 fun t => { t with ran := true } : Dev).mods.at (.a : Lane)).tb (if ((wUp.sl .a (pgCONV .a 0) R.CONV_GRP1_WEN 1).onTb .a 0 fun t => { t with ran := true } : Dev).gl (.a : Lane) (pgCONV (.a : Lane) (0 : Fin 2)) R.CONV_MODE_TB = 1 then 1 else 0)).ran = true) ∧ ((((wUp.sl .a (pgCONV .a 0) R.CONV_GRP1_WEN 1).onTb .a 0 fun t => { t with ran := true } : Dev).windowOf (.a : Lane) (0 : Fin 2) (1 : Fin 3)).2 + 32 ≤ ((wUp.sl .a (pgCONV .a 0) R.CONV_GRP1_WEN 1).onTb .a 0 fun t => { t with ran := true } : Dev).now) := by decide

theorem wit_MeasurementCommandsComplete_dclExchange5 : (((wUp.onMeas .a fun m => { m with dcl := some 5 }).onMeas .b fun m => { m with dcl := some 7 } : Dev).dclVolt .a = some (5 * (wUp.gl .a (pgCONV .a 0) R.CONV_DCL_FS : Int) : Int)) ∧ (((wUp.onMeas .a fun m => { m with dcl := some 5 }).onMeas .b fun m => { m with dcl := some 7 } : Dev).dclVolt .b = some (7 * (wUp.gl .b (pgCONV .b 0) R.CONV_DCL_FS : Int) : Int)) := by decide

theorem wit_MeasurementCommandsComplete_seqStart6 : ((wUp : Dev).accepts (.laneFw .a : Writer) (pageAddr (pgSEQ (.a : Lane)) 0x40) ((wUp : Dev).fieldWord (.laneFw .a : Writer) (pgSEQ (.a : Lane)) R.SEQ_SEQCFG_START 1)) := by decide

theorem wit_MeasurementCommandsComplete_seqEntryStart7 : (((wUp.sl .a (pgSEQ .a) R.SEQ_SEQCFG_RUN 1).sl .a (pgSEQ .a) R.SEQ_ENTRY_CFG_EN 1 : Dev).gl (.a : Lane) (pgSEQ (.a : Lane)) R.SEQ_SEQCFG_RUN = 1) ∧ (((wUp.sl .a (pgSEQ .a) R.SEQ_SEQCFG_RUN 1).sl .a (pgSEQ .a) R.SEQ_ENTRY_CFG_EN 1 : Dev).up (.ctl (.a : Lane)) = true) ∧ (((wUp.sl .a (pgSEQ .a) R.SEQ_SEQCFG_RUN 1).sl .a (pgSEQ .a) R.SEQ_ENTRY_CFG_EN 1 : Dev).seqBusy (.a : Lane) = false) ∧ (((wUp.sl .a (pgSEQ .a) R.SEQ_SEQCFG_RUN 1).sl .a (pgSEQ .a) R.SEQ_ENTRY_CFG_EN 1 : Dev).gl (.a : Lane) (pgSEQ (.a : Lane)) R.SEQ_STAT_PREEMPTED = 0) ∧ (((wUp.sl .a (pgSEQ .a) R.SEQ_SEQCFG_RUN 1).sl .a (pgSEQ .a) R.SEQ_ENTRY_CFG_EN 1 : Dev).seqEnabled (.a : Lane) (((wUp.sl .a (pgSEQ .a) R.SEQ_SEQCFG_RUN 1).sl .a (pgSEQ .a) R.SEQ_ENTRY_CFG_EN 1 : Dev).gl (.a : Lane) (pgSEQ (.a : Lane)) R.SEQ_STAT_CUR % (((wUp.sl .a (pgSEQ .a) R.SEQ_SEQCFG_RUN 1).sl .a (pgSEQ .a) R.SEQ_ENTRY_CFG_EN 1 : Dev).gl (.a : Lane) (pgSEQ (.a : Lane)) R.SEQ_SEQCFG_LEN + 1)) (((wUp.sl .a (pgSEQ .a) R.SEQ_SEQCFG_RUN 1).sl .a (pgSEQ .a) R.SEQ_ENTRY_CFG_EN 1 : Dev).gl (.a : Lane) (pgSEQ (.a : Lane)) R.SEQ_SEQCFG_LEN + 1) = some (0 : Nat)) := by decide

theorem wit_MeasurementCommandsComplete_seqEntryComplete8 : (((wUp.onMeas .a fun m => { m with seqDone := some { n := 1, s0 := 5 } } : Dev).meas.at (.a : Lane)).seqDone = some ({ n := 1, s0 := 5 } : WinAcc)) := by decide

theorem wit_MeasurementCommandsComplete_urgentRequest9 : ((wUp : Dev).accepts (.laneFw .a : Writer) (pageAddr (pgSEQ (.a : Lane)) 0x54) (0x80000000#32 : Word)) := by decide

theorem wit_MeasurementCommandsComplete_urgentStart10 : ((wUp.urgentAsk .a 2 0#32 : Dev).up (.ctl (.a : Lane)) = true) ∧ ((wUp.urgentAsk .a 2 0#32 : Dev).urgentWaits (.a : Lane) (2 : Fin 4).val = true) ∧ ((wUp.urgentAsk .a 2 0#32 : Dev).urgentYields (.a : Lane) (2 : Fin 4) (0 : Fin 3) = false) ∧ ((wUp.urgentAsk .a 2 0#32 : Dev).jobGroupOk (.a : Lane) ((wUp.urgentAsk .a 2 0#32 : Dev).jobCfg (.a : Lane) (2 : Fin 4).val) ((wUp.urgentAsk .a 2 0#32 : Dev).urgentAfter (.a : Lane) (2 : Fin 4)) (0 : Fin 3) = true) := by decide

theorem wit_MeasurementCommandsComplete_urgentComplete11 : (((wUp.onMeas .a fun m => { m with urgDone := [none, some { n := 1 }, none, none] } : Dev).meas.at (.a : Lane)).urgDone.getD (1 : Fin 4).val none = some ({ n := 1 } : WinAcc)) := by decide

theorem wit_MeasurementCommandsComplete_auxSample12 : ((wUp.s pgRES R.RES_AUXCFG_F 4 : Dev).g pgRES R.RES_AUXCFG_F / 4 ^ (1 : Fin 4).val % 4 = 1) := by decide

theorem wit_MeasurementCommandsComplete_auxSample13 : ((wUp.s pgRES R.RES_AUXCFG_F 128 : Dev).g pgRES R.RES_AUXCFG_F / 4 ^ (3 : Fin 4).val % 4 = 2) := by decide

theorem wit_PositionEventsComplete_quadratureEdge0 : ((wSrc 1 : Dev).chanOf (.a : Lane) (· == 1) = some (0 : Fin 4)) ∧ ((wSrc 1 : Dev).filtered (.a : Lane) (0 : Fin 4) (100 : Nat) = true) ∧ (((wSrc 1 : Dev).pos.at (.a : Lane)).faultA = false ∧ ((wSrc 1 : Dev).pos.at (.a : Lane)).faultB = false) ∧ ((true : Bool) ≠ ((wSrc 1 : Dev).pos.at (.a : Lane)).lvA ∨ (false : Bool) ≠ ((wSrc 1 : Dev).pos.at (.a : Lane)).lvB) := by decide

theorem wit_PositionEventsComplete_toothEdge1 : ((wSrc 2 : Dev).chanOf (.a : Lane) (· == 2) = some (0 : Fin 4)) ∧ ((wSrc 2 : Dev).filtered (.a : Lane) (0 : Fin 4) (100 : Nat) = true) ∧ (((wSrc 2 : Dev).pos.at (.a : Lane)).faultA = false) := by decide

theorem wit_PositionEventsComplete_hallChange2 : ((wSrc 3 : Dev).chanOf (.a : Lane) (· == 3) = some (0 : Fin 4)) ∧ ((wSrc 3 : Dev).filtered (.a : Lane) (0 : Fin 4) (100 : Nat) = true) ∧ ((5 : Fin 8).val ≠ ((wSrc 3 : Dev).pos.at (.a : Lane)).hall) := by decide

theorem wit_PositionEventsComplete_resolverDemodulation3 : ((wListen : Dev).chanOf (.a : Lane) (· == 4) = some (0 : Fin 4)) ∧ ((wListen : Dev).resDrives (.a : Lane) = false ∨ (wListen : Dev).resDue (.a : Lane) (0 : Fin 4) (wListen : Dev).now = true) ∧ (((((wListen : Dev).frm (.a : Lane) (0 : Fin 4) R.POS_FRM_CFG_VALUE 19 12 * 32768) * ((wListen : Dev).frm (.a : Lane) (0 : Fin 4) R.POS_FRM_CFG_VALUE 19 12 * 32768) : Nat) : Int) ≤ ((20000 : Int) * (20000 : Int) + (0 : Int) * (0 : Int)) * 65536) ∧ (((20000 : Int) * (20000 : Int) + (0 : Int) * (0 : Int)) * 65536 < ((((wListen : Dev).frm (.a : Lane) (0 : Fin 4) R.POS_FRM_CFG_VALUE 11 4 * 32768) * ((wListen : Dev).frm (.a : Lane) (0 : Fin 4) R.POS_FRM_CFG_VALUE 11 4 * 32768) : Nat) : Int)) := by decide

theorem wit_PositionEventsComplete_resolverDemodulation4 : ((wListen : Dev).chanOf (.a : Lane) (· == 4) = some (0 : Fin 4)) ∧ ((wListen : Dev).resDrives (.a : Lane) = false ∨ (wListen : Dev).resDue (.a : Lane) (0 : Fin 4) (wListen : Dev).now = true) ∧ (((0 : Int) * (0 : Int) + (0 : Int) * (0 : Int)) * 65536 < ((((wListen : Dev).frm (.a : Lane) (0 : Fin 4) R.POS_FRM_CFG_VALUE 19 12 * 32768) * ((wListen : Dev).frm (.a : Lane) (0 : Fin 4) R.POS_FRM_CFG_VALUE 19 12 * 32768) : Nat) : Int)) := by decide

theorem wit_PositionEventsComplete_ssiFrameStart5 : (((wSrc 5).onChan .a 0 fun x => { x with ssiDue := some 0 } : Dev).chanOf (.a : Lane) (· == 5) = some (0 : Fin 4)) ∧ ((((wSrc 5).onChan .a 0 fun x => { x with ssiDue := some 0 } : Dev).chan (.a : Lane) (0 : Fin 4)).frameAt = none) ∧ (((wSrc 5).onChan .a 0 fun x => { x with ssiDue := some 0 } : Dev).ssiEarly (.a : Lane) (0 : Fin 4) = false) ∧ (((wSrc 5).onChan .a 0 fun x => { x with ssiDue := some 0 } : Dev).ssiReady (.a : Lane) (0 : Fin 4) = true) := by decide

theorem wit_PositionEventsComplete_ssiFrameComplete6 : (((wSrc 5).onChan .a 0 fun x => { x with frameAt := some 0 } : Dev).chanOf (.a : Lane) (· == 5) = some (0 : Fin 4)) ∧ ((((wSrc 5).onChan .a 0 fun x => { x with frameAt := some 0 } : Dev).chan (.a : Lane) (0 : Fin 4)).frameAt = some (0 : Nat)) ∧ (((wSrc 5).onChan .a 0 fun x => { x with frameAt := some 0 } : Dev).ssiDrives (.a : Lane) = false ∨ (0 : Nat) + ((wSrc 5).onChan .a 0 fun x => { x with frameAt := some 0 } : Dev).frm (.a : Lane) (0 : Fin 4) R.POS_FRM_CFG_VALUE 31 26 * ((wSrc 5).onChan .a 0 fun x => { x with frameAt := some 0 } : Dev).frm (.a : Lane) (0 : Fin 4) R.POS_FRM_TIME_VALUE 31 19 + ((wSrc 5).onChan .a 0 fun x => { x with frameAt := some 0 } : Dev).frm (.a : Lane) (0 : Fin 4) R.POS_FRM_CFG_VALUE 12 5 ≤ ((wSrc 5).onChan .a 0 fun x => { x with frameAt := some 0 } : Dev).now) := by decide

theorem wit_PositionEventsComplete_sentFrame7 : ((wSrc 7 : Dev).chanOf (.a : Lane) (· == if (true : Bool) then 7 else 6) = some (0 : Fin 4)) := by decide

theorem wit_PositionEventsComplete_lineFault8 : ((wUp : Dev).up (.iface (.b : Lane)) = true) := by decide

theorem wit_PositionEventsComplete_lineFaultEnd9 : ((wUp : Dev).up (.iface (.b : Lane)) = true) := by decide

theorem wit_PositionEventsComplete_indexEvent10 : (((wSrc 1 : Dev).quadratureEdge (.a : Lane) (false : Bool) (false : Bool) (100 : Nat)).chanOf (.a : Lane) (· == 1) = some (0 : Fin 4)) ∧ (((wSrc 1 : Dev).quadratureEdge (.a : Lane) (false : Bool) (false : Bool) (100 : Nat)).filtered (.a : Lane) (0 : Fin 4) (100 : Nat) = true) ∧ ((((wSrc 1 : Dev).quadratureEdge (.a : Lane) (false : Bool) (false : Bool) (100 : Nat)).pos.at (.a : Lane)).faultZ = false) ∧ ((true : Bool) ≠ (((wSrc 1 : Dev).quadratureEdge (.a : Lane) (false : Bool) (false : Bool) (100 : Nat)).pos.at (.a : Lane)).lvZ) := by decide

theorem wit_PositionEventsComplete_sensorFrameTimeout11 : ((wSrc 6 : Dev).up (.iface (.a : Lane)) = true) ∧ ((wSrc 6 : Dev).frameLimit (.a : Lane) (0 : Fin 4) = some (0 : Nat)) ∧ (((wSrc 6 : Dev).chan (.a : Lane) (0 : Fin 4)).goodAt + (0 : Nat) ≤ (wSrc 6 : Dev).now) ∧ (((wSrc 6 : Dev).chan (.a : Lane) (0 : Fin 4)).silent = false) := by decide

theorem wit_PositionEventsComplete_speedBound12 : ((wUp : Dev).up (.iface (.a : Lane)) = true) := by decide

theorem wit_PositionEventsComplete_speedStandstill13 : ((wUp : Dev).up (.iface (.a : Lane)) = true) := by decide

theorem wit_PositionEventsComplete_watchEdgeCount14 : ((({ wUp with mode := { wUp.mode with cur := .watch } }).sl .a (pgPOS .a) R.POS_CFG_WATCH_CNT 1 : Dev).mode.cur = .watch) ∧ ((({ wUp with mode := { wUp.mode with cur := .watch } }).sl .a (pgPOS .a) R.POS_CFG_WATCH_CNT 1 : Dev).power.aonRunning.at (.a : Lane) = true) ∧ ((({ wUp with mode := { wUp.mode with cur := .watch } }).sl .a (pgPOS .a) R.POS_CFG_WATCH_CNT 1 : Dev).gl (.a : Lane) (pgPOS (.a : Lane)) R.POS_CFG_WATCH_CNT ≠ 0) := by decide

theorem wit_PositionEventsComplete_posRecordPublish15 : ((wUp : Dev).up (.iface (.a : Lane)) = true) ∧ ((wUp : Dev).recordSoon (.a : Lane) (1 : Fin 4) = false) := by decide

theorem wit_PositionEventsComplete_posRecordReceive16 : ((wUp.onChan .a 2 fun x => { x with sent := [{ seq := 9 }] } : Dev).recordWay (.b : Lane) (true : Bool) (.a : Lane) = true) ∧ (((wUp.onChan .a 2 fun x => { x with sent := [{ seq := 9 }] } : Dev).chan (.a : Lane) (2 : Fin 4)).sent.find? (·.seq == (9 : Fin 256).val) = some ({ seq := 9 } : PosRec)) ∧ ((true : Bool) = true) := by decide

theorem wit_PositionEventsComplete_posRecordReceive17 : ((wUp.onChan .a 2 fun x => { x with sent := [{ seq := 9 }] } : Dev).recordWay (.b : Lane) (true : Bool) (.a : Lane) = true) ∧ (((wUp.onChan .a 2 fun x => { x with sent := [{ seq := 9 }] } : Dev).chan (.a : Lane) (2 : Fin 4)).sent.find? (·.seq == (9 : Fin 256).val) = some ({ seq := 9 } : PosRec)) ∧ ((false : Bool) = false) := by decide

theorem wit_PositionEventsComplete_sensePairCompare18 : ((wUp.s pgSENSE R.SENSE_PAIR_EN 1 1 : Dev).g pgSENSE R.SENSE_PAIR_EN (1 : Fin 4).val ≠ 0) := by decide

theorem wit_PositionWritesComplete_sourceSelect0 : ((wUp : Dev).accepts (.laneFw .a : Writer) (pageAddr (pgPOS (.b : Lane)) (0x50 + 0xA8 * (3 : Fin 4).val)) (3 : Word)) ∧ (R.POS_SRC0_SEL.get (3 : Word) ≠ R.POS_SRC0_SEL.get ((wUp : Dev).seenWordBy (.laneFw .a : Writer) (pgPOS (.b : Lane)) (0x50 + 0xA8 * (3 : Fin 4).val))) := by decide

theorem wit_PositionWritesComplete_posSet1 : ((wUp : Dev).accepts (.laneFw .a : Writer) (pageAddr (pgPOS (.b : Lane)) (0xA8 + 0xA8 * (3 : Fin 4).val)) (1000 : Word)) := by decide

theorem wit_PositionWritesComplete_compareWrite2 : ((wUp : Dev).accepts (.laneFw .a : Writer) (pageAddr (pgPOS (.b : Lane)) (0xB4 + 4 * (7 : Fin 8).val + 0xA8 * (3 : Fin 4).val)) (1000 : Word)) := by decide

theorem wit_PositionWritesComplete_compareWrite3 : ((wUp : Dev).accepts (.laneFw .a : Writer) (pageAddr (pgPOS (.b : Lane)) (0xD4 + 4 * (7 : Fin 8).val + 0xA8 * (3 : Fin 4).val)) (0 : Word)) := by decide

theorem wit_PositionWritesComplete_senseClear4 : ((wUp : Dev).accepts (.laneFw .a : Writer) (pageAddr pgSENSE 0x44) (3 : Word)) := by decide

theorem wit_AxisCommandsComplete_fieldPeriod0 : ((wUp.s (pgFIELD 0) R.FIELD_AXCFG_EN 1 : Dev).up (.ctl (.a : Lane)) = true) ∧ ((wUp.s (pgFIELD 0) R.FIELD_AXCFG_EN 1 : Dev).fieldOn (.a : Lane) (0 : Fin 2) = true) ∧ (((wUp.s (pgFIELD 0) R.FIELD_AXCFG_EN 1 : Dev).lanes.at (.a : Lane)).role ≠ .failed) := by decide

theorem wit_AxisCommandsComplete_angleSourceTimeout1 : ((wUp.onFieldU .a 0 fun u => { u with sensor := true } : Dev).up (.ctl (.a : Lane)) = true) ∧ (((wUp.onFieldU .a 0 fun u => { u with sensor := true } : Dev).fieldU (.a : Lane) (0 : Fin 2)).sensor = true) ∧ ((wUp.onFieldU .a 0 fun u => { u with sensor := true } : Dev).sensorAngle (.a : Lane) (0 : Fin 2) = none) := by decide

theorem wit_AxisCommandsComplete_axisStart2 : ((({ wUp with mode := { wUp.mode with cur := .run } }).s (pgFIELD 0) R.FIELD_AXCFG_EN 1 : Dev).accepts (.laneFw .a : Writer) (pageAddr (pgFIELD (0 : Fin 2)) 0x44) (keyWord (0 : Fin 256).val 1)) := by decide

theorem wit_AxisCommandsComplete_axisStop3 : ((wUp.s (pgFIELD 0) R.FIELD_STATE_AXSTATE 3 : Dev).accepts (.laneFw .a : Writer) (pageAddr (pgFIELD (0 : Fin 2)) 0x44) (keyWord (0 : Fin 256).val 2)) := by decide

theorem wit_AxisCommandsComplete_axisOff4 : ((wUp.s (pgFIELD 1) R.FIELD_STATE_AXSTATE 3 : Dev).accepts (.laneFw .a : Writer) (pageAddr (pgFIELD (1 : Fin 2)) 0x44) (keyWord (0 : Fin 256).val 3)) := by decide

theorem wit_AxisCommandsComplete_axisClr5 : ((wUp.s (pgFIELD 0) R.FIELD_STATE_AXSTATE 5 : Dev).accepts (.laneFw .a : Writer) (pageAddr (pgFIELD (0 : Fin 2)) 0x44) (keyWord (0 : Fin 256).val 4)) := by decide

theorem wit_AxisCommandsComplete_cmdTimeout6 : (((wUp.s (pgFIELD 0) R.FIELD_STATE_AXSTATE 3).s (pgFIELD 0) R.FIELD_CMDTO_TMO 1 : Dev).axState (0 : Fin 2) = .run) ∧ (0 < ((wUp.s (pgFIELD 0) R.FIELD_STATE_AXSTATE 3).s (pgFIELD 0) R.FIELD_CMDTO_TMO 1 : Dev).g (pgFIELD (0 : Fin 2)) R.FIELD_CMDTO_TMO) ∧ (((wUp.s (pgFIELD 0) R.FIELD_STATE_AXSTATE 3).s (pgFIELD 0) R.FIELD_CMDTO_TMO 1 : Dev).axes[(0 : Fin 2)].cmdStage = 0) ∧ (((wUp.s (pgFIELD 0) R.FIELD_STATE_AXSTATE 3).s (pgFIELD 0) R.FIELD_CMDTO_TMO 1 : Dev).axes[(0 : Fin 2)].tcmdAt + ((wUp.s (pgFIELD 0) R.FIELD_STATE_AXSTATE 3).s (pgFIELD 0) R.FIELD_CMDTO_TMO 1 : Dev).g (pgFIELD (0 : Fin 2)) R.FIELD_CMDTO_TMO * 500000 ≤ ((wUp.s (pgFIELD 0) R.FIELD_STATE_AXSTATE 3).s (pgFIELD 0) R.FIELD_CMDTO_TMO 1 : Dev).now) := by decide

theorem wit_AxisCommandsComplete_cmdTimeout7 : (((((wUp.s (pgFIELD 0) R.FIELD_STATE_AXSTATE 3).s (pgFIELD 0) R.FIELD_CMDTO_TMO 1).s (pgFIELD 0) R.FIELD_CMDTO_ACT 2).onAxis 0 fun a => { a with cmdStage := 1 } : Dev).axState (0 : Fin 2) = .run) ∧ (0 < ((((wUp.s (pgFIELD 0) R.FIELD_STATE_AXSTATE 3).s (pgFIELD 0) R.FIELD_CMDTO_TMO 1).s (pgFIELD 0) R.FIELD_CMDTO_ACT 2).onAxis 0 fun a => { a with cmdStage := 1 } : Dev).g (pgFIELD (0 : Fin 2)) R.FIELD_CMDTO_TMO) ∧ (((((wUp.s (pgFIELD 0) R.FIELD_STATE_AXSTATE 3).s (pgFIELD 0) R.FIELD_CMDTO_TMO 1).s (pgFIELD 0) R.FIELD_CMDTO_ACT 2).onAxis 0 fun a => { a with cmdStage := 1 } : Dev).axes[(0 : Fin 2)].cmdStage = 1) ∧ (((((wUp.s (pgFIELD 0) R.FIELD_STATE_AXSTATE 3).s (pgFIELD 0) R.FIELD_CMDTO_TMO 1).s (pgFIELD 0) R.FIELD_CMDTO_ACT 2).onAxis 0 fun a => { a with cmdStage := 1 } : Dev).axes[(0 : Fin 2)].tcmdAt + 2 * (((((wUp.s (pgFIELD 0) R.FIELD_STATE_AXSTATE 3).s (pgFIELD 0) R.FIELD_CMDTO_TMO 1).s (pgFIELD 0) R.FIELD_CMDTO_ACT 2).onAxis 0 fun a => { a with cmdStage := 1 } : Dev).g (pgFIELD (0 : Fin 2)) R.FIELD_CMDTO_TMO * 500000) ≤ ((((wUp.s (pgFIELD 0) R.FIELD_STATE_AXSTATE 3).s (pgFIELD 0) R.FIELD_CMDTO_TMO 1).s (pgFIELD 0) R.FIELD_CMDTO_ACT 2).onAxis 0 fun a => { a with cmdStage := 1 } : Dev).now) ∧ (((((wUp.s (pgFIELD 0) R.FIELD_STATE_AXSTATE 3).s (pgFIELD 0) R.FIELD_CMDTO_TMO 1).s (pgFIELD 0) R.FIELD_CMDTO_ACT 2).onAxis 0 fun a => { a with cmdStage := 1 } : Dev).g (pgFIELD (0 : Fin 2)) R.FIELD_CMDTO_ACT = 2) := by decide

theorem wit_AxisCommandsComplete_alignComplete8 : (({ wUp.s (pgFIELD 0) R.FIELD_STATE_AXSTATE 2 with now := 5000000000 } : Dev).axState (0 : Fin 2) = .align) ∧ (({ wUp.s (pgFIELD 0) R.FIELD_STATE_AXSTATE 2 with now := 5000000000 } : Dev).axes[(0 : Fin 2)].starts = false) ∧ (({ wUp.s (pgFIELD 0) R.FIELD_STATE_AXSTATE 2 with now := 5000000000 } : Dev).axes[(0 : Fin 2)].alignAt + ({ wUp.s (pgFIELD 0) R.FIELD_STATE_AXSTATE 2 with now := 5000000000 } : Dev).g (pgFIELD (0 : Fin 2)) R.FIELD_ALIGN_T * 500000 ≤ ({ wUp.s (pgFIELD 0) R.FIELD_STATE_AXSTATE 2 with now := 5000000000 } : Dev).now) := by decide

theorem wit_AxisCommandsComplete_lockedRotor9 : (((wUp.s (pgFIELD 0) R.FIELD_STATE_AXSTATE 3).onAxis 0 fun a => { a with lrAt := some 0 } : Dev).axes[(0 : Fin 2)].lrAt = some (0 : Nat)) ∧ (((wUp.s (pgFIELD 0) R.FIELD_STATE_AXSTATE 3).onAxis 0 fun a => { a with lrAt := some 0 } : Dev).axState (0 : Fin 2) = .run) ∧ ((0 : Nat) + ((wUp.s (pgFIELD 0) R.FIELD_STATE_AXSTATE 3).onAxis 0 fun a => { a with lrAt := some 0 } : Dev).g (pgFIELD (0 : Fin 2)) R.FIELD_LR_T * 500000 ≤ ((wUp.s (pgFIELD 0) R.FIELD_STATE_AXSTATE 3).onAxis 0 fun a => { a with lrAt := some 0 } : Dev).now) := by decide

theorem wit_AxisCommandsComplete_catchSample10 : ((wCatch : Dev).catchCounts (0 : Fin 2) (wCatch : Dev).now = true) ∧ ((wCatch : Dev).axes[(0 : Fin 2)].catchNext ≤ (wCatch : Dev).now) := by decide

theorem wit_AxisCommandsComplete_catchWindowEnd11 : ((wUp.onAxis 0 fun a => { a with catchWin := some 0 } : Dev).axes[(0 : Fin 2)].catchWin = some (0 : Nat)) ∧ ((wUp.onAxis 0 fun a => { a with catchWin := some 0 } : Dev).axes[(0 : Fin 2)].early = true ∨ (0 : Nat) + (wUp.onAxis 0 fun a => { a with catchWin := some 0 } : Dev).g (pgFIELD (0 : Fin 2)) R.FIELD_CATCH_WIN * 500 ≤ (wUp.onAxis 0 fun a => { a with catchWin := some 0 } : Dev).now) := by decide

theorem wit_AxisCommandsComplete_catchTimeout12 : ((({ wUp with now := 2000000000000 }).s (pgFIELD 0) R.FIELD_STATE_AXSTATE 1 : Dev).axState (0 : Fin 2) = .catching) ∧ ((({ wUp with now := 2000000000000 }).s (pgFIELD 0) R.FIELD_STATE_AXSTATE 1 : Dev).axes[(0 : Fin 2)].starts = false) ∧ ((({ wUp with now := 2000000000000 }).s (pgFIELD 0) R.FIELD_STATE_AXSTATE 1 : Dev).axes[(0 : Fin 2)].catchAt + (({ wUp with now := 2000000000000 }).s (pgFIELD 0) R.FIELD_STATE_AXSTATE 1 : Dev).g (pgFIELD (0 : Fin 2)) R.FIELD_CATCH2_TMO * 500000 ≤ (({ wUp with now := 2000000000000 }).s (pgFIELD 0) R.FIELD_STATE_AXSTATE 1 : Dev).now) := by decide

theorem wit_AxisCommandsComplete_ascReleaseCheck13 : ((({ wUp with now := 2000000000000, bridges := Vector.replicate 2 { ascL := true } }).s (pgFIELD 0) R.FIELD_STATE_AXSTATE 1 : Dev).axState (0 : Fin 2) = .catching ∨ (({ wUp with now := 2000000000000, bridges := Vector.replicate 2 { ascL := true } }).s (pgFIELD 0) R.FIELD_STATE_AXSTATE 1 : Dev).axState (0 : Fin 2) = .hold) ∧ (((({ wUp with now := 2000000000000, bridges := Vector.replicate 2 { ascL := true } }).s (pgFIELD 0) R.FIELD_STATE_AXSTATE 1 : Dev).fieldU (((({ wUp with now := 2000000000000, bridges := Vector.replicate 2 { ascL := true } }).s (pgFIELD 0) R.FIELD_STATE_AXSTATE 1 : Dev).active).getD .a) (0 : Fin 2)).hasAngle = false) ∧ ((({ wUp with now := 2000000000000, bridges := Vector.replicate 2 { ascL := true } }).s (pgFIELD 0) R.FIELD_STATE_AXSTATE 1 : Dev).inAsc (0 : Fin 2) = true) ∧ ((({ wUp with now := 2000000000000, bridges := Vector.replicate 2 { ascL := true } }).s (pgFIELD 0) R.FIELD_STATE_AXSTATE 1 : Dev).axes[(0 : Fin 2)].ascSince + (({ wUp with now := 2000000000000, bridges := Vector.replicate 2 { ascL := true } }).s (pgFIELD 0) R.FIELD_STATE_AXSTATE 1 : Dev).g (pgFIELD (0 : Fin 2)) R.FIELD_CATCH2_ASC_T * 500000 ≤ (({ wUp with now := 2000000000000, bridges := Vector.replicate 2 { ascL := true } }).s (pgFIELD 0) R.FIELD_STATE_AXSTATE 1 : Dev).now) := by decide

theorem wit_AxisCommandsComplete_mapSwap14 : ((wUp : Dev).accepts (.laneFw .a : Writer) (pageAddr (pgFIELD (0 : Fin 2)) 0x88) ((wUp : Dev).fieldWord (.laneFw .a : Writer) (pgFIELD (0 : Fin 2)) R.FIELD_MAPCFG_SWAP 1)) := by decide

theorem wit_MotionCommandsComplete_servoTick0 : ((wServo : Dev).servoAt (1 : Fin 2) = some (0 : Nat)) ∧ (((wServo : Dev).eachLane fun e l => e.shadowTrack l (2 ^ (1 + (1 : Fin 2).val))) = (wServed : Dev)) ∧ ((wServed : Dev).copies (pgMOTION (1 : Fin 2)) ≠ []) := by decide

theorem wit_MotionCommandsComplete_motionGo1 : ((wUp : Dev).accepts (.laneFw .a : Writer) (pageAddr (pgMOTION (1 : Fin 2)) 0x44) (keyWord (0 : Fin 256).val 1)) := by decide

theorem wit_MotionCommandsComplete_motionStop2 : ((wUp : Dev).accepts (.laneFw .a : Writer) (pageAddr (pgMOTION (0 : Fin 2)) 0x44) (keyWord (0 : Fin 256).val 2)) := by decide

theorem wit_MotionCommandsComplete_motionResume3 : ((wUp : Dev).accepts (.laneFw .a : Writer) (pageAddr (pgMOTION (0 : Fin 2)) 0x44) (keyWord (0 : Fin 256).val 3)) := by decide

theorem wit_MotionCommandsComplete_motionAbort4 : ((wUp : Dev).accepts (.laneFw .a : Writer) (pageAddr (pgMOTION (0 : Fin 2)) 0x44) (keyWord (0 : Fin 256).val 4)) := by decide

theorem wit_MotionCommandsComplete_stepUpdate5 : ((wUp.s (pgFIELD 1) R.FIELD_STATE_AXSTATE 4 : Dev).axState 1 = .step) := by decide

set_option maxRecDepth 100000 in
theorem wit_MotionCommandsComplete_chopperDecision6 : (((wUp.s (pgFIELD 1) R.FIELD_STATE_AXSTATE 4).sl .a (pgCONV .a 1) R.CONV_LAST_VALUE (resultWord 100 false false false 0 .a 0).toNat 1 : Dev).chopWatches (.a : Lane) (1 : Fin 3) = true) ∧ ((false : Bool) = false) ∧ (((wUp.s (pgFIELD 1) R.FIELD_STATE_AXSTATE 4).sl .a (pgCONV .a 1) R.CONV_LAST_VALUE (resultWord 100 false false false 0 .a 0).toNat 1 : Dev).chopSampleOk (.a : Lane) (1 : Fin 3) = true) := by decide

theorem wit_MotionCommandsComplete_chopStateChange7 : ((((wUp.onLeg .a 1 fun x => { x with chopDue := some (5, true) } : Dev).mods.at (.a : Lane)).legs[(1 : Fin 6)]).chopDue = some ((5 : Nat), (true : Bool))) ∧ ((wUp.onLeg .a 1 fun x => { x with chopDue := some (5, true) } : Dev).chopAt (.a : Lane) (1 : Fin 6) (5 : Nat) ≤ (wUp.onLeg .a 1 fun x => { x with chopDue := some (5, true) } : Dev).now) ∧ ((1 : Fin 6).val < 3) := by decide

theorem wit_MotionCommandsComplete_chopStateChange8 : ((((wUp.onLeg .a 4 fun x => { x with chopDue := some (5, true) } : Dev).mods.at (.a : Lane)).legs[(4 : Fin 6)]).chopDue = some ((5 : Nat), (true : Bool))) ∧ ((wUp.onLeg .a 4 fun x => { x with chopDue := some (5, true) } : Dev).chopAt (.a : Lane) (4 : Fin 6) (5 : Nat) ≤ (wUp.onLeg .a 4 fun x => { x with chopDue := some (5, true) } : Dev).now) ∧ (3 ≤ (4 : Fin 6).val) := by decide

theorem wit_ModulatorCommandsComplete_timebaseStart0 : ((((((((wUp.sl .a (pgMOD .a) H.CTRL_ENABLE 1).sl .a (pgMOD .a) R.MOD_TB0_CFG_EN 1).sl .b (pgMOD .b) H.CTRL_ENABLE 1).sl .b (pgMOD .b) R.MOD_TB0_CFG_EN 1).onTb .a 0 fun x => { x with startAt := some 7 } : Dev).mods.at (.a : Lane)).tb (0 : Fin 2)).startAt = some (7 : Nat)) ∧ ((((((wUp.sl .a (pgMOD .a) H.CTRL_ENABLE 1).sl .a (pgMOD .a) R.MOD_TB0_CFG_EN 1).sl .b (pgMOD .b) H.CTRL_ENABLE 1).sl .b (pgMOD .b) R.MOD_TB0_CFG_EN 1).onTb .a 0 fun x => { x with startAt := some 7 } : Dev).tbFirst (.a : Lane) (0 : Fin 2) (7 : Nat) = some (7 : Nat)) ∧ ((7 : Nat) ≤ (((((wUp.sl .a (pgMOD .a) H.CTRL_ENABLE 1).sl .a (pgMOD .a) R.MOD_TB0_CFG_EN 1).sl .b (pgMOD .b) H.CTRL_ENABLE 1).sl .b (pgMOD .b) R.MOD_TB0_CFG_EN 1).onTb .a 0 fun x => { x with startAt := some 7 } : Dev).now) ∧ ((((((wUp.sl .a (pgMOD .a) H.CTRL_ENABLE 1).sl .a (pgMOD .a) R.MOD_TB0_CFG_EN 1).sl .b (pgMOD .b) H.CTRL_ENABLE 1).sl .b (pgMOD .b) R.MOD_TB0_CFG_EN 1).onTb .a 0 fun x => { x with startAt := some 7 } : Dev).tbEnabled (.a : Lane) (0 : Fin 2) = true) := by decide

theorem wit_ModulatorCommandsComplete_latchPoint1 : ((wUp.onTb .a 1 fun x => { x with running := true } : Dev).nextStart (.a : Lane) (1 : Fin 2) = some (31250 : Nat)) ∧ ((31250 : Nat) ≤ (wUp.onTb .a 1 fun x => { x with running := true } : Dev).now + 32) ∧ ((((wUp.onTb .a 1 fun x => { x with running := true } : Dev).mods.at (.a : Lane)).tb (1 : Fin 2)).latched = false) := by decide

theorem wit_ModulatorCommandsComplete_periodStart2 : ((((wUp.onTb .a 1 fun x => { x with running := true } : Dev).mods.at (.a : Lane)).tb (1 : Fin 2)).running = true) ∧ (((((wUp.onTb .a 1 fun x => { x with running := true } : Dev).mods.at (.a : Lane)).tb (1 : Fin 2)).t0 + (((wUp.onTb .a 1 fun x => { x with running := true } : Dev).mods.at (.a : Lane)).tb (1 : Fin 2)).per : Int) + (((wUp.onTb .a 1 fun x => { x with running := true } : Dev).mods.at (.a : Lane)).tb (1 : Fin 2)).syncAdj ≤ (wUp.onTb .a 1 fun x => { x with running := true } : Dev).now) := by decide

theorem wit_ModulatorCommandsComplete_deferredActionTick3 : (({ wUp with now := 8192 } : Dev).now % 4096 = 0) := by decide

theorem wit_ModulatorCommandsComplete_syncInEdge4 : (((wUp.sl .a (pgMOD .a) R.MOD_TB0_CFG_SYNCIN 1).onTb .a 0 fun x => { x with running := true } : Dev).gl (.a : Lane) (pgMOD (.a : Lane)) R.MOD_TB0_CFG_SYNCIN = 1) ∧ ((((wUp.sl .a (pgMOD .a) R.MOD_TB0_CFG_SYNCIN 1).onTb .a 0 fun x => { x with running := true } : Dev).mods.at (.a : Lane)).tb0.running = true) := by decide

theorem wit_ModulatorCommandsComplete_syncLost5 : (((wUp.sl .a (pgMOD .a) R.MOD_TB0_CFG_SYNCIN 1).onTb .a 0 fun x => { x with running := true } : Dev).gl (.a : Lane) (pgMOD (.a : Lane)) R.MOD_TB0_CFG_SYNCIN = 1) ∧ ((((wUp.sl .a (pgMOD .a) R.MOD_TB0_CFG_SYNCIN 1).onTb .a 0 fun x => { x with running := true } : Dev).mods.at (.a : Lane)).tb0.running = true) ∧ ((((wUp.sl .a (pgMOD .a) R.MOD_TB0_CFG_SYNCIN 1).onTb .a 0 fun x => { x with running := true } : Dev).mods.at (.a : Lane)).tb0.syncAt + 4 * (((wUp.sl .a (pgMOD .a) R.MOD_TB0_CFG_SYNCIN 1).onTb .a 0 fun x => { x with running := true } : Dev).mods.at (.a : Lane)).tb0.per ≤ ((wUp.sl .a (pgMOD .a) R.MOD_TB0_CFG_SYNCIN 1).onTb .a 0 fun x => { x with running := true } : Dev).now) ∧ ((((wUp.sl .a (pgMOD .a) R.MOD_TB0_CFG_SYNCIN 1).onTb .a 0 fun x => { x with running := true } : Dev).mods.at (.a : Lane)).tb0.syncLost = false) := by decide

theorem wit_ModulatorCommandsComplete_groupCommit6 : ((wUp : Dev).accepts (.laneFw .a : Writer) (pageAddr (pgMOD (.b : Lane)) 0x58) (BitVec.ofNat 32 (9 : Fin 16).val)) := by decide

theorem wit_ModulatorCommandsComplete_edgeMessageSend7 : ((((wUp.onMaster .a 6 fun m => { m with queue := [{ out := 6, level := true, pset := false, due := 100, dueF := 0 }] } : Dev).mods.at (.a : Lane)).masters[(6 : Fin 8)]).queue = ({ out := 6, level := true, pset := false, due := 100, dueF := 0 } : QueuedEdge) :: ([] : List QueuedEdge)) ∧ (((wUp.onMaster .a 6 fun m => { m with queue := [{ out := 6, level := true, pset := false, due := 100, dueF := 0 }] } : Dev).lanes.at (.a : Lane)).silent = false) ∧ (({ out := 6, level := true, pset := false, due := 100, dueF := 0 } : QueuedEdge).due ≤ (wUp.onMaster .a 6 fun m => { m with queue := [{ out := 6, level := true, pset := false, due := 100, dueF := 0 }] } : Dev).now + 64) ∧ ((((wUp.onMaster .a 6 fun m => { m with queue := [{ out := 6, level := true, pset := false, due := 100, dueF := 0 }] } : Dev).mods.at (.a : Lane)).masters[(6 : Fin 8)]).lastMsg = none ∨ (((wUp.onMaster .a 6 fun m => { m with queue := [{ out := 6, level := true, pset := false, due := 100, dueF := 0 }] } : Dev).mods.at (.a : Lane)).masters[(6 : Fin 8)]).lastSend + 8 ≤ (wUp.onMaster .a 6 fun m => { m with queue := [{ out := 6, level := true, pset := false, due := 100, dueF := 0 }] } : Dev).now) := by decide

theorem wit_ModulatorCommandsComplete_linkEcho8 : (((wUp : Dev).link (.drvMaster (.a : Lane) (6 : Fin 8))).live = true) := by decide

theorem wit_ModulatorCommandsComplete_tripAccept9 : ((wUp : Dev).pageUp (.b : Lane) (pgMOD (.b : Lane)) = true) := by decide

theorem wit_ModulatorCommandsComplete_tripAccept10 : ((wUp.sl .b (pgMOD .b) R.MOD_TRIPCFG_EN1 1 : Dev).pageUp (.b : Lane) (pgMOD (.b : Lane)) = true) ∧ ((wUp.sl .b (pgMOD .b) R.MOD_TRIPCFG_EN1 1 : Dev).gl (.b : Lane) (pgMOD (.b : Lane)) R.MOD_TRIPCFG_EN1 = 1) ∧ ((false : Bool) = ((wUp.sl .b (pgMOD .b) R.MOD_TRIPCFG_EN1 1 : Dev).gl (.b : Lane) (pgMOD (.b : Lane)) R.MOD_TRIPCFG_POL1 == 1)) ∧ ((wUp.sl .b (pgMOD .b) R.MOD_TRIPCFG_EN1 1 : Dev).tripFilt (.b : Lane) false ≤ (40 : Nat)) := by decide

theorem wit_ModulatorCommandsComplete_swtrip11 : ((wUp : Dev).accepts (.laneFw .a : Writer) (pageAddr (pgMOD (.b : Lane)) 0x7C) (BitVec.ofNat 32 (true : Bool).toNat)) := by decide

theorem wit_ModulatorCommandsComplete_tripclr12 : ((wUp : Dev).accepts (.laneFw .a : Writer) (pageAddr (pgMOD (.b : Lane)) 0x78) (BitVec.ofNat 32 (15 : Fin 16).val)) := by decide

theorem wit_ModulatorCommandsComplete_tripRelease13 : ((wUp : Dev).pageUp (.b : Lane) (pgMOD (.b : Lane)) = true) ∧ ((true : Bool) ≠ ((wUp : Dev).gl (.b : Lane) (pgMOD (.b : Lane)) (if (true : Bool) then R.MOD_TRIPCFG_POL2 else R.MOD_TRIPCFG_POL1) == 1)) := by decide

theorem wit_ModulatorCommandsComplete_bootUv14 : ((wBoot : Dev).bootOut (legHigh (2 : Fin 6)) = true) := by decide

theorem wit_QuillArithmeticCompletes_qNop0 : (((wQuill 0x00000000#32 0x00000000#32) : Dev).qReady (.a : Lane) 0x00 ((wQuill 0x00000000#32 0x00000000#32).qAtPc .a : QIns) ((qForm 0x00).getD {} : QForm) ((wQuill 0x00000000#32 0x00000000#32).qIssueAt .a ((wQuill 0x00000000#32 0x00000000#32).qAtPc .a) ((qForm 0x00).getD {}) : Nat)) := by decide

theorem wit_QuillArithmeticCompletes_qLdi1 : (((wQuill 0x01400000#32 0x0000004D#32) : Dev).qReady (.a : Lane) 0x01 ((wQuill 0x01400000#32 0x0000004D#32).qAtPc .a : QIns) ((qForm 0x01).getD {} : QForm) ((wQuill 0x01400000#32 0x0000004D#32).qIssueAt .a ((wQuill 0x01400000#32 0x0000004D#32).qAtPc .a) ((qForm 0x01).getD {}) : Nat)) := by decide

theorem wit_QuillArithmeticCompletes_qMov2 : (((wQuill 0x02410000#32 0x00000000#32) : Dev).qReady (.a : Lane) 0x02 ((wQuill 0x02410000#32 0x00000000#32).qAtPc .a : QIns) ((qForm 0x02).getD {} : QForm) ((wQuill 0x02410000#32 0x00000000#32).qIssueAt .a ((wQuill 0x02410000#32 0x00000000#32).qAtPc .a) ((qForm 0x02).getD {}) : Nat)) := by decide

theorem wit_QuillArithmeticCompletes_qAdd3 : (((wQuill 0x03411800#32 0x00000000#32) : Dev).qReady (.a : Lane) 0x03 ((wQuill 0x03411800#32 0x00000000#32).qAtPc .a : QIns) ((qForm 0x03).getD {} : QForm) ((wQuill 0x03411800#32 0x00000000#32).qIssueAt .a ((wQuill 0x03411800#32 0x00000000#32).qAtPc .a) ((qForm 0x03).getD {}) : Nat)) := by decide

theorem wit_QuillArithmeticCompletes_qSub4 : (((wQuill 0x04411800#32 0x00000000#32) : Dev).qReady (.a : Lane) 0x04 ((wQuill 0x04411800#32 0x00000000#32).qAtPc .a : QIns) ((qForm 0x04).getD {} : QForm) ((wQuill 0x04411800#32 0x00000000#32).qIssueAt .a ((wQuill 0x04411800#32 0x00000000#32).qAtPc .a) ((qForm 0x04).getD {}) : Nat)) := by decide

theorem wit_QuillArithmeticCompletes_qNeg5 : (((wQuill 0x05410000#32 0x00000000#32) : Dev).qReady (.a : Lane) 0x05 ((wQuill 0x05410000#32 0x00000000#32).qAtPc .a : QIns) ((qForm 0x05).getD {} : QForm) ((wQuill 0x05410000#32 0x00000000#32).qIssueAt .a ((wQuill 0x05410000#32 0x00000000#32).qAtPc .a) ((qForm 0x05).getD {}) : Nat)) := by decide

theorem wit_QuillArithmeticCompletes_qAbs6 : (((wQuill 0x06410000#32 0x00000000#32) : Dev).qReady (.a : Lane) 0x06 ((wQuill 0x06410000#32 0x00000000#32).qAtPc .a : QIns) ((qForm 0x06).getD {} : QForm) ((wQuill 0x06410000#32 0x00000000#32).qIssueAt .a ((wQuill 0x06410000#32 0x00000000#32).qAtPc .a) ((qForm 0x06).getD {}) : Nat)) := by decide

theorem wit_QuillArithmeticCompletes_qMin7 : (((wQuill 0x07411800#32 0x00000000#32) : Dev).qReady (.a : Lane) 0x07 ((wQuill 0x07411800#32 0x00000000#32).qAtPc .a : QIns) ((qForm 0x07).getD {} : QForm) ((wQuill 0x07411800#32 0x00000000#32).qIssueAt .a ((wQuill 0x07411800#32 0x00000000#32).qAtPc .a) ((qForm 0x07).getD {}) : Nat)) := by decide

theorem wit_QuillArithmeticCompletes_qMax8 : (((wQuill 0x08411800#32 0x00000000#32) : Dev).qReady (.a : Lane) 0x08 ((wQuill 0x08411800#32 0x00000000#32).qAtPc .a : QIns) ((qForm 0x08).getD {} : QForm) ((wQuill 0x08411800#32 0x00000000#32).qIssueAt .a ((wQuill 0x08411800#32 0x00000000#32).qAtPc .a) ((qForm 0x08).getD {}) : Nat)) := by decide

theorem wit_QuillArithmeticCompletes_qClamp9 : (((wQuill 0x09411900#32 0x00000000#32) : Dev).qReady (.a : Lane) 0x09 ((wQuill 0x09411900#32 0x00000000#32).qAtPc .a : QIns) ((qForm 0x09).getD {} : QForm) ((wQuill 0x09411900#32 0x00000000#32).qIssueAt .a ((wQuill 0x09411900#32 0x00000000#32).qAtPc .a) ((qForm 0x09).getD {}) : Nat)) := by decide

theorem wit_QuillArithmeticCompletes_qClamps10 : (((wQuill 0x0A411800#32 0x00000000#32) : Dev).qReady (.a : Lane) 0x0A ((wQuill 0x0A411800#32 0x00000000#32).qAtPc .a : QIns) ((qForm 0x0A).getD {} : QForm) ((wQuill 0x0A411800#32 0x00000000#32).qIssueAt .a ((wQuill 0x0A411800#32 0x00000000#32).qAtPc .a) ((qForm 0x0A).getD {}) : Nat)) := by decide

theorem wit_QuillArithmeticCompletes_qShl11 : (((wQuill 0x0B410000#32 0x00000001#32) : Dev).qReady (.a : Lane) 0x0B ((wQuill 0x0B410000#32 0x00000001#32).qAtPc .a : QIns) ((qForm 0x0B).getD {} : QForm) ((wQuill 0x0B410000#32 0x00000001#32).qIssueAt .a ((wQuill 0x0B410000#32 0x00000001#32).qAtPc .a) ((qForm 0x0B).getD {}) : Nat)) := by decide

theorem wit_QuillArithmeticCompletes_qShr12 : (((wQuill 0x0C410000#32 0x00000001#32) : Dev).qReady (.a : Lane) 0x0C ((wQuill 0x0C410000#32 0x00000001#32).qAtPc .a : QIns) ((qForm 0x0C).getD {} : QForm) ((wQuill 0x0C410000#32 0x00000001#32).qIssueAt .a ((wQuill 0x0C410000#32 0x00000001#32).qAtPc .a) ((qForm 0x0C).getD {}) : Nat)) := by decide

theorem wit_QuillArithmeticCompletes_qAnd13 : (((wQuill 0x0D411800#32 0x00000000#32) : Dev).qReady (.a : Lane) 0x0D ((wQuill 0x0D411800#32 0x00000000#32).qAtPc .a : QIns) ((qForm 0x0D).getD {} : QForm) ((wQuill 0x0D411800#32 0x00000000#32).qIssueAt .a ((wQuill 0x0D411800#32 0x00000000#32).qAtPc .a) ((qForm 0x0D).getD {}) : Nat)) := by decide

theorem wit_QuillArithmeticCompletes_qOr14 : (((wQuill 0x0E411800#32 0x00000000#32) : Dev).qReady (.a : Lane) 0x0E ((wQuill 0x0E411800#32 0x00000000#32).qAtPc .a : QIns) ((qForm 0x0E).getD {} : QForm) ((wQuill 0x0E411800#32 0x00000000#32).qIssueAt .a ((wQuill 0x0E411800#32 0x00000000#32).qAtPc .a) ((qForm 0x0E).getD {}) : Nat)) := by decide

theorem wit_QuillArithmeticCompletes_qXor15 : (((wQuill 0x0F411800#32 0x00000000#32) : Dev).qReady (.a : Lane) 0x0F ((wQuill 0x0F411800#32 0x00000000#32).qAtPc .a : QIns) ((qForm 0x0F).getD {} : QForm) ((wQuill 0x0F411800#32 0x00000000#32).qIssueAt .a ((wQuill 0x0F411800#32 0x00000000#32).qAtPc .a) ((qForm 0x0F).getD {}) : Nat)) := by decide

theorem wit_QuillArithmeticCompletes_qSel16 : (((wQuill 0x10411800#32 0x00000000#32) : Dev).qReady (.a : Lane) 0x10 ((wQuill 0x10411800#32 0x00000000#32).qAtPc .a : QIns) ((qForm 0x10).getD {} : QForm) ((wQuill 0x10411800#32 0x00000000#32).qIssueAt .a ((wQuill 0x10411800#32 0x00000000#32).qAtPc .a) ((qForm 0x10).getD {}) : Nat)) := by decide

theorem wit_QuillArithmeticCompletes_qSelp17 : (((wQuill 0x11411800#32 0x00000000#32) : Dev).qReady (.a : Lane) 0x11 ((wQuill 0x11411800#32 0x00000000#32).qAtPc .a : QIns) ((qForm 0x11).getD {} : QForm) ((wQuill 0x11411800#32 0x00000000#32).qIssueAt .a ((wQuill 0x11411800#32 0x00000000#32).qAtPc .a) ((qForm 0x11).getD {}) : Nat)) := by decide

theorem wit_QuillArithmeticCompletes_qCmp18 : (((wQuill 0x12011800#32 0x00000000#32) : Dev).qReady (.a : Lane) 0x12 ((wQuill 0x12011800#32 0x00000000#32).qAtPc .a : QIns) ((qForm 0x12).getD {} : QForm) ((wQuill 0x12011800#32 0x00000000#32).qIssueAt .a ((wQuill 0x12011800#32 0x00000000#32).qAtPc .a) ((qForm 0x12).getD {}) : Nat)) := by decide

theorem wit_QuillArithmeticCompletes_qClrf19 : (((wQuill 0x13000000#32 0x00000000#32) : Dev).qReady (.a : Lane) 0x13 ((wQuill 0x13000000#32 0x00000000#32).qAtPc .a : QIns) ((qForm 0x13).getD {} : QForm) ((wQuill 0x13000000#32 0x00000000#32).qIssueAt .a ((wQuill 0x13000000#32 0x00000000#32).qAtPc .a) ((qForm 0x13).getD {}) : Nat)) := by decide

theorem wit_QuillProductsComplete_qMul0 : (((wQuill 0x20411800#32 0x00000000#32) : Dev).qReady (.a : Lane) 0x20 ((wQuill 0x20411800#32 0x00000000#32).qAtPc .a : QIns) ((qForm 0x20).getD {} : QForm) ((wQuill 0x20411800#32 0x00000000#32).qIssueAt .a ((wQuill 0x20411800#32 0x00000000#32).qAtPc .a) ((qForm 0x20).getD {}) : Nat)) := by decide

theorem wit_QuillProductsComplete_qMac1 : (((wQuill 0x21411900#32 0x00000000#32) : Dev).qReady (.a : Lane) 0x21 ((wQuill 0x21411900#32 0x00000000#32).qAtPc .a : QIns) ((qForm 0x21).getD {} : QForm) ((wQuill 0x21411900#32 0x00000000#32).qIssueAt .a ((wQuill 0x21411900#32 0x00000000#32).qAtPc .a) ((qForm 0x21).getD {}) : Nat)) := by decide

theorem wit_QuillProductsComplete_qMsu2 : (((wQuill 0x22411900#32 0x00000000#32) : Dev).qReady (.a : Lane) 0x22 ((wQuill 0x22411900#32 0x00000000#32).qAtPc .a : QIns) ((qForm 0x22).getD {} : QForm) ((wQuill 0x22411900#32 0x00000000#32).qIssueAt .a ((wQuill 0x22411900#32 0x00000000#32).qAtPc .a) ((qForm 0x22).getD {}) : Nat)) := by decide

theorem wit_QuillProductsComplete_qMulk3 : (((wQuill 0x23410000#32 0x0A000000#32) : Dev).qReady (.a : Lane) 0x23 ((wQuill 0x23410000#32 0x0A000000#32).qAtPc .a : QIns) ((qForm 0x23).getD {} : QForm) ((wQuill 0x23410000#32 0x0A000000#32).qIssueAt .a ((wQuill 0x23410000#32 0x0A000000#32).qAtPc .a) ((qForm 0x23).getD {}) : Nat)) := by decide

theorem wit_QuillProductsComplete_qMack4 : (((wQuill 0x24411800#32 0x0A000000#32) : Dev).qReady (.a : Lane) 0x24 ((wQuill 0x24411800#32 0x0A000000#32).qAtPc .a : QIns) ((qForm 0x24).getD {} : QForm) ((wQuill 0x24411800#32 0x0A000000#32).qIssueAt .a ((wQuill 0x24411800#32 0x0A000000#32).qAtPc .a) ((qForm 0x24).getD {}) : Nat)) := by decide

theorem wit_QuillProductsComplete_qVmulk5 : (((wQuill 0x25410000#32 0x0A000000#32) : Dev).qReady (.a : Lane) 0x25 ((wQuill 0x25410000#32 0x0A000000#32).qAtPc .a : QIns) ((qForm 0x25).getD {} : QForm) ((wQuill 0x25410000#32 0x0A000000#32).qIssueAt .a ((wQuill 0x25410000#32 0x0A000000#32).qAtPc .a) ((qForm 0x25).getD {}) : Nat)) := by decide

theorem wit_QuillProductsComplete_qDot26 : (((wQuill 0x26411800#32 0x00000000#32) : Dev).qReady (.a : Lane) 0x26 ((wQuill 0x26411800#32 0x00000000#32).qAtPc .a : QIns) ((qForm 0x26).getD {} : QForm) ((wQuill 0x26411800#32 0x00000000#32).qIssueAt .a ((wQuill 0x26411800#32 0x00000000#32).qAtPc .a) ((qForm 0x26).getD {}) : Nat)) := by decide

theorem wit_QuillProductsComplete_qRot7 : (((wQuill 0x27411800#32 0x00000000#32) : Dev).qReady (.a : Lane) 0x27 ((wQuill 0x27411800#32 0x00000000#32).qAtPc .a : QIns) ((qForm 0x27).getD {} : QForm) ((wQuill 0x27411800#32 0x00000000#32).qIssueAt .a ((wQuill 0x27411800#32 0x00000000#32).qAtPc .a) ((qForm 0x27).getD {}) : Nat)) := by decide

theorem wit_QuillProductsComplete_qIclk8 : (((wQuill 0x28410000#32 0x00000000#32) : Dev).qReady (.a : Lane) 0x28 ((wQuill 0x28410000#32 0x00000000#32).qAtPc .a : QIns) ((qForm 0x28).getD {} : QForm) ((wQuill 0x28410000#32 0x00000000#32).qIssueAt .a ((wQuill 0x28410000#32 0x00000000#32).qAtPc .a) ((qForm 0x28).getD {}) : Nat)) := by decide

theorem wit_QuillProductsComplete_qRecon39 : (((wQuill 0x29410000#32 0x00000000#32) : Dev).qReady (.a : Lane) 0x29 ((wQuill 0x29410000#32 0x00000000#32).qAtPc .a : QIns) ((qForm 0x29).getD {} : QForm) ((wQuill 0x29410000#32 0x00000000#32).qIssueAt .a ((wQuill 0x29410000#32 0x00000000#32).qAtPc .a) ((qForm 0x29).getD {}) : Nat)) ∧ (recon (((wQuill 0x29410000#32 0x00000000#32) : Dev).qr (.a : Lane) ((wQuill 0x29410000#32 0x00000000#32).qAtPc .a : QIns).sa) (((wQuill 0x29410000#32 0x00000000#32) : Dev).qr (.a : Lane) (((wQuill 0x29410000#32 0x00000000#32).qAtPc .a : QIns).sa + 1)) (((wQuill 0x29410000#32 0x00000000#32) : Dev).qr (.a : Lane) (((wQuill 0x29410000#32 0x00000000#32).qAtPc .a : QIns).sa + 2)) (ofInt (((wQuill 0x29410000#32 0x00000000#32) : Dev).qr (.a : Lane) (((wQuill 0x29410000#32 0x00000000#32).qAtPc .a : QIns).sa + 3))).toNat (((wQuill 0x29410000#32 0x00000000#32) : Dev).gl (.a : Lane) (pgFIELD (if ((wQuill 0x29410000#32 0x00000000#32).qAtPc .a : QIns).flg = 1 then 1 else 0)) R.FIELD_RECON_SUMTOL * 2 ^ 15) = ((false : Bool), (some (4, 5, 6) : Option (Int × Int × Int)))) := by decide

theorem wit_QuillProductsComplete_qSvm10 : (((wQuill 0x2A411900#32 0x00000000#32) : Dev).qReady (.a : Lane) 0x2A ((wQuill 0x2A411900#32 0x00000000#32).qAtPc .a : QIns) ((qForm 0x2A).getD {} : QForm) ((wQuill 0x2A411900#32 0x00000000#32).qIssueAt .a ((wQuill 0x2A411900#32 0x00000000#32).qAtPc .a) ((qForm 0x2A).getD {}) : Nat)) := by decide

theorem wit_QuillProductsComplete_qPi11 : (((wQuill 0x2B411900#32 0x0A000000#32) : Dev).qReady (.a : Lane) 0x2B ((wQuill 0x2B411900#32 0x0A000000#32).qAtPc .a : QIns) ((qForm 0x2B).getD {} : QForm) ((wQuill 0x2B411900#32 0x0A000000#32).qIssueAt .a ((wQuill 0x2B411900#32 0x0A000000#32).qAtPc .a) ((qForm 0x2B).getD {}) : Nat)) ∧ ((0 : Int) = (min 0x7FFFFFFF ((((wQuill 0x2B411900#32 0x0A000000#32) : Dev).qCoef (.a : Lane) (((wQuill 0x2B411900#32 0x0A000000#32).qAtPc .a : QIns).k + 3)).1).natAbs : Nat)) := by decide

theorem wit_QuillProductsComplete_qSincos12 : (((wQuill 0x30410000#32 0x00000000#32) : Dev).qReady (.a : Lane) 0x30 ((wQuill 0x30410000#32 0x00000000#32).qAtPc .a : QIns) ((qForm 0x30).getD {} : QForm) ((wQuill 0x30410000#32 0x00000000#32).qIssueAt .a ((wQuill 0x30410000#32 0x00000000#32).qAtPc .a) ((qForm 0x30).getD {}) : Nat)) := by decide

theorem wit_QuillProductsComplete_qDiv13 : (((wQuill 0x31411800#32 0x00000000#32) : Dev).qReady (.a : Lane) 0x31 ((wQuill 0x31411800#32 0x00000000#32).qAtPc .a : QIns) ((qForm 0x31).getD {} : QForm) ((wQuill 0x31411800#32 0x00000000#32).qIssueAt .a ((wQuill 0x31411800#32 0x00000000#32).qAtPc .a) ((qForm 0x31).getD {}) : Nat)) := by decide

theorem wit_QuillProductsComplete_qRcp14 : (((wQuill 0x32410000#32 0x00000000#32) : Dev).qReady (.a : Lane) 0x32 ((wQuill 0x32410000#32 0x00000000#32).qAtPc .a : QIns) ((qForm 0x32).getD {} : QForm) ((wQuill 0x32410000#32 0x00000000#32).qIssueAt .a ((wQuill 0x32410000#32 0x00000000#32).qAtPc .a) ((qForm 0x32).getD {}) : Nat)) := by decide

theorem wit_QuillProductsComplete_qSqrt15 : (((wQuill 0x33410000#32 0x00000000#32) : Dev).qReady (.a : Lane) 0x33 ((wQuill 0x33410000#32 0x00000000#32).qAtPc .a : QIns) ((qForm 0x33).getD {} : QForm) ((wQuill 0x33410000#32 0x00000000#32).qIssueAt .a ((wQuill 0x33410000#32 0x00000000#32).qAtPc .a) ((qForm 0x33).getD {}) : Nat)) := by decide

theorem wit_QuillMemoryAndControlComplete_qLd0 : (((wQuill 0x40400000#32 0x00000001#32) : Dev).qReady (.a : Lane) 0x40 ((wQuill 0x40400000#32 0x00000001#32).qAtPc .a : QIns) ((qForm 0x40).getD {} : QForm) ((wQuill 0x40400000#32 0x00000001#32).qIssueAt .a ((wQuill 0x40400000#32 0x00000001#32).qAtPc .a) ((qForm 0x40).getD {}) : Nat)) := by decide

theorem wit_QuillMemoryAndControlComplete_qLdx1 : (((wQuill 0x41410000#32 0x00000001#32) : Dev).qReady (.a : Lane) 0x41 ((wQuill 0x41410000#32 0x00000001#32).qAtPc .a : QIns) ((qForm 0x41).getD {} : QForm) ((wQuill 0x41410000#32 0x00000001#32).qIssueAt .a ((wQuill 0x41410000#32 0x00000001#32).qAtPc .a) ((qForm 0x41).getD {}) : Nat)) := by decide

theorem wit_QuillMemoryAndControlComplete_qSt2 : (((wQuill 0x42010000#32 0x00000001#32) : Dev).qReady (.a : Lane) 0x42 ((wQuill 0x42010000#32 0x00000001#32).qAtPc .a : QIns) ((qForm 0x42).getD {} : QForm) ((wQuill 0x42010000#32 0x00000001#32).qIssueAt .a ((wQuill 0x42010000#32 0x00000001#32).qAtPc .a) ((qForm 0x42).getD {}) : Nat)) := by decide

theorem wit_QuillMemoryAndControlComplete_qStx3 : (((wQuill 0x43011800#32 0x00000001#32) : Dev).qReady (.a : Lane) 0x43 ((wQuill 0x43011800#32 0x00000001#32).qAtPc .a : QIns) ((qForm 0x43).getD {} : QForm) ((wQuill 0x43011800#32 0x00000001#32).qIssueAt .a ((wQuill 0x43011800#32 0x00000001#32).qAtPc .a) ((qForm 0x43).getD {}) : Nat)) := by decide

theorem wit_QuillMemoryAndControlComplete_qBr4 : (((wQuill 0x50000000#32 0x00000001#32) : Dev).qReady (.a : Lane) 0x50 ((wQuill 0x50000000#32 0x00000001#32).qAtPc .a : QIns) ((qForm 0x50).getD {} : QForm) ((wQuill 0x50000000#32 0x00000001#32).qIssueAt .a ((wQuill 0x50000000#32 0x00000001#32).qAtPc .a) ((qForm 0x50).getD {}) : Nat)) := by decide

theorem wit_QuillMemoryAndControlComplete_qStage5 : (((wQuill 0x51010000#32 0x00000001#32) : Dev).qReady (.a : Lane) 0x51 ((wQuill 0x51010000#32 0x00000001#32).qAtPc .a : QIns) ((qForm 0x51).getD {} : QForm) ((wQuill 0x51010000#32 0x00000001#32).qIssueAt .a ((wQuill 0x51010000#32 0x00000001#32).qAtPc .a) ((qForm 0x51).getD {}) : Nat)) := by decide

theorem wit_QuillMemoryAndControlComplete_qMonw6 : (((wQuill 0x52010000#32 0x00000002#32) : Dev).qReady (.a : Lane) 0x52 ((wQuill 0x52010000#32 0x00000002#32).qAtPc .a : QIns) ((qForm 0x52).getD {} : QForm) ((wQuill 0x52010000#32 0x00000002#32).qIssueAt .a ((wQuill 0x52010000#32 0x00000002#32).qAtPc .a) ((qForm 0x52).getD {}) : Nat)) := by decide

theorem wit_QuillMemoryAndControlComplete_qExport7 : (((wQuill 0x53000000#32 0x00000000#32) : Dev).qReady (.a : Lane) 0x53 ((wQuill 0x53000000#32 0x00000000#32).qAtPc .a : QIns) ((qForm 0x53).getD {} : QForm) ((wQuill 0x53000000#32 0x00000000#32).qIssueAt .a ((wQuill 0x53000000#32 0x00000000#32).qAtPc .a) ((qForm 0x53).getD {}) : Nat)) := by decide

theorem wit_QuillMemoryAndControlComplete_qHalt8 : (((wQuill 0x5F000000#32 0x00000000#32) : Dev).qReady (.a : Lane) 0x5F ((wQuill 0x5F000000#32 0x00000000#32).qAtPc .a : QIns) ((qForm 0x5F).getD {} : QForm) ((wQuill 0x5F000000#32 0x00000000#32).qIssueAt .a ((wQuill 0x5F000000#32 0x00000000#32).qAtPc .a) ((qForm 0x5F).getD {}) : Nat)) := by decide

theorem wit_QuillRunsComplete_quillTrigger0 : ((wTrig : Dev).trigDue (.a : Lane) (0 : Fin 2) = true) ∧ ((((wTrig : Dev).tinkerQuill (.a : Lane)).quill.at (.a : Lane)).run = none) ∧ ((0 : Fin 2) = 0 ∨ ((wTrig : Dev).tinkerQuill (.a : Lane)).trigDue (.a : Lane) 0 = false) := by decide

theorem wit_QuillRunsComplete_quillTrigger1 : ((wTrig.onQuill .a fun u => { u with run := some 1 } : Dev).trigDue (.a : Lane) (0 : Fin 2) = true) ∧ ((((wTrig.onQuill .a fun u => { u with run := some 1 } : Dev).tinkerQuill (.a : Lane)).quill.at (.a : Lane)).run = some (1 : Fin 2)) ∧ ((((wTrig.onQuill .a fun u => { u with run := some 1 } : Dev).tinkerQuill (.a : Lane)).quill.at (.a : Lane)).held.any (fun x => x.entry == (0 : Fin 2)) = false) := by decide

theorem wit_QuillRunsComplete_quillTrigger2 : ((wTrig.onQuill .a fun u => { u with run := some 0, held := [{ entry := 0, tick := 5, regs := [], zero := 0 }] } : Dev).trigDue (.a : Lane) (0 : Fin 2) = true) ∧ ((((wTrig.onQuill .a fun u => { u with run := some 0, held := [{ entry := 0, tick := 5, regs := [], zero := 0 }] } : Dev).tinkerQuill (.a : Lane)).quill.at (.a : Lane)).run = some (0 : Fin 2)) ∧ ((((wTrig.onQuill .a fun u => { u with run := some 0, held := [{ entry := 0, tick := 5, regs := [], zero := 0 }] } : Dev).tinkerQuill (.a : Lane)).quill.at (.a : Lane)).held.any (fun x => x.entry == (0 : Fin 2)) = true) := by decide

theorem wit_QuillRunsComplete_runLimit4 : (((wQuill 0 0 : Dev).quill.at (.a : Lane)).run.isSome = true) ∧ (((wQuill 0 0 : Dev).quill.at (.a : Lane)).t0 + (wQuill 0 0 : Dev).gl (.a : Lane) (pgQUILL (.a : Lane)) R.QUILL_RUN_MAXCYC ≤ (wQuill 0 0 : Dev).now) := by decide

theorem wit_QuillRunsComplete_illegalOp5 : (((wQuill 0x14000000#32 0 : Dev).quill.at (.a : Lane)).run.isSome = true) ∧ (((wQuill 0x14000000#32 0 : Dev).quill.at (.a : Lane)).nextAt ≤ (wQuill 0x14000000#32 0 : Dev).now) ∧ (((wQuill 0x14000000#32 0 : Dev).quill.at (.a : Lane)).nextAt < ((wQuill 0x14000000#32 0 : Dev).quill.at (.a : Lane)).t0 + (wQuill 0x14000000#32 0 : Dev).gl (.a : Lane) (pgQUILL (.a : Lane)) R.QUILL_RUN_MAXCYC) ∧ (qLegal ((wQuill 0x14000000#32 0 : Dev).qAtPc (.a : Lane)) ((wQuill 0x14000000#32 0 : Dev).quill.at (.a : Lane)).pc = false) := by decide

theorem wit_QuillRunsComplete_lockstepQuill6 : ((wUp : Dev).up (.ctl (.b : Lane)) = true) ∧ ((((wUp : Dev).qCut (.b : Lane)).onQuill (.b : Lane) fun u => { u with cut := true, held := [] }).qShowHeld (.b : Lane) = (((wUp.qCut .b).onQuill .b fun u => { u with cut := true, held := [] }).qShowHeld .b : Dev)) := by decide

theorem wit_QuillRunsComplete_eccFatal7 : ((wUp : Dev).up (.ctl (.b : Lane)) = true) := by decide

theorem wit_QuillRunsComplete_eccFatal8 : ((wUp.onQuill .b fun u => { u with hold := [(3, 100, 200)] } : Dev).up (.ctl (.b : Lane)) = true) ∧ (((wUp.onQuill .b fun u => { u with hold := [(3, 100, 200)] } : Dev).quill.at (.b : Lane)).hold.any (fun h => h.1 == (3 : Fin 6)) = true) := by decide

theorem wit_QuillRunsComplete_coeffShiftWrite9 : ((wUp : Dev).target (rgQUILL + 0xC000 + 8 * (40 : Fin 1024).val + 4) = some (wTarget (rgQUILL + 0xC000 + 8 * 40 + 4) : Target)) ∧ ((wUp : Dev).accepts (.laneFw .a : Writer) (rgQUILL + 0xC000 + 8 * (40 : Fin 1024).val + 4) (3 : Word)) := by decide

theorem wit_QuillRunsComplete_progWindowWrite10 : ((wUp : Dev).target (rgQUILL + 8 * (9 : Fin 4096).val + 4 * (true : Bool).toNat) = some (wTarget (rgQUILL + 8 * 9 + 4) : Target)) ∧ ((wUp : Dev).accepts (.laneFw .a : Writer) (rgQUILL + 8 * (9 : Fin 4096).val + 4 * (true : Bool).toNat) (3 : Word)) := by decide

theorem wit_QuillRunsComplete_progSwap11 : ((wUp : Dev).accepts (.laneFw .a : Writer) (pageAddr (pgQUILL (.a : Lane)) 0x4C) ((wUp : Dev).fieldWord (.laneFw .a : Writer) (pgQUILL (.a : Lane)) R.QUILL_PROG_SWAP 1)) := by decide

theorem wit_QuillRunsComplete_progBankCheck12 : (((wUp.onQuill .a fun u => { u with swapAt := some 5 } : Dev).quill.at (.a : Lane)).swapAt.isSome = true) ∧ (((wUp.onQuill .a fun u => { u with swapAt := some 5 } : Dev).quill.at (.a : Lane)).swapCheck = none) := by decide

theorem wit_QuillRunsComplete_swapDone13 : (([Lane.a, Lane.b].filter fun l => ((wUp.onQuill .a fun u => { u with swapAt := some 5, swapCheck := some true }).onQuill .b fun u => { u with swapAt := some 5, swapCheck := some true } : Dev).up (.ctl l) && (((wUp.onQuill .a fun u => { u with swapAt := some 5, swapCheck := some true }).onQuill .b fun u => { u with swapAt := some 5, swapCheck := some true } : Dev).lanes.at l).role != .failed).isEmpty = false) ∧ ((([Lane.a, Lane.b].filter fun l => ((wUp.onQuill .a fun u => { u with swapAt := some 5, swapCheck := some true }).onQuill .b fun u => { u with swapAt := some 5, swapCheck := some true } : Dev).up (.ctl l) && (((wUp.onQuill .a fun u => { u with swapAt := some 5, swapCheck := some true }).onQuill .b fun u => { u with swapAt := some 5, swapCheck := some true } : Dev).lanes.at l).role != .failed).all fun l => ((wUp.onQuill .a fun u => { u with swapAt := some 5, swapCheck := some true }).onQuill .b fun u => { u with swapAt := some 5, swapCheck := some true } : Dev).swapDue l) = true) := by decide

/-- Lane A's Quill with an export too old to arrive, one at the last tick of its 2 us, and a newer one. -/
def wExports : Dev := wUp.onQuill .a fun u =>
  { u with sent := [wShadow, { wShadow with at' := wUp.now - 1000 }, { wShadow with entry := 1, at' := wUp.now }] }

theorem wit_QuillRunsComplete_shadowReceive14 : (((wExports.quill.at (.b : Lane).other).sent.filter fun x => decide (wExports.now ≤ x.at' + 1000)) = { wShadow with at' := wUp.now - 1000 } :: [{ wShadow with entry := 1, at' := wUp.now }]) ∧ ((wExports.link (.ctlCross (.b : Lane))).live = true) ∧ (wExports.up (.ctl (.b : Lane)) = true) := by decide

theorem wit_QuillRunsComplete_quillTrigger15 : ((wTrigs : Dev).trigDue (.a : Lane) 1 = true) ∧ ((((wTrigs : Dev).tinkerQuill (.a : Lane)).quill.at (.a : Lane)).run = none) ∧ (((wTrigs : Dev).tinkerQuill (.a : Lane)).trigDue (.a : Lane) 0 = true) := by decide

theorem wit_QuillRunsComplete_eccFatal16 : ((wUp : Dev).up (.ctl (.b : Lane)) = true) := by decide

theorem wit_GateCommandsComplete_gatePhaseEnd0 : (((wUp.onOut 3 fun x => { x with phase := .p1, phaseOn := true } : Dev).outs[(3 : Fin 14)]).phase = .p1) ∧ ((if ((wUp.onOut 3 fun x => { x with phase := .p1, phaseOn := true } : Dev).outs[(3 : Fin 14)]).phaseOn then (wUp.onOut 3 fun x => { x with phase := .p1, phaseOn := true } : Dev) else (wUp.onOut 3 fun x => { x with phase := .p1, phaseOn := true } : Dev).clampAt (3 : Fin 14) (200 : Nat)) = (wUp.onOut 3 fun x => { x with phase := .p1, phaseOn := true } : Dev)) ∧ (((wUp.onOut 3 fun x => { x with phase := .p1, phaseOn := true } : Dev).outs[(3 : Fin 14)]).reached (200 : Nat) ((wUp.onOut 3 fun x => { x with phase := .p1, phaseOn := true } : Dev).preLevel (3 : Fin 14)) = true) := by decide

theorem wit_GateCommandsComplete_gatePhaseEnd1 : (((wUp.onOut 3 fun x => { x with phase := .p2, phaseOn := true } : Dev).outs[(3 : Fin 14)]).phase = .p2) ∧ ((if ((wUp.onOut 3 fun x => { x with phase := .p2, phaseOn := true } : Dev).outs[(3 : Fin 14)]).phaseOn then (wUp.onOut 3 fun x => { x with phase := .p2, phaseOn := true } : Dev) else (wUp.onOut 3 fun x => { x with phase := .p2, phaseOn := true } : Dev).clampAt (3 : Fin 14) (200 : Nat)) = (wUp.onOut 3 fun x => { x with phase := .p2, phaseOn := true } : Dev)) ∧ (((wUp.onOut 3 fun x => { x with phase := .p2, phaseOn := true } : Dev).outs[(3 : Fin 14)]).reached (200 : Nat) ((wUp.onOut 3 fun x => { x with phase := .p2, phaseOn := true } : Dev).endLevel (3 : Fin 14)) = true ∨ ((wUp.onOut 3 fun x => { x with phase := .p2, phaseOn := true } : Dev).outs[(3 : Fin 14)]).p2At + (wUp.onOut 3 fun x => { x with phase := .p2, phaseOn := true } : Dev).outCfg (3 : Fin 14) R.GATE_GMON_PL_TMAX ≤ (wUp.onOut 3 fun x => { x with phase := .p2, phaseOn := true } : Dev).now) := by decide

theorem wit_GateCommandsComplete_gatePhaseEnd2 : (((wUp.onOut 3 fun x => { x with phase := .p3 } : Dev).outs[(3 : Fin 14)]).phase = .p3) ∧ ((if ((wUp.onOut 3 fun x => { x with phase := .p3 } : Dev).outs[(3 : Fin 14)]).phaseOn then (wUp.onOut 3 fun x => { x with phase := .p3 } : Dev) else (wUp.onOut 3 fun x => { x with phase := .p3 } : Dev).clampAt (3 : Fin 14) (0 : Nat)) = (Dev.clampAt (wUp.onOut 3 fun x => { x with phase := .p3 }) 3 0 : Dev)) ∧ ((true : Bool) = true) := by decide

theorem wit_GateCommandsComplete_halfFailed3 : (((wUp : Dev).dies[outDie (3 : Fin 14)]).powered = true) := by decide

theorem wit_GateCommandsComplete_desat4 : ((2 : Fin 14).val ≠ 13) ∧ ((wGateOn : Dev).outCfg (2 : Fin 14) R.GATE_OCFG_DESAT_EN = 1) ∧ (((wGateOn : Dev).outs[(2 : Fin 14)]).on = true ∨ ((wGateOn : Dev).outs[(2 : Fin 14)]).soft ≠ .none) ∧ (max ((wGateOn : Dev).now - (1000 : Nat)) (((wGateOn : Dev).outs[(2 : Fin 14)]).edgeAt + (wGateOn : Dev).outCfg (2 : Fin 14) R.GATE_DESAT_BLANK) + (wGateOn : Dev).outCfg (2 : Fin 14) R.GATE_DESAT_FLT ≤ (wGateOn : Dev).now) := by decide

theorem wit_GateCommandsComplete_plateauShort5 : ((2 : Fin 14).val ≠ 13) ∧ ((wGateOn : Dev).outCfg (2 : Fin 14) R.GATE_OCFG_PW_EN = 1) ∧ (((wGateOn : Dev).outs[(2 : Fin 14)]).phaseOn = true) ∧ (((wGateOn : Dev).outs[(2 : Fin 14)]).on = true ∨ ((wGateOn : Dev).outs[(2 : Fin 14)]).soft ≠ .none) ∧ ((true : Bool) = true) ∧ ((1 : Nat) < (wGateOn : Dev).outCfg (2 : Fin 14) R.GATE_PWATCH_MIN) := by decide

theorem wit_GateCommandsComplete_softTurnOffStep6 : (((wUp.onOut 3 fun x => { x with soft := .first } : Dev).outs[(3 : Fin 14)]).soft = .first) ∧ (((wUp.onOut 3 fun x => { x with soft := .first } : Dev).outs[(3 : Fin 14)]).softAt + ((wUp.onOut 3 fun x => { x with soft := .first } : Dev).clampAt (3 : Fin 14) (9 : Nat)).outCfg (3 : Fin 14) R.GATE_SOFT_SOFT_T ≤ ((wUp.onOut 3 fun x => { x with soft := .first } : Dev).clampAt (3 : Fin 14) (9 : Nat)).now) := by decide

theorem wit_GateCommandsComplete_softTurnOffStep7 : (((wUp.onOut 3 fun x => { x with soft := .second } : Dev).outs[(3 : Fin 14)]).soft = .second) ∧ ((true : Bool) = true) := by decide

theorem wit_GateCommandsComplete_gateMon8 : (((wUp.onOut 3 fun x => { x with phase := .p1 } : Dev).outs[(3 : Fin 14)]).phase ≠ .idle) ∧ (((wUp.onOut 3 fun x => { x with phase := .p1 } : Dev).outs[(3 : Fin 14)]).edgeAt + (wUp.onOut 3 fun x => { x with phase := .p1 } : Dev).outCfg (3 : Fin 14) R.GATE_GMON_GMON_T ≤ (wUp.onOut 3 fun x => { x with phase := .p1 } : Dev).now) := by decide

theorem wit_GateCommandsComplete_gateSupply9 : (((wGateOn : Dev).onOut (2 : Fin 14) fun x => if (1 : Nat) < (wGateOn : Dev).outCfg (2 : Fin 14) R.GATE_SUPMON_VPOS_WARN then { x with warn := true, bootOk := false } else { x with bootOk := x.bootOk || !x.warn }).bootOut (2 : Fin 14) = false) ∧ ((1 : Nat) < (wGateOn : Dev).outCfg (2 : Fin 14) R.GATE_SUPMON_VPOS_UV ∨ (0 < (wGateOn : Dev).outCfg (2 : Fin 14) R.GATE_SUPMON_VNEG_MIN ∧ (200 : Nat) < (wGateOn : Dev).outCfg (2 : Fin 14) R.GATE_SUPMON_VNEG_MIN)) := by decide

theorem wit_GateCommandsComplete_gateSupply10 : (((wBoot.onOut 2 fun x => { x with on := true, cfg := some (List.replicate 40 0xFFFFFFFF#32) } : Dev).onOut (2 : Fin 14) fun x => if (1 : Nat) < (wBoot.onOut 2 fun x => { x with on := true, cfg := some (List.replicate 40 0xFFFFFFFF#32) } : Dev).outCfg (2 : Fin 14) R.GATE_SUPMON_VPOS_WARN then { x with warn := true, bootOk := false } else { x with bootOk := x.bootOk || !x.warn }).bootOut (2 : Fin 14) = true) ∧ (outLeg (2 : Fin 14) = some (2 : Fin 6)) ∧ ((1 : Nat) < (wBoot.onOut 2 fun x => { x with on := true, cfg := some (List.replicate 40 0xFFFFFFFF#32) } : Dev).outCfg (2 : Fin 14) R.GATE_SUPMON_VPOS_UV) := by decide

theorem wit_GateCommandsComplete_ascDlyExpiry12 : (((wAsc.onBridge 0 fun b => { b with moved := true } : Dev).bridges[(0 : Fin 2)]).waitHigh = some (false : Bool)) ∧ ((wAsc.onBridge 0 fun b => { b with moved := true } : Dev).ascByDly (0 : Fin 2) = true) ∧ ((wAsc.onBridge 0 fun b => { b with moved := true } : Dev).ascMoving (0 : Fin 2) = false) ∧ ((wAsc.onBridge 0 fun b => { b with moved := true } : Dev).sidePermitted (0 : Fin 2) (false : Bool) = true) := by decide

theorem wit_GateCommandsComplete_chopLevelHold13 : (((wUp.onProt .a fun x => { x with chHeld := some true } : Dev).prot.at (.a : Lane)).chHeld = some (true : Bool)) ∧ (((wUp.onProt .a fun x => { x with chHeld := some true } : Dev).prot.at (.a : Lane)).chAt + 1000 ≤ (wUp.onProt .a fun x => { x with chHeld := some true } : Dev).now) := by decide

theorem wit_GateCommandsComplete_driverLinkTimeout14 : ((((wLost : Dev).mods.at (.a : Lane)).masters[(1 : Fin 8)]).startAt = some (7 : Nat)) ∧ ((7 : Nat) + 500000 ≤ (wLost : Dev).now) ∧ (((dieOuts (1 : Fin 8)).any fun o => (wLost : Dev).g pgGATE R.GATE_OCFG_EN o == 1) = true) ∧ (((wLost : Dev).link (.drvMaster (.a : Lane) (1 : Fin 8))).live = false) := by decide

theorem wit_GateCommandsComplete_dclinkComparator15 : ((wUp : Dev).up (.ctl (.b : Lane)) = true) := by decide

theorem wit_GateCommandsComplete_chopCurrentCheck16 : ((wUp.onProt .a fun x => { x with chOn := true, chAt := wUp.now - 5000 } : Dev).up (.ctl (.a : Lane)) = true) ∧ (((wUp.onProt .a fun x => { x with chOn := true, chAt := wUp.now - 5000 } : Dev).prot.at (.a : Lane)).chOn = true) ∧ (((wUp.onProt .a fun x => { x with chOn := true, chAt := wUp.now - 5000 } : Dev).prot.at (.a : Lane)).chAt < (wUp.onProt .a fun x => { x with chOn := true, chAt := wUp.now - 5000 } : Dev).now) ∧ (((wUp.onProt .a fun x => { x with chOn := true, chAt := wUp.now - 5000 } : Dev).now - ((wUp.onProt .a fun x => { x with chOn := true, chAt := wUp.now - 5000 } : Dev).prot.at (.a : Lane)).chAt) % 5000 = 0) ∧ (((wUp.onProt .a fun x => { x with chOn := true, chAt := wUp.now - 5000 } : Dev).jobCfg (.a : Lane) 0).getLsbD 31 = false) := by decide

theorem wit_GateCommandsComplete_chopEnergyUpdate17 : (((wUp.onProt .a fun x => { x with volt := some 900 } : Dev).prot.at (.a : Lane)).chFrom + 5000 ≤ (wUp.onProt .a fun x => { x with volt := some 900 } : Dev).now) ∧ (((wUp.onProt .a fun x => { x with volt := some 900 } : Dev).prot.at (.a : Lane)).volt = some (900 : Nat)) ∧ (((wUp.onProt .a fun x => { x with volt := some 900 } : Dev).onProt (.a : Lane) fun p => { p with chFrom := p.chFrom + 5000, chTicks := p.chTicks - ((wUp.onProt .a fun x => { x with volt := some 900 } : Dev).prot.at (.a : Lane)).onTicks }) = ((wUp.onProt .a fun x => { x with volt := some 900 }).onProt .a fun p => { p with chFrom := p.chFrom + 5000, chTicks := p.chTicks - 0 } : Dev)) := by decide

theorem wit_GateCommandsComplete_dischargeTimeout18 : ((wDischarge : Dev).mode.cur = .discharge) ∧ ((wDischarge : Dev).mode.dischargeAt + (wDischarge : Dev).g pgPROT R.PROT_DISCH_TMAX * 500000 ≤ (wDischarge : Dev).now) ∧ ((wDischarge : Dev).dcDead = false) := by decide

theorem wit_GateConfigAndClearsComplete_gateConfigBlock0 : ((wUp : Dev).dieUp (.a : Lane) false = true) := by decide

set_option maxRecDepth 100000 in
theorem wit_GateConfigAndClearsComplete_configBlockApply1 : (((wUp.onDie 2 fun x => { x with ports := { a := { x.ports.a with staged := some [1] }, b := { x.ports.b with staged := some [1] } } }) : Dev).agreedBlock (2 : Fin 8) = some ([1] : List Word)) := by decide

set_option maxRecDepth 100000 in
theorem wit_GateConfigAndClearsComplete_configMismatchTimeout2 : ((((wUp.onDie 2 fun x => { x with ports := { a := { x.ports.a with staged := some [1] }, b := { x.ports.b with staged := some [2] } } }) : Dev).dies[(2 : Fin 8)]).ports.a.staged = some ([1] : List Word)) ∧ ((((wUp.onDie 2 fun x => { x with ports := { a := { x.ports.a with staged := some [1] }, b := { x.ports.b with staged := some [2] } } }) : Dev).dies[(2 : Fin 8)]).ports.b.staged = some ([2] : List Word)) ∧ (crc32cWords ([1] : List Word) ≠ crc32cWords ([2] : List Word)) ∧ (max (((wUp.onDie 2 fun x => { x with ports := { a := { x.ports.a with staged := some [1] }, b := { x.ports.b with staged := some [2] } } }) : Dev).dies[(2 : Fin 8)]).ports.a.stagedAt (((wUp.onDie 2 fun x => { x with ports := { a := { x.ports.a with staged := some [1] }, b := { x.ports.b with staged := some [2] } } }) : Dev).dies[(2 : Fin 8)]).ports.b.stagedAt + 500000 ≤ ((wUp.onDie 2 fun x => { x with ports := { a := { x.ports.a with staged := some [1] }, b := { x.ports.b with staged := some [2] } } }) : Dev).now) := by decide

theorem wit_GateConfigAndClearsComplete_clearShort3 : ((wUp : Dev).accepts (.laneFw .a : Writer) (pageAddr pgPROT 0x6C) (BitVec.ofNat 32 (5 : Fin 16384).val)) := by decide

theorem wit_GateConfigAndClearsComplete_clearHalfFailed4 : (({ (wUp : Dev) with boot := { (wUp : Dev).boot with given := some ({ noFacts with halves := (5 : Fin 16384).val }) } }).accepts (.laneFw .a : Writer) (pageAddr pgPROT 0x6C) (BitVec.ofNat 32 (0x10000 + (5 : Fin 16384).val))) := by decide

theorem wit_GateConfigAndClearsComplete_clearGateMon5 : ((wUp : Dev).accepts (.laneFw .a : Writer) (pageAddr pgPROT 0x6C) (BitVec.ofNat 32 (0x20000 + (5 : Fin 16384).val))) := by decide

theorem wit_GateConfigAndClearsComplete_clearGateSupply6 : ((wUp : Dev).accepts (.laneFw .a : Writer) (pageAddr pgPROT 0x6C) (BitVec.ofNat 32 (0x30000 + (5 : Fin 16384).val))) := by decide

theorem wit_LaneCommandsComplete_lockstepCpu0 : ((wUp : Dev).up (.ctl (.b : Lane)) = true) := by decide

theorem wit_LaneCommandsComplete_inputDisagree1 : ((if (true : Bool) then (wHeld : Dev).up (.iface (.b : Lane)) else (wHeld : Dev).up (.ctl (.b : Lane))) = true) ∧ ((true : Bool) = true) ∧ (([] : List HeldChange) = ((((wHeld : Dev).lanes.at (.b : Lane)).heldIn.filter fun h => h.1 == ((true : Bool), (.hvil : PairInput))).map fun h => h.2)) := by decide

theorem wit_LaneCommandsComplete_cpuEccFatal2 : ((wUp : Dev).up (.ctl (.b : Lane)) = true) := by decide

theorem wit_LaneCommandsComplete_cpuEccCorr3 : ((wUp : Dev).up (.ctl (.b : Lane)) = true) := by decide

theorem wit_LaneCommandsComplete_laneSwitch4 : ((wUp : Dev).accepts (.laneFw .a : Writer) (pageAddr pgLANE 0x44) (keyWord 0x5C 1)) ∧ ((wUp : Dev).handover = none) ∧ ((wUp : Dev).active = some (.a : Lane)) ∧ (((wUp : Dev).lanes.at (.a : Lane).other).role = .standby) ∧ (((wUp : Dev).lanes.at (.a : Lane).other).eligible = true) ∧ (((wUp : Dev).link (.ctlCross .a)).live = true) ∧ (((wUp : Dev).link (.ctlCross .b)).live = true) := by decide

theorem wit_LaneCommandsComplete_laneSelftest5 : (({ ({ wUp with mode := { wUp.mode with cur := .maintenance } } : Dev) with boot := { ({ wUp with mode := { wUp.mode with cur := .maintenance } } : Dev).boot with given := some ({ noFacts with passA := (true : Bool), passB := (true : Bool) }) } }).accepts (.laneFw .a : Writer) (pageAddr pgLANE 0x44) (keyWord 0x5C 2)) ∧ (({ wUp with mode := { wUp.mode with cur := .maintenance } } : Dev).mode.cur = .maintenance) := by decide

theorem wit_LaneCommandsComplete_laneRejoin6 : ((wUp.onLane .b fun x => { x with role := .failed } : Dev).accepts (.laneFw .a : Writer) (pageAddr pgLANE 0x44) (keyWord 0x5C 3)) ∧ (((wUp.onLane .b fun x => { x with role := .failed } : Dev).lanes.at .b).role = .failed) ∧ (((wUp.onLane .b fun x => { x with role := .failed } : Dev).lanes.at .a).role ≠ .failed) := by decide

theorem wit_LaneCommandsComplete_handover7 : (({ wUp with handover := some { tick := 5, lane := .b, cmd := true } } : Dev).handover = some ({ tick := 5, lane := .b, cmd := true } : Handover)) ∧ (({ tick := 5, lane := .b, cmd := true } : Handover).tick ≤ ({ wUp with handover := some { tick := 5, lane := .b, cmd := true } } : Dev).now) ∧ ((({ wUp with handover := some { tick := 5, lane := .b, cmd := true } } : Dev).lanes.at ({ tick := 5, lane := .b, cmd := true } : Handover).lane).role = .standby) := by decide

theorem wit_LaneCommandsComplete_silentWithdrawal8 : (((wUp.onLane .b fun x => { x with role := .failed, withdrawAt := some 5 } : Dev).lanes.at (.b : Lane)).role = .failed) ∧ (((wUp.onLane .b fun x => { x with role := .failed, withdrawAt := some 5 } : Dev).lanes.at (.b : Lane)).withdrawAt.isSome = true) := by decide

theorem wit_LaneCommandsComplete_laneDownSymbol9 : ((wUp.onLane .b fun x => { x with role := .failed } : Dev).inputHeld (.b : Lane) false .frame = false) ∧ (((wUp.onLane .b fun x => { x with role := .failed } : Dev).lanes.at (.b : Lane)).role = .failed) ∧ (((wUp.onLane .b fun x => { x with role := .failed } : Dev).lanes.at (.b : Lane)).silent = false) ∧ ((wUp.onLane .b fun x => { x with role := .failed } : Dev).isoUp (.b : Lane) = true) := by decide

theorem wit_LaneCommandsComplete_survivorActive10 : ((((wUp.onLane .a fun x => { x with role := .failed }).onDie 2 fun x => { x with activePort := some .b } : Dev).lanes.at (.b : Lane)).role = .standby) ∧ ((((wUp.onLane .a fun x => { x with role := .failed }).onDie 2 fun x => { x with activePort := some .b } : Dev).dies[(2 : Fin 8)]).activePort = some (.b : Lane)) ∧ ((((wUp.onLane .a fun x => { x with role := .failed }).onDie 2 fun x => { x with activePort := some .b } : Dev).lanes.at (.b : Lane).other).role = .failed ∨ (((wUp.onLane .a fun x => { x with role := .failed }).onDie 2 fun x => { x with activePort := some .b } : Dev).lanes.at (.b : Lane).other).role = .down) := by decide

theorem wit_LaneCommandsComplete_survivorActive11 : (((wUp : Dev).lanes.at (.a : Lane)).role ≠ .standby) ∧ (((wUp : Dev).dies[(2 : Fin 8)]).activePort = some (.a : Lane)) := by decide

theorem wit_LaneCommandsComplete_peerReset13 : (((wUp.s pgLANE R.LANE_CFG_AUTORESET 1).onLane .b fun x => { x with role := .failed } : Dev).g pgLANE R.LANE_CFG_AUTORESET = 1) ∧ ((((wUp.s pgLANE R.LANE_CFG_AUTORESET 1).onLane .b fun x => { x with role := .failed } : Dev).lanes.at (.b : Lane)).failedAt + ((wUp.s pgLANE R.LANE_CFG_AUTORESET 1).onLane .b fun x => { x with role := .failed } : Dev).g pgLANE R.LANE_CFG_HOLDOFF * 500000 ≤ ((wUp.s pgLANE R.LANE_CFG_AUTORESET 1).onLane .b fun x => { x with role := .failed } : Dev).now) ∧ (((wUp.s pgLANE R.LANE_CFG_AUTORESET 1).onLane .b fun x => { x with role := .failed } : Dev).laneFailed (.b : Lane) = true) ∧ (((wUp.s pgLANE R.LANE_CFG_AUTORESET 1).onLane .b fun x => { x with role := .failed } : Dev).laneRuns (.b : Lane).other = true) := by decide

theorem wit_LaneCommandsComplete_laneRejoined14 : (((wUp.onLane .b fun x => { x with rejoining := true, rejoinCnt := 100000, role := .down } : Dev).lanes.at (.b : Lane)).rejoining = true) ∧ ((wUp.onLane .b fun x => { x with rejoining := true, rejoinCnt := 100000, role := .down } : Dev).g pgLANE R.LANE_CFG_REJOIN_N ≤ ((wUp.onLane .b fun x => { x with rejoining := true, rejoinCnt := 100000, role := .down } : Dev).lanes.at (.b : Lane)).rejoinCnt) ∧ ((wUp.onLane .b fun x => { x with rejoining := true, rejoinCnt := 100000, role := .down } : Dev).eligOk (.b : Lane) = true) := by decide

theorem wit_LaneCommandsComplete_stateShadowSend15 : (((wUp : Dev).lanes.at (.a : Lane)).role = .active) ∧ (((wUp : Dev).link (.ctlCross (.a : Lane).other)).live = true) := by decide

theorem wit_LaneCommandsComplete_stateShadowReceive16 : ((wUp : Dev).inputHeld (.b : Lane) false .frame = false) ∧ ((wUp : Dev).follows (.b : Lane) = true) ∧ (((wUp : Dev).link (.ctlCross (.b : Lane))).live = true) := by decide

theorem wit_LaneCommandsComplete_edgeStreamCompare17 : ((wUp.s pgLANE R.LANE_ECMP_EN 1 : Dev).ctlCrossed = true) ∧ ((wUp.s pgLANE R.LANE_ECMP_EN 1 : Dev).g pgLANE R.LANE_ECMP_EN ≠ 0) ∧ (([] : List StreamEdge) = ((wUp.s pgLANE R.LANE_ECMP_EN 1 : Dev).lanes.a.stream ++ (wUp.s pgLANE R.LANE_ECMP_EN 1 : Dev).lanes.b.stream).filter (wUp.s pgLANE R.LANE_ECMP_EN 1 : Dev).periodOver) ∧ (((wUp.s pgLANE R.LANE_ECMP_EN 1, true) : Dev × Bool) = ((wUp.s pgLANE R.LANE_ECMP_EN 1 : Dev).periodsOf ([] : List StreamEdge)).foldl (wUp.s pgLANE R.LANE_ECMP_EN 1 : Dev).periodJudged ((wUp.s pgLANE R.LANE_ECMP_EN 1 : Dev), true)) := by decide

theorem wit_LaneCommandsComplete_debugHalt18 : (({ wUp with host := { wUp.host with debugOwner := true } } : Dev).inputHeld (.a : Lane) false .debug = false) ∧ (({ wUp with host := { wUp.host with debugOwner := true } } : Dev).debugReaches (.a : Lane) = true) ∧ ((true : Bool) = true → ({ wUp with host := { wUp.host with debugOwner := true } } : Dev).modeIs [.standby, .maintenance] = true) := by decide

theorem wit_LaneCommandsComplete_debugAction19 : ((({ wUp with host := { wUp.host with debugOwner := true } } : Dev).onLane .a fun x => { x with haltedQuill := true, halted := true } : Dev).inputHeld (.a : Lane) false .debug = false) ∧ ((({ wUp with host := { wUp.host with debugOwner := true } } : Dev).onLane .a fun x => { x with haltedQuill := true, halted := true } : Dev).debugReaches (.a : Lane) = true) ∧ (((({ wUp with host := { wUp.host with debugOwner := true } } : Dev).onLane .a fun x => { x with haltedQuill := true, halted := true } : Dev).lanes.at (.a : Lane)).haltedQuill = true) ∧ ((({ wUp with host := { wUp.host with debugOwner := true } } : Dev).onLane .a fun x => { x with haltedQuill := true, halted := true } : Dev).modeIs [.standby, .maintenance] = true) ∧ (((({ wUp with host := { wUp.host with debugOwner := true } } : Dev).onLane .a fun x => { x with haltedQuill := true, halted := true } : Dev).quill.at (.a : Lane)).run = none) := by decide

theorem wit_LaneCommandsComplete_debugAction20 : ((({ wUp with host := { wUp.host with debugOwner := true } } : Dev).onLane .a fun x => { x with haltedQuill := true, halted := true } : Dev).inputHeld (.a : Lane) false .debug = false) ∧ ((({ wUp with host := { wUp.host with debugOwner := true } } : Dev).onLane .a fun x => { x with haltedQuill := true, halted := true } : Dev).debugReaches (.a : Lane) = true) ∧ (((({ wUp with host := { wUp.host with debugOwner := true } } : Dev).onLane .a fun x => { x with haltedQuill := true, halted := true } : Dev).lanes.at (.a : Lane)).halted = true) := by decide

theorem wit_LaneCommandsComplete_inputDisagree21 : ((if (false : Bool) then (wUp : Dev).up (.iface (.b : Lane)) else (wUp : Dev).up (.ctl (.b : Lane))) = true) ∧ ((false : Bool) = false) ∧ ((match ((wUp : Dev).lanes.at (.b : Lane)).disagree.find? (fun p => p.1 == ((false : Bool), (.frame : PairInput))) with | some p => p.2 + 1 | none => 0) = (0 : Nat)) ∧ (((wUp : Dev).onLane (.b : Lane) fun y => { y with disagree := (((false : Bool), (.frame : PairInput)), (0 : Nat)) :: y.disagree.filter fun p => p.1 != ((false : Bool), (.frame : PairInput)) }) = (wUp.onLane .b fun y => { y with disagree := [((false, .frame), 0)] } : Dev)) := by decide

theorem wit_LaneCommandsComplete_debugAction22 : (({ wUp with host := { wUp.host with debugOwner := true } } : Dev).inputHeld (.a : Lane) false .debug = false) ∧ (({ wUp with host := { wUp.host with debugOwner := true } } : Dev).debugReaches (.a : Lane) = true) := by decide

theorem wit_LaneCommandsComplete_debugAction23 : (({ wUp with host := { wUp.host with debugOwner := true } } : Dev).inputHeld (.a : Lane) false .debug = false) ∧ (({ wUp with host := { wUp.host with debugOwner := true } } : Dev).debugReaches (.a : Lane) = true) := by decide

theorem wit_LaneCommandsComplete_debugAction24 : ((wHeld : Dev).inputHeld (.a : Lane) false .debug = true) := by decide

theorem wit_SafetyIslandCommandsComplete_safetyCycleEnd0 : ((wUp : Dev).islandOn (.a : Lane) = true) ∧ ((wUp : Dev).now % 125000 = 0) := by decide

theorem wit_SafetyIslandCommandsComplete_decisionWordReceive1 : (((wUp.onIsland .a fun x => { x with decided := some wWord, decidedAt := 7 }).onIsland .b fun x => { x with decided := some wWord, decidedAt := 7 } : Dev).inputHeld (.a : Lane) true .frame = false) ∧ (((wUp.onIsland .a fun x => { x with decided := some wWord, decidedAt := 7 }).onIsland .b fun x => { x with decided := some wWord, decidedAt := 7 } : Dev).islandOn (.a : Lane) = true) ∧ (((wUp.onIsland .a fun x => { x with decided := some wWord, decidedAt := 7 }).onIsland .b fun x => { x with decided := some wWord, decidedAt := 7 } : Dev).partnerOn (.a : Lane) = true) ∧ (((wUp.onIsland .a fun x => { x with decided := some wWord, decidedAt := 7 }).onIsland .b fun x => { x with decided := some wWord, decidedAt := 7 } : Dev).decisionMeets (.a : Lane) (wWord : DecisionWord) = true) := by decide

theorem wit_SafetyIslandCommandsComplete_decisionWordReceive2 : ((wHeld : Dev).inputHeld (.a : Lane) true .frame = true) := by decide

theorem wit_SafetyIslandCommandsComplete_islandLockstep3 : ((wUp : Dev).islandOn (.a : Lane) = true) := by decide

theorem wit_SafetyIslandCommandsComplete_activeValueRelay4 : ((wUp : Dev).inputHeld (.a : Lane) true .frame = false) ∧ ((wUp : Dev).up (.iface (.a : Lane)) = true) ∧ ((wUp : Dev).active = some (.a : Lane)) ∧ ((wUp : Dev).relayArrives (.a : Lane) = true) := by decide

theorem wit_SafetyIslandCommandsComplete_activeValueRelay5 : ((wUp : Dev).inputHeld (.a : Lane) true .frame = false) ∧ ((wUp : Dev).up (.iface (.a : Lane)) = true) ∧ ((wUp : Dev).active = some (.a : Lane)) ∧ ((wUp : Dev).relayArrives (.a : Lane) = true) ∧ ((1#22 : BitVec 22) ≠ 0) := by decide

theorem wit_SafetyIslandCommandsComplete_safetyDegradedTimeout6 : ((({ (wUp.onIsland .a fun x => { x with degradedAt := some 0 }).sl .a (pgSAFE .a) R.SAFE_CFG_DEGR 1 with now := 40000000000000 } : Dev).islands.at (.a : Lane)).degradedAt = some (0 : Nat)) ∧ (({ (wUp.onIsland .a fun x => { x with degradedAt := some 0 }).sl .a (pgSAFE .a) R.SAFE_CFG_DEGR 1 with now := 40000000000000 } : Dev).islandOn (.a : Lane) = true) ∧ (({ (wUp.onIsland .a fun x => { x with degradedAt := some 0 }).sl .a (pgSAFE .a) R.SAFE_CFG_DEGR 1 with now := 40000000000000 } : Dev).gl (.a : Lane) (pgSAFE (.a : Lane)) R.SAFE_CFG_DEGR = 1) ∧ ((0 : Nat) + ({ (wUp.onIsland .a fun x => { x with degradedAt := some 0 }).sl .a (pgSAFE .a) R.SAFE_CFG_DEGR 1 with now := 40000000000000 } : Dev).gl (.a : Lane) (pgSAFE (.a : Lane)) R.SAFE_CFG_DEGR_T * 30000000000 ≤ ({ (wUp.onIsland .a fun x => { x with degradedAt := some 0 }).sl .a (pgSAFE .a) R.SAFE_CFG_DEGR 1 with now := 40000000000000 } : Dev).now) := by decide

theorem wit_SafetyIslandCommandsComplete_stoDiscrepancy7 : (((wUp.onIsland .a fun x => { x with stoDiffAt := some 0 } : Dev).islands.at (.a : Lane)).stoDiffAt = some (0 : Nat)) ∧ ((wUp.onIsland .a fun x => { x with stoDiffAt := some 0 } : Dev).islandOn (.a : Lane) = true) ∧ ((0 : Nat) + (wUp.onIsland .a fun x => { x with stoDiffAt := some 0 } : Dev).gl (.a : Lane) (pgSAFE (.a : Lane)) R.SAFE_STO_DISC * 500000 ≤ (wUp.onIsland .a fun x => { x with stoDiffAt := some 0 } : Dev).now) := by decide

theorem wit_SafetyIslandCommandsComplete_sdinChange8 : ((wUp : Dev).up (.iface (.b : Lane)) = true) ∧ ((wUp : Dev).inputHeld (.b : Lane) true (.sdi (1 : Fin 2)) = false) ∧ ((wUp : Dev).gl (.b : Lane) (pgSAFE (.b : Lane)) R.SAFE_SDIN_FILT (1 : Fin 2).val * 50000 ≤ (5000000 : Nat)) := by decide

theorem wit_SafetyIslandCommandsComplete_sdinChange9 : ((wHeld : Dev).up (.iface (.b : Lane)) = true) ∧ ((wHeld : Dev).inputHeld (.b : Lane) true (.sdi (1 : Fin 2)) = true) ∧ ((wHeld : Dev).gl (.b : Lane) (pgSAFE (.b : Lane)) R.SAFE_SDIN_FILT (1 : Fin 2).val * 50000 ≤ (5000000 : Nat)) := by decide

theorem wit_SafetyIslandCommandsComplete_sdinDiscrepancy10 : (((wUp.onIsland .a fun x => { x with sdiBadAt := [some 0, none] } : Dev).islands.at (.a : Lane)).sdiBadAt.getD (0 : Fin 2).val none = some (0 : Nat)) ∧ ((wUp.onIsland .a fun x => { x with sdiBadAt := [some 0, none] } : Dev).islandOn (.a : Lane) = true) ∧ ((0 : Nat) + (wUp.onIsland .a fun x => { x with sdiBadAt := [some 0, none] } : Dev).gl (.a : Lane) (pgSAFE (.a : Lane)) R.SAFE_SDIN_DISC (0 : Fin 2).val * 500000 < (wUp.onIsland .a fun x => { x with sdiBadAt := [some 0, none] } : Dev).now) := by decide

theorem wit_SafetyIslandCommandsComplete_safeRequest11 : ((wUp : Dev).accepts (.laneFw .a : Writer) (pageAddr (pgSAFE (.b : Lane)) 0x48) (1 : Word)) := by decide

theorem wit_SafetyIslandCommandsComplete_safeAck12 : ((wUp : Dev).accepts (.laneFw .a : Writer) (pageAddr (pgSAFE (.b : Lane)) 0x4C) (BitVec.ofNat 32 (0xA5 : Fin 256).val)) := by decide

theorem wit_SafetyIslandCommandsComplete_safeStopRequest13 : (((wUp.onSafeAx .a 1 fun a => { a with stopReq := true }).sl .a (pgSAFE .a) R.SAFE_ASTATE_STATE 3 1 : Dev).islandOn (.a : Lane) = true) ∧ (((((wUp.onSafeAx .a 1 fun a => { a with stopReq := true }).sl .a (pgSAFE .a) R.SAFE_ASTATE_STATE 3 1 : Dev).islands.at (.a : Lane)).ax (1 : Fin 2)).stopReq = true) ∧ (((wUp.onSafeAx .a 1 fun a => { a with stopReq := true }).sl .a (pgSAFE .a) R.SAFE_ASTATE_STATE 3 1 : Dev).safeState (.a : Lane) (1 : Fin 2) = 3) := by decide

theorem wit_SafetyIslandCommandsComplete_safeStopRequest14 : (((wUp.onSafeAx .a 1 fun a => { a with stopReq := true }).sl .a (pgSAFE .a) R.SAFE_ASTATE_STATE 2 1 : Dev).islandOn (.a : Lane) = true) ∧ (((((wUp.onSafeAx .a 1 fun a => { a with stopReq := true }).sl .a (pgSAFE .a) R.SAFE_ASTATE_STATE 2 1 : Dev).islands.at (.a : Lane)).ax (1 : Fin 2)).stopReq = true) ∧ (((wUp.onSafeAx .a 1 fun a => { a with stopReq := true }).sl .a (pgSAFE .a) R.SAFE_ASTATE_STATE 2 1 : Dev).safeState (.a : Lane) (1 : Fin 2) = 2) := by decide

theorem wit_SafetyIslandCommandsComplete_ssDelayExpiry15 : (({ wUp.sl .a (pgSAFE .a) R.SAFE_ASTATE_STATE 3 1 with now := 5000000000 } : Dev).islandOn (.a : Lane) = true) ∧ (((({ wUp.sl .a (pgSAFE .a) R.SAFE_ASTATE_STATE 3 1 with now := 5000000000 } : Dev).islands.at (.a : Lane)).ax (1 : Fin 2)).t0 + ({ wUp.sl .a (pgSAFE .a) R.SAFE_ASTATE_STATE 3 1 with now := 5000000000 } : Dev).sf (.a : Lane) (1 : Fin 2) R.SAFE_SS_DELAY * 500000 ≤ ({ wUp.sl .a (pgSAFE .a) R.SAFE_ASTATE_STATE 3 1 with now := 5000000000 } : Dev).now) ∧ (({ wUp.sl .a (pgSAFE .a) R.SAFE_ASTATE_STATE 3 1 with now := 5000000000 } : Dev).safeState (.a : Lane) (1 : Fin 2) = 3) := by decide

theorem wit_SafetyIslandCommandsComplete_ssDelayExpiry16 : (({ wUp.sl .a (pgSAFE .a) R.SAFE_ASTATE_STATE 2 1 with now := 5000000000 } : Dev).islandOn (.a : Lane) = true) ∧ (((({ wUp.sl .a (pgSAFE .a) R.SAFE_ASTATE_STATE 2 1 with now := 5000000000 } : Dev).islands.at (.a : Lane)).ax (1 : Fin 2)).t0 + ({ wUp.sl .a (pgSAFE .a) R.SAFE_ASTATE_STATE 2 1 with now := 5000000000 } : Dev).sf (.a : Lane) (1 : Fin 2) R.SAFE_SS_DELAY * 500000 ≤ ({ wUp.sl .a (pgSAFE .a) R.SAFE_ASTATE_STATE 2 1 with now := 5000000000 } : Dev).now) ∧ (({ wUp.sl .a (pgSAFE .a) R.SAFE_ASTATE_STATE 2 1 with now := 5000000000 } : Dev).safeState (.a : Lane) (1 : Fin 2) = 2) := by decide

theorem wit_SafetyIslandCommandsComplete_isecSample17 : ((wUp.sl .a pgASSAY R.ASSAY_CFG_EN 1 : Dev).islandOn (.a : Lane) = true) ∧ ((wUp.sl .a pgASSAY R.ASSAY_CFG_EN 1 : Dev).now % 5000 = 0) ∧ ((wUp.sl .a pgASSAY R.ASSAY_CFG_EN 1 : Dev).gl (.a : Lane) pgASSAY R.ASSAY_CFG_EN ≠ 0) := by decide

theorem wit_SafetyIslandCommandsComplete_sbcEngage18 : ((wUp.sl .a (pgSAFE .a) R.SAFE_REQ_BRAKE 1 : Dev).up (.iface (.a : Lane)) = true) ∧ ((wUp.sl .a (pgSAFE .a) R.SAFE_REQ_BRAKE 1 : Dev).gl (.a : Lane) (pgSAFE (.a : Lane)) R.SAFE_REQ_BRAKE = 1 ∨ ((wUp.sl .a (pgSAFE .a) R.SAFE_REQ_BRAKE 1 : Dev).islands.at (.a : Lane)).pduBrake = true ∨ ((wUp.sl .a (pgSAFE .a) R.SAFE_REQ_BRAKE 1 : Dev).islands.at (.a : Lane)).brakeAsked = true ∨ ((wUp.sl .a (pgSAFE .a) R.SAFE_REQ_BRAKE 1 : Dev).islands.at (.a : Lane)).inService = false) := by decide

theorem wit_SafetyIslandCommandsComplete_sbcEngage19 : (((wUp.sl .a (pgSAFE .a) R.SAFE_SBC_AXES 2).sl .a (pgSAFE .a) R.SAFE_ASTATE_STATE 4 1 : Dev).up (.iface (.a : Lane)) = true) ∧ (((wUp.sl .a (pgSAFE .a) R.SAFE_SBC_AXES 2).sl .a (pgSAFE .a) R.SAFE_ASTATE_STATE 4 1 : Dev).gl (.a : Lane) (pgSAFE (.a : Lane)) R.SAFE_SBC_AXES / 2 ^ (1 : Fin 2).val % 2 = 1) ∧ (((wUp.sl .a (pgSAFE .a) R.SAFE_SBC_AXES 2).sl .a (pgSAFE .a) R.SAFE_ASTATE_STATE 4 1 : Dev).safeState (.a : Lane) (1 : Fin 2) = 4) ∧ (((((wUp.sl .a (pgSAFE .a) R.SAFE_SBC_AXES 2).sl .a (pgSAFE .a) R.SAFE_ASTATE_STATE 4 1 : Dev).islands.at (.a : Lane)).ax (1 : Fin 2)).t0 + ((wUp.sl .a (pgSAFE .a) R.SAFE_SBC_AXES 2).sl .a (pgSAFE .a) R.SAFE_ASTATE_STATE 4 1 : Dev).gl (.a : Lane) (pgSAFE (.a : Lane)) R.SAFE_SBC_DLY * 5000000 ≤ ((wUp.sl .a (pgSAFE .a) R.SAFE_SBC_AXES 2).sl .a (pgSAFE .a) R.SAFE_ASTATE_STATE 4 1 : Dev).now) := by decide

theorem wit_SafetyIslandCommandsComplete_sbcTest20 : (({ wUp.sl .a (pgSAFE .a) R.SAFE_SBCSTAT_RELEASED 1 with now := 40000000000000 } : Dev).islandOn (.a : Lane) = true) ∧ (({ wUp.sl .a (pgSAFE .a) R.SAFE_SBCSTAT_RELEASED 1 with now := 40000000000000 } : Dev).gl (.a : Lane) (pgSAFE (.a : Lane)) R.SAFE_SBCSTAT_RELEASED ≠ 0) ∧ ((({ wUp.sl .a (pgSAFE .a) R.SAFE_SBCSTAT_RELEASED 1 with now := 40000000000000 } : Dev).islands.at (.a : Lane)).sbcTesting = false) ∧ ((({ wUp.sl .a (pgSAFE .a) R.SAFE_SBCSTAT_RELEASED 1 with now := 40000000000000 } : Dev).islands.at (.a : Lane)).sbcTestAt + ({ wUp.sl .a (pgSAFE .a) R.SAFE_SBCSTAT_RELEASED 1 with now := 40000000000000 } : Dev).gl (.a : Lane) (pgSAFE (.a : Lane)) R.SAFE_SBC_TPER * 500000000 ≤ ({ wUp.sl .a (pgSAFE .a) R.SAFE_SBCSTAT_RELEASED 1 with now := 40000000000000 } : Dev).now) := by decide

theorem wit_SafetyIslandCommandsComplete_sbcTest21 : ((({ wUp.sl .a (pgSAFE .a) R.SAFE_SBCSTAT_RELEASED 1 with now := 40000000000000 } : Dev).onIsland .a fun x => { x with sbcTesting := true } : Dev).islandOn (.a : Lane) = true) ∧ ((({ wUp.sl .a (pgSAFE .a) R.SAFE_SBCSTAT_RELEASED 1 with now := 40000000000000 } : Dev).onIsland .a fun x => { x with sbcTesting := true } : Dev).gl (.a : Lane) (pgSAFE (.a : Lane)) R.SAFE_SBCSTAT_RELEASED ≠ 0) ∧ (((({ wUp.sl .a (pgSAFE .a) R.SAFE_SBCSTAT_RELEASED 1 with now := 40000000000000 } : Dev).onIsland .a fun x => { x with sbcTesting := true } : Dev).islands.at (.a : Lane)).sbcTesting = true) ∧ (((({ wUp.sl .a (pgSAFE .a) R.SAFE_SBCSTAT_RELEASED 1 with now := 40000000000000 } : Dev).onIsland .a fun x => { x with sbcTesting := true } : Dev).islands.at (.a : Lane)).sbcTestAt + (({ wUp.sl .a (pgSAFE .a) R.SAFE_SBCSTAT_RELEASED 1 with now := 40000000000000 } : Dev).onIsland .a fun x => { x with sbcTesting := true } : Dev).gl (.a : Lane) (pgSAFE (.a : Lane)) R.SAFE_SBC_TPW * 500 ≤ (({ wUp.sl .a (pgSAFE .a) R.SAFE_SBCSTAT_RELEASED 1 with now := 40000000000000 } : Dev).onIsland .a fun x => { x with sbcTesting := true } : Dev).now) ∧ ((100 : Nat) ≤ ((({ wUp.sl .a (pgSAFE .a) R.SAFE_SBCSTAT_RELEASED 1 with now := 40000000000000 } : Dev).onIsland .a fun x => { x with sbcTesting := true } : Dev).sl (.a : Lane) (pgSAFE (.a : Lane)) ((({ wUp.sl .a (pgSAFE .a) R.SAFE_SBCSTAT_RELEASED 1 with now := 40000000000000 } : Dev).onIsland .a fun x => { x with sbcTesting := true } : Dev).sbcSwitch (.a : Lane)) 1).gl (.a : Lane) (pgSAFE (.a : Lane)) R.SAFE_SBC_TPW) := by decide

theorem wit_SafetyIslandCommandsComplete_sbcTest22 : ((({ wUp.sl .a (pgSAFE .a) R.SAFE_SBCSTAT_RELEASED 1 with now := 40000000000000 } : Dev).onIsland .a fun x => { x with sbcTesting := true } : Dev).islandOn (.a : Lane) = true) ∧ ((({ wUp.sl .a (pgSAFE .a) R.SAFE_SBCSTAT_RELEASED 1 with now := 40000000000000 } : Dev).onIsland .a fun x => { x with sbcTesting := true } : Dev).gl (.a : Lane) (pgSAFE (.a : Lane)) R.SAFE_SBCSTAT_RELEASED ≠ 0) ∧ (((({ wUp.sl .a (pgSAFE .a) R.SAFE_SBCSTAT_RELEASED 1 with now := 40000000000000 } : Dev).onIsland .a fun x => { x with sbcTesting := true } : Dev).islands.at (.a : Lane)).sbcTesting = true) ∧ (((({ wUp.sl .a (pgSAFE .a) R.SAFE_SBCSTAT_RELEASED 1 with now := 40000000000000 } : Dev).onIsland .a fun x => { x with sbcTesting := true } : Dev).islands.at (.a : Lane)).sbcTestAt + (({ wUp.sl .a (pgSAFE .a) R.SAFE_SBCSTAT_RELEASED 1 with now := 40000000000000 } : Dev).onIsland .a fun x => { x with sbcTesting := true } : Dev).gl (.a : Lane) (pgSAFE (.a : Lane)) R.SAFE_SBC_TPW * 500 ≤ (({ wUp.sl .a (pgSAFE .a) R.SAFE_SBCSTAT_RELEASED 1 with now := 40000000000000 } : Dev).onIsland .a fun x => { x with sbcTesting := true } : Dev).now) ∧ (∀ t, (none : Option Nat) = some t → (({ wUp.sl .a (pgSAFE .a) R.SAFE_SBCSTAT_RELEASED 1 with now := 40000000000000 } : Dev).onIsland .a fun x => { x with sbcTesting := true } : Dev).gl (.a : Lane) (pgSAFE (.a : Lane)) R.SAFE_SBC_TPW < t) := by
  refine ⟨by decide, by decide, by decide, by decide, ?_⟩
  intro t h
  cases h

theorem wit_SafetyIslandCommandsComplete_sbcCoilCheck23 : ((wUp : Dev).islandOn (.a : Lane) = true) ∧ ((wUp : Dev).sl (.a : Lane) (pgSAFE (.a : Lane)) R.SAFE_SBCSTAT_I (min (900 : Nat) 65535) = (wUp.sl .a (pgSAFE .a) R.SAFE_SBCSTAT_I 900 : Dev)) ∧ (¬ ((wUp.sl .a (pgSAFE .a) R.SAFE_SBCSTAT_I 900 : Dev).gl (.a : Lane) (pgSAFE (.a : Lane)) R.SAFE_SBCSTAT_RELEASED = 1 ∧ (900 : Nat) < (wUp.sl .a (pgSAFE .a) R.SAFE_SBCSTAT_I 900 : Dev).gl (.a : Lane) (pgSAFE (.a : Lane)) R.SAFE_SBC2_IMIN ∧ (wUp.sl .a (pgSAFE .a) R.SAFE_SBCSTAT_I 900 : Dev).gl (.a : Lane) (pgSAFE (.a : Lane)) R.SAFE_SBCSTAT_FAULT = 0)) := by decide

theorem wit_SafetyIslandCommandsComplete_sbcCoilCheck24 : (((wUp.sl .a (pgSAFE .a) R.SAFE_SBCSTAT_RELEASED 1).sl .a (pgSAFE .a) R.SAFE_SBC2_IMIN 500 : Dev).islandOn (.a : Lane) = true) ∧ (((wUp.sl .a (pgSAFE .a) R.SAFE_SBCSTAT_RELEASED 1).sl .a (pgSAFE .a) R.SAFE_SBC2_IMIN 500 : Dev).sl (.a : Lane) (pgSAFE (.a : Lane)) R.SAFE_SBCSTAT_I (min (100 : Nat) 65535) = (((wUp.sl .a (pgSAFE .a) R.SAFE_SBCSTAT_RELEASED 1).sl .a (pgSAFE .a) R.SAFE_SBC2_IMIN 500 : Dev).sl .a (pgSAFE .a) R.SAFE_SBCSTAT_I 100 : Dev)) ∧ ((((wUp.sl .a (pgSAFE .a) R.SAFE_SBCSTAT_RELEASED 1).sl .a (pgSAFE .a) R.SAFE_SBC2_IMIN 500 : Dev).sl .a (pgSAFE .a) R.SAFE_SBCSTAT_I 100 : Dev).gl (.a : Lane) (pgSAFE (.a : Lane)) R.SAFE_SBCSTAT_RELEASED = 1 ∧ (100 : Nat) < (((wUp.sl .a (pgSAFE .a) R.SAFE_SBCSTAT_RELEASED 1).sl .a (pgSAFE .a) R.SAFE_SBC2_IMIN 500 : Dev).sl .a (pgSAFE .a) R.SAFE_SBCSTAT_I 100 : Dev).gl (.a : Lane) (pgSAFE (.a : Lane)) R.SAFE_SBC2_IMIN ∧ (((wUp.sl .a (pgSAFE .a) R.SAFE_SBCSTAT_RELEASED 1).sl .a (pgSAFE .a) R.SAFE_SBC2_IMIN 500 : Dev).sl .a (pgSAFE .a) R.SAFE_SBCSTAT_I 100 : Dev).gl (.a : Lane) (pgSAFE (.a : Lane)) R.SAFE_SBCSTAT_FAULT = 0) ∧ ((100000000 : Nat) = ((((wUp.sl .a (pgSAFE .a) R.SAFE_SBCSTAT_RELEASED 1).sl .a (pgSAFE .a) R.SAFE_SBC2_IMIN 500 : Dev).sl .a (pgSAFE .a) R.SAFE_SBCSTAT_I 100 : Dev).islands.at (.a : Lane)).sbcLowAt.getD (((wUp.sl .a (pgSAFE .a) R.SAFE_SBCSTAT_RELEASED 1).sl .a (pgSAFE .a) R.SAFE_SBC2_IMIN 500 : Dev).sl .a (pgSAFE .a) R.SAFE_SBCSTAT_I 100 : Dev).now) := by decide

theorem wit_SafetyLayerCommandsComplete_safetyPduReceive0 : ((if ((3 : Fin 48).val = 7 ∨ (3 : Fin 48).val = 8) ∧ portLane (3 : Fin 48).val = (.a : Lane) ∧ (wSafety : Dev).rigOn (portLane (3 : Fin 48).val) then (wSafety : Dev).rigHeard (portLane (3 : Fin 48).val) ((0 : Fin 536870912).val % 64) else (wSafety : Dev)) = (wSafety : Dev)) ∧ ((wSafety : Dev).slOn (.a : Lane) = true) ∧ ((wSafety : Dev).pduReaches (.a : Lane) (3 : Fin 48).val = true) := by decide

theorem wit_SafetyLayerCommandsComplete_dualMissing1 : (((wSafety.onSlE .a 7 fun e => { e with copy := some wCopy } : Dev).slE (.a : Lane) (7 : Fin 1024).val).copy = some (wCopy : SlCopy)) ∧ ((wSafety.onSlE .a 7 fun e => { e with copy := some wCopy } : Dev).slOn (.a : Lane) = true) ∧ ((wCopy : SlCopy).waits = true) ∧ ((wCopy : SlCopy).at' + (wSafety.onSlE .a 7 fun e => { e with copy := some wCopy } : Dev).cw (.a : Lane) (7 : Fin 1024).val R.CONN_CMPW * 500 ≤ (wSafety.onSlE .a 7 fun e => { e with copy := some wCopy } : Dev).now) := by decide

theorem wit_SafetyLayerCommandsComplete_slTimeout2 : ((wSafety.cwSet .a 7 R.CONN_CSTATE 2 : Dev).slOn (.a : Lane) = true) ∧ ((wSafety.cwSet .a 7 R.CONN_CSTATE 2 : Dev).slEnd (.a : Lane) (7 : Fin 1024).val = some (500000 : Nat)) ∧ ((wSafety.cwSet .a 7 R.CONN_CSTATE 2 : Dev).cw (.a : Lane) (7 : Fin 1024).val R.CONN_DIR ≠ 1) ∧ ((500000 : Nat) ≤ (wSafety.cwSet .a 7 R.CONN_CSTATE 2 : Dev).now) := by decide

theorem wit_SafetyLayerCommandsComplete_safetyPduProduce3 : (((((wSafety.cwSet .a 7 R.CONN_CSTATE 2).cwSet .a 7 R.CONN_EN 1).cwSet .a 7 R.CONN_DIR 1).cwSet .a 7 R.CONN_PERIOD 1 : Dev).slOn (.a : Lane) = true) ∧ (((((wSafety.cwSet .a 7 R.CONN_CSTATE 2).cwSet .a 7 R.CONN_EN 1).cwSet .a 7 R.CONN_DIR 1).cwSet .a 7 R.CONN_PERIOD 1 : Dev).cw (.a : Lane) (7 : Fin 1024).val R.CONN_EN ≠ 0) ∧ (((((wSafety.cwSet .a 7 R.CONN_CSTATE 2).cwSet .a 7 R.CONN_EN 1).cwSet .a 7 R.CONN_DIR 1).cwSet .a 7 R.CONN_PERIOD 1 : Dev).cw (.a : Lane) (7 : Fin 1024).val R.CONN_DIR ≠ 0) ∧ (((((wSafety.cwSet .a 7 R.CONN_CSTATE 2).cwSet .a 7 R.CONN_EN 1).cwSet .a 7 R.CONN_DIR 1).cwSet .a 7 R.CONN_PERIOD 1 : Dev).cst (.a : Lane) (7 : Fin 1024).val = 2) ∧ (((((wSafety.cwSet .a 7 R.CONN_CSTATE 2).cwSet .a 7 R.CONN_EN 1).cwSet .a 7 R.CONN_DIR 1).cwSet .a 7 R.CONN_PERIOD 1 : Dev).now % 125000 = 0) ∧ (((((wSafety.cwSet .a 7 R.CONN_CSTATE 2).cwSet .a 7 R.CONN_EN 1).cwSet .a 7 R.CONN_DIR 1).cwSet .a 7 R.CONN_PERIOD 1 : Dev).cw (.a : Lane) (7 : Fin 1024).val R.CONN_PERIOD ≠ 0) ∧ ((((((wSafety.cwSet .a 7 R.CONN_CSTATE 2).cwSet .a 7 R.CONN_EN 1).cwSet .a 7 R.CONN_DIR 1).cwSet .a 7 R.CONN_PERIOD 1 : Dev).now - (((((wSafety.cwSet .a 7 R.CONN_CSTATE 2).cwSet .a 7 R.CONN_EN 1).cwSet .a 7 R.CONN_DIR 1).cwSet .a 7 R.CONN_PERIOD 1 : Dev).slE (.a : Lane) (7 : Fin 1024).val).bindAt) / 125000 ≠ 0) ∧ ((((((wSafety.cwSet .a 7 R.CONN_CSTATE 2).cwSet .a 7 R.CONN_EN 1).cwSet .a 7 R.CONN_DIR 1).cwSet .a 7 R.CONN_PERIOD 1 : Dev).now - (((((wSafety.cwSet .a 7 R.CONN_CSTATE 2).cwSet .a 7 R.CONN_EN 1).cwSet .a 7 R.CONN_DIR 1).cwSet .a 7 R.CONN_PERIOD 1 : Dev).slE (.a : Lane) (7 : Fin 1024).val).bindAt) / 125000 % ((((wSafety.cwSet .a 7 R.CONN_CSTATE 2).cwSet .a 7 R.CONN_EN 1).cwSet .a 7 R.CONN_DIR 1).cwSet .a 7 R.CONN_PERIOD 1 : Dev).cw (.a : Lane) (7 : Fin 1024).val R.CONN_PERIOD = 0) := by decide

theorem wit_SafetyLayerCommandsComplete_slayerClear4 : ((wUp : Dev).accepts (.port 0 : Writer) (pageAddr pgSLAYER 0x58) (keyWord 0x4D 7 : Word)) ∧ (R.SLAYER_CLR_KEY.get (keyWord 0x4D 7 : Word) = 0x4D) := by decide

theorem wit_SafetyLayerCommandsComplete_rebind5 : ((wUp : Dev).accepts (.port 0 : Writer) (pageAddr pgSLAYER 0x50) (keyWord 0x7B 7 : Word)) ∧ (R.SLAYER_REBIND_KEY.get (keyWord 0x7B 7 : Word) = 0x7B) := by decide

theorem wit_SafetyLayerCommandsComplete_bindTick6 : ((wUp : Dev).now % 125000 = 0) := by decide

theorem wit_SafetyLayerCommandsComplete_entryCheckVerify7 : ((wSafety : Dev).slOn (.a : Lane) = true) := by decide

theorem wit_CanCommandsComplete_canFrameReceive0 : ((wCan : Dev).canTakes (0 : Fin 4) (wFrameCan : CanFrame) = true) ∧ ((wCan : Dev).canLoops (0 : Fin 4) = false) ∧ ((wCan : Dev).canSafety (0 : Fin 4) (wFrameCan : CanFrame) = false) ∧ (¬ ((wFrameCan : CanFrame).fmt.val = 4 ∧ 64 < (wFrameCan : CanFrame).data.length)) ∧ (((wCan : Dev).canHeard (0 : Fin 4)).canDiverted (0 : Fin 4) (wFrameCan : CanFrame) = false) ∧ (((wCan : Dev).canHeard (0 : Fin 4)).filterOf (0 : Fin 4) (wFrameCan : CanFrame) ((wCan : Dev).now - (50 : Nat)) = none) := by decide

theorem wit_CanCommandsComplete_canFrameReceive1 : ((wFilter : Dev).canTakes (0 : Fin 4) (wFrameCan : CanFrame) = true) ∧ ((wFilter : Dev).canLoops (0 : Fin 4) = false) ∧ ((wFilter : Dev).canSafety (0 : Fin 4) (wFrameCan : CanFrame) = false) ∧ (¬ ((wFrameCan : CanFrame).fmt.val = 4 ∧ 64 < (wFrameCan : CanFrame).data.length)) ∧ (((wFilter : Dev).canHeard (0 : Fin 4)).canDiverted (0 : Fin 4) (wFrameCan : CanFrame) = false) ∧ (((wFilter : Dev).canHeard (0 : Fin 4)).filterOf (0 : Fin 4) (wFrameCan : CanFrame) ((wFilter : Dev).now - (50 : Nat)) = some ((0 : Nat), (wFilterCfg : Word))) := by decide

set_option maxRecDepth 100000 in
theorem wit_CanCommandsComplete_canFrameReceive2 : ((wPath : Dev).canTakes (0 : Fin 4) ({ wFrameCan with fmt := 2, id := 0x100 } : CanFrame) = true) ∧ ((wPath : Dev).canLoops (0 : Fin 4) = false) ∧ ((wPath : Dev).canSafety (0 : Fin 4) ({ wFrameCan with fmt := 2, id := 0x100 } : CanFrame) = true) := by decide

theorem wit_CanCommandsComplete_busOff3 : ((wCan : Dev).canLive (0 : Fin 4) = true) := by decide

theorem wit_CanCommandsComplete_errorPassive4 : ((wCan.cs 0 R.CAN_ERR_TEC 200 : Dev).canOn (0 : Fin 4) = true) ∧ (128 ≤ (wCan.cs 0 R.CAN_ERR_TEC 200 : Dev).cg (0 : Fin 4) R.CAN_ERR_TEC) ∧ ((wCan.cs 0 R.CAN_ERR_TEC 200 : Dev).cg (0 : Fin 4) R.CAN_STAT_STATE = 2 ∨ (wCan.cs 0 R.CAN_ERR_TEC 200 : Dev).cg (0 : Fin 4) R.CAN_STAT_STATE = 1) := by decide

theorem wit_CanCommandsComplete_errorPassive5 : ((wCan : Dev).canOn (0 : Fin 4) = true) ∧ ((wCan : Dev).cg (0 : Fin 4) R.CAN_ERR_TEC < 128) ∧ (((wCan : Dev).cs (0 : Fin 4) R.CAN_ERR_REC (128 + (Config.freeWord (wCan : Dev).freeCtr).toNat % 128)).fresh = ((wCan.cs 0 R.CAN_ERR_REC (128 + (Config.freeWord wCan.freeCtr).toNat % 128)).fresh : Dev)) ∧ ((wCan : Dev).cg (0 : Fin 4) R.CAN_STAT_STATE = 2 ∨ (wCan : Dev).cg (0 : Fin 4) R.CAN_STAT_STATE = 1) := ⟨by decide, by decide, rfl, by decide⟩

theorem wit_CanCommandsComplete_busOffRecovery6 : (((wCan.cs 0 R.CAN_STAT_STATE 4).cs 0 R.CAN_CFG_AUTORECOV 1 : Dev).canOn (0 : Fin 4) = true) ∧ (((wCan.cs 0 R.CAN_STAT_STATE 4).cs 0 R.CAN_CFG_AUTORECOV 1 : Dev).cg (0 : Fin 4) R.CAN_STAT_STATE = 4) ∧ (((wCan.cs 0 R.CAN_STAT_STATE 4).cs 0 R.CAN_CFG_AUTORECOV 1 : Dev).cg (0 : Fin 4) R.CAN_CFG_AUTORECOV ≠ 0) := by decide

theorem wit_CanCommandsComplete_filterUpdate7 : ((wUp : Dev).target (rgFILTER + 0x2000 * (0 : Fin 4).val + 64 * (9 : Fin 128).val + 0x20) = some (wTarget (rgFILTER + 64 * 9 + 0x20) : Target)) ∧ ((wUp : Dev).accepts (.laneFw .a : Writer) (rgFILTER + 0x2000 * (0 : Fin 4).val + 64 * (9 : Fin 128).val + 0x20) (3 : Word)) := by decide

theorem wit_CanCommandsComplete_queueWindowRead8 : ((wCan : Dev).arrives (.laneFw .a : Writer) = true) ∧ (((wCan : Dev).who (.laneFw .a : Writer)).readsNothing = false) ∧ ((wCan : Dev).readLane (.laneFw .a : Writer) ((wCan : Dev).openCopies (pgCAN (0 : Fin 4))) = some (.a : Lane)) := by decide

theorem wit_CanCommandsComplete_queueTake9 : ((wCan.setOwner 33 48 : Dev).accepts (.laneFw .a : Writer) (pageAddr (pgCAN (0 : Fin 4)) 0x64) (BitVec.ofNat 32 (1 + 0x100 * (1 : Fin 2).val))) := by decide

theorem wit_CanCommandsComplete_queueGive10 : ((wCan.setOwner 33 48 : Dev).accepts (.laneFw .a : Writer) (pageAddr (pgCAN (0 : Fin 4)) 0x64) (BitVec.ofNat 32 (2 + 0x100 * (1 : Fin 2).val))) := by decide

theorem wit_CanCommandsComplete_txBufferArm11 : ((wCan : Dev).accepts (.laneFw .a : Writer) (pageAddr (pgCAN (0 : Fin 4)) 0x254) (0 : Word)) := by decide

theorem wit_CanCommandsComplete_canTransmit12 : ((wCell : Dev).canSends (0 : Fin 4) = true) ∧ ((wCell : Dev).exclusiveDue (0 : Fin 4) = some (4 : Nat)) := by decide

set_option maxRecDepth 100000 in
theorem wit_CanCommandsComplete_canTransmit13 : ((wCan.onBuf 0 6 fun x => { x with state := 1 } : Dev).canSends (0 : Fin 4) = true) ∧ ((wCan.onBuf 0 6 fun x => { x with state := 1 } : Dev).exclusiveDue (0 : Fin 4) = none) ∧ (((wCan.onBuf 0 6 fun x => { x with state := 1 } : Dev).can[(0 : Fin 4)]).pdus = [] ∨ (wCan.onBuf 0 6 fun x => { x with state := 1 } : Dev).exclusiveNow (0 : Fin 4) = true) ∧ ((wCan.onBuf 0 6 fun x => { x with state := 1 } : Dev).offered (0 : Fin 4) = some (6 : Fin 32)) := by decide

set_option maxRecDepth 100000 in
theorem wit_CanCommandsComplete_canTransmit14 : ((wCan.onCan 0 fun u => { u with pdus := [wFrameCan] } : Dev).canSends (0 : Fin 4) = true) ∧ ((wCan.onCan 0 fun u => { u with pdus := [wFrameCan] } : Dev).exclusiveDue (0 : Fin 4) = none) ∧ (((wCan.onCan 0 fun u => { u with pdus := [wFrameCan] } : Dev).can[(0 : Fin 4)]).pdus ≠ []) ∧ ((wCan.onCan 0 fun u => { u with pdus := [wFrameCan] } : Dev).exclusiveNow (0 : Fin 4) = false) := by decide

theorem wit_CanCommandsComplete_txComplete15 : (((wCan.onCan 0 fun u => { u with bus := some 6 } : Dev).can[(0 : Fin 4)]).bus = some (6 : Fin 32)) ∧ (((wCan.onCan 0 fun u => { u with bus := some 6 } : Dev).can[(0 : Fin 4)]).refOut = none) ∧ ((wCan.onCan 0 fun u => { u with bus := some 6 } : Dev).canLoops (0 : Fin 4) = false) := by decide

theorem wit_CanCommandsComplete_txComplete16 : (((wCan.onCan 0 fun u => { u with bus := some 6 } : Dev).can[(0 : Fin 4)]).bus = some (6 : Fin 32)) ∧ ((.lostArbitration : TxOutcome) ≠ .sent) := by decide

theorem wit_CanCommandsComplete_txComplete17 : (((wCan.onCan 0 fun u => { u with bus := some 6, refOut := some 3 } : Dev).can[(0 : Fin 4)]).bus = some (6 : Fin 32)) ∧ (((wCan.onCan 0 fun u => { u with bus := some 6, refOut := some 3 } : Dev).can[(0 : Fin 4)]).refOut = some (3 : Nat)) ∧ ((wCan.onCan 0 fun u => { u with bus := some 6, refOut := some 3 } : Dev).canLoops (0 : Fin 4) = false) ∧ ((wCan.onCan 0 fun u => { u with bus := some 6, refOut := some 3 } : Dev).canSent (0 : Fin 4) (6 : Fin 32) (if (wCan.onCan 0 fun u => { u with bus := some 6, refOut := some 3 } : Dev).cg (0 : Fin 4) R.CAN_CFG_TSPOINT = 0 then (wCan.onCan 0 fun u => { u with bus := some 6, refOut := some 3 } : Dev).now - (0 : Nat) else (wCan.onCan 0 fun u => { u with bus := some 6, refOut := some 3 } : Dev).now) = ((wCan.onCan 0 fun u => { u with bus := some 6, refOut := some 3 } : Dev).canSent 0 6 100000000 : Dev)) := by decide

theorem wit_CanCommandsComplete_txComplete18 : (((wCan.onCan 0 fun u => { u with busPdu := true, pdus := [wFrameCan] } : Dev).can[(0 : Fin 4)]).bus = none) ∧ (((wCan.onCan 0 fun u => { u with busPdu := true, pdus := [wFrameCan] } : Dev).can[(0 : Fin 4)]).busPdu = true) ∧ ((.sent : TxOutcome) ≠ .sent ∨ (wCan.onCan 0 fun u => { u with busPdu := true, pdus := [wFrameCan] } : Dev).canLoops (0 : Fin 4) = false) := by decide

theorem wit_CanCommandsComplete_txComplete19 : (((wCan.cs 0 R.CAN_CFG_OPMODE 3).onCan 0 fun u => { u with bus := some 6 } : Dev).canOnBus (0 : Fin 4) = some (bufFrame ((wCan.can[(0 : Fin 4)]).bufs[(6 : Fin 32)]).words : CanFrame)) ∧ (((wCan.cs 0 R.CAN_CFG_OPMODE 3).onCan 0 fun u => { u with bus := some 6 } : Dev).canLoops (0 : Fin 4) = true) ∧ (((wCan.cs 0 R.CAN_CFG_OPMODE 3).onCan 0 fun u => { u with bus := some 6 } : Dev).canTakes (0 : Fin 4) (bufFrame ((wCan.can[(0 : Fin 4)]).bufs[(6 : Fin 32)]).words : CanFrame) = true) := by decide

theorem wit_CanCommandsComplete_txCancel20 : ((wCan : Dev).accepts (.laneFw .a : Writer) (pageAddr (pgCAN (0 : Fin 4)) 0x74) (6 : Word)) := by decide

theorem wit_RulingCommandsComplete_rulingReferenceSend0 : ((((wRuling.cs 0 R.CAN_RULSTAT_MASTER 1).cs 0 R.CAN_RULCFG_REFBUF 6).onBuf 0 6 fun x => { x with state := 1 } : Dev).canSends (0 : Fin 4) = true) ∧ ((((wRuling.cs 0 R.CAN_RULSTAT_MASTER 1).cs 0 R.CAN_RULCFG_REFBUF 6).onBuf 0 6 fun x => { x with state := 1 } : Dev).bufEnabled (0 : Fin 4) (6 : Fin 32) = true) ∧ ((((wRuling.cs 0 R.CAN_RULSTAT_MASTER 1).cs 0 R.CAN_RULCFG_REFBUF 6).onBuf 0 6 fun x => { x with state := 1 } : Dev).cg (0 : Fin 4) R.CAN_RULCFG_EN ≠ 0) ∧ ((((wRuling.cs 0 R.CAN_RULSTAT_MASTER 1).cs 0 R.CAN_RULCFG_REFBUF 6).onBuf 0 6 fun x => { x with state := 1 } : Dev).cg (0 : Fin 4) R.CAN_RULSTAT_MASTER ≠ 0) ∧ (((((wRuling.cs 0 R.CAN_RULSTAT_MASTER 1).cs 0 R.CAN_RULCFG_REFBUF 6).onBuf 0 6 fun x => { x with state := 1 } : Dev).can[(0 : Fin 4)]).refAt = none) ∧ ((6 : Fin 32).val = (((wRuling.cs 0 R.CAN_RULSTAT_MASTER 1).cs 0 R.CAN_RULCFG_REFBUF 6).onBuf 0 6 fun x => { x with state := 1 } : Dev).cg (0 : Fin 4) R.CAN_RULCFG_REFBUF) ∧ ((((((wRuling.cs 0 R.CAN_RULSTAT_MASTER 1).cs 0 R.CAN_RULCFG_REFBUF 6).onBuf 0 6 fun x => { x with state := 1 } : Dev).can[(0 : Fin 4)]).bufs[(6 : Fin 32)]).state = 1) := by decide

theorem wit_RulingCommandsComplete_rulingReferenceSend1 : (((((wRuling.cs 0 R.CAN_RULSTAT_MASTER 1).cs 0 R.CAN_RULCFG_REFBUF 6).onBuf 0 6 fun x => { x with state := 1 }).onCan 0 fun u => { u with refAt := some 5 } : Dev).canSends (0 : Fin 4) = true) ∧ (((((wRuling.cs 0 R.CAN_RULSTAT_MASTER 1).cs 0 R.CAN_RULCFG_REFBUF 6).onBuf 0 6 fun x => { x with state := 1 }).onCan 0 fun u => { u with refAt := some 5 } : Dev).bufEnabled (0 : Fin 4) (6 : Fin 32) = true) ∧ (((((wRuling.cs 0 R.CAN_RULSTAT_MASTER 1).cs 0 R.CAN_RULCFG_REFBUF 6).onBuf 0 6 fun x => { x with state := 1 }).onCan 0 fun u => { u with refAt := some 5 } : Dev).cg (0 : Fin 4) R.CAN_RULCFG_EN ≠ 0) ∧ (((((wRuling.cs 0 R.CAN_RULSTAT_MASTER 1).cs 0 R.CAN_RULCFG_REFBUF 6).onBuf 0 6 fun x => { x with state := 1 }).onCan 0 fun u => { u with refAt := some 5 } : Dev).cg (0 : Fin 4) R.CAN_RULSTAT_MASTER ≠ 0) ∧ ((((((wRuling.cs 0 R.CAN_RULSTAT_MASTER 1).cs 0 R.CAN_RULCFG_REFBUF 6).onBuf 0 6 fun x => { x with state := 1 }).onCan 0 fun u => { u with refAt := some 5 } : Dev).can[(0 : Fin 4)]).refAt = some (5 : Nat)) ∧ ((5 : Nat) + ((((wRuling.cs 0 R.CAN_RULSTAT_MASTER 1).cs 0 R.CAN_RULCFG_REFBUF 6).onBuf 0 6 fun x => { x with state := 1 }).onCan 0 fun u => { u with refAt := some 5 } : Dev).cg (0 : Fin 4) R.CAN_RULCYC_T ≤ ((((wRuling.cs 0 R.CAN_RULSTAT_MASTER 1).cs 0 R.CAN_RULCFG_REFBUF 6).onBuf 0 6 fun x => { x with state := 1 }).onCan 0 fun u => { u with refAt := some 5 } : Dev).now) ∧ ((6 : Fin 32).val = ((((wRuling.cs 0 R.CAN_RULSTAT_MASTER 1).cs 0 R.CAN_RULCFG_REFBUF 6).onBuf 0 6 fun x => { x with state := 1 }).onCan 0 fun u => { u with refAt := some 5 } : Dev).cg (0 : Fin 4) R.CAN_RULCFG_REFBUF) ∧ (((((((wRuling.cs 0 R.CAN_RULSTAT_MASTER 1).cs 0 R.CAN_RULCFG_REFBUF 6).onBuf 0 6 fun x => { x with state := 1 }).onCan 0 fun u => { u with refAt := some 5 } : Dev).can[(0 : Fin 4)]).bufs[(6 : Fin 32)]).state = 1) := by decide

theorem wit_RulingCommandsComplete_rulingReferenceSend2 : ((((wRuling.cs 0 R.CAN_RULSTAT_MASTER 1).cs 0 R.CAN_RULCFG_REFBUF 6).onBuf 0 6 fun x => { x with state := 1 } : Dev).canSends (0 : Fin 4) = true) ∧ ((((wRuling.cs 0 R.CAN_RULSTAT_MASTER 1).cs 0 R.CAN_RULCFG_REFBUF 6).onBuf 0 6 fun x => { x with state := 1 } : Dev).bufEnabled (0 : Fin 4) (6 : Fin 32) = true) ∧ ((((wRuling.cs 0 R.CAN_RULSTAT_MASTER 1).cs 0 R.CAN_RULCFG_REFBUF 6).onBuf 0 6 fun x => { x with state := 1 } : Dev).cg (0 : Fin 4) R.CAN_RULCFG_EN ≠ 0) ∧ ((((wRuling.cs 0 R.CAN_RULSTAT_MASTER 1).cs 0 R.CAN_RULCFG_REFBUF 6).onBuf 0 6 fun x => { x with state := 1 } : Dev).cg (0 : Fin 4) R.CAN_RULSTAT_MASTER ≠ 0) ∧ ((((wRuling.cs 0 R.CAN_RULSTAT_MASTER 1).cs 0 R.CAN_RULCFG_REFBUF 6).onBuf 0 6 fun x => { x with state := 1 } : Dev).cg (0 : Fin 4) R.CAN_RULSTAT_REF_OK = 0) ∧ ((6 : Fin 32).val = (((wRuling.cs 0 R.CAN_RULSTAT_MASTER 1).cs 0 R.CAN_RULCFG_REFBUF 6).onBuf 0 6 fun x => { x with state := 1 } : Dev).cg (0 : Fin 4) R.CAN_RULCFG_REFBUF) ∧ ((((((wRuling.cs 0 R.CAN_RULSTAT_MASTER 1).cs 0 R.CAN_RULCFG_REFBUF 6).onBuf 0 6 fun x => { x with state := 1 } : Dev).can[(0 : Fin 4)]).bufs[(6 : Fin 32)]).state = 1) := by decide

set_option maxRecDepth 100000 in
theorem wit_RulingCommandsComplete_rulingReferenceReceive3 : ((wRefFilter : Dev).canTakes (0 : Fin 4) (wFrameCan : CanFrame) = true) ∧ ((wRefFilter : Dev).canLoops (0 : Fin 4) = false) ∧ ((wRefFilter : Dev).canSafety (0 : Fin 4) (wFrameCan : CanFrame) = false) ∧ ((wRefFilter : Dev).canReference (0 : Fin 4) (wFrameCan : CanFrame) ((wRefFilter : Dev).now - (50 : Nat)) = true) ∧ (¬ ((wFrameCan : CanFrame).fmt.val = 4 ∧ 64 < (wFrameCan : CanFrame).data.length)) ∧ ((wRefFilter : Dev).canHeard (0 : Fin 4) = (wHeard : Dev)) ∧ ((wHeard : Dev).canDiverted (0 : Fin 4) (wFrameCan : CanFrame) = false) ∧ ((wHeard : Dev).filterOf (0 : Fin 4) (wFrameCan : CanFrame) ((wRefFilter : Dev).now - (50 : Nat)) = some ((0 : Nat), (wRefFilterCfg : Word))) ∧ (R.FILT_ACTION.get (wRefFilterCfg : Word) = 3) ∧ ((wHeard : Dev).setWord (canLane (0 : Fin 4)) (filtAddr (0 : Fin 4) (0 : Nat) 10) (BitVec.ofNat 32 (satInc 4294967295 ((wHeard : Dev).word (canLane (0 : Fin 4)) (filtAddr (0 : Fin 4) (0 : Nat) 10)).toNat)) = (wHits : Dev)) ∧ (((wHits : Dev).onCan (0 : Fin 4) fun x => { x with ended := (wHits : Dev).rxChecks (0 : Fin 4) (0 : Nat) ((wRefFilter : Dev).now - (50 : Nat)) ++ x.ended }) = (wHits.onCan 0 fun x => { x with ended := wHits.rxChecks 0 0 (wRefFilter.now - 50) ++ x.ended } : Dev)) ∧ ((0 : Nat) = (wHits.onCan 0 fun x => { x with ended := wHits.rxChecks 0 0 (wRefFilter.now - 50) ++ x.ended } : Dev).cg (0 : Fin 4) R.CAN_RULCFG_REFFILT) ∧ ((wHits.onCan 0 fun x => { x with ended := wHits.rxChecks 0 0 (wRefFilter.now - 50) ++ x.ended } : Dev).cg (0 : Fin 4) R.CAN_RULCFG_EN = 1) := by decide

theorem wit_RulingCommandsComplete_refLost4 : (((wRuling.onCan 0 fun u => { u with refAt := some 5 } : Dev).can[(0 : Fin 4)]).refAt = some (5 : Nat)) ∧ ((wRuling.onCan 0 fun u => { u with refAt := some 5 } : Dev).canOn (0 : Fin 4) = true) ∧ ((wRuling.onCan 0 fun u => { u with refAt := some 5 } : Dev).cg (0 : Fin 4) R.CAN_RULCFG_EN ≠ 0) ∧ ((wRuling.onCan 0 fun u => { u with refAt := some 5 } : Dev).cg (0 : Fin 4) R.CAN_RULSTAT_MASTER ≠ 1) ∧ (((wRuling.onCan 0 fun u => { u with refAt := some 5 } : Dev).can[(0 : Fin 4)]).refGone = false) ∧ (3 * (wRuling.onCan 0 fun u => { u with refAt := some 5 } : Dev).cg (0 : Fin 4) R.CAN_RULCYC_T ≤ 2 * ((wRuling.onCan 0 fun u => { u with refAt := some 5 } : Dev).now - (5 : Nat))) := by decide

theorem wit_RulingCommandsComplete_rulingBackupTakeover5 : ((((wRuling.cs 0 R.CAN_RULCFG_ROLE 2).onCan 0 fun u => { u with refAt := some 5 } : Dev).can[(0 : Fin 4)]).refAt = some (5 : Nat)) ∧ (((wRuling.cs 0 R.CAN_RULCFG_ROLE 2).onCan 0 fun u => { u with refAt := some 5 } : Dev).canLive (0 : Fin 4) = true) ∧ (((wRuling.cs 0 R.CAN_RULCFG_ROLE 2).onCan 0 fun u => { u with refAt := some 5 } : Dev).cg (0 : Fin 4) R.CAN_RULCFG_EN ≠ 0) ∧ (((wRuling.cs 0 R.CAN_RULCFG_ROLE 2).onCan 0 fun u => { u with refAt := some 5 } : Dev).cg (0 : Fin 4) R.CAN_RULCFG_ROLE = 2) ∧ (((wRuling.cs 0 R.CAN_RULCFG_ROLE 2).onCan 0 fun u => { u with refAt := some 5 } : Dev).cg (0 : Fin 4) R.CAN_RULSTAT_MASTER ≠ 1) ∧ ((5 : Nat) + ((wRuling.cs 0 R.CAN_RULCFG_ROLE 2).onCan 0 fun u => { u with refAt := some 5 } : Dev).cg (0 : Fin 4) R.CAN_RULCYC_T + ((wRuling.cs 0 R.CAN_RULCFG_ROLE 2).onCan 0 fun u => { u with refAt := some 5 } : Dev).cg (0 : Fin 4) R.CAN_RULBK_T ≤ ((wRuling.cs 0 R.CAN_RULCFG_ROLE 2).onCan 0 fun u => { u with refAt := some 5 } : Dev).now) := by decide

theorem wit_RulingCommandsComplete_rulingCellWrite6 : ((wUp : Dev).target (rgRULING + 32 * (9 : Fin 1024).val + 28) = some (wTarget (rgRULING + 32 * 9 + 28) : Target)) ∧ ((wUp : Dev).accepts (.laneFw .a : Writer) (rgRULING + 32 * (9 : Fin 1024).val + 28) (0 : Word)) := by decide

set_option maxRecDepth 100000 in
theorem wit_RulingCommandsComplete_rulingCellMark7 : ((wCell0 : Dev).canOn (0 : Fin 4) = true) ∧ ((wCell0 : Dev).cellReady (0 : Fin 4) (4 : Fin 1024).val = true) ∧ (([4] : List Nat) = ((List.range 1024).filter fun j => (wCell0 : Dev).cellOf (0 : Fin 4) j R.CELL_MARK == (wCell0 : Dev).cellOf (0 : Fin 4) (4 : Fin 1024).val R.CELL_MARK && (wCell0 : Dev).cellReady (0 : Fin 4) j)) := by decide

theorem wit_RulingCommandsComplete_rulingMiss8 : (((wCan.cs 0 R.CAN_RULSTAT_REF_OK 1).onCan 0 fun u => { u with refAt := some 5, acted := [4] } : Dev).canOn (0 : Fin 4) = true) ∧ (((wCan.cs 0 R.CAN_RULSTAT_REF_OK 1).onCan 0 fun u => { u with refAt := some 5, acted := [4] } : Dev).cg (0 : Fin 4) R.CAN_RULSTAT_REF_OK ≠ 0) ∧ ((((wCan.cs 0 R.CAN_RULSTAT_REF_OK 1).onCan 0 fun u => { u with refAt := some 5, acted := [4] } : Dev).can[(0 : Fin 4)]).acted.contains (4 : Fin 1024).val = true) ∧ ((((wCan.cs 0 R.CAN_RULSTAT_REF_OK 1).onCan 0 fun u => { u with refAt := some 5, acted := [4] } : Dev).can[(0 : Fin 4)]).ended.contains (4 : Fin 1024).val = false) ∧ (((wCan.cs 0 R.CAN_RULSTAT_REF_OK 1).onCan 0 fun u => { u with refAt := some 5, acted := [4] } : Dev).cycleTime (0 : Fin 4) ((wCan.cs 0 R.CAN_RULSTAT_REF_OK 1).onCan 0 fun u => { u with refAt := some 5, acted := [4] } : Dev).now = some (99999995 : Nat)) ∧ (((wCan.cs 0 R.CAN_RULSTAT_REF_OK 1).onCan 0 fun u => { u with refAt := some 5, acted := [4] } : Dev).cellOf (0 : Fin 4) (4 : Fin 1024).val R.CELL_MARK + ((wCan.cs 0 R.CAN_RULSTAT_REF_OK 1).onCan 0 fun u => { u with refAt := some 5, acted := [4] } : Dev).cellOf (0 : Fin 4) (4 : Fin 1024).val R.CELL_WIN ≤ (99999995 : Nat)) := by decide

theorem wit_LinkNetworkCommandsComplete_linkCycleStart0 : ((wRig : Dev).rigOn (.a : Lane) = true) ∧ ((wRig : Dev).rg (.a : Lane) R.LINK_STAT_ISHEAD ≠ 0) ∧ (((wRig : Dev).rig.at (.a : Lane)).cycAt = none) := by decide

theorem wit_LinkNetworkCommandsComplete_linkCycleStart1 : ((wRig.onRig .a fun r => { r with cycAt := some 3 } : Dev).rigOn (.a : Lane) = true) ∧ ((wRig.onRig .a fun r => { r with cycAt := some 3 } : Dev).rg (.a : Lane) R.LINK_STAT_ISHEAD ≠ 0) ∧ (((wRig.onRig .a fun r => { r with cycAt := some 3 } : Dev).rig.at (.a : Lane)).cycAt = some (3 : Nat)) ∧ ((3 : Nat) + (wRig.onRig .a fun r => { r with cycAt := some 3 } : Dev).rg (.a : Lane) R.LINK_CYCLE_CYC * 500 ≤ (wRig.onRig .a fun r => { r with cycAt := some 3 } : Dev).now) := by decide

theorem wit_LinkNetworkCommandsComplete_cycleStartReceive2 : ((wRig.rs .a R.LINK_STAT_ISHEAD 0 : Dev).rigOn (.a : Lane) = true) ∧ ((wRig.rs .a R.LINK_STAT_ISHEAD 0 : Dev).rg (.a : Lane) R.LINK_STAT_ISHEAD ≠ 1) := by decide

theorem wit_LinkNetworkCommandsComplete_cycleStartReceive3 : ((wRig.rs .a R.LINK_NODE_ADDR 5 : Dev).rigOn (.a : Lane) = true) ∧ ((wRig.rs .a R.LINK_NODE_ADDR 5 : Dev).rg (.a : Lane) R.LINK_STAT_ISHEAD = 1) ∧ ((2 : Fin 64).val < (wRig.rs .a R.LINK_NODE_ADDR 5 : Dev).rg (.a : Lane) R.LINK_NODE_ADDR) := by decide

theorem wit_LinkNetworkCommandsComplete_linkSlot4 : ((((wRig.rs .a R.LINK_SLOT_LEN 100).onRig .a fun r => { r with cycAt := some 99999990 } : Dev).rig.at (.a : Lane)).cycAt = some (99999990 : Nat)) ∧ (((wRig.rs .a R.LINK_SLOT_LEN 100).onRig .a fun r => { r with cycAt := some 99999990 } : Dev).rigOn (.a : Lane) = true) ∧ ((((wRig.rs .a R.LINK_SLOT_LEN 100).onRig .a fun r => { r with cycAt := some 99999990 } : Dev).rig.at (.a : Lane)).stopped = false) ∧ ((((wRig.rs .a R.LINK_SLOT_LEN 100).onRig .a fun r => { r with cycAt := some 99999990 } : Dev).rg (.a : Lane) R.LINK_STAT_ISHEAD == 1 && decide (((wRig.rs .a R.LINK_SLOT_LEN 100).onRig .a fun r => { r with cycAt := some 99999990 } : Dev).now < (((wRig.rs .a R.LINK_SLOT_LEN 100).onRig .a fun r => { r with cycAt := some 99999990 } : Dev).rig.at (.a : Lane)).lineEnd) && (((wRig.rs .a R.LINK_SLOT_LEN 100).onRig .a fun r => { r with cycAt := some 99999990 } : Dev).rig.at (.a : Lane)).sent.any (·.typ == 0) && (none : Option Nat).isSome) = false) ∧ (((99999990 : Nat) + 5 * ((wRig.rs .a R.LINK_SLOT_LEN 100).onRig .a fun r => { r with cycAt := some 99999990 } : Dev).rg (.a : Lane) R.LINK_SLOT_START) ≤ ((wRig.rs .a R.LINK_SLOT_LEN 100).onRig .a fun r => { r with cycAt := some 99999990 } : Dev).now) ∧ (((wRig.rs .a R.LINK_SLOT_LEN 100).onRig .a fun r => { r with cycAt := some 99999990 } : Dev).now < ((99999990 : Nat) + 5 * ((wRig.rs .a R.LINK_SLOT_LEN 100).onRig .a fun r => { r with cycAt := some 99999990 } : Dev).rg (.a : Lane) R.LINK_SLOT_START) + 5 * ((wRig.rs .a R.LINK_SLOT_LEN 100).onRig .a fun r => { r with cycAt := some 99999990 } : Dev).rg (.a : Lane) R.LINK_SLOT_LEN) ∧ (((wRig.rs .a R.LINK_SLOT_LEN 100).onRig .a fun r => { r with cycAt := some 99999990 } : Dev).rg (.a : Lane) R.LINK_STAT_HEADOK ≠ 0 ∨ ((wRig.rs .a R.LINK_SLOT_LEN 100).onRig .a fun r => { r with cycAt := some 99999990 } : Dev).rg (.a : Lane) R.LINK_STAT_ISHEAD ≠ 0) := by decide

theorem wit_LinkNetworkCommandsComplete_linkSlot5 : (((wRig.onRig .a fun r => { r with cycAt := some 99999990, lineEnd := 100000100, sent := [{ typ := 0, dst := 0, epoch := 0, payload := [], at' := 99999990 }] } : Dev).rig.at (.a : Lane)).cycAt = some (99999990 : Nat)) ∧ ((wRig.onRig .a fun r => { r with cycAt := some 99999990, lineEnd := 100000100, sent := [{ typ := 0, dst := 0, epoch := 0, payload := [], at' := 99999990 }] } : Dev).rigOn (.a : Lane) = true) ∧ (((wRig.onRig .a fun r => { r with cycAt := some 99999990, lineEnd := 100000100, sent := [{ typ := 0, dst := 0, epoch := 0, payload := [], at' := 99999990 }] } : Dev).rig.at (.a : Lane)).stopped = false) ∧ (((wRig.onRig .a fun r => { r with cycAt := some 99999990, lineEnd := 100000100, sent := [{ typ := 0, dst := 0, epoch := 0, payload := [], at' := 99999990 }] } : Dev).rg (.a : Lane) R.LINK_STAT_ISHEAD == 1 && decide ((wRig.onRig .a fun r => { r with cycAt := some 99999990, lineEnd := 100000100, sent := [{ typ := 0, dst := 0, epoch := 0, payload := [], at' := 99999990 }] } : Dev).now < ((wRig.onRig .a fun r => { r with cycAt := some 99999990, lineEnd := 100000100, sent := [{ typ := 0, dst := 0, epoch := 0, payload := [], at' := 99999990 }] } : Dev).rig.at (.a : Lane)).lineEnd) && ((wRig.onRig .a fun r => { r with cycAt := some 99999990, lineEnd := 100000100, sent := [{ typ := 0, dst := 0, epoch := 0, payload := [], at' := 99999990 }] } : Dev).rig.at (.a : Lane)).sent.any (·.typ == 0) && (some 3 : Option Nat).isSome) = true) := by decide

theorem wit_LinkNetworkCommandsComplete_regReq6 : ((wRig.rs .a R.LINK_NODE_ADDR 5 : Dev).rigOn (.a : Lane) = true) ∧ ((wRig.rs .a R.LINK_NODE_ADDR 5 : Dev).rg (.a : Lane) R.LINK_NODE_ADDR = (5 : Fin 64).val) ∧ ((wRig.rs .a R.LINK_NODE_ADDR 5 : Dev).rg (.a : Lane) R.LINK_NODE_EPOCH ≠ (9 : Fin 256).val) := by decide

theorem wit_LinkNetworkCommandsComplete_regReq7 : (((wRig.rs .a R.LINK_NODE_ADDR 5).rs .a R.LINK_NODE_EPOCH 9 : Dev).rigOn (.a : Lane) = true) ∧ (((wRig.rs .a R.LINK_NODE_ADDR 5).rs .a R.LINK_NODE_EPOCH 9 : Dev).rg (.a : Lane) R.LINK_NODE_ADDR = (5 : Fin 64).val) ∧ (((wRig.rs .a R.LINK_NODE_ADDR 5).rs .a R.LINK_NODE_EPOCH 9 : Dev).rg (.a : Lane) R.LINK_NODE_EPOCH = (9 : Fin 256).val) := by decide

theorem wit_LinkNetworkCommandsComplete_regRsp8 : ((wRemote : Dev).rigOn (.a : Lane) = true) ∧ (((wRemote : Dev).rigHeard (.a : Lane) (2 : Fin 64).val).remoteWaits (.a : Lane) (7 : Fin 256).val = true) := by decide

theorem wit_LinkNetworkCommandsComplete_notice9 : ((wRig : Dev).rigOn (.a : Lane) = true) ∧ ((wRig : Dev).rigHeard (.a : Lane) (5 : Fin 64).val = (wRig.rigHeard .a 5 : Dev)) ∧ ((wRig.rigHeard .a 5 : Dev).rigOn (.a : Lane) = true) ∧ ((wRig.rigHeard .a 5 : Dev).rg (.a : Lane) R.LINK_STAT_ISHEAD ≠ 0) ∧ (¬ ((1 : Word) = 0 ∧ (0 : Word) = 0)) := by decide

theorem wit_LinkNetworkCommandsComplete_frameError10 : ((wRig : Dev).rigOn (.a : Lane) = true) := by decide

theorem wit_LinkNetworkCommandsComplete_headLost11 : (((wRig.rs .a R.LINK_STAT_ISHEAD 0).onRig .a fun r => { r with headAt := some 3 } : Dev).rigOn (.a : Lane) = true) ∧ (((wRig.rs .a R.LINK_STAT_ISHEAD 0).onRig .a fun r => { r with headAt := some 3 } : Dev).rg (.a : Lane) R.LINK_STAT_ISHEAD ≠ 1) ∧ ((((wRig.rs .a R.LINK_STAT_ISHEAD 0).onRig .a fun r => { r with headAt := some 3 } : Dev).rig.at (.a : Lane)).headAt = some (3 : Nat)) ∧ ((3 : Nat) + 2 * ((wRig.rs .a R.LINK_STAT_ISHEAD 0).onRig .a fun r => { r with headAt := some 3 } : Dev).rg (.a : Lane) R.LINK_CYCLE_CYC * 500 ≤ ((wRig.rs .a R.LINK_STAT_ISHEAD 0).onRig .a fun r => { r with headAt := some 3 } : Dev).now) := by decide

theorem wit_LinkNetworkCommandsComplete_headTakeover12 : ((((wRig.rs .a R.LINK_STAT_ISHEAD 0).rs .a R.LINK_CFG_HEAD 2).onRig .a fun r => { r with headAt := some 3 } : Dev).rigOn (.a : Lane) = true) ∧ ((((wRig.rs .a R.LINK_STAT_ISHEAD 0).rs .a R.LINK_CFG_HEAD 2).onRig .a fun r => { r with headAt := some 3 } : Dev).rg (.a : Lane) R.LINK_CFG_HEAD = 2) ∧ ((((wRig.rs .a R.LINK_STAT_ISHEAD 0).rs .a R.LINK_CFG_HEAD 2).onRig .a fun r => { r with headAt := some 3 } : Dev).rg (.a : Lane) R.LINK_STAT_ISHEAD ≠ 1) ∧ (((((wRig.rs .a R.LINK_STAT_ISHEAD 0).rs .a R.LINK_CFG_HEAD 2).onRig .a fun r => { r with headAt := some 3 } : Dev).rig.at (.a : Lane)).headAt = some (3 : Nat)) ∧ ((3 : Nat) + 4 * (((wRig.rs .a R.LINK_STAT_ISHEAD 0).rs .a R.LINK_CFG_HEAD 2).onRig .a fun r => { r with headAt := some 3 } : Dev).rg (.a : Lane) R.LINK_CYCLE_CYC * 500 ≤ (((wRig.rs .a R.LINK_STAT_ISHEAD 0).rs .a R.LINK_CFG_HEAD 2).onRig .a fun r => { r with headAt := some 3 } : Dev).now) := by decide

theorem wit_LinkNetworkCommandsComplete_syncTx13 : ((wUp : Dev).accepts (.laneFw .a : Writer) (pageAddr (pgLINK (.a : Lane)) 0x6C) (BitVec.ofNat 32 (9 : Fin 256).val)) := by decide

theorem wit_LinkNetworkCommandsComplete_syncEvent14 : ((wRig : Dev).rigOn (.a : Lane) = true) ∧ (((wRig : Dev).rig.at (.a : Lane)).events.contains ((5 : Fin 64).val, (2 : Fin 256).val, (100000000 : Word)) = false) ∧ ((if (5 : Fin 64).val = (wRig : Dev).rg (.a : Lane) R.LINK_NODE_ADDR then (wRig : Dev) else (wRig : Dev).rigHeard (.a : Lane) (5 : Fin 64).val) = (wRig.rigHeard .a 5 : Dev)) ∧ (0 ≤ stampDiff (wRig.rigHeard .a 5 : Dev).now (100000000 : Word).toNat) := by decide

theorem wit_LinkNetworkCommandsComplete_syncEvent15 : ((wRig : Dev).rigOn (.a : Lane) = true) ∧ (((wRig : Dev).rig.at (.a : Lane)).events.contains ((5 : Fin 64).val, (2 : Fin 256).val, (100000700 : Word)) = false) ∧ ((if (5 : Fin 64).val = (wRig : Dev).rg (.a : Lane) R.LINK_NODE_ADDR then (wRig : Dev) else (wRig : Dev).rigHeard (.a : Lane) (5 : Fin 64).val) = (wRig.rigHeard .a 5 : Dev)) ∧ (stampDiff (wRig.rigHeard .a 5 : Dev).now (100000700 : Word).toNat < 0) := by decide

theorem wit_LinkNetworkCommandsComplete_syncEvent16 : ((wRig.onRig .a fun r => { r with events := [(5, 2, 100000000)] } : Dev).rigOn (.a : Lane) = true) ∧ (((wRig.onRig .a fun r => { r with events := [(5, 2, 100000000)] } : Dev).rig.at (.a : Lane)).events.contains ((5 : Fin 64).val, (2 : Fin 256).val, (100000000 : Word)) = true) ∧ (0 ≤ stampDiff (wRig.onRig .a fun r => { r with events := [(5, 2, 100000000)] } : Dev).now (100000000 : Word).toNat) := by decide

theorem wit_EthernetAndTimeCommandsComplete_ethFrameReceive0 : ((wEth : Dev).ethOn = true) ∧ ((wEth : Dev).eg R.ETH_STAT_LINK ≠ 0) ∧ ((true : Bool) = true ∧ 60 ≤ (List.replicate 60 0xFF#8 : List Byte).length ∧ (List.replicate 60 0xFF#8 : List Byte).length ≤ 1518) ∧ ((wEth : Dev).ethTakes (List.replicate 60 0xFF#8 : List Byte) = true) ∧ ((match ethTag (List.replicate 60 0xFF#8 : List Byte) with | some t => (wEth : Dev).ethPath t | none => false) = false) ∧ (((wEth : Dev).eth.rx.map fun p => p.2.length).foldl (fun a b => a + b) 0 + (List.replicate 60 0xFF#8 : List Byte).length ≤ 16384) := by decide

theorem wit_EthernetAndTimeCommandsComplete_ethFrameReceive1 : ((wEth : Dev).ethOn = true) ∧ ((wEth : Dev).eg R.ETH_STAT_LINK ≠ 0) ∧ ((true : Bool) = false ∨ ([] : List Byte).length < 60 ∨ 1518 < ([] : List Byte).length) := by decide

set_option maxRecDepth 100000 in
theorem wit_EthernetAndTimeCommandsComplete_ethFrameReceive2 : ((wEthPath : Dev).ethGood (List.replicate 12 0xFF#8 ++ [0x88, 0xB5, 0, 5] ++ List.replicate 44 0 : List Byte) (true : Bool) = true) ∧ (ethTag (List.replicate 12 0xFF#8 ++ [0x88, 0xB5, 0, 5] ++ List.replicate 44 0 : List Byte) = some (5 : Nat)) ∧ ((wEthPath : Dev).ethPath (5 : Nat) = true) := by decide

theorem wit_EthernetAndTimeCommandsComplete_ethRxdataRead3 : ((wEth : Dev).arrives (.laneFw .a : Writer) = true) ∧ (((wEth : Dev).who (.laneFw .a : Writer)).readsNothing = false) ∧ ((wEth : Dev).readLane (.laneFw .a : Writer) ((wEth : Dev).openCopies pgETH) = some (.a : Lane)) := by decide

theorem wit_EthernetAndTimeCommandsComplete_ethTxdata4 : ((wEth : Dev).accepts (.laneFw .a : Writer) (pageAddr pgETH 0x70) (5 : Word)) := by decide

theorem wit_EthernetAndTimeCommandsComplete_ethTxlen5 : ((wEth : Dev).accepts (.laneFw .a : Writer) (pageAddr pgETH 0x6C) (60 : Word)) := by decide

theorem wit_EthernetAndTimeCommandsComplete_ethLinkDown6 : ((wEth : Dev).up (.iface .a) = true) ∧ ((wEth : Dev).eg R.ETH_STAT_LINK ≠ 0) := by decide

theorem wit_EthernetAndTimeCommandsComplete_ethLinkUp7 : ((wEth.es R.ETH_STAT_LINK 0 : Dev).ethOn = true) ∧ ((wEth.es R.ETH_STAT_LINK 0 : Dev).eg R.ETH_STAT_LINK ≠ 1) := by decide

theorem wit_EthernetAndTimeCommandsComplete_ethTxdone8 : (({ wUp with eth := { wUp.eth with sending := true } } : Dev).eth.sending = true) ∧ (({ wUp with eth := { wUp.eth with sending := true } } : Dev).eth.pdus = []) := by decide

theorem wit_EthernetAndTimeCommandsComplete_ethTxdone9 : (({ wUp with eth := { wUp.eth with sending := true, pdus := [[1]] } } : Dev).eth.sending = true) ∧ (({ wUp with eth := { wUp.eth with sending := true, pdus := [[1]] } } : Dev).eth.pdus.getLast? = some ([1] : List Byte)) := by decide

theorem wit_EthernetAndTimeCommandsComplete_mdioGo10 : ((wEth : Dev).accepts (.laneFw .a : Writer) (pageAddr pgETH 0x74) (R.ETH_MDIO_GO.put (5 : Word) 1)) := by decide

theorem wit_EthernetAndTimeCommandsComplete_mdioDone11 : ((wUp.es R.ETH_MDIO_GO 1 : Dev).up (.iface .a) = true) ∧ ((wUp.es R.ETH_MDIO_GO 1 : Dev).eg R.ETH_MDIO_GO ≠ 0) := by decide

theorem wit_EthernetAndTimeCommandsComplete_ptpMessage12 : ((wEth.es R.ETH_CFG_PTP 1 : Dev).ethOn = true) ∧ ((wEth.es R.ETH_CFG_PTP 1 : Dev).eg R.ETH_STAT_LINK ≠ 0) ∧ ((wEth.es R.ETH_CFG_PTP 1 : Dev).eg R.ETH_CFG_PTP ≠ 0) := by decide

theorem wit_EthernetAndTimeCommandsComplete_ptpMessage13 : (({ wEth.es R.ETH_CFG_PTP 1 with eth := { wEth.eth with syncAt := some 5, delay := some 6 } } : Dev).ethOn = true) ∧ (({ wEth.es R.ETH_CFG_PTP 1 with eth := { wEth.eth with syncAt := some 5, delay := some 6 } } : Dev).eg R.ETH_STAT_LINK ≠ 0) ∧ (({ wEth.es R.ETH_CFG_PTP 1 with eth := { wEth.eth with syncAt := some 5, delay := some 6 } } : Dev).eg R.ETH_CFG_PTP ≠ 0) ∧ (({ wEth.es R.ETH_CFG_PTP 1 with eth := { wEth.eth with syncAt := some 5, delay := some 6 } } : Dev).eth.syncAt = some (5 : Nat)) ∧ (({ wEth.es R.ETH_CFG_PTP 1 with eth := { wEth.eth with syncAt := some 5, delay := some 6 } } : Dev).eth.delay = some (6 : Int)) := by decide

theorem wit_EthernetAndTimeCommandsComplete_ptpMessage14 : ((wEth.es R.ETH_CFG_PTP 1 : Dev).ethOn = true) ∧ ((wEth.es R.ETH_CFG_PTP 1 : Dev).eg R.ETH_STAT_LINK ≠ 0) ∧ ((wEth.es R.ETH_CFG_PTP 1 : Dev).eg R.ETH_CFG_PTP ≠ 0) := by decide

theorem wit_EthernetAndTimeCommandsComplete_ptpMessage15 : ((wEth.es R.ETH_CFG_PTP 1 : Dev).ethOn = true) ∧ ((wEth.es R.ETH_CFG_PTP 1 : Dev).eg R.ETH_STAT_LINK ≠ 0) ∧ ((wEth.es R.ETH_CFG_PTP 1 : Dev).eg R.ETH_CFG_PTP ≠ 0) := by decide

theorem wit_EthernetAndTimeCommandsComplete_ptpMessage16 : ((wEth.es R.ETH_CFG_PTP 1 : Dev).ethOn = true) ∧ ((wEth.es R.ETH_CFG_PTP 1 : Dev).eg R.ETH_STAT_LINK ≠ 0) ∧ ((wEth.es R.ETH_CFG_PTP 1 : Dev).eg R.ETH_CFG_PTP ≠ 0) := by decide

theorem wit_EthernetAndTimeCommandsComplete_timeSourceEvent17 : (((wUp.s pgTIME H.CTRL_ENABLE 1).s pgTIME R.TIME_CFG_SRC 5 : Dev).sourcePair (0 : Nat) (100000000 : Nat) = some ((0 : Int), (0 : Int))) ∧ (((wUp.s pgTIME H.CTRL_ENABLE 1).s pgTIME R.TIME_CFG_SRC 5 : Dev).copies pgTIME ≠ []) ∧ (((wUp.s pgTIME H.CTRL_ENABLE 1).s pgTIME R.TIME_CFG_SRC 5 : Dev).tg H.CTRL_ENABLE ≠ 0) := by decide

theorem wit_EthernetAndTimeCommandsComplete_timeEventTimeout18 : (({ wUp.s pgTIME H.CTRL_ENABLE 1 with time := { wUp.time with lastEvent := some 0 }, now := 90000000000 } : Dev).time.lastEvent = some (0 : Nat)) ∧ (({ wUp.s pgTIME H.CTRL_ENABLE 1 with time := { wUp.time with lastEvent := some 0 }, now := 90000000000 } : Dev).copies pgTIME ≠ []) ∧ (({ wUp.s pgTIME H.CTRL_ENABLE 1 with time := { wUp.time with lastEvent := some 0 }, now := 90000000000 } : Dev).tg H.CTRL_ENABLE ≠ 0) ∧ ((0 : Nat) + 4 * ({ wUp.s pgTIME H.CTRL_ENABLE 1 with time := { wUp.time with lastEvent := some 0 }, now := 90000000000 } : Dev).tg R.TIME_EXPINT_T * 500 ≤ ({ wUp.s pgTIME H.CTRL_ENABLE 1 with time := { wUp.time with lastEvent := some 0 }, now := 90000000000 } : Dev).now) := by decide

theorem wit_EthernetAndTimeCommandsComplete_timerefPulse19 : ((wUp : Dev).up (.iface .b) = true) ∧ ((true : Bool) ≠ ((wUp : Dev).tg R.TIME_CFG_PPSPOL == 1)) := by decide

theorem wit_EthernetAndTimeCommandsComplete_nowLoRead20 : ((wUp : Dev).arrives (.laneFw .a : Writer) = true) ∧ (((wUp : Dev).who (.laneFw .a : Writer)).readsNothing = false) ∧ ((wUp : Dev).readLane (.laneFw .a : Writer) ((wUp : Dev).openCopies pgTIME) = some (.a : Lane)) := by decide

theorem wit_ServiceCommandsComplete_hallmarkData40 : ((wHall : Dev).accepts (.laneFw .a : Writer) (pageAddr pgHALLMARK (0x88 + 0x20 * (3 : Fin 16).val)) (5 : Word)) := by decide

theorem wit_ServiceCommandsComplete_hallmarkData11 : ((wHall : Dev).accepts (.laneFw .a : Writer) (pageAddr pgHALLMARK (0x8C + 0x20 * (3 : Fin 16).val)) (5 : Word)) := by decide

theorem wit_ServiceCommandsComplete_hallmarkCheckin2 : ((wHall : Dev).accepts (.laneFw .a : Writer) (pageAddr pgHALLMARK (0x90 + 0x20 * (3 : Fin 16).val)) (5 : Word)) := by decide

theorem wit_ServiceCommandsComplete_hallmarkStart3 : ((wHall : Dev).accepts (.laneFw .a : Writer) (pageAddr pgHALLMARK (0x94 + 0x20 * (3 : Fin 16).val)) 0x40000000#32) := by decide

theorem wit_ServiceCommandsComplete_appendClose4 : ((wHall : Dev).accepts (.laneFw .a : Writer) (pageAddr pgHALLMARK (0x94 + 0x20 * (3 : Fin 16).val)) (BitVec.ofNat 32 (0x80000000 + (9 : Fin 256).val))) := by decide

theorem wit_ServiceCommandsComplete_stripClose5 : ((wHall : Dev).accepts (.laneFw .a : Writer) (pageAddr pgHALLMARK (0x94 + 0x20 * (3 : Fin 16).val)) (BitVec.ofNat 32 (0x80000000 + (9 : Fin 256).val))) := by decide

theorem wit_ServiceCommandsComplete_hallmarkValueRestore6 : ((wHall : Dev).accepts (.laneFw .a : Writer) (pageAddr pgHALLMARK (0x84 + 0x20 * (3 : Fin 16).val)) (5 : Word)) := by decide

theorem wit_ServiceCommandsComplete_ledgerRaise7 : ((wUp : Dev).copies pgLEDGER ≠ []) := by decide

theorem wit_ServiceCommandsComplete_sourceClear8 : ((wUp : Dev).accepts (.laneFw .a : Writer) (pageAddr pgLEDGER (0x200 + 4 * (32 : Fin 384).val)) ((wUp : Dev).fieldWord (.laneFw .a : Writer) pgLEDGER R.LEDGER_SRC_STATUS 1 (32 : Fin 384).val)) ∧ ((srcDefault (32 : Fin 384).val).isSome = true) := by decide

theorem wit_ServiceCommandsComplete_clrall9 : ((wUp : Dev).accepts (.laneFw .a : Writer) (pageAddr pgLEDGER 0x50) (keyWord (0xD2 : Fin 256).val 0)) := by decide

theorem wit_ServiceCommandsComplete_sourceForce10 : (({ wUp with mode := { wUp.mode with cur := .maintenance } } : Dev).accepts (.port 0 : Writer) (pageAddr pgLEDGER (0x200 + 4 * (32 : Fin 384).val)) (({ wUp with mode := { wUp.mode with cur := .maintenance } } : Dev).fieldWord (.port 0 : Writer) pgLEDGER R.LEDGER_SRC_FORCE (true : Bool).toNat (32 : Fin 384).val)) ∧ ((srcDefault (32 : Fin 384).val).isSome = true) ∧ (R.LEDGER_SRC_FORCE.get (({ wUp with mode := { wUp.mode with cur := .maintenance } } : Dev).seenWordBy (.port 0 : Writer) pgLEDGER (0x200 + 4 * (32 : Fin 384).val)) ≠ (true : Bool).toNat ∨ ((true : Bool) = true ∧ mayForce (({ wUp with mode := { wUp.mode with cur := .maintenance } } : Dev).who (.port 0 : Writer)) = true)) := by decide

theorem wit_ServiceCommandsComplete_firstRearm11 : ((wUp : Dev).accepts (.laneFw .a : Writer) (pageAddr pgLEDGER 0x44) ((wUp : Dev).fieldWord (.laneFw .a : Writer) pgLEDGER R.LEDGER_FIRST_VALID 1)) := by decide

theorem wit_ServiceCommandsComplete_firstFinal12 : ((wUp.s pgLEDGER R.LEDGER_FIRST_VALID 1 : Dev).g pgLEDGER R.LEDGER_FIRST_VALID = 1) ∧ ((wUp.s pgLEDGER R.LEDGER_FIRST_VALID 1 : Dev).g pgLEDGER R.LEDGER_FIRST_FINAL = 0) ∧ ((wUp.s pgLEDGER R.LEDGER_FIRST_VALID 1 : Dev).ledger.firstStamp + 1000 ≤ (wUp.s pgLEDGER R.LEDGER_FIRST_VALID 1 : Dev).now) := by decide

theorem wit_ServiceCommandsComplete_cntclr13 : ((wUp : Dev).accepts (.laneFw .a : Writer) (pageAddr pgLEDGER (0x200 + 4 * (32 : Fin 384).val)) ((wUp : Dev).fieldWord (.laneFw .a : Writer) pgLEDGER R.LEDGER_SRC_CNTCLR 1 (32 : Fin 384).val)) ∧ ((srcDefault (32 : Fin 384).val).isSome = true) := by decide

theorem wit_ServiceCommandsComplete_tinkerSliceStart14 : ((wTinker : Dev).g pgTINKER H.CTRL_ENABLE ≠ 0) ∧ ((wTinker : Dev).up (.ctl .a : Die) = true) ∧ ((wTinker : Dev).tinker.sweep = none) ∧ (((wTinker : Dev).tinker.starts.any fun p => p.1 == (.ctl .a : Die) && decide ((wTinker : Dev).now < p.2 + 500 * (wTinker : Dev).g pgTINKER R.TINKER_CFG_GAP)) = false) ∧ (((wTinker : Dev).tinker.tests.any fun p => p.1 == (.ctl .a : Die)) = false) ∧ (((List.range 46).map fun k => ((match (wTinker : Dev).tinker.turn.find? (fun p => p.1 == (.ctl .a : Die)) with | some p => p.2 + 1 | none => 0) + k) % 46).find? (fun s => sliceOn (.ctl .a : Die) s && decide (s < 46) && (wTinker : Dev).sliceOnline s && (wTinker : Dev).sliceIdle (.ctl .a : Die) s) = some (24 : Nat)) := by decide

theorem wit_ServiceCommandsComplete_tinkerSliceEnd15 : ((wUp.onTinker fun t => { t with tests := [(.ctl .a, 24, 5)] } : Dev).up (.ctl .a : Die) = true) ∧ (((wUp.onTinker fun t => { t with tests := [(.ctl .a, 24, 5)] } : Dev).tinker.tests.any fun t => t.1 == (.ctl .a : Die) && t.2.1 == (24 : Fin 64).val && decide (t.2.2 ≤ (wUp.onTinker fun t => { t with tests := [(.ctl .a, 24, 5)] } : Dev).now)) = true) := by decide

theorem wit_ServiceCommandsComplete_tinkerSweep16 : ((wSweep : Dev).accepts (.laneFw .a : Writer) (pageAddr pgTINKER 0x44) (keyWord 0x8E 1)) := by decide

theorem wit_ServiceCommandsComplete_tinkerAbort17 : ((wUp : Dev).accepts (.laneFw .a : Writer) (pageAddr pgTINKER 0x44) (keyWord 0x8E 2)) := by decide

theorem wit_ServiceCommandsComplete_tinkerFailClear18 : ((wUp : Dev).accepts (.laneFw .a : Writer) (pageAddr pgTINKER (0x50 + 4 * (1 : Fin 2).val)) (1 : Word)) := by decide

theorem wit_ThermalCommandsComplete_tempReading0 : ((wUp : Dev).modeIs [.dormant, .watch] = false) ∧ ((wUp : Dev).sensAvail (3 : Fin 20).val = true) ∧ ((wUp : Dev).copies pgTEMP ≠ []) := by decide

theorem wit_ThermalCommandsComplete_tempClear1 : ((wUp : Dev).accepts (.laneFw .a : Writer) (pageAddr pgTEMP 0x44) (1 : Word)) := by decide

theorem wit_ThermalCommandsComplete_thermalRecordWritten2 : (({ wUp with thermal := { wUp.thermal with pend := some wRec, active := true } } : Dev).thermal.pend = some (wRec : ThermalRec)) ∧ (({ wUp with thermal := { wUp.thermal with pend := some wRec, active := true } } : Dev).thermal.active = true) ∧ (({ wUp with thermal := { wUp.thermal with pend := some wRec, active := true } } : Dev).up (.iface (.a : Lane)) = true) ∧ (({ wUp with thermal := { wUp.thermal with pend := some wRec, active := true } } : Dev).thermal.written.contains (.a : Lane) = false) := by decide

theorem wit_ThermalCommandsComplete_thermalDormantEntry3 : ((wHot : Dev).thermal.active = true) ∧ ((([Lane.a, Lane.b].filter fun l => (wHot : Dev).up (.iface l)).all fun l => (wHot : Dev).thermal.written.contains l) = true) ∧ ((wHot : Dev).thermalOff = true) := by decide

theorem wit_ThermalCommandsComplete_thermalRetryWake4 : ((wLatch : Dev).mode.cur = .dormant) ∧ ((wLatch : Dev).thermalLatch = true) ∧ (([Lane.a, Lane.b].any fun l => (wLatch : Dev).up (.iface l)) = true ∨ (wLatch : Dev).thermal.since + (wLatch : Dev).thermal.retry ≤ (wLatch : Dev).now) := by decide

theorem wit_UpdateCommandsComplete_updBegin0 : ((wUp : Dev).accepts (.laneFw .a : Writer) (pageAddr pgNVM 0x44) (updWord 1 (1 : Fin 2).val 0)) := by decide

theorem wit_UpdateCommandsComplete_eraseComplete1 : ((wUp.setUpd 1 : Dev).updState = 1) := by decide

theorem wit_UpdateCommandsComplete_pageProgram2 : ((wUp.setUpd 2 : Dev).accepts (.laneFw .a : Writer) (pageAddr pgNVM 0x1FC) (7 : Word)) := by decide

theorem wit_UpdateCommandsComplete_programComplete3 : ((wUp.setUpd 3 : Dev).updState = 3) := by decide

theorem wit_UpdateCommandsComplete_updFinish4 : ((wUp.setUpd 2 : Dev).accepts (.laneFw .a : Writer) (pageAddr pgNVM 0x44) (updWord 2 0 0)) := by decide

theorem wit_UpdateCommandsComplete_verifyComplete5 : ((wUp.setUpd 4 : Dev).updState = 4) ∧ (((wUp.setUpd 4 : Dev).onNvm fun _ n => { n with full := n.full.set (wUp.setUpd 4 : Dev).boot.bank true }) = ((wUp.setUpd 4).onNvm fun _ n => { n with full := n.full.set (wUp.setUpd 4).boot.bank true } : Dev)) := by decide

theorem wit_UpdateCommandsComplete_updActivate6 : ((wUp : Dev).accepts (.laneFw .a : Writer) (pageAddr pgNVM 0x44) (updWord 3 (1 : Fin 2).val (3 : Fin 8).val)) := by decide

theorem wit_UpdateCommandsComplete_activationSettle7 : (({ wUp.setUpd 6 with boot := { wUp.boot with act := some (1, .a, true, 5) }, now := 90000000000000 } : Dev).boot.act = some ((1 : Nat), (.a : Lane), true, (5 : Nat))) ∧ (({ wUp.setUpd 6 with boot := { wUp.boot with act := some (1, .a, true, 5) }, now := 90000000000000 } : Dev).updState = 6) ∧ ((5 : Nat) + ({ wUp.setUpd 6 with boot := { wUp.boot with act := some (1, .a, true, 5) }, now := 90000000000000 } : Dev).g pgNVM R.NVM_UPDCFG_SETTLE * 500000 ≤ ({ wUp.setUpd 6 with boot := { wUp.boot with act := some (1, .a, true, 5) }, now := 90000000000000 } : Dev).now) := by decide

theorem wit_UpdateCommandsComplete_updateFailed8 : (({ (wUp.setUpd 5).onLane .a (fun x => { x with eligible := false }) with boot := { wUp.boot with act := some (1, .a, true, 5) }, now := 90000000000000 } : Dev).boot.act = some ((1 : Nat), (.a : Lane), (true : Bool), (5 : Nat))) ∧ (({ (wUp.setUpd 5).onLane .a (fun x => { x with eligible := false }) with boot := { wUp.boot with act := some (1, .a, true, 5) }, now := 90000000000000 } : Dev).updState = 5) ∧ ((({ (wUp.setUpd 5).onLane .a (fun x => { x with eligible := false }) with boot := { wUp.boot with act := some (1, .a, true, 5) }, now := 90000000000000 } : Dev).lanes.at (.a : Lane)).eligible = false) ∧ ((5 : Nat) + ({ (wUp.setUpd 5).onLane .a (fun x => { x with eligible := false }) with boot := { wUp.boot with act := some (1, .a, true, 5) }, now := 90000000000000 } : Dev).g pgNVM R.NVM_UPDCFG_TMO * 500000 ≤ ({ (wUp.setUpd 5).onLane .a (fun x => { x with eligible := false }) with boot := { wUp.boot with act := some (1, .a, true, 5) }, now := 90000000000000 } : Dev).now) := by decide

theorem wit_UpdateCommandsComplete_updAbort9 : ((wUp.setUpd 2 : Dev).accepts (.laneFw .a : Writer) (pageAddr pgNVM 0x44) (updWord 4 0 0)) := by decide

theorem wit_UpdateCommandsComplete_updSetpref10 : ((wUp : Dev).accepts (.laneFw .a : Writer) (pageAddr pgNVM 0x44) (updWord 5 (1 : Fin 2).val 0)) := by decide

theorem wit_UpdateCommandsComplete_updCommitSvn11 : ((wUp : Dev).accepts (.port 0 : Writer) (pageAddr pgNVM 0x44) (updWord 6 0 0)) := by decide

theorem wit_UpdateCommandsComplete_updProvision12 : (({ (wUp : Dev) with boot := { (wUp : Dev).boot with given := some ({ noFacts with healthy := (true : Bool) }) } }).accepts (.port 0 : Writer) (pageAddr pgNVM 0x44) (updWord 7 0 0)) := by decide

theorem wit_UpdateCommandsComplete_unlockChallenge13 : (({ (wUp : Dev) with boot := { (wUp : Dev).boot with given := some ({ noFacts with entropy := (none : Option (List Word)) }) } }).accepts (.port 0 : Writer) (pageAddr pgNVM 0x5C) (keyWord 0xE1 1)) := by decide

theorem wit_UpdateCommandsComplete_unlockSubmit14 : ((wUp : Dev).accepts (.port 0 : Writer) (pageAddr pgNVM 0x5C) (keyWord 0xE1 2)) := by decide

theorem wit_UpdateCommandsComplete_objdataAccess15 : ((wUp : Dev).accepts (.laneFw .a : Writer) (pageAddr pgNVM 0xC4) (7 : Word)) := by decide

theorem wit_UpdateCommandsComplete_objdataAccess16 : ((wUp : Dev).arrives (.laneFw .a : Writer) = true) ∧ (((wUp : Dev).who (.laneFw .a : Writer)).readsNothing = false) ∧ ((wUp : Dev).readLane (.laneFw .a : Writer) ((wUp : Dev).copies pgNVM) = some (.a : Lane)) := by decide

theorem wit_UpdateCommandsComplete_jtagChallenge17 : ((wUp : Dev).chainClosed = true) ∧ ((wUp : Dev).nvmDies ≠ []) := by decide

theorem wit_UpdateCommandsComplete_jtagTokenSubmit18 : (((wUp : Dev).tinkerNeedBoth true 22).chainClosed = true) ∧ (((wUp : Dev).tinkerNeedBoth true 22).nvmDies ≠ []) := by decide

theorem wit_UpdateCommandsComplete_quote19 : ((wUp : Dev).accepts (.laneFw .a : Writer) (pageAddr pgNVM 0x60) (R.NVM_QUOTE_GO.put (keyWord 0x51 0) 1 : Word)) ∧ (R.NVM_QUOTE_KEY.get (R.NVM_QUOTE_GO.put (keyWord 0x51 0) 1 : Word) = 0x51) ∧ (R.NVM_QUOTE_GO.get (R.NVM_QUOTE_GO.put (keyWord 0x51 0) 1 : Word) = 1) := by decide

theorem wit_UpdateCommandsComplete_quoteComplete20 : (({ wUp with boot := { wUp.boot with quote := some (.a, []) } } : Dev).boot.quote = some ((.a : Lane), ([] : List Word))) ∧ ((({ ({ wUp with boot := { wUp.boot with quote := some (.a, []) } } : Dev) with boot := { ({ wUp with boot := { wUp.boot with quote := some (.a, []) } } : Dev).boot with quote := none } }).s pgNVM R.NVM_QUOTE_BUSY 0).up (.iface (.a : Lane)) = true) := by decide

theorem wit_ResourceCommandsComplete_resourceClaim0 : ((wUp : Dev).accepts (.laneFw .a : Writer) (pageAddr pgRES 0x40) (keyWord 0x3A (0x100 + (16 : Fin 256).val))) := by decide

theorem wit_ResourceCommandsComplete_resourceRelease1 : ((wUp : Dev).accepts (.laneFw .a : Writer) (pageAddr pgRES 0x40) (keyWord 0x3A (0x200 + (16 : Fin 256).val))) := by decide

theorem wit_ResourceCommandsComplete_resourceTake2 : ((wTake : Dev).copies pgRES ≠ []) ∧ ((wTake : Dev).takeCause (8 : Fin 256).val (0x40 + (3 : Fin 6).val) = true) ∧ (((wTake : Dev).res.takes.any fun t => t.res == (8 : Fin 256).val && t.fn == 0x40 + (3 : Fin 6).val) = false) ∧ ((wTake : Dev).resTaker (8 : Fin 256).val = none) := by decide

theorem wit_ResourceCommandsComplete_resourceTake3 : ((wTake2 : Dev).copies pgRES ≠ []) ∧ ((wTake2 : Dev).takeCause (2 : Fin 256).val (0x40 + (2 : Fin 6).val) = true) ∧ (((wTake2 : Dev).res.takes.any fun t => t.res == (2 : Fin 256).val && t.fn == 0x40 + (2 : Fin 6).val) = false) ∧ ((wTake2 : Dev).resTaker (2 : Fin 256).val = some (0x41 : Nat)) ∧ ((0x41 : Nat) < 0x40 + (2 : Fin 6).val) := by decide

theorem wit_ResourceCommandsComplete_resourceTakeEnd4 : ((wUp : Dev).takeCause (16 : Fin 256).val (0x40 + (0 : Fin 6).val) = false) := by decide

theorem wit_EmptyQueueIsOneTick_0 : ({ State.reset with dev := wUp } : State).pending = [] ∧ (wUp.clocks.a.main = true ∨ wUp.clocks.b.main = true) := by decide

theorem wit_QueueStaysWellFormed_0 : (∀ c ∈ ({ State.reset with pending := [.dischargeComplete, .linkLost (.ifaceCross .a)] } : State).pending, c.wellFormed = true) := by decide

theorem wit_RegisterWordsKeepTheirPlaces_0 : Dev.reset.canonical ∧ pageAddr pgSYS 0x40 < 0x1000000 := by decide

theorem wit_AcceptedWriteStoresItsFields_0 : Dev.reset.canonical ∧ pageAddr pgSYS 0x40 < 0x1000000 ∧ ([Lane.a, Lane.b] : List Lane).Nodup := by decide

theorem wit_PlainReadsLeaveTheDevice_0 : (∀ i < 2, (fun a : Nat => a / 0x1000 ∉ [0x24, 0x25, 0x26, 0x27] ∧ a / 0x1000 ≠ pgTIME ∧ a / 0x1000 ≠ pgNVM ∧ a / 0x1000 ≠ pgETH) (frameAddr 0x00002200#32 i)) := by decide

theorem wit_PlainReadsLeaveTheDevice_1 : (wUp.target (pageAddr pgSYS 0x40)).isSome = true ∧ (wUp.target (pageAddr pgSYS 0x40 / 0x1000 * 0x1000)).map (·.copies) = (wUp.target (pageAddr pgSYS 0x40)).map (·.copies) := by decide

theorem wit_RefusedWriteMarksItsPage_0 : wUp.arrives (.port 1) = true ∧ (wUp.verdict (.port 1) (pageAddr pgSYS 0x44) 7).good = false ∧ (match wUp.target (pageAddr pgSYS 0x44) with | some t => some t.page | none => if pageAddr pgSYS 0x44 < 0x2D000 then some (pageAddr pgSYS 0x44 / 0x1000) else none) = some pgSYS := by decide

theorem wit_FrameWithARefusedWordWritesNothing_0 : (frameWrites 0x00002200#32 [7, 9]).find? (fun kv => !(wUp.judgeAs (.port 1) (wUp.who (.port 1)) kv.1 kv.2).1.good) = some (0x44, 7) := by decide

theorem wit_BlockConditionsRefuse_0 : wLive.liveMode = true ∧ H.CTRL_ENABLE.get (wLive.present (.laneFw .a) 0x1E 4) = 1 ∧ H.CTRL_ENABLE.get 0#32 = 0 := by decide

theorem wit_BlockConditionsRefuse_1 : wLive.cfgMode = false ∧ ∃ f ∈ [R.CONV_MODE_TB, R.CONV_MODE_GANG, R.CONV_MODE_PHASE], f.get 0x20#32 ≠ f.get (wLive.present (.laneFw .a) (pgCONV .b 1) 0x40) := by decide

theorem wit_BlockConditionsRefuse_2 : wLive.liveMode = true ∧ R.CONV_REF_EN.get (wLive.present (.laneFw .a) (pgCONV .a 0) 0x44) = 1 ∧ R.CONV_REF_EN.get 0#32 = 0 := by decide

theorem wit_BlockConditionsRefuse_3 : wLive.gl .b (pgSEQ .b) R.SEQ_URGENT3_REQ = 1 ∧ R.SEQ_URGENT3_REQ.get 0x80000000#32 = 1 := by decide

theorem wit_QuillRotations_0 : (wQuill 0x27110C00 0).qReady .a 0x27 (qDecode 0x27110C00 0) ((qForm 0x27).getD {}) 99999990 := by decide

theorem wit_QuillRotations_1 : (wQuill 0x28210000 0).qReady .a 0x28 (qDecode 0x28210000 0) ((qForm 0x28).getD {}) 99999990 := by decide

theorem wit_TriggerStartsAnIdleQuill_0 : wTrig.trigDue .a 0 = true ∧ ((wTrig.tinkerQuill .a).quill.at .a).run = none ∧ ((0 : Fin 2) = 0 ∨ (wTrig.tinkerQuill .a).trigDue .a 0 = false) := by decide

theorem wit_QuillWordsRoundTrip_0 : qFits { op := 0x2B, dst := 15, sa := 4, sb := 12, sc := 8, flg := 0, k := 32, x := 0, imm := 0x08000000 } := by unfold qFits; decide

theorem wit_QuillFetchesWhatWasWritten_0 : qFits { op := 0x2B, dst := 15, sa := 4, sb := 12, sc := 8, flg := 0, k := 32, x := 0, imm := 0x08000000 } ∧ ((wQuill 1 2).quill.at .a).pc < 4096 ∧ (wQuill 1 2).qBank .a < 2 := by unfold qFits; decide

theorem wit_QuillFetchesWhatWasWritten_1 : cellsRising ((wQuill 1 2).quill.at .a).prog := by decide

theorem wit_QuillAluFrame_0 : (wQuill 0x03114800 0).canonical ∧ (wQuill 0x03114800 0).qReady .a 0x03 (qDecode 0x03114800 0) ((qForm 0x03).getD {}) 99999990 := by decide

theorem wit_RaiseAndClearInOneTick_0 : ({ wUp with ledger := { wUp.ledger with raisedAt := [(5, wUp.now)] } } : Dev).raisedNow 5 = true := by decide

theorem wit_RaiseAndClearInOneTick_1 : wUp.canonical ∧ Lane.b ∈ wUp.copies pgLEDGER := by decide

theorem wit_RaiseAndClearInOneTick_2 : (wUp.s pgLEDGER R.LEDGER_SRC_FORCE 1 9).g pgLEDGER R.LEDGER_SRC_FORCE 9 = 1 := by decide

theorem wit_StripThatFails_0 : ((wHall.hmSet 3 R.HALLMARK_CHECKIN_C 1).hmPartnerCloses 3).hmStripGood 3 0 = false := by decide

/-- The same with an alive counter of 4 bits whose last accepted value is 0, and in CHECKIN the check of the alive byte 0. -/
def wHallAlive : Dev :=
  ((wHall.hmSet 3 R.HALLMARK_CFG_AW 1).hmSet 3 R.HALLMARK_CFG_RXSYNC 0).hmSet 3 R.HALLMARK_CHECKIN_C 0xBD

theorem wit_StripThatFails_1 : (wHallAlive.hmPartnerCloses 3).hmStripGood 3 0 = true ∧ (wHallAlive.hmPartnerCloses 3).hmStripLive 3 0 = false := by decide

theorem wit_StripThatFails_2 : (wHall.hmPartnerCloses 3).hmStripGood 3 0 = true ∧ (wHall.hmPartnerCloses 3).hmStripLive 3 0 = true := by decide

theorem wit_OutputsOfADieThatIsDown_0 : wPart.up (.iface OutLand.mdio.lane) = false ∧ wPart.up (.iface .a) = false := by decide
theorem wit_OutputsOfADieThatIsDown_1 : Dev.reset.up (.iface .a) = false ∧ Dev.reset.up (.iface .b) = false := by decide
theorem wit_SyncOutChangesHands_0 : wSync.lands.syncBy = some .a ∧ wPart.up (.iface .a) = false ∧ wPart.up (.iface .b) = true ∧ wSync.syncOut = some true := by decide
theorem wit_SyncOutChangesHands_1 : wSync.lands.syncBy = some .a ∧ wSync.up (.iface .a) = true ∧ wSync.lanes.a.role ≠ .failed := by decide
theorem wit_SensorAndSafetyPortsReadNothing_0 : wUp.arrives (.port 12) = true ∧ (wUp.who (.port 12)).readsNothing = true := by decide
end

section
/-! The arithmetic of R22 and R291: `shiftRound` is a nearest integer with a half away from zero, and `sat32` is the clamp to the
signed 32-bit range. -/
namespace Sys2Proof.Machine

/-- Rounding half away from zero is symmetric in the sign. -/
theorem roundsTo_neg {num : Int} {den : Nat} {r : Int} (h : roundsTo num den r) : roundsTo (-num) den (-r) := by
  unfold roundsTo at h ⊢
  have hdiff : -num - -r * den = -(num - r * den) := by ring
  rwa [hdiff, neg_mul, Int.natAbs_neg, Int.natAbs_neg, Int.natAbs_neg]

/-- Adding half the denominator before the division rounds a magnitude, a half upwards. -/
theorem roundsTo_natCast (n den : Nat) (hden : 0 < den) : roundsTo n den (((2 * n + den) / (2 * den) : Nat) : Int) := by
  have hdivMod := Nat.div_add_mod (2 * n + den) (2 * den)
  have hrem : (2 * n + den) % (2 * den) < 2 * den := Nat.mod_lt _ (by omega)
  generalize (2 * n + den) / (2 * den) = q at hdivMod ⊢
  generalize (2 * n + den) % (2 * den) = m at hdivMod hrem
  have hdiff : 2 * ((n : Int) - q * den) = m - den := by zify at hdivMod; linarith
  -- `m` lies in [0, 2 den), and the tie is `m = 0`, where the rounded value is the greater one.
  unfold roundsTo
  omega

theorem divRoundAway_roundsTo (num : Int) {den : Nat} (hden : 0 < den) : roundsTo num den (divRoundAway num den) := by
  have hmagnitude := roundsTo_natCast num.natAbs den hden
  unfold divRoundAway
  rw [if_neg hden.ne']
  split
  case isTrue hneg => simpa [abs_of_neg hneg] using roundsTo_neg hmagnitude
  case isFalse hnonneg => simpa [abs_of_nonneg (not_lt.mp hnonneg)] using hmagnitude

theorem shiftRound_roundsTo (x : Int) (n : Nat) : roundsTo x (2 ^ n) (shiftRound x n) :=
  divRoundAway_roundsTo x (Nat.two_pow_pos n)

theorem clampInt_eq_max_min {lo hi : Int} (h : lo ≤ hi) (x : Int) : clampInt lo hi x = max lo (min hi x) := by
  unfold clampInt
  split_ifs <;> omega

theorem sat32_eq_max_min (x : Int) : sat32 x = max (-2147483648) (min 2147483647 x) :=
  clampInt_eq_max_min (by decide) x

end Sys2Proof.Machine
end

section
/-! O40: a coefficient entry and its product (R22). -/
namespace Sys2Proof.Machine

theorem qCoef_shift_lt (d : Dev) (l : Lane) (k : Nat) : (d.qCoef l k).2 < 64 :=
  Nat.mod_lt _ (by decide)

theorem qCoef_value_ge (d : Dev) (l : Lane) (k : Nat) : -2147483648 ≤ (d.qCoef l k).1 :=
  BitVec.le_toInt (d.word l (qCoefAddr k))

theorem qCoef_value_le (d : Dev) (l : Lane) (k : Nat) : (d.qCoef l k).1 ≤ 2147483647 :=
  Int.le_of_lt_add_one (BitVec.toInt_lt (x := d.word l (qCoefAddr k)))

theorem qTimes_eq (d : Dev) (l : Lane) (k : Nat) (x : Int) :
    d.qTimes l k x = sat32 (shiftRound (x * (d.qCoef l k).1) (d.qCoef l k).2) := rfl

/-- Settles O40: the rounded shifted product of R22 is the nearest integer, and the saturation is its clamp. -/
theorem coefficientProductIsRounded : Obligations.CoefficientProductIsRounded := by
  intro d l k x
  refine ⟨qCoef_shift_lt d l k, qCoef_value_ge d l k, qCoef_value_le d l k,
    shiftRound (x * (d.qCoef l k).1) (d.qCoef l k).2, shiftRound_roundsTo _ _, ?_⟩
  rw [qTimes_eq, sat32_eq_max_min]

end Sys2Proof.Machine
end

section
/-! How the checks of R116 refuse a write: the cases of `Dev.judgeAs`, once, with what each leaves behind. -/
namespace Sys2Proof.Machine

/-- Where nothing is implemented a write is UNMAPPED, and marks the page that the address lies in (R119). -/
theorem judgeAs_unmapped {d : Dev} {k : Nat} (ht : d.target k = none) (raw : Writer) (who : Who) (v : Word) :
    d.judgeAs raw who k v = (.unmapped, if k < 0x2D000 then fun e => e.markRefused (k / 0x1000) else id) := by
  simp only [Dev.judgeAs, ht]

/-- At an address with a target a write ends in one of six ways, in the order of R116. -/
theorem judgeAs_cases {d : Dev} {raw : Writer} {who : Who} {k : Nat} {v : Word} {t : Target} {w : Wr} {p : Plan}
    (ht : d.target k = some t) (hw : d.wrOf raw who t k v = w) (hp : d.planOf t k w = p) :
    d.judgeAs raw who k v = (.absent, fun e => e.markRefused t.page) ∨
    d.judgeAs raw who k v = (.cls, fun e => p.refuseCls (e.markRefused t.page)) ∨
    (claimResult d t w ≠ .ok ∧ d.judgeAs raw who k v = (claimResult d t w, fun e => e.markRefused t.page)) ∨
    (p.ignore = true ∧ (d.judgeAs raw who k v).1.good = true) ∨
    (∃ r, d.judgeAs raw who k v = (.claimed, fun e => (e.markRefused t.page).resBusy r)) ∨
    d.judgeAs raw who k v = (lateChecks d t w p,
      if lateChecks d t w p = .block then fun e => p.refuseBlk (e.markRefused t.page)
      else if (lateChecks d t w p).good then id else fun e => e.markRefused t.page) := by
  subst hw hp
  simp only [Dev.judgeAs, ht]
  split
  case isTrue _ => exact .inl rfl
  case isFalse _ =>
    split
    case isTrue _ => exact .inr (.inl rfl)
    case isFalse _ =>
      split
      case isTrue hclaim => exact .inr (.inr (.inl ⟨hclaim, rfl⟩))
      case isFalse _ =>
        split
        case isTrue hignore => exact .inr (.inr (.inr (.inl ⟨hignore, by split <;> rfl⟩)))
        case isFalse _ =>
          split
          case h_1 r _ => exact .inr (.inr (.inr (.inr (.inl ⟨r, rfl⟩))))
          case h_2 _ => exact .inr (.inr (.inr (.inr (.inr rfl))))

/-- A refused write under a writer's standing leaves what its refusal does, and its result. -/
theorem writeAs_refused {d : Dev} {raw : Writer} {who : Who} {k : Nat} {v : Word} (h : (d.judgeAs raw who k v).1.good = false) :
    d.writeAs raw who k v = ((d.judgeAs raw who k v).2 d).showAccess raw (d.judgeAs raw who k v).1 := by
  simp [Dev.writeAs, h]

end Sys2Proof.Machine
end

section
/-! What the plans of the registers let a refusal leave behind beside the mark of R119. -/
namespace Sys2Proof.Machine

/-- A plan whose refusals leave nothing beside CAUSE.REFUSED. -/
abbrev Plan.quiet (p : Plan) : Prop := p.refuseCls = id ∧ p.refuseBlk = id

/-- A plan whose refusals leave at most one of the marks that the chapters give. -/
def Plan.marksOf (p : Plan) (v : Word) : Prop := refusalMark p.refuseCls v ∧ refusalMark p.refuseBlk v

theorem refusalMark_id (v : Word) : refusalMark id v := .inl rfl

theorem Plan.quiet.marksOf {p : Plan} (h : p.quiet) (v : Word) : p.marksOf v := by
  obtain ⟨hcls, hblk⟩ := h
  exact ⟨hcls ▸ refusalMark_id v, hblk ▸ refusalMark_id v⟩

theorem planHeader_quiet (d : Dev) (p : Nat) (w : Wr) : (planHeader d p w).quiet := by
  unfold planHeader; split <;> exact ⟨rfl, rfl⟩

theorem planSys_quiet (d a : Dev) (w : Wr) : (planSys d a w).quiet := by
  unfold planSys; split <;> exact ⟨rfl, rfl⟩

theorem planClk_quiet (w : Wr) : (planClk w).quiet := by
  unfold planClk; split <;> exact ⟨rfl, rfl⟩

theorem planHost_quiet (w : Wr) : (planHost w).quiet := by
  unfold planHost; split <;> exact ⟨rfl, rfl⟩

theorem planLedger_quiet (d : Dev) (w : Wr) : (planLedger d w).quiet := by
  unfold planLedger
  split
  case h_3 =>
    split
    · exact ⟨rfl, rfl⟩
    · dsimp only; split <;> exact ⟨rfl, rfl⟩
  all_goals exact ⟨rfl, rfl⟩

theorem planTinker_quiet (d : Dev) (w : Wr) : (planTinker d w).quiet := by
  unfold planTinker; split <;> exact ⟨rfl, rfl⟩

theorem planHallmark_quiet (d a : Dev) (w : Wr) : (planHallmark d a w).quiet := by
  unfold planHallmark
  split
  · exact ⟨rfl, rfl⟩
  · dsimp only; split <;> exact ⟨rfl, rfl⟩

theorem planTemp_quiet (w : Wr) : (planTemp w).quiet := by
  unfold planTemp; split <;> exact ⟨rfl, rfl⟩

theorem planNvm_quiet (d : Dev) (w : Wr) : (planNvm d w).quiet := by
  unfold planNvm
  split
  case h_6 => split <;> exact ⟨rfl, rfl⟩
  all_goals exact ⟨rfl, rfl⟩

theorem planLane_quiet (w : Wr) : (planLane w).quiet := by
  unfold planLane; split <;> exact ⟨rfl, rfl⟩

theorem planCpu_quiet (l : Lane) (w : Wr) : (planCpu l w).quiet := by
  unfold planCpu; split <;> exact ⟨rfl, rfl⟩

theorem planQuill_quiet (d : Dev) (l : Lane) (w : Wr) : (planQuill d l w).quiet := by
  unfold planQuill; dsimp only; split <;> exact ⟨rfl, rfl⟩

theorem planConv_quiet (d : Dev) (l : Lane) (c : Fin 2) (w : Wr) : (planConv d l c w).quiet := by
  unfold planConv
  dsimp only
  split
  case h_7 =>
    split
    · exact ⟨rfl, rfl⟩
    · split <;> exact ⟨rfl, rfl⟩
  all_goals exact ⟨rfl, rfl⟩

theorem planSeq_quiet (d : Dev) (l : Lane) (w : Wr) : (planSeq d l w).quiet := by
  unfold planSeq
  dsimp only
  split
  case h_3 => split <;> exact ⟨rfl, rfl⟩
  all_goals exact ⟨rfl, rfl⟩

theorem planPos_quiet (d : Dev) (u : Lane) (w : Wr) : (planPos d u w).quiet := by
  unfold planPos
  split
  case isTrue => exact ⟨rfl, rfl⟩
  case isFalse =>
    split
    case isTrue => exact ⟨rfl, rfl⟩
    case isFalse =>
      dsimp only
      split
      case h_10 =>
        split
        · exact ⟨rfl, rfl⟩
        · split <;> exact ⟨rfl, rfl⟩
      all_goals exact ⟨rfl, rfl⟩

theorem planLeg_quiet (d a : Dev) (l : Lane) (n : Fin 6) (w : Wr) : (planLeg d a l n w).quiet := by
  unfold planLeg; dsimp only; split <;> exact ⟨rfl, rfl⟩

theorem planMod_quiet (d a : Dev) (l : Lane) (w : Wr) : (planMod d a l w).quiet := by
  unfold planMod
  dsimp only
  split
  case h_9 =>
    split
    · exact planLeg_quiet ..
    · exact ⟨rfl, rfl⟩
  all_goals exact ⟨rfl, rfl⟩

theorem planGate_quiet (w : Wr) : (planGate w).quiet := by
  unfold planGate
  split
  case isTrue => exact ⟨rfl, rfl⟩
  case isFalse =>
    split
    case isTrue => dsimp only; split <;> exact ⟨rfl, rfl⟩
    case isFalse =>
      split
      case isTrue => dsimp only; split <;> exact ⟨rfl, rfl⟩
      case isFalse => exact ⟨rfl, rfl⟩

theorem planProt_quiet (d : Dev) (w : Wr) : (planProt d w).quiet := by
  unfold planProt; split <;> exact ⟨rfl, rfl⟩

theorem planSafe_quiet (d : Dev) (i : Lane) (w : Wr) : (planSafe d i w).quiet := by
  unfold planSafe; split <;> exact ⟨rfl, rfl⟩

theorem planCan_quiet (d : Dev) (n : Fin 4) (w : Wr) : (planCan d n w).quiet := by
  unfold planCan
  dsimp only
  split
  case h_9 =>
    split
    · exact ⟨rfl, rfl⟩
    · split <;> exact ⟨rfl, rfl⟩
  all_goals exact ⟨rfl, rfl⟩

theorem planLink_quiet (d : Dev) (l : Lane) (w : Wr) : (planLink d l w).quiet := by
  unfold planLink; dsimp only; split <;> exact ⟨rfl, rfl⟩

theorem planEth_quiet (d : Dev) (w : Wr) : (planEth d w).quiet := by
  unfold planEth; split <;> exact ⟨rfl, rfl⟩

theorem planSense_quiet (w : Wr) : (planSense w).quiet := by
  unfold planSense
  split
  · exact ⟨rfl, rfl⟩
  · split <;> exact ⟨rfl, rfl⟩

theorem planRes_quiet (d : Dev) (w : Wr) : (planRes d w).quiet := by
  unfold planRes; split <;> exact ⟨rfl, rfl⟩

/-- The table regions, each in its branch of the address order. -/
theorem planRegion_quiet (d a : Dev) (k : Nat) (w : Wr) : (planRegion d a k w).quiet := by
  unfold planRegion
  split
  case isTrue => exact ⟨rfl, rfl⟩
  split
  case isTrue =>
    dsimp only
    split
    · exact ⟨rfl, rfl⟩
    · split <;> exact ⟨rfl, rfl⟩
  split
  case isTrue => exact ⟨rfl, rfl⟩
  split
  case isTrue =>
    dsimp only
    split
    · exact ⟨rfl, rfl⟩
    · split
      · exact ⟨rfl, rfl⟩
      · split <;> exact ⟨rfl, rfl⟩
  split
  case isTrue => dsimp only; split <;> exact ⟨rfl, rfl⟩
  dsimp only
  split
  · exact ⟨rfl, rfl⟩
  · split <;> exact ⟨rfl, rfl⟩

/-- A refused command of an axis leaves a role mismatch, a refused start or nothing (R272). -/
theorem planField_marksOf (d : Dev) (x : Fin 2) (w : Wr) (v : Word) : (planField d x w).marksOf v := by
  unfold planField
  split
  case h_2 =>
    refine ⟨refusalMark_id v, ?_⟩
    dsimp only
    cases w.f R.FIELD_CMD_EPOCH == d.g (pgFIELD x) R.FIELD_ROLE_EPOCH
    case false => exact .inr (.inl ⟨x, rfl⟩)
    case true =>
      simp only [Bool.not_true, Bool.false_eq_true, if_false]
      split
      · exact .inr (.inr (.inl ⟨x, rfl⟩))
      · exact refusalMark_id v
  case h_8 => split <;> exact Plan.quiet.marksOf ⟨rfl, rfl⟩ v
  all_goals exact Plan.quiet.marksOf ⟨rfl, rfl⟩ v

/-- A refused motion command leaves a role mismatch or nothing (R342). -/
theorem planMotion_marksOf (d : Dev) (x : Fin 2) (w : Wr) (v : Word) : (planMotion d x w).marksOf v := by
  unfold planMotion
  split
  case h_2 =>
    refine ⟨refusalMark_id v, ?_⟩
    dsimp only
    cases w.f R.MOTION_CMD_EPOCH == d.g (pgFIELD x) R.FIELD_ROLE_EPOCH
    case false => exact .inr (.inl ⟨x, rfl⟩)
    case true => exact refusalMark_id v
  case h_5 => split <;> exact Plan.quiet.marksOf ⟨rfl, rfl⟩ v
  all_goals exact Plan.quiet.marksOf ⟨rfl, rfl⟩ v

/-- A re-binding that its class refuses leaves REBSTAT.REFUSE (R522). -/
theorem planSlayer_marksOf (d : Dev) (w : Wr) : (planSlayer d w).marksOf w.v := by
  unfold planSlayer
  split
  case h_4 => exact ⟨.inr (.inr (.inr (.inl rfl))), refusalMark_id w.v⟩
  all_goals exact Plan.quiet.marksOf ⟨rfl, rfl⟩ w.v

theorem planPage_marksOf (d a : Dev) (p : Nat) (w : Wr) : (planPage d a p w).marksOf w.v := by
  unfold planPage
  split
  case isTrue => exact (planHeader_quiet ..).marksOf _
  case isFalse =>
    dsimp only
    split
    · exact (planSys_quiet ..).marksOf _
    · exact (planClk_quiet ..).marksOf _
    · exact (planHost_quiet ..).marksOf _
    · exact (planLedger_quiet ..).marksOf _
    · exact (planTinker_quiet ..).marksOf _
    · exact (planHallmark_quiet ..).marksOf _
    · exact (planTemp_quiet ..).marksOf _
    · exact (planNvm_quiet ..).marksOf _
    · exact (planLane_quiet ..).marksOf _
    · exact (planCpu_quiet ..).marksOf _
    · exact (planQuill_quiet ..).marksOf _
    · exact planField_marksOf ..
    · exact planMotion_marksOf ..
    · exact (planConv_quiet ..).marksOf _
    · exact (planSeq_quiet ..).marksOf _
    · exact (planPos_quiet ..).marksOf _
    · exact (planMod_quiet ..).marksOf _
    · exact (planGate_quiet ..).marksOf _
    · exact (planProt_quiet ..).marksOf _
    · exact (planSafe_quiet ..).marksOf _
    · exact Plan.quiet.marksOf ⟨rfl, rfl⟩ _
    · exact planSlayer_marksOf ..
    · exact (planCan_quiet ..).marksOf _
    · exact (planLink_quiet ..).marksOf _
    · exact (planEth_quiet ..).marksOf _
    · exact (planSense_quiet ..).marksOf _
    · exact (planRes_quiet ..).marksOf _
    · exact Plan.quiet.marksOf ⟨rfl, rfl⟩ _

theorem planOf_marksOf (d : Dev) (t : Target) (k : Nat) (w : Wr) : (d.planOf t k w).marksOf w.v := by
  unfold Dev.planOf
  dsimp only
  split
  · exact (planRegion_quiet ..).marksOf _
  · exact planPage_marksOf ..

end Sys2Proof.Machine
end

section
/-! The mark of R119: CAUSE.REFUSED stands in every available copy of the page. -/
namespace Sys2Proof.Machine

/-- A word other than the reset value is listed, and read back whatever the list held before. -/
theorem word_setWord_same {d : Dev} {l : Lane} {a : Nat} {w : Word} (hw : w ≠ addrReset a) : (d.setWord l a w).word l a = w := by
  simp [Dev.word, Dev.setWord, hw, cellsGet_put_same]

/-- Such a write leaves the word of the other lane's copy. -/
theorem word_setWord_otherLane {d : Dev} {l m : Lane} {a : Nat} {w : Word} (ha : a < 0x1000000) (hm : l ≠ m)
    (hw : w ≠ addrReset a) : (d.setWord m a w).word l a = d.word l a := by
  have hkey : regKey l a ≠ regKey m a := fun h => hm (regKey_inj ha ha h).1
  simp [Dev.word, Dev.setWord, hw, cellsGet_put_other w hkey]

/-- CAUSE resets to 0 on every page (R115). -/
theorem addrReset_cause {p : Nat} (hp : p < 45) : addrReset (pageAddr p 0x0C) = 0 := by
  have hpage : pageAddr p 0x0C < 0x2D000 := by unfold pageAddr; omega
  have hoff : pageAddr p 0x0C % 0x1000 = 0x0C := by unfold pageAddr; omega
  have hreset : fldsReset fldsHdr 0x0C = 0 := by decide
  simp [addrReset, hpage, hoff, pageReset, hreset]

/-- CAUSE.REFUSED of a copy of a page. -/
abbrev Dev.refusedBit (d : Dev) (l : Lane) (p : Nat) : Bool := (d.word l (pageAddr p 0x0C)).getLsbD 30

/-- The mark in one copy sets its bit and keeps the bit of the other copy. -/
theorem refusedBit_causeL {d : Dev} {l m : Lane} {p : Nat} (hp : p < 45) (h : l = m ∨ d.refusedBit l p = true) :
    (d.causeL m p 0x40000000#32).refusedBit l p = true := by
  have haddr : pageAddr p 0x0C < 0x1000000 := by unfold pageAddr; omega
  have hbit : (d.word m (pageAddr p 0x0C) ||| 0x40000000#32).getLsbD 30 = true := by simp
  have hne : d.word m (pageAddr p 0x0C) ||| 0x40000000#32 ≠ addrReset (pageAddr p 0x0C) := by
    rw [addrReset_cause hp]
    intro h0
    simp [h0] at hbit
  unfold Dev.refusedBit Dev.causeL
  by_cases hlm : l = m
  · subst hlm
    rw [word_setWord_same hne]
    exact hbit
  · rw [word_setWord_otherLane haddr hlm hne]
    exact h.resolve_left hlm

theorem refusedBit_foldl_causeL {p : Nat} (hp : p < 45) {l : Lane} (ls : List Lane) (d : Dev)
    (h : l ∈ ls ∨ d.refusedBit l p = true) :
    (ls.foldl (fun e m => e.causeL m p 0x40000000#32) d).refusedBit l p = true := by
  induction ls generalizing d with
  | nil => exact h.resolve_left (by simp)
  | cons m ms ih =>
    refine ih _ ?_
    rcases h with hmem | hbit
    · rcases List.mem_cons.mp hmem with hlm | hms
      · exact .inr (refusedBit_causeL hp (.inl hlm))
      · exact .inl hms
    · exact .inr (refusedBit_causeL hp (.inr hbit))

theorem refusedBit_markRefused {d : Dev} {p : Nat} (hp : p < 45) {l : Lane} (hl : l ∈ d.copies p) :
    (d.markRefused p).refusedBit l p = true :=
  refusedBit_foldl_causeL hp (d.copies p) d (.inl hl)

/-- Every region is governed by a page of the map (R110). -/
theorem regionPage_lt {k p : Nat} (h : regionPage k = some p) : p < 45 := by
  unfold regionPage at h
  split_ifs at h with _ _ _ _ _ _ hfilter
  -- Six regions have a fixed page; a filter bank's page follows from its address.
  iterate 6 (cases h; decide)
  cases h
  unfold rgFILTER rgEnd at hfilter
  unfold rgFILTER
  omega

/-- The page of a target is one of the map. -/
theorem target_page_lt {d : Dev} {k : Nat} {t : Target} (ht : d.target k = some t) : t.page < 45 := by
  unfold Dev.target at ht
  by_cases haligned : k % 4 ≠ 0
  · rw [if_pos haligned] at ht
    cases ht
  rw [if_neg haligned] at ht
  by_cases hpage : k < 0x2D000
  · rw [if_pos hpage] at ht
    dsimp only at ht
    split at ht
    case isTrue => cases ht
    case isFalse =>
      obtain rfl := Option.some.inj ht
      show k / 0x1000 < 45
      omega
  · rw [if_neg hpage] at ht
    split at ht
    case h_1 => cases ht
    case h_2 q hq =>
      obtain rfl := Option.some.inj ht
      dsimp only
      split
      · decide
      · exact regionPage_lt hq

end Sys2Proof.Machine
end

section
/-! O37: a refused write and its target page (R119). -/
namespace Sys2Proof.Machine

/-- What a refusal at an address with a target leaves: the mark of R119, and beside it at most one mark of its chapter. -/
theorem judgeAs_refused_marks {d : Dev} {raw : Writer} {who : Who} {k : Nat} {v : Word} {t : Target} (ht : d.target k = some t)
    (hr : (d.judgeAs raw who k v).1.good = false) :
    ∃ g, refusalMark g v ∧ (d.judgeAs raw who k v).2 d = g (d.markRefused t.page) := by
  obtain ⟨hcls, hblk⟩ := planOf_marksOf d t k (d.wrOf raw who t k v)
  rcases judgeAs_cases (raw := raw) (who := who) (v := v) ht rfl rfl with h | h | ⟨-, h⟩ | ⟨-, h⟩ | ⟨r, h⟩ | h
  · exact ⟨id, refusalMark_id v, by rw [h]; rfl⟩
  · exact ⟨_, hcls, by rw [h]⟩
  · exact ⟨id, refusalMark_id v, by rw [h]; rfl⟩
  · exact absurd h (by simp [hr])
  · exact ⟨fun e => e.resBusy r, .inr (.inr (.inr (.inr ⟨r, rfl⟩))), by rw [h]⟩
  · rw [h] at hr ⊢
    by_cases hb : lateChecks d t (d.wrOf raw who t k v) (d.planOf t k (d.wrOf raw who t k v)) = .block
    · exact ⟨_, hblk, by simp only [hb, if_true]⟩
    · exact ⟨id, refusalMark_id v, by simp [hb, show (lateChecks d t _ _).good = false from hr]⟩

/-- A refused write that arrives leaves what its refusal does, and its result. -/
theorem write_refused {d : Dev} {w : Writer} {k : Nat} {v : Word} (ha : d.arrives w = true) (hr : (d.verdict w k v).good = false) :
    d.write w k v = ((d.judgeAs w (d.whoAt w k) k v).2 d).showAccess w (d.verdict w k v) := by
  unfold Dev.write
  rw [if_pos ha, writeAs_refused hr]
  rfl

theorem exec_registerWrite (w : Writer) (k : Nat) (v : Word) (s : State) :
    exec (.registerWrite w k v) s = .next (s.done (s.dev.write w k v)) := rfl

/-- Settles O37: the refusal marks every available copy of the target's page, as `judgeAs_cases` and the plans say. -/
theorem refusedWriteMarksItsPage : Obligations.RefusedWriteMarksItsPage := by
  intro s d hs w a v p harr hr hpage
  subst hs
  have hmarks : p < 45 ∧ ∃ g, refusalMark g v ∧ (s.dev.judgeAs w (s.dev.whoAt w a) a v).2 s.dev = g (s.dev.markRefused p) := by
    cases ht : s.dev.target a with
    | none =>
      simp only [ht] at hpage
      split at hpage
      case isTrue ha =>
        cases hpage
        exact ⟨by omega, id, refusalMark_id v, by rw [judgeAs_unmapped ht, if_pos ha]; rfl⟩
      case isFalse => exact absurd hpage (by simp)
    | some t =>
      simp only [ht, Option.some.injEq] at hpage
      subst hpage
      exact ⟨target_page_lt ht, judgeAs_refused_marks ht hr⟩
  obtain ⟨hp, g, hg, heq⟩ := hmarks
  refine ⟨g, hg, ?_, fun l hl => refusedBit_markRefused hp hl, fun e => ⟨rfl, ?_⟩⟩
  · rw [exec_registerWrite, write_refused harr hr, heq]
  · simp [hr]

end Sys2Proof.Machine
end

section
/-! O38: a WRITE frame with a refused word (R118). -/
namespace Sys2Proof.Machine

/-- Where the checks refuse a word of a frame, the first refused one gives the result and what the frame leaves. -/
theorem writeFrame_refused {d : Dev} {raw : Writer} {who : Who} {header : Word} {ws : List Word} {k : Nat} {v : Word}
    (h : (frameWrites header ws).find? (fun kv => !(d.judgeAs raw who kv.1 kv.2).1.good) = some (k, v)) :
    d.writeFrame raw who header ws = ((d.judgeAs raw who k v).1, (d.judgeAs raw who k v).2 d) := by
  have hfirst : ((frameWrites header ws).map fun kv => d.judgeAs raw who kv.1 kv.2).find? (fun j => !j.1.good) =
      some (d.judgeAs raw who k v) := by
    rw [List.find?_map]
    exact congrArg (Option.map _) h
  simp only [Dev.writeFrame, hfirst]

/-- Settles O38: the first refused word alone decides the frame. -/
theorem frameWithARefusedWordWritesNothing : Obligations.FrameWithARefusedWordWritesNothing := by
  intro d w who header ws k v h
  have hr : (d.judgeAs w who k v).1.good = false := by simpa using List.find?_some h
  rw [writeFrame_refused h, writeAs_refused hr]
  exact ⟨rfl, hr, rfl⟩

end Sys2Proof.Machine
end

section
/-! O39: conditions that R116 judges at its block check. -/
namespace Sys2Proof.Machine

/-- Where the block condition of a register fails, only the checks before it in R116 can give another result. -/
theorem lateChecks_of_blocked {d : Dev} {t : Target} {w : Wr} {p : Plan} (hb : p.block = false) :
    lateChecks d t w p = .locked ∨ lateChecks d t w p = .staging ∨ lateChecks d t w p = .block := by
  simp only [lateChecks, hb, Bool.not_false, if_true]
  split
  · exact .inl rfl
  · split
    · exact .inr (.inl rfl)
    · exact .inr (.inr rfl)

/-- Beside OWNER itself the claim check passes or answers CLAIMED. -/
theorem claimResult_of_not_owner {d : Dev} {t : Target} {w : Wr} (ho : t.o ≠ 0x28) :
    claimResult d t w = .ok ∨ claimResult d t w = .claimed := by
  simp only [claimResult, ho, and_false, if_false]
  split
  · exact .inl rfl
  · exact .inr rfl

/-- A plan that does not ignore the write, and whose block condition fails. -/
abbrev Plan.blocked (p : Plan) : Prop := p.ignore = false ∧ p.block = false

theorem judgeAs_of_blocked {d : Dev} {raw : Writer} {who : Who} {k : Nat} {v : Word} {t : Target} (ht : d.target k = some t)
    (ho : t.o ≠ 0x28) (hp : (d.planOf t k (d.wrOf raw who t k v)).blocked) : blockOrEarlier (d.judgeAs raw who k v).1 := by
  obtain ⟨hignore, hblock⟩ := hp
  unfold blockOrEarlier
  rcases judgeAs_cases (raw := raw) (who := who) (v := v) ht rfl rfl with h | h | ⟨hne, h⟩ | ⟨hi, -⟩ | ⟨r, h⟩ | h
  · simp [h]
  · simp [h]
  · have hclaimed := (claimResult_of_not_owner ho).resolve_left hne
    simp [h, hclaimed]
  · simp [hignore] at hi
  · simp [h]
  · rcases lateChecks_of_blocked (d := d) (t := t) (w := d.wrOf raw who t k v) hblock with hl | hl | hl <;> simp [h, hl]

theorem pageRegs_le (p : Nat) : pageRegs p ≤ 1024 := by
  unfold pageRegs
  split <;> decide

/-- The write of a word to a register of a page as its plan sees it. -/
def Dev.pageWr (d : Dev) (w : Writer) (p o : Nat) (v : Word) : Wr := d.wrOf w (d.who w) (d.pageTarget p o) (pageAddr p o) v

@[simp] theorem pageWr_o (d : Dev) (w : Writer) (p o : Nat) (v : Word) : (d.pageWr w p o v).o = o := rfl
@[simp] theorem pageWr_f (d : Dev) (w : Writer) (p o : Nat) (v : Word) (f : Fld) : (d.pageWr w p o v).f f = f.get v := rfl
@[simp] theorem pageWr_c (d : Dev) (w : Writer) (p o : Nat) (v : Word) (f : Fld) :
    (d.pageWr w p o v).c f = f.get (d.present w p o) := rfl
@[simp] theorem pageWr_ch (d : Dev) (w : Writer) (p o : Nat) (v : Word) (f : Fld) :
    (d.pageWr w p o v).ch f = (f.get v != f.get (d.present w p o)) := rfl

/-- A write of a register of a page whose plan is blocked has BLOCK or an earlier result. -/
theorem verdict_of_blocked {d : Dev} {w : Writer} {p o : Nat} {v : Word} (hp : p < 45) (h4 : o % 4 = 0) (ho : o < 4 * pageRegs p)
    (howner : o ≠ 0x28) (hproxy : p ≠ pgHOST ∨ o ≠ 0x50) (hplan : ∀ a : Dev, (planPage d a p (d.pageWr w p o v)).blocked) :
    blockOrEarlier (d.verdict w (pageAddr p o) v) := by
  have hlt : o < 0x1000 := by have := pageRegs_le p; omega
  unfold Dev.verdict
  rw [page_who hproxy hlt]
  exact judgeAs_of_blocked (page_target h4 hp ho (pageRegs_le p)) howner (hplan _)

/-! The plans of the four conditions. -/

/-- R120: clearing ENABLE of a protecting page outside the modes that allow it. -/
theorem planHeader_enable_blocked {d : Dev} {p : Nat} {w : Wr} (ho : w.o = 4) (hlive : d.liveMode = true)
    (hheld : p ∈ [0x1E, 0x1F, 0x1C, 0x1D, 0x20, 0x21, 0x22, 0x0B]) (hon : w.c H.CTRL_ENABLE = 1) (hoff : w.f H.CTRL_ENABLE = 0) :
    (planHeader d p w).blocked := by
  have hheld' : [0x1E, 0x1F, 0x1C, 0x1D, 0x20, 0x21, 0x22, 0x0B, 0x0E, 0x0F].contains p = true := by
    rw [List.contains_iff_mem]
    exact List.mem_append_left [0x0E, 0x0F] hheld
  unfold planHeader
  simp only [ho, hon, hoff, hlive, hheld']
  simp

/-- R156: changing a converter's timebase, gang or phase outside STANDBY and MAINTENANCE. -/
theorem planConv_mode_blocked {d : Dev} {l : Lane} {c : Fin 2} {w : Wr} (ho : w.o = 0x40) (hmode : d.cfgMode = false)
    (hch : ∃ f ∈ [R.CONV_MODE_TB, R.CONV_MODE_GANG, R.CONV_MODE_PHASE], w.ch f = true) : (planConv d l c w).blocked := by
  have hany : (w.ch R.CONV_MODE_TB || w.ch R.CONV_MODE_GANG || w.ch R.CONV_MODE_PHASE) = true := by
    simpa [or_assoc] using hch
  unfold planConv
  simp only [ho, hmode, hany]
  exact ⟨rfl, rfl⟩

/-- R168: clearing a converter's reference in READY, RUN, HOLD and DISCHARGE. -/
theorem planConv_ref_blocked {d : Dev} {l : Lane} {c : Fin 2} {w : Wr} (ho : w.o = 0x44) (hlive : d.liveMode = true)
    (hon : w.c R.CONV_REF_EN = 1) (hoff : w.f R.CONV_REF_EN = 0) : (planConv d l c w).blocked := by
  unfold planConv
  simp only [ho, hlive, hon, hoff]
  exact ⟨rfl, rfl⟩

/-- R184: asking the urgent channel 3 while a request stands. -/
theorem planSeq_urgent_blocked {d : Dev} {l : Lane} {w : Wr} (ho : w.o = 0x54) (hbusy : d.gl l (pgSEQ l) R.SEQ_URGENT3_REQ = 1)
    (hreq : w.f R.SEQ_URGENT3_REQ = 1) : (planSeq d l w).blocked := by
  unfold planSeq
  simp only [ho, hbusy, hreq]
  exact ⟨rfl, rfl⟩

theorem planPage_header {d a : Dev} {p : Nat} {w : Wr} (ho : w.o < 0x40) : planPage d a p w = planHeader d p w := if_pos ho

theorem planPage_conv {d a : Dev} {l : Lane} {c : Fin 2} {w : Wr} (ho : ¬ w.o < 0x40) :
    planPage d a (pgCONV l c) w = planConv d l c w := by
  unfold planPage
  rw [if_neg ho]
  cases l <;> fin_cases c <;> rfl

theorem planPage_seq {d a : Dev} {l : Lane} {w : Wr} (ho : ¬ w.o < 0x40) : planPage d a (pgSEQ l) w = planSeq d l w := by
  unfold planPage
  rw [if_neg ho]
  cases l <;> rfl

theorem pgCONV_map (l : Lane) (c : Fin 2) : pgCONV l c < 45 ∧ pageRegs (pgCONV l c) = 128 ∧ pgCONV l c ≠ pgHOST := by
  cases l <;> fin_cases c <;> decide

theorem pgSEQ_map (l : Lane) : pgSEQ l < 45 ∧ pageRegs (pgSEQ l) = 192 ∧ pgSEQ l ≠ pgHOST := by
  cases l <;> decide

/-- The pages that R120 protects have their header. -/
theorem protecting_map : ∀ p ∈ [0x1E, 0x1F, 0x1C, 0x1D, 0x20, 0x21, 0x22, 0x0B], p < 45 ∧ 4 < 4 * pageRegs p := by decide

/-- A register of a converter's page with a blocked plan. -/
theorem verdict_conv_blocked {d : Dev} {w : Writer} {l : Lane} {c : Fin 2} {o : Nat} {v : Word} (h4 : o % 4 = 0) (hlo : 0x40 ≤ o)
    (hhi : o < 0x200) (hplan : (planConv d l c (d.pageWr w (pgCONV l c) o v)).blocked) :
    blockOrEarlier (d.verdict w (pageAddr (pgCONV l c) o) v) := by
  obtain ⟨hpage, hregs, hhost⟩ := pgCONV_map l c
  refine verdict_of_blocked hpage h4 (by omega) (by omega) (.inl hhost) fun a => ?_
  rw [planPage_conv (by simpa using hlo)]
  exact hplan

/-- Settles O39: each condition fails its register's block check, and only earlier checks can answer instead. -/
theorem blockConditionsRefuse : Obligations.BlockConditionsRefuse := by
  intro d w v
  refine ⟨?enable, ?mode, ?ref, ?urgent⟩
  case enable =>
    intro p hp hlive hon hoff
    obtain ⟨hpage, hregs⟩ := protecting_map p hp
    refine verdict_of_blocked hpage rfl hregs (by decide) (.inr (by decide)) fun a => ?_
    rw [planPage_header (by simp)]
    exact planHeader_enable_blocked rfl hlive hp hon hoff
  case mode =>
    rintro l c hmode ⟨f, hf, hne⟩
    exact verdict_conv_blocked rfl (by decide) (by decide)
      (planConv_mode_blocked rfl hmode ⟨f, hf, by simpa using hne⟩)
  case ref =>
    intro l c hlive hon hoff
    exact verdict_conv_blocked rfl (by decide) (by decide) (planConv_ref_blocked rfl hlive hon hoff)
  case urgent =>
    intro l hbusy hreq
    obtain ⟨hpage, hregs, hhost⟩ := pgSEQ_map l
    refine verdict_of_blocked hpage rfl (by omega) (by decide) (.inl hhost) fun a => ?_
    rw [planPage_seq (by simp)]
    exact planSeq_urgent_blocked rfl hbusy hreq

end Sys2Proof.Machine
end

section
/-! The registers of a Quill after an instruction: what `Dev.qPut` writes, and what a legal instruction may name. -/
namespace Sys2Proof.Machine

theorem sat32_ge (x : Int) : -2147483648 ≤ sat32 x := sat32_eq_max_min x ▸ le_max_left _ _

theorem sat32_le (x : Int) : sat32 x ≤ 2147483647 := by rw [sat32_eq_max_min]; omega

/-- A saturated value fits the word that holds it. -/
theorem sint_ofInt_sat32 (x : Int) : sint (ofInt (sat32 x)) = sat32 x :=
  BitVec.toInt_ofInt_eq_self (by decide) (sat32_ge x) (Int.lt_add_one_of_le (sat32_le x))

theorem sat32_sint (w : Word) : sat32 (sint w) = sint w := by
  have hlo : -2147483648 ≤ sint w := BitVec.le_toInt w
  have hhi : sint w < 2147483648 := BitVec.toInt_lt
  rw [sat32_eq_max_min]
  omega

/-- A register's value needs no saturation. -/
theorem sat32_qr (d : Dev) (l : Lane) (r : Nat) : sat32 (d.qr l r) = d.qr l r := sat32_sint _

theorem sat32_zero : sat32 0 = 0 := rfl

/-- The registers `q` after the results `rs` are written in order (R291). -/
def putResults (q : Vector Word 32) (rs : List (Nat × Int)) : Vector Word 32 :=
  rs.foldl (fun q p => q.setIfInBounds p.1 (ofInt (sat32 p.2))) q

theorem putResults_getD_of_not_mem {rs : List (Nat × Int)} {k : Nat} (hk : k ∉ rs.map Prod.fst) (q : Vector Word 32) :
    (putResults q rs).toList.getD k 0 = q.toList.getD k 0 := by
  induction rs generalizing q with
  | nil => rfl
  | cons p ps ih =>
    obtain ⟨hne, hps⟩ := not_or.mp (mt List.mem_cons.mpr hk)
    calc (putResults (q.setIfInBounds p.1 (ofInt (sat32 p.2))) ps).toList.getD k 0
        = (q.setIfInBounds p.1 (ofInt (sat32 p.2))).toList.getD k 0 := ih hps _
      _ = q.toList.getD k 0 := by simp [List.getD_eq_getElem?_getD, Ne.symm hne]

/-- A register that the results name once holds its value, saturated. -/
theorem putResults_getD_of_mem {rs : List (Nat × Int)} (hnodup : (rs.map Prod.fst).Nodup) {k : Nat} {x : Int}
    (hmem : (k, x) ∈ rs) (hk : k < 32) (q : Vector Word 32) :
    (putResults q rs).toList.getD k 0 = ofInt (sat32 x) := by
  induction rs generalizing q with
  | nil => cases hmem
  | cons p ps ih =>
    obtain ⟨hfresh, hps⟩ := List.nodup_cons.mp hnodup
    rcases List.mem_cons.mp hmem with rfl | htail
    · calc (putResults (q.setIfInBounds k (ofInt (sat32 x))) ps).toList.getD k 0
          = (q.setIfInBounds k (ofInt (sat32 x))).toList.getD k 0 := putResults_getD_of_not_mem hfresh _
        _ = ofInt (sat32 x) := by simp [List.getD_eq_getElem?_getD, hk]
    · exact ih hps htail _

/-- Counting saturations leaves the registers. -/
theorem qSats_q (d : Dev) (l : Lane) (n : Nat) : ((d.qSats l n).quill.at l).q = (d.quill.at l).q := by
  unfold Dev.qSats
  split <;> simp

theorem qPut_q (d : Dev) (l : Lane) (rs : List (Nat × Int)) :
    ((d.qPut l rs).quill.at l).q = putResults (d.quill.at l).q rs := by
  simp [Dev.qPut, qSats_q, putResults]

/-- Writing results to distinct registers leaves in each the saturated value. -/
theorem qPut_qr_of_mem {rs : List (Nat × Int)} (hnodup : (rs.map Prod.fst).Nodup) {k : Nat} {x : Int}
    (hmem : (k, x) ∈ rs) (hk : k < 32) (d : Dev) (l : Lane) : (d.qPut l rs).qr l k = sat32 x := by
  rw [Dev.qr, qPut_q, putResults_getD_of_mem hnodup hmem hk, sint_ofInt_sat32]

/-- An instruction that writes results computed from the registers writes those of the device it issues in. -/
theorem qAlu_ready {d : Dev} {l : Lane} {op : Nat} {i : QIns} {f : QForm} {t : Nat} (h : d.qReady l op i f t)
    (g : QIns → (Nat → Int) → List (Nat × Int)) : d.qAlu l op g = (d.qAdvance l i f t).qPut l (g i (d.qr l)) :=
  qIssue_ready h _

/-- A legal instruction has DST aligned as its form asks and FLG within the form's range (R310). -/
theorem qLegal_dst_flg {i : QIns} {f : QForm} {pc : Nat} (hform : qForm i.op = some f) (hlegal : qLegal i pc = true) :
    i.dst % f.nd = 0 ∧ i.flg ≤ f.flg := by
  simp only [qLegal, hform, Bool.and_eq_true, beq_iff_eq, decide_eq_true_eq] at hlegal
  tauto

theorem qDecode_dst_lt (hi lo : Word) : (qDecode hi lo).dst < 32 := Nat.mod_lt _ (by decide)

/-- DST of a ready instruction is a register, aligned as the form of its operation asks, and FLG is in that form's range. -/
theorem qReady_dst_flg {d : Dev} {l : Lane} {op : Nat} {i : QIns} {f form : QForm} {t : Nat} (h : d.qReady l op i f t)
    (hform : qForm op = some form) : i.dst < 32 ∧ i.dst % form.nd = 0 ∧ i.flg ≤ form.flg := by
  obtain ⟨hat, rfl, -, -, hlegal, -⟩ := h
  exact ⟨hat ▸ qDecode_dst_lt _ _, qLegal_dst_flg hform hlegal⟩

end Sys2Proof.Machine
end

section
/-! O41: the rotation and the inverse Clarke transform (R302). -/
namespace Sys2Proof.Machine

theorem exec_qRot (l : Lane) (s : State) : exec (.qRot l) s = .next (s.done (s.dev.quillRot l)) := rfl

theorem exec_qIclk (l : Lane) (s : State) : exec (.qIclk l) s = .next (s.done (s.dev.quillIclk l)) := rfl

/-- The pair that ROT forms of the pairs (x, y) and (c, n), before its saturation (R302). -/
def rotPair (flg : Nat) (x y c n : Int) : Int × Int :=
  if flg = 0 then (shiftRound (x * c + y * n) 30, shiftRound (y * c - x * n) 30)
  else (shiftRound (x * c - y * n) 30, shiftRound (x * n + y * c) 30)

theorem rotPair_roundsTo (flg : Nat) (x y c n : Int) :
    roundsTo (if flg = 0 then x * c + y * n else x * c - y * n) (2 ^ 30) (rotPair flg x y c n).1 ∧
    roundsTo (if flg = 0 then -x * n + y * c else x * n + y * c) (2 ^ 30) (rotPair flg x y c n).2 := by
  unfold rotPair
  split
  case isTrue _ =>
    refine ⟨shiftRound_roundsTo _ 30, ?_⟩
    rw [show -x * n + y * c = y * c - x * n by ring]
    exact shiftRound_roundsTo _ 30
  case isFalse _ => exact ⟨shiftRound_roundsTo _ 30, shiftRound_roundsTo _ 30⟩

theorem quillRot_ready {d : Dev} {l : Lane} {i : QIns} {f : QForm} {t : Nat} (h : d.qReady l 0x27 i f t) :
    let r := rotPair i.flg (d.qr l i.sa) (d.qr l (i.sa + 1)) (d.qr l i.sb) (d.qr l (i.sb + 1))
    d.quillRot l = (d.qAdvance l i f t).qPut l [(i.dst, r.1), (i.dst + 1, r.2)] := by
  unfold Dev.quillRot rotPair
  rw [qAlu_ready h]
  dsimp only
  split <;> rfl

/-- ROT leaves its pair, saturated, in the two destination registers. -/
theorem quillRot_qr {d : Dev} {l : Lane} {i : QIns} {f : QForm} {t : Nat} (h : d.qReady l 0x27 i f t) :
    let r := rotPair i.flg (d.qr l i.sa) (d.qr l (i.sa + 1)) (d.qr l i.sb) (d.qr l (i.sb + 1))
    (d.quillRot l).qr l i.dst = sat32 r.1 ∧ (d.quillRot l).qr l (i.dst + 1) = sat32 r.2 := by
  obtain ⟨hdst, halign, -⟩ := qReady_dst_flg h rfl
  have hpair : i.dst + 1 < 32 := by dsimp only at halign; omega
  rw [quillRot_ready h]
  exact ⟨qPut_qr_of_mem (by simp) (by simp) hdst _ _, qPut_qr_of_mem (by simp) (by simp) hpair _ _⟩

/-- The second and third value of the quad that ICLK forms of the pair (a, b), before their saturation (R302). -/
def iclkPair (flg : Nat) (a b : Int) : Int × Int :=
  if flg = 1 then (b, 0) else (shiftRound (-a * 2 ^ 29 + b * 929887697) 30, shiftRound (-a * 2 ^ 29 - b * 929887697) 30)

/-- With FLG bit 0 clear the two values are −a/2 ± kb, rounded once. -/
theorem iclkPair_roundsTo {flg : Nat} (hflg : flg = 0) (a b : Int) :
    roundsTo (-a * 2 ^ 29 + 929887697 * b) (2 ^ 30) (iclkPair flg a b).1 ∧
    roundsTo (-a * 2 ^ 29 - 929887697 * b) (2 ^ 30) (iclkPair flg a b).2 := by
  subst hflg
  rw [mul_comm 929887697 b]
  exact ⟨shiftRound_roundsTo _ 30, shiftRound_roundsTo _ 30⟩

theorem quillIclk_ready {d : Dev} {l : Lane} {i : QIns} {f : QForm} {t : Nat} (h : d.qReady l 0x28 i f t) :
    let r := iclkPair i.flg (d.qr l i.sa) (d.qr l (i.sa + 1))
    d.quillIclk l = (d.qAdvance l i f t).qPut l [(i.dst, d.qr l i.sa), (i.dst + 1, r.1), (i.dst + 2, r.2), (i.dst + 3, 0)] := by
  unfold Dev.quillIclk iclkPair
  rw [qAlu_ready h]
  dsimp only
  split <;> rfl

/-- ICLK leaves its quad in the four destination registers: the pair's first value, the two formed, saturated, and 0. -/
theorem quillIclk_qr {d : Dev} {l : Lane} {i : QIns} {f : QForm} {t : Nat} (h : d.qReady l 0x28 i f t) :
    let r := iclkPair i.flg (d.qr l i.sa) (d.qr l (i.sa + 1))
    (d.quillIclk l).qr l i.dst = d.qr l i.sa ∧ (d.quillIclk l).qr l (i.dst + 1) = sat32 r.1 ∧
    (d.quillIclk l).qr l (i.dst + 2) = sat32 r.2 ∧ (d.quillIclk l).qr l (i.dst + 3) = 0 := by
  obtain ⟨hdst, halign, -⟩ := qReady_dst_flg h rfl
  have hquad : i.dst + 3 < 32 := by dsimp only at halign; omega
  intro r
  have hput {k : Nat} {x : Int}
      (hmem : (k, x) ∈ [(i.dst, d.qr l i.sa), (i.dst + 1, r.1), (i.dst + 2, r.2), (i.dst + 3, 0)]) (hk : k < 32) :
      (d.quillIclk l).qr l k = sat32 x := by
    rw [quillIclk_ready h]
    exact qPut_qr_of_mem (by simp) hmem hk _ _
  exact ⟨(hput (.head _) hdst).trans (sat32_qr ..), hput (by simp) (by omega), hput (by simp) (by omega),
    (hput (by simp) hquad).trans sat32_zero⟩

/-- Settles O41: each destination holds the saturated value of its exact sum of products, rounded once by `shiftRound`. -/
theorem quillRotations : Obligations.QuillRotations := by
  rintro s d rfl l i f t
  refine ⟨fun h => ?rot, fun h => ?iclk⟩
  case rot =>
    intro x y c n
    obtain ⟨hfst, hsnd⟩ := quillRot_qr h
    obtain ⟨hu, hv⟩ := rotPair_roundsTo i.flg x y c n
    exact ⟨_, _, _, exec_qRot l s, hu, hv, hfst.trans (sat32_eq_max_min _), hsnd.trans (sat32_eq_max_min _)⟩
  case iclk =>
    intro a b
    obtain ⟨hfst, hsnd, hthird, hfourth⟩ := quillIclk_qr h
    refine ⟨_, (iclkPair i.flg a b).1, (iclkPair i.flg a b).2, exec_qIclk l s, hfst, hfourth,
      fun htwoPhase => ?twoPhase, fun hthreePhase => ?threePhase⟩
    case twoPhase =>
      rw [hsnd, hthird, iclkPair, if_pos htwoPhase]
      exact ⟨sat32_qr .., sat32_zero⟩
    case threePhase =>
      obtain ⟨hu, hv⟩ := iclkPair_roundsTo hthreePhase a b
      exact ⟨hu, hv, hsnd.trans (sat32_eq_max_min _), hthird.trans (sat32_eq_max_min _)⟩

end Sys2Proof.Machine
end

section
/-! O42: the trigger of an idle Quill (R294, R298). -/
namespace Sys2Proof.Machine

theorem exec_quillTrigger (l : Lane) (e : Fin 2) (bad : Fin 64) (s : State) :
    exec (.quillTrigger l e bad) s =
      .next (s.done (if s.dev.trigDue l e then (s.dev.tinkerQuill l).quillTrigger l e bad else s.dev)) := rfl

/-- Where no run is in progress and no TRIG0 goes first, the run starts at the trigger tick, its first instruction two cycles on. -/
theorem quillTrigger_idle {d : Dev} {l : Lane} {e : Fin 2} (hidle : (d.quill.at l).run = none)
    (hfirst : e = 0 ∨ d.trigDue l 0 = false) (bad : Nat) :
    d.quillTrigger l e bad = ((d.inputStage l e bad).trigMark l e).qStart l (d.trigGives l e bad) (d.now + 2) := by
  have hruns : ¬ (e = 1 ∧ d.trigDue l 0 = true) := by
    rintro ⟨rfl, htrig0⟩
    rcases hfirst with h | h
    · exact absurd h (by decide)
    · simp [h] at htrig0
  simp only [Dev.quillTrigger, hidle, if_neg hruns]
  rfl

section
variable (d : Dev) (l : Lane) (h : HeldTrig) (first : Nat)

@[simp] theorem qShowShadow_quill : (d.qShowShadow l).quill = d.quill := rfl

@[simp] theorem qStart_run : ((d.qStart l h first).quill.at l).run = some h.entry := by simp [Dev.qStart]

@[simp] theorem qStart_t0 : ((d.qStart l h first).quill.at l).t0 = h.tick := by simp [Dev.qStart]

@[simp] theorem qStart_nextAt : ((d.qStart l h first).quill.at l).nextAt = first := by simp [Dev.qStart]

@[simp] theorem qStart_pc : ((d.qStart l h first).quill.at l).pc = if h.entry = 0 then 0 else 2048 := by simp [Dev.qStart]

end

/-- Settles O42: the trigger of an idle Quill is a start of its run, with the trigger tick handed to it as cycle 0. -/
theorem triggerStartsAnIdleQuill : Obligations.TriggerStartsAnIdleQuill := by
  rintro s d rfl l en bad hdue hidle hfirst
  refine ⟨_, exec_quillTrigger l en bad s, ?_⟩
  rw [if_pos hdue, quillTrigger_idle hidle hfirst]
  exact ⟨qStart_run .., qStart_t0 .., qStart_nextAt .., qStart_pc ..⟩

end Sys2Proof.Machine
end

section
/-! O43: the encoding of Quill's instruction words (R300). -/
namespace Sys2Proof.Machine

/-- The immediate of a fitting instruction is its low half, whatever the operation: K and X are the same bits. -/
theorem qEncodeLow_of_fits {i : QIns} (h : qFits i) : qEncodeLow i = i.imm := by
  obtain ⟨-, -, -, -, -, -, hk, hx, himm⟩ := h
  unfold qEncodeLow
  split
  case isTrue => rfl
  case isFalse =>
    apply BitVec.eq_of_toNat_eq
    rw [himm, BitVec.toNat_ofNat]
    omega

/-- The fields of the two halves that the encoder writes are the instruction's. -/
theorem qDecode_qEncode {i : QIns} (h : qFits i) : qDecode (qEncodeHigh i) (qEncodeLow i) = i := by
  have hhigh := qEncodeHigh_toNat h
  rw [qEncodeLow_of_fits h]
  obtain ⟨hop, hdst, hsa, hsb, hsc, hflg, hk, hx, himm⟩ := h
  cases i
  simp only [qDecode, hhigh, QIns.mk.injEq] at *
  refine ⟨?_, ?_, ?_, ?_, ?_, ?_, ?_, ?_, trivial⟩ <;> omega

/-- A decoded instruction has every field in its bits. -/
theorem qFits_qDecode (hi lo : Word) : qFits (qDecode hi lo) := by
  have hhi : hi.toNat < 2 ^ 32 := hi.isLt
  have hlo : lo.toNat < 2 ^ 32 := lo.isLt
  refine ⟨?_, ?_, ?_, ?_, ?_, ?_, ?_, ?_, ?_⟩ <;> dsimp only [qDecode] <;> omega

theorem qEncodeHigh_qDecode (hi lo : Word) : qEncodeHigh (qDecode hi lo) = hi := by
  apply BitVec.eq_of_toNat_eq
  rw [qEncodeHigh_toNat (qFits_qDecode hi lo)]
  dsimp only [qDecode]
  omega

theorem qEncodeLow_qDecode (hi lo : Word) : qEncodeLow (qDecode hi lo) = lo :=
  qEncodeLow_of_fits (qFits_qDecode hi lo)

/-- Settles O43: each field is a range of bits of its half, and the ranges cover the half. -/
theorem quillWordsRoundTrip : Obligations.QuillWordsRoundTrip :=
  ⟨fun _ hfits => qDecode_qEncode hfits,
    fun hi lo => ⟨qFits_qDecode hi lo, qEncodeHigh_qDecode hi lo, qEncodeLow_qDecode hi lo⟩⟩

end Sys2Proof.Machine
end

section
/-! O44: what a Quill fetches from its program memory (R286, R313). -/
namespace Sys2Proof.Machine

/-- Words and halves of the two banks have different keys. -/
theorem progKey_inj {b m h c n g : Nat} (hm : m < 4096) (hh : h < 2) (hn : n < 4096) (hg : g < 2)
    (heq : progKey b m h = progKey c n g) : b = c ∧ m = n ∧ h = g := by
  unfold progKey at heq
  omega

theorem half_setHalf_same {u : QuillUnit} (hu : cellsRising u.prog) (b n h : Nat) (w : Word) :
    (u.setHalf b n h w).half b n h = w := by
  unfold QuillUnit.setHalf QuillUnit.half
  split
  case isTrue hw => rw [cellsGet_erase_same hu, hw]; rfl
  case isFalse => rw [cellsGet_put_same]; rfl

theorem half_setHalf_other {u : QuillUnit} (hu : cellsRising u.prog) {b m h c n g : Nat} (w : Word)
    (hkey : progKey b m h ≠ progKey c n g) : (u.setHalf c n g w).half b m h = u.half b m h := by
  unfold QuillUnit.setHalf QuillUnit.half
  split
  case isTrue => rw [cellsGet_erase_other hu hkey]
  case isFalse => rw [cellsGet_put_other w hkey]

/-- Both halves of word `n` of bank `b` set. -/
def QuillUnit.setWordHalves (u : QuillUnit) (b n : Nat) (hi lo : Word) : QuillUnit := (u.setHalf b n 1 hi).setHalf b n 0 lo

@[simp] theorem setWordHalves_pc (u : QuillUnit) (b n : Nat) (hi lo : Word) : (u.setWordHalves b n hi lo).pc = u.pc := rfl

section
variable {u : QuillUnit} (hu : cellsRising u.prog) {b n : Nat} (hi lo : Word)
include hu

theorem setWordHalves_rising : cellsRising (u.setWordHalves b n hi lo).prog :=
  QuillUnit.setHalf_rising _ _ _ _ (QuillUnit.setHalf_rising _ _ _ _ hu)

theorem low_setWordHalves : (u.setWordHalves b n hi lo).half b n 0 = lo :=
  half_setHalf_same (QuillUnit.setHalf_rising _ _ _ _ hu) ..

theorem high_setWordHalves (hn : n < 4096) : (u.setWordHalves b n hi lo).half b n 1 = hi := by
  have hkey : progKey b n 1 ≠ progKey b n 0 := fun h =>
    absurd (progKey_inj hn (by decide) hn (by decide) h).2.2 (by decide)
  rw [QuillUnit.setWordHalves, half_setHalf_other (QuillUnit.setHalf_rising _ _ _ _ hu) _ hkey, half_setHalf_same hu]

theorem half_setWordHalves_other (hn : n < 4096) {c m h : Nat} (hm : m < 4096) (hh : h < 2) (hne : (c, m) ≠ (b, n)) :
    (u.setWordHalves b n hi lo).half c m h = u.half c m h := by
  have hkey {g : Nat} (hg : g < 2) : progKey c m h ≠ progKey b n g := fun heq => by
    obtain ⟨hbank, hword, -⟩ := progKey_inj hm hh hn hg heq
    exact hne (by rw [hbank, hword])
  rw [QuillUnit.setWordHalves, half_setHalf_other (QuillUnit.setHalf_rising _ _ _ _ hu) _ (hkey (by decide)),
    half_setHalf_other hu _ (hkey (by decide))]

end

@[simp] theorem onQuill_at (d : Dev) (l : Lane) (f : QuillUnit → QuillUnit) : (d.onQuill l f).quill.at l = f (d.quill.at l) :=
  PerLane.at_put_same ..

@[simp] theorem onQuill_at_other (d : Dev) (l : Lane) (f : QuillUnit → QuillUnit) :
    (d.onQuill l f).quill.at l.other = d.quill.at l.other :=
  PerLane.at_put_other ..

@[simp] theorem onQuill_qBank (d : Dev) (l m : Lane) (f : QuillUnit → QuillUnit) : (d.onQuill l f).qBank m = d.qBank m := rfl

/-- Settles O44: the two halves are set under keys of their own, and the fetch decodes them. -/
theorem quillFetchesWhatWasWritten : Obligations.QuillFetchesWhatWasWritten := by
  intro d l i hfits hrising hpc hbank n e
  have hunit : e.quill.at l = (d.quill.at l).setWordHalves (d.qBank l) n (qEncodeHigh i) (qEncodeLow i) := onQuill_at ..
  refine ⟨?fetched, ?rising, onQuill_at_other .., ?others⟩
  case fetched =>
    have hcount : (e.quill.at l).pc = n := by rw [hunit, setWordHalves_pc]
    rw [Dev.qAtPc, hcount, hunit, onQuill_qBank, high_setWordHalves hrising _ _ hpc, low_setWordHalves hrising]
    exact qDecode_qEncode hfits
  case rising => exact hunit ▸ setWordHalves_rising hrising _ _
  case others =>
    intro b m h _ hm hh hne
    rw [hunit]
    exact half_setWordHalves_other hrising _ _ hpc hm hh hne

end Sys2Proof.Machine
end

section
/-! O34: a word of one copy after a store (R113, R127). -/
namespace Sys2Proof.Machine

section
variable {d : Dev} {l : Lane} {a : Nat} (v : Word) (hd : d.canonical)
include hd

theorem setWord_canonical (ha : a < 0x1000000) : (d.setWord l a v).canonical := by
  unfold Dev.setWord
  split
  case isTrue => exact cellsErase_wf _ hd
  case isFalse hv => exact cellsPut_wf hd (by rwa [regKey_mod ha])

/-- On canonical cells the reset value is read back too: its cell is erased. -/
theorem setWord_word_same : (d.setWord l a v).word l a = v := by
  unfold Dev.setWord Dev.word
  dsimp only
  split
  case isTrue hv => rw [cellsGet_erase_same hd.1, hv]; rfl
  case isFalse => rw [cellsGet_put_same]; rfl

theorem setWord_word_other {m : Lane} {b : Nat} (ha : a < 0x1000000) (hb : b < 0x1000000) (hne : (m, b) ≠ (l, a)) :
    (d.setWord l a v).word m b = d.word m b := by
  have hkey : regKey m b ≠ regKey l a := fun h => by
    obtain ⟨hlane, haddr⟩ := regKey_inj hb ha h
    exact hne (by rw [hlane, haddr])
  unfold Dev.setWord Dev.word
  dsimp only
  split
  case isTrue => rw [cellsGet_erase_other hd.1 hkey]
  case isFalse => rw [cellsGet_put_other v hkey]

end

/-- Settles O34: the keys of two addresses differ, and a canonical list holds each key once. -/
theorem registerWordsKeepTheirPlaces : Obligations.RegisterWordsKeepTheirPlaces := by
  intro d l a v hd ha
  exact ⟨setWord_word_same v hd, fun m b hb hne => setWord_word_other v hd ha hb hne, setWord_canonical v hd ha, rfl⟩

end Sys2Proof.Machine
end

section
/-! O35: the store of an accepted write, copy by copy (R115, R116). -/
namespace Sys2Proof.Machine

/-- The bits of a write that the RW and RWL fields of a target take. -/
def Target.takes (t : Target) (keep : Word) : Word := accMask t.flds (fun x => x == .rw || x == .rwl) &&& ~~~keep

/-- The bits of a write that clear a W1C field of a target. -/
def Target.clears (t : Target) (keep : Word) : Word := accMask t.flds (· == .w1c) &&& ~~~keep

/-- The word `x` after a store of `v` at a target. -/
def Target.stored (t : Target) (v keep x : Word) : Word :=
  ((x &&& ~~~t.takes keep) ||| (v &&& t.takes keep)) &&& ~~~(v &&& t.clears keep)

/-- The words that wait for a COMMIT and the counters that FREEZE holds, as the store in one copy leaves them. -/
def Dev.storeWaiting (d : Dev) (t : Target) (k : Nat) (v keep : Word) (l : Lane) : Dev :=
  let st := accMask t.flds (· == .rws) &&& ~~~keep
  let d := if st = 0 then d else { d with staged := cellsPut d.staged (regKey l k) (v &&& st) }
  match cellsGet d.frozen (regKey l k) with
  | some x => { d with frozen := cellsPut d.frozen (regKey l k) ((x &&& ~~~t.takes keep) ||| (v &&& t.takes keep)) }
  | none => d

/-- The store in the copy of lane `l`. -/
def Dev.storeCopy (d : Dev) (t : Target) (k : Nat) (v keep : Word) (l : Lane) : Dev :=
  (d.setWord l k (t.stored v keep (d.word l k))).storeWaiting t k v keep l

theorem store_eq_foldl (d : Dev) (t : Target) (k : Nat) (v keep : Word) :
    d.store t k v keep = t.copies.foldl (fun e l => e.storeCopy t k v keep l) d := rfl

/-- `e` differs from `d` in its register cells, staged and frozen words alone. -/
def Dev.sameButWords (d e : Dev) : Prop := e = { d with regs := e.regs, staged := e.staged, frozen := e.frozen }

theorem Dev.sameButWords.refl (d : Dev) : d.sameButWords d := rfl

theorem Dev.sameButWords.trans {d e f : Dev} (hde : d.sameButWords e) (hef : e.sameButWords f) : d.sameButWords f := by
  unfold Dev.sameButWords at *
  rw [hde] at hef
  exact hef

section
variable (d : Dev) (t : Target) (k : Nat) (v keep : Word) (l : Lane)

@[simp] theorem storeWaiting_regs : (d.storeWaiting t k v keep l).regs = d.regs := by
  unfold Dev.storeWaiting
  dsimp only
  split <;> split <;> rfl

theorem storeWaiting_sameButWords : d.sameButWords (d.storeWaiting t k v keep l) := by
  unfold Dev.storeWaiting
  dsimp only
  split <;> split <;> rfl

@[simp] theorem storeCopy_word (m : Lane) (b : Nat) :
    (d.storeCopy t k v keep l).word m b = (d.setWord l k (t.stored v keep (d.word l k))).word m b := by
  simp [Dev.storeCopy, Dev.word]

theorem storeCopy_sameButWords : d.sameButWords (d.storeCopy t k v keep l) :=
  Dev.sameButWords.trans (e := d.setWord l k (t.stored v keep (d.word l k))) rfl (storeWaiting_sameButWords ..)

variable {d k} (hd : d.canonical) (hk : k < 0x1000000)
include hd hk

theorem storeCopy_canonical : (d.storeCopy t k v keep l).canonical := by
  rw [Dev.storeCopy, Dev.canonical, storeWaiting_regs]
  exact setWord_canonical _ hd hk

theorem storeCopy_word_other {m : Lane} {b : Nat} (hb : b < 0x1000000) (hne : (m, b) ≠ (l, k)) :
    (d.storeCopy t k v keep l).word m b = d.word m b := by
  rw [storeCopy_word, setWord_word_other _ hd hk hb hne]

omit hk in
theorem storeCopy_word_same : (d.storeCopy t k v keep l).word l k = t.stored v keep (d.word l k) := by
  rw [storeCopy_word, setWord_word_same _ hd]

end

section
variable {d : Dev} (t : Target) {k : Nat} (v keep : Word) (hd : d.canonical) (hk : k < 0x1000000)
include hd hk

/-- Storing in some copies leaves every word but the one at `k` of those copies. -/
theorem foldl_storeCopy_word_other (ls : List Lane) {m : Lane} {b : Nat} (hb : b < 0x1000000) (hne : m ∉ ls ∨ b ≠ k) :
    (ls.foldl (fun e l => e.storeCopy t k v keep l) d).word m b = d.word m b := by
  induction ls generalizing d with
  | nil => rfl
  | cons l ls ih =>
    have hhead : (m, b) ≠ (l, k) := by
      rintro heq
      obtain ⟨rfl, rfl⟩ := Prod.mk.inj heq
      exact hne.elim (fun h => h (by simp)) (fun h => h rfl)
    have htail : m ∉ ls ∨ b ≠ k := hne.imp_left fun h hmem => h (by simp [hmem])
    rw [List.foldl_cons, ih (storeCopy_canonical t v keep l hd hk) htail, storeCopy_word_other t v keep l hd hk hb hhead]

/-- Each of the copies stored in takes the word once. -/
theorem foldl_storeCopy_word_mem {ls : List Lane} (hnodup : ls.Nodup) {l : Lane} (hl : l ∈ ls) :
    (ls.foldl (fun e m => e.storeCopy t k v keep m) d).word l k = t.stored v keep (d.word l k) := by
  induction ls generalizing d with
  | nil => cases hl
  | cons m ms ih =>
    obtain ⟨hm, hms⟩ := List.nodup_cons.mp hnodup
    have hcanon := storeCopy_canonical t v keep m hd hk
    rw [List.foldl_cons]
    rcases List.mem_cons.mp hl with rfl | hmem
    · rw [foldl_storeCopy_word_other t v keep hcanon hk ms hk (.inl hm), storeCopy_word_same t v keep l hd]
    · have hne : (l, k) ≠ (m, k) := fun heq => hm ((Prod.mk.inj heq).1 ▸ hmem)
      rw [ih hcanon hms hmem, storeCopy_word_other t v keep m hd hk hk hne]

end

theorem foldl_storeCopy_sameButWords (t : Target) (k : Nat) (v keep : Word) (ls : List Lane) (d : Dev) :
    d.sameButWords (ls.foldl (fun e l => e.storeCopy t k v keep l) d) := by
  induction ls generalizing d with
  | nil => exact .refl d
  | cons l ls ih => exact (storeCopy_sameButWords d t k v keep l).trans (ih _)

/-- Settles O35: the store goes copy by copy, each at the one address, with its waiting and frozen words beside the cells. -/
theorem acceptedWriteStoresItsFields : Obligations.AcceptedWriteStoresItsFields := by
  intro d t k v keep hd hk hnodup rw w1
  rw [store_eq_foldl]
  exact ⟨fun l hl => foldl_storeCopy_word_mem t v keep hd hk hnodup hl,
    fun l hl => foldl_storeCopy_word_other t v keep hd hk _ hk (.inl hl),
    fun l b hb hne => foldl_storeCopy_word_other t v keep hd hk _ hb (.inr hne),
    foldl_storeCopy_sameButWords t k v keep t.copies d⟩

end Sys2Proof.Machine
end

section
/-! O36: reads without a read side effect (R113, R114, R116). -/
namespace Sys2Proof.Machine

/-- An address in a table region, or in a page other than the CAN, TIME, NVM and ETH pages. -/
def plainRead (a : Nat) : Prop :=
  0x2D000 ≤ a ∨ (a / 0x1000 ∉ [0x24, 0x25, 0x26, 0x27] ∧ a / 0x1000 ≠ pgTIME ∧ a / 0x1000 ≠ pgNVM ∧ a / 0x1000 ≠ pgETH)

/-- Below the regions an address leads to its page. -/
theorem target_of_lt {d : Dev} {k : Nat} {t : Target} (hk : k < 0x2D000) (ht : d.target k = some t) :
    t.page = k / 0x1000 ∧ t.region = false := by
  unfold Dev.target at ht
  split at ht
  case isTrue => cases ht
  case isFalse =>
    dsimp only at ht
    split at ht
    case isTrue => cases ht
    case isFalse =>
      obtain rfl := Option.some.inj ht
      exact ⟨rfl, rfl⟩

theorem target_of_region {d : Dev} {k : Nat} {t : Target} (hk : ¬ k < 0x2D000) (ht : d.target k = some t) : t.region = true := by
  unfold Dev.target at ht
  split at ht
  case isTrue => cases ht
  case isFalse =>
    dsimp only at ht
    split at ht
    case h_1 => cases ht
    case h_2 =>
      obtain rfl := Option.some.inj ht
      rfl

/-- The four CAN pages are the only ones of their kind (R110). -/
theorem pageKind_can {p : Nat} (h : (pageKind p).1 = 0x24) : p ∈ [0x24, 0x25, 0x26, 0x27] := by
  unfold pageKind at h
  split_ifs at h <;> simp only [List.mem_cons, List.not_mem_nil] <;> dsimp only at h <;> omega

section
variable {d : Dev} {raw : Writer} {who : Who} {k : Nat} (hplain : plainRead k)
include hplain

/-- An implemented word of an available page is read as it shows, and the read sets nothing off. -/
theorem readWord_implemented {t₀ t : Target} {l : Lane} (hpage : d.target (if k < 0x2D000 then k / 0x1000 * 0x1000 else k / 4 * 4) = some t₀)
    (hlane : d.readLane raw t₀.copies = some l) (ht : d.target (k / 4 * 4) = some t) :
    d.readWord raw who k = (.ok, d.showWord who.ident l (k / 4 * 4), d) := by
  simp only [Dev.readWord, hpage, hlane, ht]
  split
  case isTrue => rfl
  case isFalse hregion =>
    have hlt : k / 4 * 4 < 0x2D000 := by
      by_contra hge
      exact hregion (target_of_region hge ht)
    have htpage : t.page = k / 0x1000 := by
      have := (target_of_lt hlt ht).1
      omega
    obtain ⟨hcan, htime, hnvm, heth⟩ := hplain.resolve_left (by omega)
    rw [← htpage] at hcan htime hnvm heth
    have hkind : ((pageKind t.page).1 == 0x24) = false := beq_eq_false_iff_ne.mpr fun h => hcan (pageKind_can h)
    simp [htime, hnvm, heth, hkind]

theorem readWord_device : (d.readWord raw who k).2.2 = d := by
  cases hpage : d.target (if k < 0x2D000 then k / 0x1000 * 0x1000 else k / 4 * 4) with
  | none => simp only [Dev.readWord, hpage]
  | some t₀ =>
    cases hlane : d.readLane raw t₀.copies with
    | none => simp only [Dev.readWord, hpage, hlane]
    | some l =>
      cases ht : d.target (k / 4 * 4) with
      | none => simp only [Dev.readWord, hpage, hlane, ht]
      | some t => rw [readWord_implemented hplain hpage hlane ht]

end

/-- One word of a READ frame: the frame's result so far, its words and the device. -/
def readStep (raw : Writer) (who : Who) (header : Word) (s : Result × List Word × Dev) (i : Nat) : Result × List Word × Dev :=
  let (r, w, d) := s.2.2.readWord raw who (frameAddr header i)
  (if s.1.good then r else s.1, s.2.1 ++ [w], d)

theorem readFrame_eq_foldl (d : Dev) (raw : Writer) (who : Who) (header : Word) (count : Nat) :
    d.readFrame raw who header count =
      (let out := (List.range count).foldl (readStep raw who header) (.ok, [], d)
       if out.1.good then out else (out.1, List.replicate count 0, d)) := rfl

theorem foldl_readStep_device {raw : Writer} {who : Who} {header : Word} (is : List Nat) (h : ∀ i ∈ is, plainRead (frameAddr header i))
    (s : Result × List Word × Dev) : (is.foldl (readStep raw who header) s).2.2 = s.2.2 := by
  induction is generalizing s with
  | nil => rfl
  | cons i is ih =>
    rw [List.foldl_cons, ih fun j hj => h j (by simp [hj])]
    exact readWord_device (h i (by simp))

/-- Settles O36: no word of a plain page or region has a read of its own, so each read of a frame hands on the device it found. -/
theorem plainReadsLeaveTheDevice : Obligations.PlainReadsLeaveTheDevice := by
  intro d w who
  refine ⟨fun header count h => ?frame, fun a t l ha haligned ht hlane hcopies => ?word⟩
  case frame =>
    rw [readFrame_eq_foldl]
    dsimp only
    split
    case isTrue => exact foldl_readStep_device _ (fun i hi => h i (List.mem_range.mp hi)) _
    case isFalse => rfl
  case word =>
    have hword : a / 4 * 4 = a := by omega
    by_cases hpage : a < 0x2D000
    · obtain ⟨t₀, ht₀, heq⟩ := Option.map_eq_some_iff.mp (hcopies hpage)
      rw [readWord_implemented ha (t₀ := t₀) (by rwa [if_pos hpage]) (heq ▸ hlane) (by rwa [hword]), hword]
    · rw [readWord_implemented ha (t₀ := t) (by rwa [if_neg hpage, hword]) hlane (by rwa [hword]), hword]

end Sys2Proof.Machine
end

section
/-! The form of every command's meaning: its effect on the device, after which the device settles. -/
namespace Sys2Proof.Machine

/-- A command whose meaning is the effect `f` completes in the device that `f` gives. -/
theorem completes {c : Instr} {s : State} (f : Dev → Dev) {e : Dev} (h : f s.dev = e) (hexec : exec c s = s.act f) :
    exec c s = .next (s.done e) := by
  rw [hexec, ← h, State.act_next]

end Sys2Proof.Machine
end

section
/-! O12, O13, O14: Quill's instructions, each at its issue (R300 to R309). -/
namespace Sys2Proof.Machine

/-- A clamp at its issue: CLAMPED is set where the clamped value is not SA's. -/
theorem qClamp_ready {d : Dev} {l : Lane} {op : Nat} {i : QIns} {f : QForm} {t : Nat} (h : d.qReady l op i f t)
    (g : QIns → (Nat → Int) → Int) :
    d.qClamp l op g =
      (let e := (d.qAdvance l i f t).qPut l [(i.dst, g i (d.qr l))]
       if sat32 (g i (d.qr l)) = d.qr l i.sa then e else e.qFlag l fun x => { x with clamped := true }) :=
  qIssue_ready h _

/-- Settles O12: each instruction is the issue of its operation, which a ready instruction passes. -/
theorem quillArithmeticCompletes : Obligations.QuillArithmeticCompletes := by
  rintro s d rfl
  exact ⟨
    fun l i f t h => completes (·.quillNop l) (qIssue_ready h _) rfl,
    fun l i f t h => completes (·.quillLdi l) (qAlu_ready h _) rfl,
    fun l i f t h => completes (·.quillMov l) (qAlu_ready h _) rfl,
    fun l i f t h => completes (·.quillAdd l) (qAlu_ready h _) rfl,
    fun l i f t h => completes (·.quillSub l) (qAlu_ready h _) rfl,
    fun l i f t h => completes (·.quillNeg l) (qAlu_ready h _) rfl,
    fun l i f t h => completes (·.quillAbs l) (qAlu_ready h _) rfl,
    fun l i f t h => completes (·.quillMin l) (qAlu_ready h _) rfl,
    fun l i f t h => completes (·.quillMax l) (qAlu_ready h _) rfl,
    fun l i f t h => completes (·.quillClamp l) (qClamp_ready h _) rfl,
    fun l i f t h => completes (·.quillClamps l) (qClamp_ready h _) rfl,
    fun l i f t h => completes (·.quillShl l) (qAlu_ready h _) rfl,
    fun l i f t h => completes (·.quillShr l) (qAlu_ready h _) rfl,
    fun l i f t h => completes (·.quillAnd l) (qAlu_ready h _) rfl,
    fun l i f t h => completes (·.quillOr l) (qAlu_ready h _) rfl,
    fun l i f t h => completes (·.quillXor l) (qAlu_ready h _) rfl,
    fun l i f t h => completes (·.quillSel l) (qAlu_ready h _) rfl,
    fun l i f t h => completes (·.quillSelp l) (qAlu_ready h _) rfl,
    fun l i f t h => completes (·.quillCmp l) (qIssue_ready h _) rfl,
    fun l i f t h => completes (·.quillClrf l) (qIssue_ready h _) rfl⟩

/-- RECON3 at its issue, with the currents that it uses and whether their sum failed (R301). -/
theorem quillRecon3_ready {d : Dev} {l : Lane} {i : QIns} {f : QForm} {t : Nat} {err : Bool} {r : Option (Int × Int × Int)}
    (h : d.qReady l 0x29 i f t)
    (hrecon : recon (d.qr l i.sa) (d.qr l (i.sa + 1)) (d.qr l (i.sa + 2)) (ofInt (d.qr l (i.sa + 3))).toNat
      (d.gl l (pgFIELD (if i.flg = 1 then 1 else 0)) R.FIELD_RECON_SUMTOL * 2 ^ 15) = (err, r)) :
    d.quillRecon3 l = ((d.qAdvance l i f t).qFlag l fun g => { g with sumerr := err, pred := r.isNone }).qPut l (match (generalizing := false) r with
      | none => [(i.dst, 0), (i.dst + 1, 0)]
      | some (a, b, _) => [(i.dst, a), (i.dst + 1, if (ofInt (d.qr l (i.sa + 3))).toNat / 64 % 2 = 1 then b
          else shiftRound ((a + 2 * b) * 619925131) 30)]) := by
  unfold Dev.quillRecon3
  rw [qIssue_ready h]
  simp only [hrecon]
  match r with
  | none => rfl
  | some (a, b, c) => dsimp only; split <;> rfl

/-- Settles O13: each operation at its issue. -/
theorem quillProductsComplete : Obligations.QuillProductsComplete := by
  rintro s d rfl
  exact ⟨
    fun l i f t h => completes (·.quillMul l) (qAlu_ready h _) rfl,
    fun l i f t h => completes (·.quillMac l) (qAlu_ready h _) rfl,
    fun l i f t h => completes (·.quillMsu l) (qAlu_ready h _) rfl,
    fun l i f t h => completes (·.quillMulk l) (qAlu_ready h _) rfl,
    fun l i f t h => completes (·.quillMack l) (qIssue_ready h _) rfl,
    fun l i f t h => completes (·.quillVmulk l) (qAlu_ready h _) rfl,
    fun l i f t h => completes (·.quillDot2 l) (qAlu_ready h _) rfl,
    fun l i f t h => completes (·.quillRot l) (qAlu_ready h _) rfl,
    fun l i f t h => completes (·.quillIclk l) (qAlu_ready h _) rfl,
    fun l i f t err r h hrecon => completes (·.quillRecon3 l) (quillRecon3_ready h hrecon) rfl,
    fun l i f t h => completes (·.quillSvm l) (qIssue_ready h _) rfl,
    fun l i f t lim h hlim => completes (·.quillPi l) ((qIssue_ready h _).trans (by rw [hlim])) rfl,
    fun l i f t h => completes (·.quillSincos l) (qAlu_ready h _) rfl,
    fun l i f t h => completes (·.quillDiv l) (qIssue_ready h _) rfl,
    fun l i f t h => completes (·.quillRcp l) (qIssue_ready h _) rfl,
    fun l i f t h => completes (·.quillSqrt l) (qIssue_ready h _) rfl⟩

/-- Settles O14: each operation at its issue. -/
theorem quillMemoryAndControlComplete : Obligations.QuillMemoryAndControlComplete := by
  rintro s d rfl
  exact ⟨
    fun l i f t h => completes (·.quillLd l) (qIssue_ready h _) rfl,
    fun l i f t h => completes (·.quillLdx l) (qIssue_ready h _) rfl,
    fun l i f t h => completes (·.quillSt l) (qIssue_ready h _) rfl,
    fun l i f t h => completes (·.quillStx l) (qIssue_ready h _) rfl,
    fun l i f t h => completes (·.quillBr l) (qIssue_ready h _) rfl,
    fun l i f t h => completes (·.quillStage l) (qIssue_ready h _) rfl,
    fun l i f t h => completes (·.quillMonw l) (qIssue_ready h _) rfl,
    fun l i f t h => completes (·.quillExport l) (qIssue_ready h _) rfl,
    fun l i f t h => completes (·.quillHalt l) (qIssue_ready h _) rfl⟩

end Sys2Proof.Machine
end

section
/-! O45: what the issue of a computing instruction can change (R291, R309). -/
namespace Sys2Proof.Machine

/-- `e` comes from `d` by a change of lane `l`'s Quill, but for its program, run, flags and the registers outside the four from `dst`
on, and of that Quill's STAT and SATCNT words; canonical cells stay canonical. -/
structure Dev.AluFrame (l : Lane) (dst : Nat) (d e : Dev) : Prop where
  canonical : e.canonical
  rest : e = { d with quill := e.quill, regs := e.regs }
  other : e.quill.at l.other = d.quill.at l.other
  prog : (e.quill.at l).prog = (d.quill.at l).prog
  run : (e.quill.at l).run = (d.quill.at l).run
  flags : (e.quill.at l).flags = (d.quill.at l).flags
  q : ∀ r : Fin 32, r.val < dst ∨ dst + 4 ≤ r.val → (e.quill.at l).q[r] = (d.quill.at l).q[r]
  word : ∀ (m : Lane) (a : Nat), a < 0x1000000 → (m, a) ≠ (l, pageAddr (pgQUILL l) R.QUILL_STAT_PC.off) →
    (m, a) ≠ (l, pageAddr (pgQUILL l) R.QUILL_SATCNT_TOTAL.off) → e.word m a = d.word m a

section
variable {l : Lane} {dst : Nat}

theorem Dev.AluFrame.trans {d e g : Dev} (hde : d.AluFrame l dst e) (heg : e.AluFrame l dst g) : d.AluFrame l dst g where
  canonical := heg.canonical
  rest := by
    have hrest := heg.rest
    rw [hde.rest] at hrest
    exact hrest
  other := heg.other.trans hde.other
  prog := heg.prog.trans hde.prog
  run := heg.run.trans hde.run
  flags := heg.flags.trans hde.flags
  q r hr := (heg.q r hr).trans (hde.q r hr)
  word m a ha hstat hsat := (heg.word m a ha hstat hsat).trans (hde.word m a ha hstat hsat)

/-- A change of the Quill itself that keeps its program, run, flags and the registers outside the four. -/
theorem Dev.AluFrame.onQuill {d : Dev} (hd : d.canonical) {f : QuillUnit → QuillUnit} (hprog : (f (d.quill.at l)).prog = (d.quill.at l).prog)
    (hrun : (f (d.quill.at l)).run = (d.quill.at l).run) (hflags : (f (d.quill.at l)).flags = (d.quill.at l).flags)
    (hq : ∀ r : Fin 32, r.val < dst ∨ dst + 4 ≤ r.val → (f (d.quill.at l)).q[r] = (d.quill.at l).q[r]) :
    d.AluFrame l dst (d.onQuill l f) where
  canonical := hd
  rest := rfl
  other := onQuill_at_other ..
  prog := by rwa [onQuill_at]
  run := by rwa [onQuill_at]
  flags := by rwa [onQuill_at]
  q := by rwa [onQuill_at]
  word _ _ _ _ _ := rfl

theorem statOrSatcnt_lt {o : Nat} (ho : o = R.QUILL_STAT_PC.off ∨ o = R.QUILL_SATCNT_TOTAL.off) :
    pageAddr (pgQUILL l) o < 0x1000000 := by
  rcases ho with rfl | rfl <;> cases l <;> decide

/-- A field of STAT or SATCNT of the same Quill. -/
theorem Dev.AluFrame.sl {d : Dev} (hd : d.canonical) (f : Fld) (v : Nat)
    (hf : f.at 0 = R.QUILL_STAT_PC.off ∨ f.at 0 = R.QUILL_SATCNT_TOTAL.off) : d.AluFrame l dst (d.sl l (pgQUILL l) f v) where
  canonical := setWord_canonical _ hd (statOrSatcnt_lt hf)
  rest := rfl
  other := rfl
  prog := rfl
  run := rfl
  flags := rfl
  q _ _ := rfl
  word m a ha hstat hsat := by
    refine setWord_word_other _ hd (statOrSatcnt_lt hf) ha ?_
    rcases hf with h | h <;> rw [h]
    · exact hstat
    · exact hsat

theorem Dev.AluFrame.qAdvance {d : Dev} (hd : d.canonical) (i : QIns) (f : QForm) (t : Nat) :
    d.AluFrame l dst (d.qAdvance l i f t) :=
  (sl hd R.QUILL_STAT_PC _ (.inl rfl)).trans (onQuill (sl (dst := 0) hd R.QUILL_STAT_PC _ (.inl rfl)).canonical rfl rfl rfl fun _ _ => rfl)

theorem Dev.AluFrame.qSats {d : Dev} (hd : d.canonical) (n : Nat) : d.AluFrame l dst (d.qSats l n) := by
  have hcount : d.AluFrame l dst (d.onQuill l fun u => { u with sat := u.sat + n }) := onQuill hd rfl rfl rfl fun _ _ => rfl
  unfold Dev.qSats
  dsimp only
  split
  case isTrue => exact hcount
  case isFalse =>
    have htotal (v : Nat) := hcount.trans (sl hcount.canonical R.QUILL_SATCNT_TOTAL v (.inr rfl))
    exact (htotal _).trans (sl (htotal _).canonical R.QUILL_SATCNT_RUN _ (.inr rfl))

/-- Results whose registers lie in the four from `dst` on leave the others. -/
theorem putResults_getElem_of_outside {rs : List (Nat × Int)} (hrs : ∀ p ∈ rs, dst ≤ p.1 ∧ p.1 < dst + 4) (q : Vector Word 32) (r : Fin 32)
    (hr : r.val < dst ∨ dst + 4 ≤ r.val) : (putResults q rs)[r] = q[r] := by
  have hnot : r.val ∉ rs.map Prod.fst := fun hmem => by
    obtain ⟨p, hp, heq⟩ := List.mem_map.mp hmem
    have := hrs p hp
    omega
  simpa using putResults_getD_of_not_mem hnot q

theorem Dev.AluFrame.qPut {d : Dev} (hd : d.canonical) {rs : List (Nat × Int)} (hrs : ∀ p ∈ rs, dst ≤ p.1 ∧ p.1 < dst + 4) :
    d.AluFrame l dst (d.qPut l rs) := by
  have hput : d.AluFrame l dst (d.onQuill l fun u => { u with q := putResults u.q rs }) :=
    onQuill hd rfl rfl rfl fun r hr => putResults_getElem_of_outside hrs _ r hr
  exact hput.trans (qSats hput.canonical _)

end

theorem PerLane.put_at {α : Type} (p : PerLane α) (l : Lane) : p.put l (p.at l) = p := by cases l <;> rfl

theorem onQuill_eq_self {d : Dev} {l : Lane} {f : QuillUnit → QuillUnit} (h : f (d.quill.at l) = d.quill.at l) : d.onQuill l f = d := by
  rw [Dev.onQuill, h, PerLane.put_at]

theorem qSats_zero (d : Dev) (l : Lane) : d.qSats l 0 = d := by
  unfold Dev.qSats
  rw [if_pos rfl, onQuill_eq_self rfl]

theorem qPut_nil (d : Dev) (l : Lane) : d.qPut l [] = d := by
  unfold Dev.qPut
  rw [onQuill_eq_self rfl]
  exact qSats_zero d l

/-- The command `c` issues `i`: it counts saturations of values that it does not write, and writes results to registers among the four from
DST on. -/
def aluIssues (s : State) (l : Lane) (i : QIns) (f : QForm) (t : Nat) (c : Instr) : Prop :=
  ∃ (n : Nat) (rs : List (Nat × Int)), exec c s = .next (s.done (((s.dev.qAdvance l i f t).qSats l n).qPut l rs)) ∧
    ∀ p ∈ rs, i.dst ≤ p.1 ∧ p.1 < i.dst + 4

theorem aluIssues_of_qPut {s : State} {l : Lane} {i : QIns} {f : QForm} {t : Nat} {c : Instr} {rs : List (Nat × Int)}
    (h : exec c s = .next (s.done ((s.dev.qAdvance l i f t).qPut l rs))) (hrs : ∀ p ∈ rs, i.dst ≤ p.1 ∧ p.1 < i.dst + 4) :
    aluIssues s l i f t c :=
  ⟨0, rs, by rw [h, qSats_zero], hrs⟩

/-- A computing instruction whose every result lies in the four registers from DST on leaves the rest. -/
theorem aluIssues_frame {s : State} (hs : s.dev.canonical) {l : Lane} {i : QIns} {f : QForm} {t : Nat} {c : Instr}
    (h : aluIssues s l i f t c) : ∃ e : Dev, exec c s = .next (s.done e) ∧ s.dev.AluFrame l i.dst e := by
  obtain ⟨n, rs, hexec, hrs⟩ := h
  have hadvance := Dev.AluFrame.qAdvance (l := l) (dst := i.dst) hs i f t
  have hsats := hadvance.trans (.qSats hadvance.canonical n)
  exact ⟨_, hexec, hsats.trans (.qPut hsats.canonical hrs)⟩

/-- The computing instructions with their operations. -/
def aluOps (l : Lane) : List (Instr × Nat) :=
  [(.qNop l, 0x00), (.qLdi l, 0x01), (.qMov l, 0x02), (.qAdd l, 0x03), (.qSub l, 0x04), (.qNeg l, 0x05), (.qAbs l, 0x06),
    (.qMin l, 0x07), (.qMax l, 0x08), (.qShl l, 0x0B), (.qShr l, 0x0C), (.qAnd l, 0x0D), (.qOr l, 0x0E), (.qXor l, 0x0F), (.qSel l, 0x10),
    (.qMul l, 0x20), (.qMac l, 0x21), (.qMsu l, 0x22), (.qMulk l, 0x23), (.qMack l, 0x24), (.qVmulk l, 0x25), (.qDot2 l, 0x26),
    (.qRot l, 0x27), (.qIclk l, 0x28), (.qLd l, 0x40), (.qLdx l, 0x41)]

/-- One result goes to DST. -/
theorem results_one (dst : Nat) (x : Int) : ∀ p ∈ [(dst, x)], dst ≤ p.1 ∧ p.1 < dst + 4 := by simp

/-- Each computing instruction at its issue, from the statements that say what it writes. -/
theorem aluOps_issue (s : State) (l : Lane) :
    ∀ co ∈ aluOps l, ∀ (i : QIns) (f : QForm) (t : Nat), s.dev.qReady l co.2 i f t → aluIssues s l i f t co.1 := by
  obtain ⟨hnop, hldi, hmov, hadd, hsub, hneg, habs, hmin, hmax, -, -, hshl, hshr, hand, hor, hxor, hsel, -⟩ :=
    quillArithmeticCompletes s s.dev rfl
  obtain ⟨hmul, hmac, hmsu, hmulk, hmack, hvmulk, hdot2, hrot, hiclk, -⟩ := quillProductsComplete s s.dev rfl
  obtain ⟨hld, hldx, -⟩ := quillMemoryAndControlComplete s s.dev rfl
  have hone {c : Instr} {op : Nat} {g : QIns → Nat → Int}
      (h : ∀ i f t, s.dev.qReady l op i f t → exec c s = .next (s.done ((s.dev.qAdvance l i f t).qPut l [(i.dst, g i t)]))) :
      ∀ i f t, s.dev.qReady l op i f t → aluIssues s l i f t c :=
    fun i f t hready => aluIssues_of_qPut (h i f t hready) (results_one _ _)
  simp only [aluOps, List.forall_mem_cons]
  refine ⟨?nop, hone (hldi l), hone (hmov l), hone (hadd l), hone (hsub l), hone (hneg l), hone (habs l), hone (hmin l), hone (hmax l),
    hone (hshl l), hone (hshr l), hone (hand l), hone (hor l), hone (hxor l), hone (hsel l), hone (hmul l), hone (hmac l), hone (hmsu l),
    hone (hmulk l), ?mack, ?vmulk, hone (hdot2 l), ?rot, ?iclk, hone (hld l), hone (hldx l), by simp⟩
  case nop => exact fun i f t h => aluIssues_of_qPut (rs := []) (by rw [hnop l i f t h, qPut_nil]) (by simp)
  case mack => exact fun i f t h => ⟨_, _, hmack l i f t h, results_one _ _⟩
  case vmulk => exact fun i f t h => aluIssues_of_qPut (hvmulk l i f t h) (by simp)
  case rot => exact fun i f t h => aluIssues_of_qPut (hrot l i f t h) (by split <;> simp)
  case iclk => exact fun i f t h => aluIssues_of_qPut (hiclk l i f t h) (by split <;> simp)

/-- Settles O45: the issue advances the run, counts saturations and puts results, and each of the three keeps the frame. -/
theorem quillAluFrame : Obligations.QuillAluFrame := by
  rintro s d rfl hd l i f t c op hmem hready
  obtain ⟨e, hexec, hframe⟩ := aluIssues_frame hd (aluOps_issue s l _ hmem i f t hready)
  exact ⟨e, hexec, hframe.rest, hframe.other, hframe.prog, hframe.run, hframe.flags, hframe.q, hframe.word⟩

end Sys2Proof.Machine
end

section
/-! The fields of a word (R24): a field after a write of itself or of another field, and of a word of some bits alone. -/
namespace Sys2Proof.Machine

/-- A field lies within the 32 bits of a register. -/
abbrev Fld.inWord (f : Fld) : Prop := f.lo ≤ f.hi ∧ f.hi < 32

/-- Two fields have no bit in common. -/
abbrev Fld.apart (f g : Fld) : Prop := f.hi < g.lo ∨ g.hi < f.lo

/-- The bit `j` belongs to the field. -/
abbrev Fld.has (f : Fld) (j : Nat) : Prop := f.lo ≤ j ∧ j ≤ f.hi

theorem Fld.testBit_get (f : Fld) (w : Word) (i : Nat) : (f.get w).testBit i = (decide (i < f.width) && w.getLsbD (f.lo + i)) := by
  rw [Fld.get, Nat.testBit_mod_two_pow, Nat.testBit_div_two_pow, BitVec.getLsbD, Nat.add_comm i]

theorem Fld.getLsbD_mask {f : Fld} (hf : f.inWord) {j : Nat} (hj : j < 32) : f.mask.getLsbD j = decide (f.has j) := by
  rw [Fld.mask, BitVec.getLsbD_ofNat, Nat.testBit_mul_two_pow, Nat.testBit_two_pow_sub_one]
  simp only [hj, decide_true, Bool.true_and]
  rw [Bool.eq_iff_iff, Bool.and_eq_true, decide_eq_true_iff, decide_eq_true_iff, decide_eq_true_iff]
  unfold Fld.width
  omega

theorem Fld.getLsbD_put {f : Fld} (hf : f.inWord) (w : Word) (v : Nat) {j : Nat} (hj : j < 32) :
    (f.put w v).getLsbD j = if f.has j then v.testBit (j - f.lo) else w.getLsbD j := by
  rw [Fld.put, BitVec.getLsbD_or, BitVec.getLsbD_and, BitVec.getLsbD_not, Fld.getLsbD_mask hf hj, BitVec.getLsbD_ofNat,
    Nat.testBit_mul_two_pow, Nat.testBit_mod_two_pow]
  by_cases hin : f.has j
  · have hwidth : j - f.lo < f.width := by unfold Fld.width; omega
    simp [hin, hj, hwidth]
  · have hout : ¬ (f.lo ≤ j ∧ j - f.lo < f.width) := by unfold Fld.width; omega
    rw [if_neg hin]
    rcases not_and_or.mp hout with h | h <;> simp [hin, hj, h]

theorem Fld.get_put_same {f : Fld} (hf : f.inWord) (w : Word) (v : Nat) : f.get (f.put w v) = v % 2 ^ f.width := by
  apply Nat.eq_of_testBit_eq
  intro i
  rw [Fld.testBit_get, Nat.testBit_mod_two_pow]
  by_cases hi : i < f.width
  · have hhas : f.has (f.lo + i) := by unfold Fld.width at hi; omega
    rw [Fld.getLsbD_put hf w v (by omega), if_pos hhas, Nat.add_sub_cancel_left]
  · simp [hi]

theorem Fld.get_put_other {f g : Fld} (hf : f.inWord) (hg : g.inWord) (h : f.apart g) (w : Word) (v : Nat) :
    g.get (f.put w v) = g.get w := by
  apply Nat.eq_of_testBit_eq
  intro i
  rw [Fld.testBit_get, Fld.testBit_get]
  by_cases hi : i < g.width
  · have hnot : ¬ f.has (g.lo + i) := by unfold Fld.width at hi; omega
    rw [Fld.getLsbD_put hf w v (by unfold Fld.width at hi; omega), if_neg hnot]
  · simp [hi]

/-- A mask that holds all bits of a field keeps the field. -/
theorem Fld.get_and_of_subset {f : Fld} (hf : f.inWord) {m : Word} (h : m &&& f.mask = f.mask) (w : Word) :
    f.get (w &&& m) = f.get w := by
  apply Nat.eq_of_testBit_eq
  intro i
  rw [Fld.testBit_get, Fld.testBit_get]
  by_cases hi : i < f.width
  · have hj : f.lo + i < 32 := by unfold Fld.width at hi; omega
    have hbit : (m &&& f.mask).getLsbD (f.lo + i) = true := by
      rw [h, Fld.getLsbD_mask hf hj, decide_eq_true_iff]
      unfold Fld.width at hi
      omega
    rw [BitVec.getLsbD_and, Bool.and_eq_true] at hbit
    rw [BitVec.getLsbD_and, hbit.1, Bool.and_true]
  · simp [hi]

/-- A mask without a bit of a field clears the field. -/
theorem Fld.get_and_of_disjoint {f : Fld} (hf : f.inWord) {m : Word} (h : m &&& f.mask = 0#32) (w : Word) : f.get (w &&& m) = 0 := by
  apply Nat.eq_of_testBit_eq
  intro i
  rw [Fld.testBit_get, Nat.zero_testBit]
  by_cases hi : i < f.width
  · have hj : f.lo + i < 32 := by unfold Fld.width at hi; omega
    have hbit : (m &&& f.mask).getLsbD (f.lo + i) = false := by rw [h, BitVec.getLsbD_zero]
    have hmask : f.mask.getLsbD (f.lo + i) = true := by
      rw [Fld.getLsbD_mask hf hj, decide_eq_true_iff]
      unfold Fld.width at hi
      omega
    rw [BitVec.getLsbD_and, hmask, Bool.and_true] at hbit
    rw [BitVec.getLsbD_and, hbit, Bool.and_false, Bool.and_false]
  · simp [hi]

/-- A field of a number is its digits between the field's bits. -/
theorem Fld.get_ofNat {f : Fld} (hf : f.inWord) (n : Nat) : f.get (BitVec.ofNat 32 n) = n / 2 ^ f.lo % 2 ^ f.width := by
  apply Nat.eq_of_testBit_eq
  intro i
  rw [Fld.testBit_get, Nat.testBit_mod_two_pow, Nat.testBit_div_two_pow, BitVec.getLsbD_ofNat, Nat.add_comm i]
  by_cases hi : i < f.width
  · have hj : f.lo + i < 32 := by unfold Fld.width at hi; omega
    simp [hj]
  · simp [hi]

/-- A field of a number, by its digits. -/
theorem Fld.get_ofNat_eq {f : Fld} (hf : f.inWord) {n k : Nat} (h : n / 2 ^ f.lo % 2 ^ f.width = k) : f.get (BitVec.ofNat 32 n) = k :=
  (Fld.get_ofNat hf n).trans h

/-- A number below a field's range, in a field at bit 0. -/
theorem Fld.get_ofNat_of_lt {f : Fld} (hf : f.inWord) (hlo : f.lo = 0) {n : Nat} (hn : n < 2 ^ f.width) :
    f.get (BitVec.ofNat 32 n) = n := by
  rw [Fld.get_ofNat hf, hlo, pow_zero, Nat.div_one, Nat.mod_eq_of_lt hn]

end Sys2Proof.Machine
end

section
/-! An accepted write of a register of a page: the store, and what the register's plan sets off (R116). -/
namespace Sys2Proof.Machine

/-- The offset is that of an implemented register of the page, other than the proxy register and the registers that a motion unit's writer
forms (R137, R325). -/
abbrev pageReg (p o : Nat) : Prop :=
  p < 45 ∧ o % 4 = 0 ∧ o < 4 * pageRegs p ∧ (p ≠ pgHOST ∨ o ≠ 0x50) ∧ ((p ≠ pgMOTION 0 ∧ p ≠ pgMOTION 1) ∨ ¬ (0x50 ≤ o ∧ o ≤ 0x68))

/-- The device once an accepted write has stored its word. -/
abbrev Dev.stored (d : Dev) (p o : Nat) (v keep : Word) : Dev := d.store (d.pageTarget p o) (pageAddr p o) v keep

/-- The plan of a write of a register of a page. -/
def Dev.pagePlan (d : Dev) (w : Writer) (p o : Nat) (v : Word) : Plan := planPage d (d.stored p o v 0) p (d.pageWr w p o v)

/-- A write of a register of a page that is accepted, and whose plan moves no claim, takes effect as the plan says. -/
theorem writeReg_took {d : Dev} {w : Writer} {p o : Nat} {v keep : Word} {run : Dev → Dev} {q : Plan} (hreg : pageReg p o)
    (ha : d.accepts w (pageAddr p o) v) (hplan : d.pagePlan w p o v = q) (hacts : q.ignore = false)
    (hclaims : q.claims = []) (hkeep : q.keep = keep)
    (hrun : q.run (d.stored p o v keep) = run (d.stored p o v keep)) :
    d.writeReg w p o v = d.took w p o v keep run := by
  obtain ⟨hp, h4, ho, hhost, hmotion⟩ := hreg
  subst hplan hkeep
  have hlt : o < 0x1000 := by have := pageRegs_le p; omega
  have hreg : (d.pageTarget p o).region = true ∨ ¬((d.pageTarget p o).page = pgMOTION 0 ∨ (d.pageTarget p o).page = pgMOTION 1) ∨
      ¬(0x50 ≤ (d.pageTarget p o).o ∧ (d.pageTarget p o).o ≤ 0x68) :=
    .inr (hmotion.imp_left fun h => not_or.mpr h)
  have hwrite := write_took (page_target h4 hp ho (pageRegs_le p)) (page_who hhost hlt) (p := d.pagePlan w p o v) rfl hacts hreg ha
  rw [Dev.writeReg, hwrite, hclaims]
  unfold Dev.took Dev.tookAt
  exact congrArg (fun e : Dev => (e.commitDelays (d.pageTarget p o)).showAccess w (d.verdict w (pageAddr p o) v)) hrun

section
variable {d : Dev} {w : Writer} {o : Nat} {v : Word}

theorem pagePlan_sys (h : ¬ o < 0x40) : d.pagePlan w pgSYS o v = planSys d (d.stored pgSYS o v 0) (d.pageWr w pgSYS o v) := if_neg h
theorem pagePlan_host (h : ¬ o < 0x40) : d.pagePlan w pgHOST o v = planHost (d.pageWr w pgHOST o v) := if_neg h
theorem pagePlan_ledger (h : ¬ o < 0x40) : d.pagePlan w pgLEDGER o v = planLedger d (d.pageWr w pgLEDGER o v) := if_neg h
theorem pagePlan_tinker (h : ¬ o < 0x40) : d.pagePlan w pgTINKER o v = planTinker d (d.pageWr w pgTINKER o v) := if_neg h
theorem pagePlan_hallmark (h : ¬ o < 0x40) : d.pagePlan w pgHALLMARK o v = planHallmark d (d.stored pgHALLMARK o v 0) (d.pageWr w pgHALLMARK o v) := if_neg h
theorem pagePlan_temp (h : ¬ o < 0x40) : d.pagePlan w pgTEMP o v = planTemp (d.pageWr w pgTEMP o v) := if_neg h
theorem pagePlan_nvm (h : ¬ o < 0x40) : d.pagePlan w pgNVM o v = planNvm d (d.pageWr w pgNVM o v) := if_neg h
theorem pagePlan_lane (h : ¬ o < 0x40) : d.pagePlan w pgLANE o v = planLane (d.pageWr w pgLANE o v) := if_neg h
theorem pagePlan_prot (h : ¬ o < 0x40) : d.pagePlan w pgPROT o v = planProt d (d.pageWr w pgPROT o v) := if_neg h
theorem pagePlan_slayer (h : ¬ o < 0x40) : d.pagePlan w pgSLAYER o v = planSlayer d (d.pageWr w pgSLAYER o v) := if_neg h
theorem pagePlan_eth (h : ¬ o < 0x40) : d.pagePlan w pgETH o v = planEth d (d.pageWr w pgETH o v) := if_neg h
theorem pagePlan_sense (h : ¬ o < 0x40) : d.pagePlan w pgSENSE o v = planSense (d.pageWr w pgSENSE o v) := if_neg h
theorem pagePlan_res (h : ¬ o < 0x40) : d.pagePlan w pgRES o v = planRes d (d.pageWr w pgRES o v) := if_neg h
theorem pagePlan_cpu {l : Lane} (h : ¬ o < 0x40) : d.pagePlan w (pgCPU l) o v = planCpu l (d.pageWr w (pgCPU l) o v) := by cases l <;> exact if_neg h
theorem pagePlan_quill {l : Lane} (h : ¬ o < 0x40) : d.pagePlan w (pgQUILL l) o v = planQuill d l (d.pageWr w (pgQUILL l) o v) := by cases l <;> exact if_neg h
theorem pagePlan_field {x : Fin 2} (h : ¬ o < 0x40) : d.pagePlan w (pgFIELD x) o v = planField d x (d.pageWr w (pgFIELD x) o v) := by fin_cases x <;> exact if_neg h
theorem pagePlan_motion {x : Fin 2} (h : ¬ o < 0x40) : d.pagePlan w (pgMOTION x) o v = planMotion d x (d.pageWr w (pgMOTION x) o v) := by fin_cases x <;> exact if_neg h
theorem pagePlan_pos {l : Lane} (h : ¬ o < 0x40) : d.pagePlan w (pgPOS l) o v = planPos d l (d.pageWr w (pgPOS l) o v) := by cases l <;> exact if_neg h
theorem pagePlan_seq {l : Lane} (h : ¬ o < 0x40) : d.pagePlan w (pgSEQ l) o v = planSeq d l (d.pageWr w (pgSEQ l) o v) := planPage_seq h
theorem pagePlan_mod {l : Lane} (h : ¬ o < 0x40) :
    d.pagePlan w (pgMOD l) o v = planMod d (d.stored (pgMOD l) o v 0) l (d.pageWr w (pgMOD l) o v) := by cases l <;> exact if_neg h
theorem pagePlan_safe {l : Lane} (h : ¬ o < 0x40) : d.pagePlan w (pgSAFE l) o v = planSafe d l (d.pageWr w (pgSAFE l) o v) := by cases l <;> exact if_neg h
theorem pagePlan_can {n : Fin 4} (h : ¬ o < 0x40) : d.pagePlan w (pgCAN n) o v = planCan d n (d.pageWr w (pgCAN n) o v) := by fin_cases n <;> exact if_neg h
theorem pagePlan_link {l : Lane} (h : ¬ o < 0x40) : d.pagePlan w (pgLINK l) o v = planLink d l (d.pageWr w (pgLINK l) o v) := by cases l <;> exact if_neg h

end

/-- The word that a write of one field starts from is the register as the checks see it. -/
theorem seenWordBy_eq_present {d : Dev} {w : Writer} {p o : Nat} (hreg : pageReg p o) : d.seenWordBy w p o = d.present w p o := by
  obtain ⟨hp, h4, ho, -⟩ := hreg
  unfold Dev.seenWordBy Dev.present
  rw [page_target h4 hp ho (pageRegs_le p)]

/-- The bits of the register that a write of one of its fields carries over. -/
def carryMask (p o : Nat) : Word := accMask (regFlds p o) fun a => a == .rw || a == .rws || a == .rwl

section
variable {d : Dev} {w : Writer} {p : Nat} {f g : Fld} {v i : Nat}

theorem fieldWord_eq : d.fieldWord w p f v i = f.put (d.seenWordBy w p (f.at i) &&& carryMask p (f.at i)) v := rfl

theorem get_fieldWord_same (hf : f.inWord) : f.get (d.fieldWord w p f v i) = v % 2 ^ f.width := by
  rw [fieldWord_eq, Fld.get_put_same hf]

/-- A field whose bits are carried over keeps the value it shows. -/
theorem get_fieldWord_carried (hf : f.inWord) (hg : g.inWord) (h : f.apart g) (hm : carryMask p (f.at i) &&& g.mask = g.mask)
    (hreg : pageReg p (f.at i)) : g.get (d.fieldWord w p f v i) = g.get (d.present w p (f.at i)) := by
  rw [fieldWord_eq, Fld.get_put_other hf hg h, Fld.get_and_of_subset hg hm, seenWordBy_eq_present hreg]

/-- A write-only field, or one that a 1 clears, gets 0. -/
theorem get_fieldWord_zero (hf : f.inWord) (hg : g.inWord) (h : f.apart g) (hm : carryMask p (f.at i) &&& g.mask = 0#32) :
    g.get (d.fieldWord w p f v i) = 0 := by
  rw [fieldWord_eq, Fld.get_put_other hf hg h, Fld.get_and_of_disjoint hg hm]

end

end Sys2Proof.Machine
end

section
/-! O29, O30, O31: what a step does with the queue, and what it does without one (assumptions 2 and 3). -/
namespace Sys2Proof.Machine

/-- Settles O29: the front of the queue is what a step matches on. -/
theorem stepRunsTheFrontCommand : Obligations.StepRunsTheFrontCommand := fun _ _ _ => rfl

/-- The clocks of a lane after AON_FOLLOW: the accumulator follows device time where the main clock stands. -/
def Dev.clockFollowed (d : Dev) (l : Lane) : ClockState :=
  if d.power.aonRunning.at l = true ∧ (d.clocks.at l).main = false then { d.clocks.at l with acc := d.now * 128 } else d.clocks.at l

theorem aonFollow_eq (d : Dev) (l : Lane) : d.aonFollow l = { d with clocks := d.clocks.put l (d.clockFollowed l) } := by
  rw [Dev.aonFollow, Dev.clockFollowed]
  by_cases h : d.power.aonRunning.at l = true ∧ (d.clocks.at l).main = false
  · rw [if_pos (by rwa [Bool.not_eq_true']), if_pos h]
    rfl
  · rw [if_neg (by rwa [Bool.not_eq_true']), if_neg h]
    cases l <;> rfl

/-- Settles O30: the tick is what an empty queue gives; under a main clock each lane's accumulator is the only other thing that moves. -/
theorem emptyQueueIsOneTick : Obligations.EmptyQueueIsOneTick := by
  intro s hs
  have hstep : step s = .next { s with dev := s.dev.tick } := by rw [step, hs]
  refine ⟨hstep, fun hmain => ?_⟩
  have htick : s.dev.tick = (({ s.dev with now := s.dev.now + 1 } : Dev).aonFollow .a).aonFollow .b := by
    rw [Dev.tick, if_pos hmain, Dev.eachLane]
  rw [hstep, htick, aonFollow_eq _ .b, aonFollow_eq _ .a]
  exact ⟨_, rfl, fun l => by cases l <;> rfl⟩

/-- Settles O31: every command's meaning is an effect on the device, which answers a next state and does not touch the queue. -/
theorem everyCommandCompletes : Obligations.EveryCommandCompletes := by
  intro c s
  cases c <;> exact ⟨_, rfl, rfl⟩

end Sys2Proof.Machine
end

section
/-! O33: the reset state. -/
namespace Sys2Proof.Machine

/-- Settles O33: no cell is stored at reset, and every part of the state has its initial value. -/
theorem resetState : Obligations.ResetState := by
  have hout (o : Fin 14) : State.reset.dev.outs[o] = {} := Vector.getElem_replicate ..
  have hlink (k : LinkRx) : State.reset.dev.link k = {} := Vector.getElem_replicate ..
  refine ⟨rfl, fun _ _ => rfl, ⟨?_, fun p hp => nomatch hp⟩, fun o => ?_, fun n h => ?_, fun k => ?_, rfl, fun l => ?_, rfl, rfl⟩
  · decide
  · rw [hout]
    exact ⟨rfl, rfl⟩
  · rw [hout] at h
    exact nomatch h.1
  · rw [hlink]
  · cases l <;> rfl

end Sys2Proof.Machine
end

section
/-! O48, O49: the lands of the interface dies (R60, R61, R71). -/
namespace Sys2Proof.Machine

theorem drives_of_down {d : Dev} {o : OutLand} (h : d.up (.iface o.lane) = false) : d.drives o = false := by
  rw [Dev.drives, h, Bool.false_and]

theorem irqDrives_of_down {d : Dev} {l : Lane} (h : d.up (.iface l) = false) : d.irqDrives l = false := by
  rw [Dev.irqDrives, h, Bool.false_and, Bool.false_and]

theorem faultDrives_of_down {d : Dev} {l : Lane} (h : d.up (.iface l) = false) : d.faultDrives l = false := by
  rw [Dev.faultDrives, h, Bool.false_and, Bool.false_and]

/-- Settles O48: every land's driver is guarded by its die. -/
theorem outputsOfADieThatIsDown : Obligations.OutputsOfADieThatIsDown := by
  intro d
  refine ⟨fun o => drives_of_down, fun l h => ⟨?_, ?_⟩, fun ha hb => ⟨?_, ?_, ?_⟩⟩
  · rw [Dev.excitation, drives_of_down (o := .exc l) h]
    rfl
  · rw [Dev.hvilSense, h]
    rfl
  · rw [Dev.hvilDriven, drives_of_down (o := .hvilDrv .a) ha, drives_of_down (o := .hvilDrv .b) hb]
    rfl
  · rw [Dev.irqLow, irqDrives_of_down ha, irqDrives_of_down hb]
    rfl
  · rw [Dev.faultN, faultDrives_of_down ha, faultDrives_of_down hb]
    rfl

/-- SYNC_OUT when IA is lost and IB runs: IB drives it, and its level is held. -/
theorem syncFollow_handover {d e : Dev} (hd : d.lands.syncBy = some .a) (ha : e.up (.iface .a) = false)
    (hb : e.up (.iface .b) = true) :
    Dev.syncFollow d e = { e with lands := { e.lands with syncBy := some .b, syncHeld := d.syncOut } } := by
  have hnew : e.syncDriver = some .b := by simp [Dev.syncDriver, ha, hb]
  simp [Dev.syncFollow, hnew, hd]

/-- While a level is held, the land of the die that drives SYNC_OUT stands at it. -/
theorem syncOut_held {d : Dev} {l : Lane} {v : Bool} (hup : d.up (.iface l) = true) (hby : d.lands.syncBy = some l)
    (hheld : d.lands.syncHeld = some v) : d.syncOut = some v := by
  have hdrives : d.drives (.sync l) = true := by simp [Dev.drives, OutLand.lane, Dev.blockDrives, hup, hby, hheld]
  simp [Dev.syncOut, hby, hdrives, hheld]

/-- Settles O49: the level is held where the driver passes from IA to IB, and IB's period start drops it. -/
theorem syncOutChangesHands : Obligations.SyncOutChangesHands := by
  rintro s d e rfl hd
  refine ⟨⟨_, rfl⟩, fun ha hb => ?_, fun ha hrole => ?_⟩
  · rw [syncFollow_handover hd ha hb]
    refine ⟨rfl, fun v hv => syncOut_held hb rfl hv, ?_, ?_⟩ <;> simp [Dev.syncPeriod]
  · rw [Dev.syncDriver, if_pos ⟨ha, hrole⟩]

end Sys2Proof.Machine
end

section
/-! O50: reads by ports that read nothing, and reads with a side effect (R57, R116). -/
namespace Sys2Proof.Machine

theorem read_nothing {d : Dev} {w : Writer} {k : Nat} (ha : d.arrives w = true) (hn : (d.whoAt w k).readsNothing = true) :
    d.read w k = { d.showAccess w .cls with host := { (d.showAccess w .cls).host with readData := [0] } } := by
  simp only [Dev.read, ha, hn, Bool.not_true, Bool.false_eq_true, if_false, if_true]

theorem read_word {d e : Dev} {w : Writer} {k : Nat} {v : Word} (ha : d.arrives w = true) (hn : (d.whoAt w k).readsNothing = false)
    (hword : d.readWord w (d.whoAt w k) k = (.ok, v, e)) : d.read w k = d.readOf w (v, e) := by
  simp only [Dev.read, ha, hn, Bool.not_true, Bool.false_eq_true, if_false, hword]
  rfl

/-- Settles O50: the class is judged before the word is looked up. -/
theorem sensorAndSafetyPortsReadNothing : Obligations.SensorAndSafetyPortsReadNothing := by
  rintro s d rfl w ha hn
  have hread (p o : Nat) (hp : p ≠ pgHOST) (ho : o < 0x1000) : s.dev.read w (pageAddr p o) =
      { s.dev.showAccess w .cls with host := { (s.dev.showAccess w .cls).host with readData := [0] } } :=
    read_nothing ha (by rwa [page_who (.inl hp) ho])
  exact ⟨
    fun n q k => completes (·.read w _) (hread (pgCAN n) (0x100 + 0x80 * q.val + 4 * k.val) (by unfold pgCAN pgHOST; omega) (by omega)) rfl,
    completes (·.read w _) (hread pgETH 0x68 (by decide) (by decide)) rfl,
    completes (·.read w _) (hread pgTIME 0x58 (by decide) (by decide)) rfl,
    completes (·.read w _) (hread pgNVM 0xC4 (by decide) (by decide)) rfl⟩

/-- The read of a register of a page: its value to the reader, and what the read sets off (R535, R550, R559, R624). -/
def Dev.pageRead (d : Dev) (ident : Nat) (l : Lane) (p o : Nat) : Word × Dev :=
  if p = pgTIME ∧ o = 0x58 then d.nowLoRead ident
  else if p = pgETH ∧ o = 0x68 then d.ethRead
  else if (pageKind p).1 = 0x24 ∧ 0x100 ≤ o ∧ o < 0x158 then d.queueWindowRead ident ⟨(p - 0x24) % 4, by omega⟩ 0 ((o - 0x100) / 4)
  else if (pageKind p).1 = 0x24 ∧ 0x180 ≤ o ∧ o < 0x1D8 then d.queueWindowRead ident ⟨(p - 0x24) % 4, by omega⟩ 1 ((o - 0x180) / 4)
  else if p = pgNVM ∧ o = 0xC4 then (d.objWord, d.objNext)
  else (d.showWord ident l (pageAddr p o), d)

theorem readWord_page {d : Dev} {w : Writer} {who : Who} {p o : Nat} {l : Lane} (hp : p < 45) (h4 : o % 4 = 0) (ho : o < 4 * pageRegs p)
    (hl : d.readLane w (d.openCopies p) = some l) :
    d.readWord w who (pageAddr p o) = (.ok, d.pageRead who.ident l p o) := by
  have hsize := pageRegs_le p
  have hlow : pageAddr p o < 0x2D000 := by unfold pageAddr; omega
  have hhead : pageAddr p o / 0x1000 * 0x1000 = pageAddr p 0 := by unfold pageAddr; omega
  have hword : pageAddr p o / 4 * 4 = pageAddr p o := by unfold pageAddr; omega
  simp only [Dev.readWord, hlow, if_true, hhead, hword, page_target h4 hp ho hsize, page_target (o := 0) rfl hp (by omega) hsize,
    Dev.pageTarget, Dev.pageRead, hl, Bool.false_eq_true, if_false, beq_iff_eq]

/-- A read by a writer that may read gives what the register's own read gives. -/
theorem read_page {d : Dev} {w : Writer} {p o : Nat} {l : Lane} {r : Word × Dev} (hreg : pageReg p o)
    (ha : d.arrives w = true) (hn : (d.who w).readsNothing = false) (hl : d.readLane w (d.openCopies p) = some l)
    (hr : d.pageRead (d.who w).ident l p o = r) : d.read w (pageAddr p o) = d.readOf w r := by
  obtain ⟨hp, h4, ho, hhost, -⟩ := hreg
  have hsize := pageRegs_le p
  have hwho : d.whoAt w (pageAddr p o) = d.who w := page_who hhost (by omega)
  exact read_word ha (by rwa [hwho]) (by rw [hwho, readWord_page hp h4 ho hl, hr])

end Sys2Proof.Machine
end

section
/-! O24: Ethernet and TIME (R549 to R559). -/
namespace Sys2Proof.Machine

/-- A write of MDIO that carries GO keeps a GO that stands. -/
theorem writeReg_mdioGo {d : Dev} {w : Writer} {v : Word} (hgo : R.ETH_MDIO_GO.get v = 1) (ha : d.accepts w (pageAddr pgETH 0x74) v) :
    d.writeReg w pgETH 0x74 v =
      d.took w pgETH 0x74 v (if R.ETH_MDIO_GO.get (d.seenWordBy w pgETH 0x74) = 1 then R.ETH_MDIO_GO.mask else 0) fun e => e.mdioGo v :=
  have hreg : pageReg pgETH 0x74 := by decide
  writeReg_took hreg ha (pagePlan_eth (by decide)) rfl rfl (by rw [seenWordBy_eq_present hreg]; rfl) (if_pos hgo)

section
variable {d : Dev} {data : List Byte} {fcsOk : Bool} {age : Nat}

theorem ethFrameTaken_bad (hon : d.ethOn = true) (hlink : d.eg R.ETH_STAT_LINK ≠ 0)
    (hbad : fcsOk = false ∨ data.length < 60 ∨ 1518 < data.length) :
    d.ethFrameTaken data fcsOk age = d.es R.ETH_CNT_RXERR (satInc 65535 (d.eg R.ETH_CNT_RXERR)) := by
  unfold Dev.ethFrameTaken
  rw [if_neg (by simp [hon, hlink]), if_pos (by simpa using hbad)]

theorem ethFrameTaken_kept (hon : d.ethOn = true) (hlink : d.eg R.ETH_STAT_LINK ≠ 0)
    (hgood : fcsOk = true ∧ 60 ≤ data.length ∧ data.length ≤ 1518) (htakes : d.ethTakes data = true)
    (hroom : (d.eth.rx.map fun p => p.2.length).foldl (fun a b => a + b) 0 + data.length ≤ 16384) :
    d.ethFrameTaken data fcsOk age = { d with eth := { d.eth with rx := d.eth.rx ++ [(d.now - age, data)] } }.ethCause 0 := by
  obtain ⟨hfcs, hmin, hmax⟩ := hgood
  unfold Dev.ethFrameTaken
  rw [if_neg (by simp [hon, hlink]), if_neg (by simp [hfcs]; omega), if_neg (by simp [htakes]), if_neg (by omega)]

theorem ethGood_bad (hbad : fcsOk = false ∨ data.length < 60 ∨ 1518 < data.length) : d.ethGood data fcsOk = false := by
  rcases hbad with h | h | h
  · simp [Dev.ethGood, h]
  · simp [Dev.ethGood, show ¬ 60 ≤ data.length by omega]
  · simp [Dev.ethGood, show ¬ data.length ≤ 1518 by omega]

/-- A frame that carries no safety PDU goes to the receive buffer alone. -/
theorem ethFrameReceive_plain (h : (match ethTag data with | some t => d.ethPath t | none => false) = false ∨ d.ethGood data fcsOk = false) :
    d.ethFrameReceive data fcsOk age = d.ethFrameTaken data fcsOk age := by
  unfold Dev.ethFrameReceive
  dsimp only
  split
  case h_1 t ht =>
    rw [ht] at h
    rw [if_neg fun hboth => by rcases h with h | h <;> simp [h] at hboth]
  case h_2 => rfl

theorem ethFrameReceive_pdu {t : Nat} (hgood : d.ethGood data fcsOk = true) (ht : ethTag data = some t) (hpath : d.ethPath t = true) :
    d.ethFrameReceive data fcsOk age = (d.ethFrameTaken data fcsOk age).pduArrives 9 t (data.drop 16) (d.now - age) := by
  unfold Dev.ethFrameReceive
  simp only [ht, hgood, hpath, and_self, if_true]

end

/-- Settles O24: the receive path, the accepted writes of the page, and the events under the conditions of their rules. -/
theorem ethernetAndTimeCommandsComplete : Obligations.EthernetAndTimeCommandsComplete := by
  rintro s d rfl
  exact ⟨
    fun data fcsOk age hon hlink hgood htakes hplain hroom => completes (·.ethFrameReceive data fcsOk age)
      ((ethFrameReceive_plain (.inl hplain)).trans (ethFrameTaken_kept hon hlink hgood htakes hroom)) rfl,
    fun data fcsOk age hon hlink hbad => completes (·.ethFrameReceive data fcsOk age)
      ((ethFrameReceive_plain (.inr (ethGood_bad hbad))).trans (ethFrameTaken_bad hon hlink hbad)) rfl,
    fun data fcsOk age t hgood ht hpath => completes (·.ethFrameReceive data fcsOk age) (ethFrameReceive_pdu hgood ht hpath) rfl,
    fun w l ha hn hl => completes (·.read w (pageAddr pgETH 0x68)) (read_page (by decide) ha hn hl rfl) rfl,
    fun w v ha => completes (·.writeReg w pgETH 0x70 v) (writeReg_took (by decide) ha (pagePlan_eth (by decide)) rfl rfl rfl rfl) rfl,
    fun w v ha => completes (·.writeReg w pgETH 0x6C v) (writeReg_took (by decide) ha (pagePlan_eth (by decide)) rfl rfl rfl rfl) rfl,
    fun hup hlink => completes (·.ethLinkDown) (if_neg (by simp [hup, hlink])) rfl,
    fun hon hlink => completes (·.ethLinkUp) (if_neg (by simp [hon, hlink])) rfl,
    fun hs hp => completes (·.ethTxdone) (by simp [Dev.ethTxdone, hs, hp]) rfl,
    fun b hs hp => completes (·.ethTxdone) (by simp [Dev.ethTxdone, hs, hp]) rfl,
    fun w v ha => completes (·.writeReg w pgETH 0x74 _) (writeReg_mdioGo (Fld.get_put_same (by decide) v 1) ha) rfl,
    fun data hup hgo => completes (·.mdioDone data) (if_neg (by simp [hup, hgo])) rfl,
    fun age hon hlink hptp => completes (·.ptpMessage .sync age) (if_neg (by simp [hon, hlink, hptp])) rfl,
    fun age ns x y hon hlink hptp hx hy => completes (·.ptpMessage (.followUp ns) age)
      ((if_neg (by simp [hon, hlink, hptp])).trans (by simp only [hx, hy])) rfl,
    fun age t1 t2 t3 t4 hon hlink hptp => completes (·.ptpMessage (.peerDelay t1 t2 t3 t4) age) (if_neg (by simp [hon, hlink, hptp])) rfl,
    fun age hon hlink hptp => completes (·.ptpMessage .requestTaken age) (if_neg (by simp [hon, hlink, hptp])) rfl,
    fun age hon hlink hptp => completes (·.ptpMessage .requestSent age) (if_neg (by simp [hon, hlink, hptp])) rfl,
    fun domain age a b hp hc he => completes (·.timeSourceEvent domain age) (by simp [Dev.timeSourceEvent, hp, hc, he]) rfl,
    fun t ht hc he hdue => completes (·.timeEventTimeout) (by
      simp only [Dev.timeEventTimeout, ht]
      exact if_neg (by simp [hc, he, hdue])) rfl,
    fun rising age hup hpol => completes (·.timerefPulse rising age) (if_neg (by simp [hup, hpol])) rfl,
    fun w l ha hn hl => completes (·.read w (pageAddr pgTIME 0x58)) (read_page (by decide) ha hn hl rfl) rfl⟩

end Sys2Proof.Machine
end

section
/-! O5: host frames (R139 to R142, R148). -/
namespace Sys2Proof.Machine

section
variable {d : Dev} {p : HostPort} {f : HostFrame} (hpower : d.power.vioLevel.isSome = true) (hopen : d.portOpen p.num = true)
include hpower hopen

theorem hostFrame_accepted (hcheck : d.frameCheck p f = 0) : d.hostFrame p f = d.acceptFrame p f := by
  unfold Dev.hostFrame
  rw [if_neg (by simp [hopen, Option.isSome_iff_ne_none.mp hpower])]
  simp only [hcheck]

theorem hostFrame_nack (hcheck : d.frameCheck p f ≠ 0) : d.hostFrame p f = d.nack f (d.frameCheck p f) := by
  unfold Dev.hostFrame
  rw [if_neg (by simp [hopen, Option.isSome_iff_ne_none.mp hpower])]
  split
  case h_1 h => exact absurd h hcheck
  case h_2 => rfl

end

section
variable {d : Dev} {r : HostReq} {n : Fin 48} (hr : d.host.request = some r) (hn : n = match r.port with | .host => 0 | .service => 2)
include hr hn

theorem hostComplete_write (hop : r.frame.opcode.val = 2) :
    d.hostComplete =
      (let x := d.writeFrame (.port n) (d.who (.port n)) r.frame.header r.frame.data
       (x.2.showAccess (.port n) x.1).endRequest x.1.code []) := by
  have hlocal : r.frame.isRemote = false := by simp [HostFrame.isRemote, hop]
  subst hn
  simp only [Dev.hostComplete, hr, hlocal, hop, Bool.false_eq_true, if_false, if_true] <;> rfl

theorem hostComplete_read (hop : r.frame.opcode.val = 1) :
    d.hostComplete =
      (let x := d.readFrame (.port n) (d.who (.port n)) r.frame.header r.frame.words
       let e := x.2.2.showAccess (.port n) x.1
       ({ e with host := { e.host with readData := x.2.1 } }).endRequest x.1.code x.2.1) := by
  have hlocal : r.frame.isRemote = false := by simp [HostFrame.isRemote, hop]
  subst hn
  simp only [Dev.hostComplete, hr, hlocal, hop, Bool.false_eq_true, if_false, OfNat.one_ne_ofNat] <;> rfl

end

/-- Settles O5: a frame is accepted or answered by a NACK as its checks say, and a request ends by its opcode or by its time. -/
theorem hostFrameCommandsComplete : Obligations.HostFrameCommandsComplete := by
  rintro s d rfl
  exact ⟨
    fun p f hpower hopen hcheck => completes (·.hostFrame p (f.spelling 1)) (hostFrame_accepted hpower hopen hcheck) rfl,
    fun p f hpower hopen hcheck => completes (·.hostFrame p (f.spelling 1)) (hostFrame_nack hpower hopen hcheck) rfl,
    fun p f hpower hopen hcheck => completes (·.hostFrame p (f.spelling 2)) (hostFrame_accepted hpower hopen hcheck) rfl,
    fun p f hpower hopen hcheck => completes (·.hostFrame p (f.spelling 2)) (hostFrame_nack hpower hopen hcheck) rfl,
    fun p f hpower hopen hcheck => completes (·.hostFrame p (f.spelling 3)) (hostFrame_accepted hpower hopen hcheck) rfl,
    fun p f hpower hopen hcheck => completes (·.hostFrame p (f.spelling 3)) (hostFrame_nack hpower hopen hcheck) rfl,
    fun p f hpower hopen hcheck => completes (·.hostFrame p (f.spelling 4)) (hostFrame_accepted hpower hopen hcheck) rfl,
    fun p f hpower hopen hcheck => completes (·.hostFrame p (f.spelling 4)) (hostFrame_nack hpower hopen hcheck) rfl,
    fun p f hpower hopen hcheck => completes (·.hostFrame p (f.spelling 5)) (hostFrame_accepted hpower hopen hcheck) rfl,
    fun p f hpower hopen hcheck => completes (·.hostFrame p (f.spelling 5)) (hostFrame_nack hpower hopen hcheck) rfl,
    fun r n hr hop hn => completes (·.hostComplete) (hostComplete_write hr hn hop) rfl,
    fun r n hr hop hn => completes (·.hostComplete) (hostComplete_read hr hn hop) rfl,
    fun r hr hremote hdue => completes (·.remoteTimeout) (by
      simp only [Dev.remoteTimeout, hr]
      exact if_pos ⟨hremote, hdue⟩) rfl⟩

end Sys2Proof.Machine
end

section
/-! O26: thermal commands (R591 to R603). -/
namespace Sys2Proof.Machine

/-- Settles O26: each event under the conditions of its rule, and the accepted clear. -/
theorem thermalCommandsComplete : Obligations.ThermalCommandsComplete := by
  rintro s d rfl
  exact ⟨
    fun sn count age hmode havail hcopies => completes (·.tempReading sn count age) (if_neg (by simp [hmode, havail, hcopies])) rfl,
    fun w value ha => completes (·.writeReg w pgTEMP 0x44 value) (writeReg_took (by decide) ha (pagePlan_temp (by decide)) rfl rfl rfl rfl) rfl,
    fun l r hpend hactive hup hwritten => completes (·.thermalRecordWritten l) (by
      simp only [Dev.thermalRecordWritten, hpend]
      exact if_neg (by rw [hactive, hup, hwritten]; decide)) rfl,
    fun hactive hwritten hoff => completes (·.thermalDormantEntry) (by
      simp only [Dev.thermalDormantEntry, hactive, hwritten, hoff]
      rfl) rfl,
    fun first second hmode hlatch hdue => completes (·.thermalRetryWake first second) (if_neg (by
      simp only [hmode, hlatch, ne_eq, not_true, Bool.not_true, Bool.false_eq_true, false_or]
      exact fun ⟨hasleep, hearly⟩ => hdue.elim (by simpa using hasleep) (Nat.not_le.mpr hearly))) rfl⟩

end Sys2Proof.Machine
end

section
/-! O28: claims, releases and takes of resources (R631 to R645). -/
namespace Sys2Proof.Machine

/-- A write of CLAIM with its key acts by its OP on its resource. -/
theorem writeReg_claim {d : Dev} {w : Writer} {v : Word} (hkey : R.RES_CLAIM_KEY.get v = 0x3A) (ha : d.accepts w (pageAddr pgRES 0x40) v) :
    d.writeReg w pgRES 0x40 v = d.took w pgRES 0x40 v 0 fun e =>
      if R.RES_CLAIM_OP.get v = 1 then e.resourceClaim (d.who w) (R.RES_CLAIM_R.get v)
      else e.resourceRelease (d.who w) (R.RES_CLAIM_R.get v) :=
  writeReg_took (by decide) ha (pagePlan_res (by decide)) (bne_eq_false_iff_eq.mpr hkey) rfl rfl rfl

/-- The fields of a command word of CLAIM. -/
theorem claimWord_fields {op r : Nat} (hop : op < 4) (hr : r < 256) :
    R.RES_CLAIM_KEY.get (keyWord 0x3A (0x100 * op + r)) = 0x3A ∧ R.RES_CLAIM_OP.get (keyWord 0x3A (0x100 * op + r)) = op ∧
      R.RES_CLAIM_R.get (keyWord 0x3A (0x100 * op + r)) = r := by
  refine ⟨Fld.get_ofNat_eq (by decide) ?_, Fld.get_ofNat_eq (by decide) ?_, Fld.get_ofNat_eq (by decide) ?_⟩
  · norm_num [R.RES_CLAIM_KEY, Fld.width]
    omega
  · norm_num [R.RES_CLAIM_OP, Fld.width]
    omega
  · norm_num [R.RES_CLAIM_R, Fld.width]
    omega

theorem writeReg_resourceClaim {d : Dev} {w : Writer} {r : Fin 256} (ha : d.accepts w (pageAddr pgRES 0x40) (keyWord 0x3A (0x100 + r.val))) :
    d.writeReg w pgRES 0x40 (keyWord 0x3A (0x100 + r.val)) =
      d.took w pgRES 0x40 (keyWord 0x3A (0x100 + r.val)) 0 fun e => e.resourceClaim (d.who w) r.val := by
  obtain ⟨hkey, hop, hr⟩ := claimWord_fields (op := 1) (by decide) r.isLt
  simp only [writeReg_claim hkey ha, hop, hr, if_true]

theorem writeReg_resourceRelease {d : Dev} {w : Writer} {r : Fin 256} (ha : d.accepts w (pageAddr pgRES 0x40) (keyWord 0x3A (0x200 + r.val))) :
    d.writeReg w pgRES 0x40 (keyWord 0x3A (0x200 + r.val)) =
      d.took w pgRES 0x40 (keyWord 0x3A (0x200 + r.val)) 0 fun e => e.resourceRelease (d.who w) r.val := by
  obtain ⟨hkey, hop, hr⟩ := claimWord_fields (op := 2) (by decide) r.isLt
  simp only [writeReg_claim hkey ha, hop, hr, OfNat.ofNat_ne_one, if_false]

/-- Settles O28: the write of CLAIM by its OP, and a take as the cause and the present taker say. -/
theorem resourceCommandsComplete : Obligations.ResourceCommandsComplete := by
  rintro s d rfl
  exact ⟨
    fun w r ha => completes (·.writeReg w pgRES 0x40 (keyWord 0x3A (0x100 + r.val))) (writeReg_resourceClaim ha) rfl,
    fun w r ha => completes (·.writeReg w pgRES 0x40 (keyWord 0x3A (0x200 + r.val))) (writeReg_resourceRelease ha) rfl,
    fun r f hcopies hcause hnew htaker => completes (·.resourceTake r (0x40 + f.val)) (by
      simp only [Dev.resourceTake, hcopies, hcause, hnew, htaker]
      rfl) rfl,
    fun r f k hcopies hcause hnew htaker hhigher => completes (·.resourceTake r (0x40 + f.val)) (by
      simp only [Dev.resourceTake, hcopies, hcause, hnew, htaker, hhigher]
      rfl) rfl,
    fun r f hcause => completes (·.resourceTakeEnd r (0x40 + f.val)) (if_neg (by simp [hcause])) rfl⟩

end Sys2Proof.Machine
end

section
/-! O1: the internal links and driver dies (R31, R32, R375 to R390). -/
namespace Sys2Proof.Machine

section
variable {d : Dev} {k : LinkRx} {seq : Nat} {crcOk : Bool} {skew : Int}

/-- A frame of a link whose pair agrees on its input is judged at once. -/
theorem linkFrameReceive_agreed (h : (match linkPair k with | some p => d.inputHeld p.1 p.2 .frame | none => false) = false) :
    d.linkFrameReceive k seq crcOk skew = d.frameReceived k seq crcOk skew := by
  unfold Dev.linkFrameReceive
  split at h
  case h_1 p hp =>
    rw [hp]
    exact if_neg (by simp [h])
  case h_2 hp => rw [hp]

theorem linkFrameReceive_held {l : Lane} {island : Bool} (hpair : linkPair k = some (l, island)) (hheld : d.inputHeld l island .frame = true) :
    d.linkFrameReceive k seq crcOk skew = d.holdChange l island .frame (.frame k seq crcOk skew) := by
  unfold Dev.linkFrameReceive
  rw [hpair]
  exact if_pos hheld

variable (hlive : (d.link k).live = true) (hsender : d.senderOn k = true)
include hlive hsender

theorem frameReceived_taken (hcrc : crcOk = true) (hstep : 1 ≤ d.frameStep k seq ∧ d.frameStep k seq ≤ 8) :
    d.frameReceived k seq crcOk skew = d.takeFrame k seq skew := by
  unfold Dev.frameReceived
  rw [if_neg (by simp [hlive, hsender]), if_neg (by simp [hcrc]; omega)]

theorem frameReceived_dropped (hbad : crcOk = false ∨ d.frameStep k seq = 0 ∨ 8 < d.frameStep k seq) :
    d.frameReceived k seq crcOk skew = d.dropFrame k := by
  unfold Dev.frameReceived
  rw [if_neg (by simp [hlive, hsender]), if_pos (by simpa using hbad)]

end

theorem edgeMessageReceive_taken {d : Dev} {k : DieIx} {l : Lane} {word : Word} {o : OutIx} (hlive : (d.link (.drvDie l k)).live = true)
    (hcal : ((d.dies[k]).ports.at l).calOk = true) (harrive : d.mayArrive l = true) (hcrc : edgeCrc word = word.toNat % 256)
    (ho : dieOut k (word.toNat / 2 ^ 30) = some o) : d.edgeMessageReceive k l word = d.takeMessage k l o word := by
  unfold Dev.edgeMessageReceive
  dsimp only
  rw [if_neg (by rw [hlive, hcal, harrive]; simp [hcrc]), ho]

section
variable {d : Dev} {k : DieIx} {l : Lane} {err w : Word} {n : Nat} (hsymbol : ((d.mods.at l).masters[k]).symbol = some (w, n))
include hsymbol

theorem prioritySymbolReceive_taken (hlive : (d.link (.drvDie l k)).live = true) (hcrc : edgeCrc (w ^^^ err) = (w ^^^ err).toNat % 256) :
    d.prioritySymbolReceive k l err = (d.onMaster l k fun m => { m with symbol := none }).symbolTaken k l (w ^^^ err) := by
  unfold Dev.prioritySymbolReceive
  rw [hsymbol]
  exact if_neg (by simp [hlive, hcrc])

theorem prioritySymbolReceive_dropped
    (hbad : (d.link (.drvDie l k)).live = false ∨ edgeCrc (w ^^^ err) ≠ (w ^^^ err).toNat % 256) :
    d.prioritySymbolReceive k l err = d.onMaster l k fun m => { m with symbol := if n ≤ 1 then none else some (w, n - 1) } := by
  unfold Dev.prioritySymbolReceive
  rw [hsymbol]
  exact if_pos (by simpa using hbad)

end

/-- Settles O1: each event as its links, counters and CRC let it act. -/
theorem linkCommandsComplete : Obligations.LinkCommandsComplete := by
  rintro s d rfl
  exact ⟨
    fun k seq crcOk skew hagreed hlive hsender hcrc hstep => completes (·.linkFrameReceive k seq crcOk skew)
      ((linkFrameReceive_agreed hagreed).trans (frameReceived_taken hlive hsender hcrc hstep)) rfl,
    fun k seq crcOk skew hagreed hlive hsender hbad => completes (·.linkFrameReceive k seq crcOk skew)
      ((linkFrameReceive_agreed hagreed).trans (frameReceived_dropped hlive hsender hbad)) rfl,
    fun k seq crcOk skew l island hpair hheld => completes (·.linkFrameReceive k seq crcOk skew) (linkFrameReceive_held hpair hheld) rfl,
    fun k hlive hgap => completes (·.linkLostAll k) (by
      have hsilent : s.dev.linkSilent k = true := by simp [Dev.linkSilent, hlive, hgap]
      cases k <;> simp only [Dev.linkLostAll, Dev.linkLost, hsilent, if_true, true_and]) rfl,
    fun k trips turns rtt hup hfree => completes (·.linkStartUp k trips turns rtt) (if_neg (by simp [hup, hfree])) rfl,
    fun k l hlive hhandover => completes (·.roleDesignationApply k l) (by
      simp only [Dev.roleDesignationApply, hlive, hhandover]
      rfl) rfl,
    fun k l t hlive hhandover hdue => completes (·.roleDesignationApply k l) (by
      simp only [Dev.roleDesignationApply, hlive, hhandover, hdue]
      rfl) rfl,
    fun k l word o hlive hcal harrive hcrc ho => completes (fun d => (d.tinkerOut k (word.toNat / 2 ^ 30)).edgeMessageReceive k l word)
      (edgeMessageReceive_taken hlive hcal harrive hcrc ho) rfl,
    fun o l e hport hedge => completes (·.edgeExecute o) (by simp only [Dev.edgeExecute, hport, hedge]) rfl,
    fun k l err e w n he hsymbol hlive hcrc => completes (fun d => ((d.symbolOuts k l).foldl (fun d n => d.tinkerOut k n) d).prioritySymbolReceive k l err)
      (by rw [he, prioritySymbolReceive_taken hsymbol hlive hcrc]) (by rfl),
    fun k l err e w n he hsymbol hbad => completes (fun d => ((d.symbolOuts k l).foldl (fun d n => d.tinkerOut k n) d).prioritySymbolReceive k l err)
      (by rw [he, prioritySymbolReceive_dropped hsymbol hbad]) (by rfl),
    fun k l outs active hlive harrive => completes (·.stoSymbolReceive k l outs active) (if_neg (by simp [hlive, harrive])) rfl⟩

end Sys2Proof.Machine
end

section
/-! O2: supplies, domain resets and clocks (R74 to R95). -/
namespace Sys2Proof.Machine

section
variable {d : Dev} {ch i : Lane} {active : Bool} {held : Nat} (hup : d.up (.iface i) = true)
  (hfilt : d.gl i (pgSAFE i) R.SAFE_STO_FILT * 125 ≤ 2 * held)
include hup hfilt

/-- An STO input that held its level for the filter's time reaches the pair of its island. -/
theorem stoChannelChange_filtered :
    d.stoChannelChange ch i active held = d.viaInput i true (.sto ch) (.sto ch active) fun d => d.stoChannelTurns ch i active :=
  if_neg (by simp [hup, Dev.stoFiltered, hfilt])

theorem stoChannelChange_agreed (hheld : d.inputHeld i true (.sto ch) = false) :
    d.stoChannelChange ch i active held = d.stoChannelTurns ch i active :=
  (stoChannelChange_filtered hup hfilt).trans (if_neg (by simp [hheld]))

theorem stoChannelChange_held (hheld : d.inputHeld i true (.sto ch) = true) :
    d.stoChannelChange ch i active held = d.holdChange i true (.sto ch) (.sto ch active) :=
  (stoChannelChange_filtered hup hfilt).trans (if_pos hheld)

end

/-- A die whose supply stood leaves its reset; an interface die of a sleeping module joins the always-on domain instead. -/
theorem domainResetRelease_awake {d : Dev} {k : Die} (hreset : d.inReset k = true) (hstood : d.supplyStood (dieSupply k) = true)
    (hawake : (match (generalizing := false) k with | .iface _ => d.asleep | _ => false) = false) : d.domainResetRelease k = d.leavesReset k := by
  unfold Dev.domainResetRelease
  rw [if_neg (by simp [hreset, hstood])]
  split
  case h_1 hasleep =>
    rw [hasleep] at hawake
    cases hawake
  case h_2 => rfl

/-- The trim of IB follows IA's measure while IA's lane serves and the cross-link is live. -/
theorem clkTrimUpdate_live {d : Dev} {ppm : Int} (hrole : d.lanes.a.role ≠ .failed ∧ d.lanes.a.role ≠ .down)
    (hlive : (d.link (.ifaceCross .b)).live = true) :
    d.clkTrimUpdate ppm =
      (let e := d.sS pgCLK R.CLK_STATUS_TRIM_B (clampInt (-25000) 25000 ppm)
       if clampInt (-25000) 25000 ppm = ppm then (e.onClk .b fun c => { c with trimLimit := false }).endCause 19
       else ((e.onClk .b fun c => { c with trimLimit := true }).raiseCond 19).cause pgCLK 1) :=
  if_neg (by simp [hrole, hlive])

/-- Settles O2: each event under the conditions of its rule. -/
theorem supplyAndClockCommandsComplete : Obligations.SupplyAndClockCommandsComplete := by
  rintro s d rfl
  exact ⟨
    fun ch i active held hup hheld hfilt => completes (·.stoChannelChange ch i active held) (stoChannelChange_agreed hup hfilt hheld) rfl,
    fun ch i active held hup hheld hfilt => completes (·.stoChannelChange ch i active held) (stoChannelChange_held hup hfilt hheld) rfl,
    fun u millivolt hok habove => completes (·.supplyValid u millivolt) (by
      simp only [Dev.supplyValid, hok, habove]
      rfl) rfl,
    fun k hreset hstood hawake => completes (·.domainResetRelease k) (domainResetRelease_awake hreset hstood hawake) rfl,
    fun l hreset hstood hasleep => completes (·.domainResetRelease (.iface l)) (by
      simp only [Dev.domainResetRelease, hreset, hstood, hasleep]
      rfl) rfl,
    fun u millivolt hok hbelow => completes (·.supplyLost u millivolt) (by
      have hfalls : s.dev.supplyInvalid u millivolt = s.dev.supplyFalls u := if_neg (by simp [hok, hbelow])
      cases u <;> simp only [Dev.supplyLost, hfalls, Bool.not_eq_true', eq_self]) rfl,
    fun l hup hclocks hsel => completes (·.xtalReady l) (if_pos (by simp [hup, hclocks, hsel])) rfl,
    fun l hup hclocks hsel => completes (·.xtalAbsent l) (if_pos (by simp [hup, hclocks, hsel])) rfl,
    fun l hup hsel => completes (·.pllLock l (false)) (by
      simp only [Dev.pllLock, hup, hsel]
      rfl) rfl,
    fun l hup hclocks hisoup => completes (·.pllLock l (true)) (by
      simp only [Dev.pllLock, hup, hclocks, hisoup]
      rfl) rfl,
    fun l ctl => completes (·.clkFail l ctl (false)) (by simp [Dev.clkFail]) rfl,
    fun l ctl => completes (·.clkFail l ctl (true)) rfl rfl,
    fun ppm hrole hlive hrange => completes (·.clkTrimUpdate ppm) (by
      have hclamp : clampInt (-25000) 25000 ppm = ppm := by unfold clampInt; omega
      rw [clkTrimUpdate_live hrole hlive, hclamp]
      exact if_pos rfl) rfl,
    fun ppm hrole hlive hhigh => completes (·.clkTrimUpdate ppm) (by
      have hclamp : clampInt (-25000) 25000 ppm = 25000 := by unfold clampInt; omega
      rw [clkTrimUpdate_live hrole hlive, hclamp]
      exact if_neg hhigh.ne) rfl,
    fun l inc hclocks => completes (·.aonCalibration l inc) (if_pos (by simp [hclocks])) rfl,
    fun l hpower hsel => completes (·.aonXtalReady l) (if_pos (by simp [hpower, hsel])) rfl,
    fun l hclocks => completes (·.mainClockStop l) (if_pos (by simp [hclocks])) rfl,
    fun l hclocks hclocks₂ => completes (·.mainClockStart l) (by
      simp only [Dev.mainClockStart, hclocks, hclocks₂]
      rfl) rfl,
    fun l hclocks hclocks₂ => completes (·.mainClockStart l) (by
      simp only [Dev.mainClockStart, hclocks, hclocks₂]
      rfl) rfl,
    fun hvalid hfinal hledger => completes (·.firstFinal) (if_pos (by simp [hvalid, hfinal, hledger])) rfl⟩

end Sys2Proof.Machine
end

section
/-! O3: modes, wakes, watchdogs and resets (R84 to R104, R463). -/
namespace Sys2Proof.Machine

theorem defaultMode_standby {d : Dev} (hdue : d.boot.defaultDue = true) (hmode : d.mode.cur = .standby) (hsuper : d.supervisor = false)
    (hrefused : d.boot.refused = false) (hcool : d.thermal.active = false) (hdefault : d.g pgSYS R.SYS_CONFIG_DEFAULT_MODE = 1) :
    d.defaultMode = ({ d with boot := { d.boot with defaultDue := false } }).modeReq .owner 1 := by
  have hg : ({ d with boot := { d.boot with defaultDue := false } } : Dev).g pgSYS R.SYS_CONFIG_DEFAULT_MODE = 1 := hdefault
  unfold Dev.defaultMode
  rw [if_neg (by simp [hdue, hmode, hsuper, hrefused, hcool])]
  dsimp only
  rw [hg]
  exact if_pos (.inr (.inl rfl))

theorem modeComplete_met {d : Dev} {n t : Nat} {own : Bool} (hreq : d.mode.pendingReq = some (n, t, own)) (hcool : d.thermal.active = false)
    (hconds : d.modeConds (Mode.ofCode n) own = some none) (hrun : Mode.ofCode n ≠ .run ∨ d.runTick = true) :
    d.modeComplete = d.goMode (Mode.ofCode n) false := by
  simp only [Dev.modeComplete, hreq, hcool, hconds, Bool.false_eq_true, if_false]
  exact if_neg (by rcases hrun with h | h <;> simp [h])

/-- HVIL acts at once unless every island that runs and reads it disagrees on it. -/
theorem hvilChange_agreed {d : Dev} {opened : Bool} {reads : List Lane} (hreads : reads = [Lane.a, Lane.b].filter fun i => d.up (.iface i))
    (h : reads = [] ∨ reads.all (d.inputHeld · true .hvil) = false) : d.hvilChange opened = d.hvilTurns opened := by
  unfold Dev.hvilChange
  dsimp only
  rw [← hreads]
  exact if_neg (by rcases h with h | h <;> simp [h])

theorem hvilChange_held {d : Dev} {opened : Bool} {reads : List Lane} (hreads : reads = [Lane.a, Lane.b].filter fun i => d.up (.iface i))
    (hne : reads ≠ []) (hall : reads.all (d.inputHeld · true .hvil) = true) :
    d.hvilChange opened = reads.foldl (fun e i => e.holdChange i true .hvil (.hvil opened)) d := by
  unfold Dev.hvilChange
  dsimp only
  rw [← hreads]
  exact if_pos (by simp [hne, hall])

theorem modeIs_asleep {d : Dev} (h : d.mode.cur = .dormant ∨ d.mode.cur = .watch) : d.modeIs [.dormant, .watch] = true := by
  rcases h with h | h <;> simp [Dev.modeIs, h]

/-- A wake input that is enabled is taken once it held for the filter's time; STO and HVIL have no filter. -/
theorem wakeTaken_filtered {d : Dev} {l : Lane} {src : WakeSource} {held : Nat} (haon : d.power.aonRunning.at l = true)
    (hen : d.gl l pgSYS (wakeFlds src).1 / 2 ^ (wakeFlds src).2.2 % 2 = 1)
    (hfilt : src = .sto ∨ src = .hvil ∨ d.gl l pgSYS R.SYS_WAKE_CFG_FILT + 1 ≤ held) : d.wakeTaken l src held = true := by
  simp only [Dev.wakeTaken, haon, hen, beq_self_eq_true, Bool.true_and]
  split
  case h_1 => rfl
  case h_2 => rfl
  case h_3 hsto hhvil => exact decide_eq_true ((hfilt.resolve_left hsto).resolve_left hhvil)

theorem writeReg_modeReq {d : Dev} {w : Writer} {target : Fin 8} (ha : d.accepts w (pageAddr pgSYS 0x44) (BitVec.ofNat 32 target.val)) :
    d.writeReg w pgSYS 0x44 (BitVec.ofNat 32 target.val) =
      d.took w pgSYS 0x44 (BitVec.ofNat 32 target.val) 0 fun e => e.modeReq (d.who w).cls target.val := by
  have htarget : R.SYS_MODE_REQ_TARGET.get (BitVec.ofNat 32 target.val) = target.val := Fld.get_ofNat_of_lt (by decide) rfl target.isLt
  exact writeReg_took (by decide) ha (pagePlan_sys (by decide)) rfl rfl rfl (congrArg (Dev.modeReq _ _) htarget)

theorem writeReg_wdogKick {d : Dev} {w : Writer} {l : Lane} {key : Fin 65536}
    (ha : d.accepts w (pageAddr (pgCPU l) 0x44) (BitVec.ofNat 32 key.val)) :
    d.writeReg w (pgCPU l) 0x44 (BitVec.ofNat 32 key.val) =
      d.took w (pgCPU l) 0x44 (BitVec.ofNat 32 key.val) 0 fun e => e.wdogKick l key.val := by
  have hkey : R.CPU_WDOG_KICK_KEY.get (BitVec.ofNat 32 key.val) = key.val := Fld.get_ofNat_of_lt (by decide) rfl key.isLt
  exact writeReg_took (by cases l <;> decide) ha (pagePlan_cpu (by decide)) rfl rfl rfl (congrArg (Dev.wdogKick _ _) hkey)

/-- Settles O3: each event under the conditions of its rule, and the accepted writes of MODE_REQ, RESET and WDOG_KICK. -/
theorem modeAndResetCommandsComplete : Obligations.ModeAndResetCommandsComplete := by
  rintro s d rfl
  exact ⟨
    fun l b hmaystart => completes (·.startUp l b) (if_neg (by simp [hmaystart])) rfl,
    fun hdue hmode hsuper hrefused hcool hdefault => completes (·.defaultMode)
      (defaultMode_standby hdue hmode hsuper hrefused hcool hdefault) rfl,
    fun hsupervisor hmode hmode₂ hmode₃ => completes (·.supervisorRetry) (if_pos (by simp [hsupervisor, hmode, hmode₂, hmode₃])) rfl,
    fun id ext hsupervisor hcanon hid hext => completes (·.supervisorQuery id ext) (if_neg (by simp [hsupervisor, hcanon, hid, hext])) rfl,
    fun t own code hmode hmode₂ hnow hreadyfails => completes (·.readyTimeout) (by
      simp only [Dev.readyTimeout, hmode, hmode₂, hnow, hreadyfails]
      rfl) rfl,
    fun n t own hreq hcool hconds hrun => completes (·.modeComplete) (modeComplete_met hreq hcool hconds hrun) rfl,
    fun opened reads hreads h => completes (·.hvilChange opened) (hvilChange_agreed hreads h) rfl,
    fun opened reads hreads hne hall => completes (·.hvilChange opened) (hvilChange_held hreads hne hall) rfl,
    fun hmode => completes (·.dischargeComplete) (if_pos (by simp [hmode])) rfl,
    fun l volt hmode hok hlevel => completes (·.dclWatchSample l volt) (if_neg (by simp [hmode, hok, hlevel])) rfl,
    fun l hmode hpower hlevel hwatch => completes (·.speedWatch l) (if_pos (by simp [hmode, hpower, hlevel, hwatch])) rfl,
    fun src held l hmode hl haon hen hfilt => completes (·.wakeEvent src held)
      (if_pos ⟨modeIs_asleep hmode, List.any_eq_true.mpr ⟨l, hl, wakeTaken_filtered haon hen hfilt⟩⟩) rfl,
    fun hmode hset hen hdue => completes (·.wakeTimer) (if_pos ⟨modeIs_asleep hmode, hset, hen, hdue⟩) rfl,
    fun l hen hup hperiod => completes (·.wdogTimeout l) (if_pos (by simp [hen, hup, hperiod])) rfl,
    fun hvio howner => completes (·.debugReset (2)) (if_neg (by simp [howner, Option.isSome_iff_ne_none.mp hvio])) rfl,
    fun hvio howner => completes (·.debugReset (0)) (if_neg (by simp [howner, Option.isSome_iff_ne_none.mp hvio])) rfl,
    fun w target ha => completes (·.writeReg w pgSYS 0x44 (BitVec.ofNat 32 target)) (writeReg_modeReq ha) rfl,
    fun w value ha => completes (·.writeReg w pgSYS 0x4C value) (writeReg_took (by decide) ha (pagePlan_sys (by decide)) rfl rfl rfl rfl) rfl,
    fun w l key ha => completes (·.writeReg w (pgCPU l) 0x44 (BitVec.ofNat 32 key)) (writeReg_wdogKick ha) rfl,
    fun n t own hmode hthermal => completes (·.modeComplete) (by
      simp only [Dev.modeComplete, hmode, hthermal]
      rfl) rfl⟩

end Sys2Proof.Machine
end

section
/-! O6: the converters and the sequencer (R151 to R190). -/
namespace Sys2Proof.Machine

theorem writeReg_seqStart {d : Dev} {w : Writer} {l : Lane} {v : Word} (hstart : R.SEQ_SEQCFG_START.get v = 1)
    (ha : d.accepts w (pageAddr (pgSEQ l) 0x40) v) : d.writeReg w (pgSEQ l) 0x40 v = d.took w (pgSEQ l) 0x40 v 0 fun e => e.seqTrigger l 3 :=
  writeReg_took (by cases l <;> decide) ha (pagePlan_seq (by decide)) rfl rfl rfl (if_pos hstart)

/-- Settles O6: each event under the conditions of its rule, and the accepted writes of SEQCFG.START and URGENT3. -/
theorem measurementCommandsComplete : Obligations.MeasurementCommandsComplete := by
  rintro s d rfl
  exact ⟨
    fun l c slice raw hup hsettled => completes (·.conversionComplete l c slice raw) (if_neg (by simp [hup, hsettled])) rfl,
    fun l c g r hr hn hexch hstopped => completes (·.spareTurnEnd l c g) (by
      simp only [Dev.spareTurnEnd, hr]
      exact if_neg (by simp [hn, hexch, hstopped])) rfl,
    fun l c hen hmeas => completes (·.referenceSettled l c) (if_pos ⟨hen, hmeas⟩) rfl,
    fun l c g a fin acc hgrpwen hup hmeas hsettled => completes (·.windowClose l c g) (by
      simp only [Dev.windowClose, hgrpwen, hup, hmeas, hsettled]
      rfl) rfl,
    fun l c g hwen hup hprev hclosed hran hend => completes (·.windowClose l c g) (by
      simp only [Dev.windowClose, hprev]
      exact (if_neg (by simp [hwen, hup])).trans (if_neg (by rw [hclosed, hran]; simpa using hend))) rfl,
    fun x y hdclvolt hdclvolt₂ => completes (·.dclExchange) (by simp only [Dev.dclExchange, hdclvolt, hdclvolt₂]) rfl,
    fun w l ha => completes (·.writeField w (pgSEQ l) R.SEQ_SEQCFG_START 1) (writeReg_seqStart (get_fieldWord_same (by decide)) ha) rfl,
    fun l g i hrun hup hseqbusy hpreempted hcur => completes (·.seqEntryStart l g) (by
      simp only [Dev.seqEntryStart, hrun, hup, hseqbusy, hpreempted, hcur]
      rfl) rfl,
    fun l x hmeas => completes (·.seqEntryComplete l) (by simp only [Dev.seqEntryComplete, hmeas]) rfl,
    fun w l value ha => completes (·.writeReg w (pgSEQ l) 0x54 value) (writeReg_took (by cases l <;> decide) ha (pagePlan_seq (by decide)) rfl rfl rfl rfl) rfl,
    fun l ch g hup hurgentwaits hurgentyields hjobgroupok => completes (·.urgentStart l ch g)
      (if_neg (by simp [hup, hurgentwaits, hurgentyields, hjobgroupok])) rfl,
    fun l ch x hmeas => completes (·.urgentServed l ch) (by simp only [Dev.urgentServed, hmeas]) rfl,
    fun n v hf => completes (·.auxSample n v) (by simp only [Dev.auxSample, hf]) rfl,
    fun n v hf => completes (·.auxSample n v) (by simp only [Dev.auxSample, hf]) rfl⟩

end Sys2Proof.Machine
end

section
/-! O7: events of the position ports (R191 to R234). -/
namespace Sys2Proof.Machine

/-- A change of a line of the encoder port whose lines have no fault. -/
theorem quadratureEdge_taken {d : Dev} {u : Lane} {a b : Bool} {age : Nat} {c : Fin 4} (hc : d.chanOf u (· == 1) = some c)
    (hfiltered : d.filtered u c age = true) (hfault : (d.pos.at u).faultA = false ∧ (d.pos.at u).faultB = false)
    (hedge : a ≠ (d.pos.at u).lvA ∨ b ≠ (d.pos.at u).lvB) : d.quadratureEdge u a b age = d.quadTaken u a b age c := by
  obtain ⟨hA, hB⟩ := hfault
  simp only [Dev.quadratureEdge, hc, hA, hB, Bool.false_eq_true, if_false]
  exact if_neg (by simpa [hfiltered, imp_iff_not_or] using hedge)

section
variable {d : Dev} {u : Lane} {sn cs : Int} {c : Fin 4} (hc : d.chanOf u (· == 4) = some c)
  (hdue : d.resDrives u = false ∨ d.resDue u c d.now = true)
include hc hdue

/-- A demodulation is judged by its amplitude. -/
theorem resolverDemodulation_due :
    d.resolverDemodulation u sn cs =
      (let lo := d.frm u c R.POS_FRM_CFG_VALUE 19 12 * 32768
       let hi := d.frm u c R.POS_FRM_CFG_VALUE 11 4 * 32768
       if (sn * sn + cs * cs) * 65536 < (lo * lo : Nat) ∨ (hi * hi : Nat) ≤ (sn * sn + cs * cs) * 65536 then d.badFrame u c
       else d.resolverGood u c sn cs) := by
  simp only [Dev.resolverDemodulation, hc]
  exact if_neg (by rcases hdue with h | h <;> simp [h])

end

theorem ssiFrameComplete_whole {d : Dev} {u : Lane} {bits t : Nat} {c : Fin 4} (hc : d.chanOf u (· == 5) = some c)
    (hframe : (d.chan u c).frameAt = some t)
    (hwhole : d.ssiDrives u = false ∨ t + d.frm u c R.POS_FRM_CFG_VALUE 31 26 * d.frm u c R.POS_FRM_TIME_VALUE 31 19 +
      d.frm u c R.POS_FRM_CFG_VALUE 12 5 ≤ d.now) : d.ssiFrameComplete u bits = d.ssiTaken u bits c t := by
  simp only [Dev.ssiFrameComplete, hc, hframe]
  exact if_neg fun ⟨hdrives, hearly⟩ => hwhole.elim (by simp [hdrives]) (Nat.not_le.mpr hearly)

/-- Settles O7: each event reaches the channel of its source under the conditions of its rule. -/
theorem positionEventsComplete : Obligations.PositionEventsComplete := by
  rintro s d rfl
  exact ⟨
    fun u a b age c hc hfiltered hfault hedge => completes (·.quadratureEdge u a b age) (quadratureEdge_taken hc hfiltered hfault hedge) rfl,
    fun u age c hc hfiltered hpin => completes (·.toothEdge u age) (by
      simp only [Dev.toothEdge, hc, hfiltered, hpin]
      rfl) rfl,
    fun u h age c hc hfiltered hpin => completes (·.hallChange u h age) (by
      simp only [Dev.hallChange, hc, hfiltered, hpin]
      rfl) rfl,
    fun u sn cs c hc hdue hlo hhi => completes (·.resolverDemodulation u sn cs)
      ((resolverDemodulation_due hc hdue).trans (if_neg (not_or.mpr ⟨not_lt.mpr hlo, not_le.mpr hhi⟩))) rfl,
    fun u sn cs c hc hdue hlo => completes (·.resolverDemodulation u sn cs) ((resolverDemodulation_due hc hdue).trans (if_pos (.inl hlo))) rfl,
    fun u c hc hchan hssiearly hssiready => completes (·.ssiFrameStart u) (by simp [Dev.ssiFrameStart, hc, hchan, hssiearly, hssiready]) rfl,
    fun u bits c t hc hframe hwhole => completes (·.ssiFrameComplete u bits) (ssiFrameComplete_whole hc hframe hwhole) rfl,
    fun u second sync pulses pause age c hc => completes (·.sentFrame u second sync pulses pause age) (by simp only [Dev.sentFrame, hc]) rfl,
    fun u line hup => completes (·.lineFault u line) (if_neg (by simp [hup])) rfl,
    fun u line level hup => completes (·.lineFaultEnd u line level) (if_neg (by simp [hup])) rfl,
    fun u a b z age c hc hfiltered hfault hedge => completes (·.indexEvent u a b z age) (by
      simp only [Dev.indexEvent, Dev.indexLine, hc, hfault]
      exact if_neg (by simp [hfiltered, hedge])) rfl,
    fun u c t hup hframelimit hchan hchan₂ => completes (·.sensorFrameTimeout u c) (by
      simp only [Dev.sensorFrameTimeout, hup, hframelimit, hchan, hchan₂]
      rfl) rfl,
    fun u c hup => completes (·.refreshSpeed u c) (if_neg (by simp [hup])) rfl,
    fun u c hup => completes (·.refreshSpeed u c) (if_neg (by simp [hup])) rfl,
    fun u a b rate hmode haon _ => completes (·.watchEdge u a b rate) (if_neg (by simp [hmode, haon])) rfl,
    fun u c hup hrecordsoon => completes (·.recordPublish u c) (if_neg (by simp [hup, hrecordsoon])) rfl,
    fun l atCtl u c seq crcOk r hrecordway hchan hcrcok => completes (·.recordReceive l atCtl u c seq crcOk) (by
      simp only [Dev.recordReceive, hrecordway, hchan, hcrcok]
      rfl) rfl,
    fun l atCtl u c seq crcOk r hrecordway hchan hcrcok => completes (·.recordReceive l atCtl u c seq crcOk) (by
      simp only [Dev.recordReceive, hrecordway, hchan, hcrcok]
      rfl) rfl,
    fun k hen => completes (·.sensePairCompare k) (if_neg (by simp [hen])) rfl⟩

end Sys2Proof.Machine
end

section
/-! O8: writes of the position pages (R191, R211, R231). -/
namespace Sys2Proof.Machine

/-- The plan of the register at offset `q` of a channel's block. -/
theorem planPos_source {d : Dev} {u : Lane} {c : Fin 4} {w : Wr} (ho : w.o = 0x50 + 0xA8 * c.val) : planPos d u w = planSel d u c w := by
  have hc : (w.o - 0x50) / 0xA8 % 4 = c.val := by omega
  have hq : (w.o - 0x50) % 0xA8 = 0 := by omega
  unfold planPos
  rw [if_neg (by omega), if_neg (by omega)]
  simp only [hc, hq, Fin.eta]

theorem planPos_set {d : Dev} {u : Lane} {c : Fin 4} {w : Wr} (ho : w.o = 0xA8 + 0xA8 * c.val) :
    planPos d u w = { block := d.chanFree u c, run := fun d => d.posSet u c w.v } := by
  have hc : (w.o - 0x50) / 0xA8 % 4 = c.val := by omega
  have hq : (w.o - 0x50) % 0xA8 = 0x58 := by omega
  unfold planPos
  rw [if_neg (by omega), if_neg (by omega)]
  simp only [hc, hq, Fin.eta]

theorem planPos_compValue {d : Dev} {u : Lane} {c : Fin 4} {n : Fin 8} {w : Wr} (ho : w.o = 0xB4 + 4 * n.val + 0xA8 * c.val) :
    planPos d u w = { block := w.same || d.resOk w.who (96 + 32 * u.idx + 8 * c.val + n.val), run := fun d => d.compWritten u c n none } := by
  have hc : (w.o - 0x50) / 0xA8 % 4 = c.val := by omega
  have hq : (w.o - 0x50) % 0xA8 = 0x64 + 4 * n.val := by omega
  have hn : (0x64 + 4 * n.val - 0x64) / 4 % 8 = n.val := by omega
  unfold planPos
  rw [if_neg (by omega), if_neg (by omega)]
  simp only [hc, hq, Fin.eta]
  split
  case h_10 =>
    rw [if_pos (by omega)]
    simp only [hn, Fin.eta]
  all_goals omega

theorem planPos_compMode {d : Dev} {u : Lane} {c : Fin 4} {n : Fin 8} {w : Wr} (ho : w.o = 0xD4 + 4 * n.val + 0xA8 * c.val) :
    planPos d u w = { block := w.same || d.resOk w.who (96 + 32 * u.idx + 8 * c.val + n.val)
                      value := !(w.f R.POS_CCFG0_MODE == 2 && n.val % 2 == 1)
                      run := fun d => d.compWritten u c n (some (w.c R.POS_CCFG0_MODE)) } := by
  have hc : (w.o - 0x50) / 0xA8 % 4 = c.val := by omega
  have hq : (w.o - 0x50) % 0xA8 = 0x84 + 4 * n.val := by omega
  have hn : (0x84 + 4 * n.val - 0x84) / 4 % 8 = n.val := by omega
  unfold planPos
  rw [if_neg (by omega), if_neg (by omega)]
  simp only [hc, hq, Fin.eta]
  split
  case h_10 =>
    rw [if_neg (by omega), if_pos (by omega)]
    simp only [hn, Fin.eta]
  all_goals omega

section
variable {d : Dev} {w : Writer} {u : Lane} {c : Fin 4} {v : Word}

theorem writeReg_sourceSelect (ha : d.accepts w (pageAddr (pgPOS u) (0x50 + 0xA8 * c.val)) v)
    (hch : R.POS_SRC0_SEL.get v ≠ R.POS_SRC0_SEL.get (d.seenWordBy w (pgPOS u) (0x50 + 0xA8 * c.val))) :
    d.writeReg w (pgPOS u) (0x50 + 0xA8 * c.val) v =
      d.took w (pgPOS u) (0x50 + 0xA8 * c.val) v 0 fun e => e.sourceSelect u c (R.POS_SRC0_SEL.get v) := by
  have hreg : pageReg (pgPOS u) (0x50 + 0xA8 * c.val) := by cases u <;> fin_cases c <;> decide
  rw [seenWordBy_eq_present hreg] at hch
  exact writeReg_took hreg ha ((pagePlan_pos (by omega)).trans (planPos_source rfl)) rfl rfl rfl (if_pos (bne_iff_ne.mpr hch))

theorem writeReg_posSet (ha : d.accepts w (pageAddr (pgPOS u) (0xA8 + 0xA8 * c.val)) v) :
    d.writeReg w (pgPOS u) (0xA8 + 0xA8 * c.val) v = d.took w (pgPOS u) (0xA8 + 0xA8 * c.val) v 0 fun e => e.posSet u c v :=
  writeReg_took (by cases u <;> fin_cases c <;> decide) ha ((pagePlan_pos (by omega)).trans (planPos_set rfl)) rfl rfl rfl rfl

theorem writeReg_compValue {n : Fin 8} (ha : d.accepts w (pageAddr (pgPOS u) (0xB4 + 4 * n.val + 0xA8 * c.val)) v) :
    d.writeReg w (pgPOS u) (0xB4 + 4 * n.val + 0xA8 * c.val) v =
      d.took w (pgPOS u) (0xB4 + 4 * n.val + 0xA8 * c.val) v 0 fun e => e.compWritten u c n none :=
  writeReg_took (by cases u <;> fin_cases c <;> fin_cases n <;> decide) ha ((pagePlan_pos (by omega)).trans (planPos_compValue rfl)) rfl rfl rfl rfl

/-- The mode that a compare's configuration had goes with its write. -/
theorem writeReg_compMode {n : Fin 8} (ha : d.accepts w (pageAddr (pgPOS u) (0xD4 + 4 * n.val + 0xA8 * c.val)) v) :
    d.writeReg w (pgPOS u) (0xD4 + 4 * n.val + 0xA8 * c.val) v =
      d.took w (pgPOS u) (0xD4 + 4 * n.val + 0xA8 * c.val) v 0 fun e =>
        e.compWritten u c n (some (R.POS_CCFG0_MODE.get (d.seenWordBy w (pgPOS u) (0xD4 + 4 * n.val + 0xA8 * c.val)))) := by
  have hreg : pageReg (pgPOS u) (0xD4 + 4 * n.val + 0xA8 * c.val) := by cases u <;> fin_cases c <;> fin_cases n <;> decide
  rw [seenWordBy_eq_present hreg]
  exact writeReg_took hreg ha ((pagePlan_pos (by omega)).trans (planPos_compMode rfl)) rfl rfl rfl rfl

end

/-- Settles O8: each register of a channel acts by its place in the channel. -/
theorem positionWritesComplete : Obligations.PositionWritesComplete := by
  rintro s d rfl
  exact ⟨
    fun w u c value ha hch => completes (·.writeReg w (pgPOS u) (0x50 + 0xA8 * c.val) value) (writeReg_sourceSelect ha hch) rfl,
    fun w u c value ha => completes (·.writeReg w (pgPOS u) (0xA8 + 0xA8 * c.val) value) (writeReg_posSet ha) rfl,
    fun w u c n value ha => completes (·.writeReg w (pgPOS u) (0xB4 + 4 * n.val + 0xA8 * c.val) value)
      (writeReg_compValue ha) rfl,
    fun w u c n value ha => completes (·.writeReg w (pgPOS u) (0xD4 + 4 * n.val + 0xA8 * c.val) value)
      (writeReg_compMode ha) rfl,
    fun w value ha => completes (·.writeReg w pgSENSE 0x44 value) (writeReg_took (by decide) ha (pagePlan_sense (by decide)) rfl rfl rfl rfl) rfl⟩

end Sys2Proof.Machine
end

section
/-! O4: accepted and refused writes, and the page header's commands (R115 to R131, R137). -/
namespace Sys2Proof.Machine

theorem write_accepted {d : Dev} {w : Writer} {k : Nat} {v : Word} (ha : d.accepts w k v) :
    d.write w k v = (d.effectAs w (d.whoAt w k) k v).showAccess w (d.verdict w k v) := by
  obtain ⟨harrives, hgood⟩ := ha
  have hgood' : (d.judgeAs w (d.whoAt w k) k v).1.good = true := hgood
  unfold Dev.write Dev.writeAs
  rw [if_pos harrives]
  simp only [hgood', if_true]
  rfl

section
variable {d : Dev} {w : Writer} {p : Fin 45} {v : Word}

theorem pageReg_header {o : Nat} (h4 : o % 4 = 0) (ho : o < 0x40) : pageReg p.val o :=
  have hsize : ∀ q : Fin 45, 16 ≤ pageRegs q.val := by decide
  ⟨p.isLt, h4, by have := hsize p; omega, .inr (by omega), .inr (by omega)⟩

theorem pagePlan_header {p o : Nat} (h : o < 0x40) : d.pagePlan w p o v = planHeader d p (d.pageWr w p o v) := planPage_header h

/-- ENABLE, CLKREQ and FREEZE are the fields of CTRL that a write of another one carries over. -/
theorem carryMask_ctrl (p : Nat) : carryMask p 4 = 7#32 := by
  show accMask (fldsHdr.filter (·.holds 4)) _ = 7#32
  decide

/-- What a write of CTRL sets off: ENABLE and FREEZE where they change, then SOFTRST and COMMIT. -/
theorem planHeader_ctrl_run {p : Nat} {wr : Wr} {e : Dev} (ho : wr.o = 4) :
    (planHeader d p wr).run e =
      (let e := if wr.ch H.CTRL_ENABLE then e.enableHook p (wr.f H.CTRL_ENABLE == 1) else e
       let e := if wr.ch H.CTRL_FREEZE then e.freeze p (wr.f H.CTRL_FREEZE == 1) else e
       let e := if wr.f H.CTRL_SOFTRST == 1 then e.softReset p else e
       if wr.f H.CTRL_COMMIT == 1 then e.commitWrite p else e) := by
  unfold planHeader
  simp only [ho]

/-- A write of a field of CTRL takes effect as what it sets off says. -/
theorem writeField_ctrl {f : Fld} {n : Nat} {run : Dev → Dev} (hf : f.at 0 = 4) (ha : d.accepts w (pageAddr p.val 4) (d.fieldWord w p.val f n))
    (hrun : ∀ e, (planHeader d p.val (d.pageWr w p.val 4 (d.fieldWord w p.val f n))).run e = run e) :
    d.writeField w p.val f n = d.took w p.val 4 (d.fieldWord w p.val f n) 0 run := by
  unfold Dev.writeField
  rw [hf]
  exact writeReg_took (pageReg_header rfl (by decide)) ha (pagePlan_header (by decide)) rfl rfl rfl (hrun _)

section
variable {f g : Fld} {n : Nat} (hf : f.inWord) (hg : g.inWord) (hfg : f.apart g) (hat : f.at 0 = 4)
include hf hg hfg hat

/-- A write of one field of CTRL does not change ENABLE or FREEZE beside it. -/
theorem ctrl_unchanged (hm : 7#32 &&& g.mask = g.mask) :
    (d.pageWr w p.val 4 (d.fieldWord w p.val f n)).ch g = false := by
  have hreg : pageReg p.val (f.at 0) := hat ▸ pageReg_header rfl (by decide)
  have h := get_fieldWord_carried (d := d) (w := w) (v := n) (i := 0) hf hg hfg (by rwa [hat, carryMask_ctrl]) hreg
  rw [hat] at h
  exact bne_eq_false_iff_eq.mpr h

/-- A write of one field of CTRL does not set SOFTRST or COMMIT beside it. -/
theorem ctrl_unset (hm : 7#32 &&& g.mask = 0#32) : (d.pageWr w p.val 4 (d.fieldWord w p.val f n)).f g = 0 :=
  get_fieldWord_zero hf hg hfg (by rwa [hat, carryMask_ctrl])

end

/-- A write of LOCK with one of its keys locks, unlocks or hard-locks every available copy (R125). -/
theorem writeReg_lock {key : Nat} (hkey : H.LOCK_KEY.get v = key) (hknown : key = 0x6C ∨ key = 0x93 ∨ key = 0xE7)
    (ha : d.accepts w (pageAddr p.val 0x18) v) :
    d.writeReg w p.val 0x18 v = d.took w p.val 0x18 v 0 fun e => (e.copies p.val).foldl (fun e l => match key with
      | 0x6C => e.sl l p.val H.LOCK_LOCKED 1
      | 0x93 => (e.sl l p.val H.LOCK_LOCKED 0).sealEnds
      | _ => (e.sl l p.val H.LOCK_LOCKED 1).sl l p.val H.LOCK_HARD 1) e := by
  have ho : (d.pageWr w p.val 0x18 v).o = 0x18 := rfl
  have hf : (d.pageWr w p.val 0x18 v).f H.LOCK_KEY = key := hkey
  refine writeReg_took (pageReg_header rfl (by decide)) ha (pagePlan_header (by decide)) ?_ ?_ ?_ ?_
  · unfold planHeader
    simp only [ho, hf]
    rcases hknown with rfl | rfl | rfl <;> rfl
  · rfl
  · rfl
  · unfold planHeader
    simp only [ho, hf]
    rcases hknown with rfl | rfl | rfl <;> rfl

theorem writeField_commit (ha : d.accepts w (pageAddr p.val 4) (d.fieldWord w p.val H.CTRL_COMMIT 1)) :
    d.writeField w p.val H.CTRL_COMMIT 1 = d.took w p.val 4 (d.fieldWord w p.val H.CTRL_COMMIT 1) 0 fun e => e.commitWrite p.val := by
  refine writeField_ctrl rfl ha fun e => ?_
  have henable := ctrl_unchanged (d := d) (w := w) (p := p) (f := H.CTRL_COMMIT) (g := H.CTRL_ENABLE) (n := 1)
    (by decide) (by decide) (by decide) rfl (by decide)
  have hfreeze := ctrl_unchanged (d := d) (w := w) (p := p) (f := H.CTRL_COMMIT) (g := H.CTRL_FREEZE) (n := 1)
    (by decide) (by decide) (by decide) rfl (by decide)
  have hsoft := ctrl_unset (d := d) (w := w) (p := p) (f := H.CTRL_COMMIT) (g := H.CTRL_SOFTRST) (n := 1)
    (by decide) (by decide) (by decide) rfl (by decide)
  have hcommit : (d.pageWr w p.val 4 (d.fieldWord w p.val H.CTRL_COMMIT 1)).f H.CTRL_COMMIT = 1 := get_fieldWord_same (by decide)
  rw [planHeader_ctrl_run rfl, henable, hfreeze, hsoft, hcommit]
  rfl

theorem writeField_softrst (ha : d.accepts w (pageAddr p.val 4) (d.fieldWord w p.val H.CTRL_SOFTRST 1)) :
    d.writeField w p.val H.CTRL_SOFTRST 1 = d.took w p.val 4 (d.fieldWord w p.val H.CTRL_SOFTRST 1) 0 fun e => e.softReset p.val := by
  refine writeField_ctrl rfl ha fun e => ?_
  have henable := ctrl_unchanged (d := d) (w := w) (p := p) (f := H.CTRL_SOFTRST) (g := H.CTRL_ENABLE) (n := 1)
    (by decide) (by decide) (by decide) rfl (by decide)
  have hfreeze := ctrl_unchanged (d := d) (w := w) (p := p) (f := H.CTRL_SOFTRST) (g := H.CTRL_FREEZE) (n := 1)
    (by decide) (by decide) (by decide) rfl (by decide)
  have hsoft : (d.pageWr w p.val 4 (d.fieldWord w p.val H.CTRL_SOFTRST 1)).f H.CTRL_SOFTRST = 1 := get_fieldWord_same (by decide)
  have hcommit := ctrl_unset (d := d) (w := w) (p := p) (f := H.CTRL_SOFTRST) (g := H.CTRL_COMMIT) (n := 1)
    (by decide) (by decide) (by decide) rfl (by decide)
  rw [planHeader_ctrl_run rfl, henable, hfreeze, hsoft, hcommit]
  rfl

/-- A bit field that is written with a bit other than the one it shows changes, and is 1 where that bit is. -/
theorem ctrl_changed {f : Fld} {on : Bool} (hf : f.inWord) (hw : f.width = 1)
    (hne : f.get (d.seenWordBy w p.val 4) ≠ on.toNat) :
    (d.pageWr w p.val 4 (d.fieldWord w p.val f on.toNat)).ch f = true ∧
      ((d.pageWr w p.val 4 (d.fieldWord w p.val f on.toNat)).f f == 1) = on := by
  have hval : f.get (d.fieldWord w p.val f on.toNat) = on.toNat := by
    rw [get_fieldWord_same hf, hw]
    cases on <;> rfl
  rw [seenWordBy_eq_present (pageReg_header rfl (by decide))] at hne
  refine ⟨bne_iff_ne.mpr ?_, ?_⟩
  · show f.get (d.fieldWord w p.val f on.toNat) ≠ _
    rw [hval]
    exact hne.symm
  · show (f.get (d.fieldWord w p.val f on.toNat) == 1) = on
    rw [hval]
    cases on <;> rfl

theorem writeField_freeze {on : Bool} (ha : d.accepts w (pageAddr p.val 4) (d.fieldWord w p.val H.CTRL_FREEZE on.toNat))
    (hne : H.CTRL_FREEZE.get (d.seenWordBy w p.val 4) ≠ on.toNat) :
    d.writeField w p.val H.CTRL_FREEZE on.toNat =
      d.took w p.val 4 (d.fieldWord w p.val H.CTRL_FREEZE on.toNat) 0 fun e => e.freeze p.val on := by
  refine writeField_ctrl rfl ha fun e => ?_
  have henable := ctrl_unchanged (d := d) (w := w) (p := p) (f := H.CTRL_FREEZE) (g := H.CTRL_ENABLE) (n := on.toNat)
    (by decide) (by decide) (by decide) rfl (by decide)
  obtain ⟨hfreeze, hon⟩ := ctrl_changed (by decide) rfl hne
  have hsoft := ctrl_unset (d := d) (w := w) (p := p) (f := H.CTRL_FREEZE) (g := H.CTRL_SOFTRST) (n := on.toNat)
    (by decide) (by decide) (by decide) rfl (by decide)
  have hcommit := ctrl_unset (d := d) (w := w) (p := p) (f := H.CTRL_FREEZE) (g := H.CTRL_COMMIT) (n := on.toNat)
    (by decide) (by decide) (by decide) rfl (by decide)
  rw [planHeader_ctrl_run rfl, henable, hfreeze, hon, hsoft, hcommit]
  rfl

theorem writeField_enable {on : Bool} (ha : d.accepts w (pageAddr p.val 4) (d.fieldWord w p.val H.CTRL_ENABLE on.toNat))
    (hne : H.CTRL_ENABLE.get (d.seenWordBy w p.val 4) ≠ on.toNat) :
    d.writeField w p.val H.CTRL_ENABLE on.toNat =
      d.took w p.val 4 (d.fieldWord w p.val H.CTRL_ENABLE on.toNat) 0 fun e => e.enableHook p.val on := by
  refine writeField_ctrl rfl ha fun e => ?_
  obtain ⟨henable, hon⟩ := ctrl_changed (by decide) rfl hne
  have hfreeze := ctrl_unchanged (d := d) (w := w) (p := p) (f := H.CTRL_ENABLE) (g := H.CTRL_FREEZE) (n := on.toNat)
    (by decide) (by decide) (by decide) rfl (by decide)
  have hsoft := ctrl_unset (d := d) (w := w) (p := p) (f := H.CTRL_ENABLE) (g := H.CTRL_SOFTRST) (n := on.toNat)
    (by decide) (by decide) (by decide) rfl (by decide)
  have hcommit := ctrl_unset (d := d) (w := w) (p := p) (f := H.CTRL_ENABLE) (g := H.CTRL_COMMIT) (n := on.toNat)
    (by decide) (by decide) (by decide) rfl (by decide)
  rw [planHeader_ctrl_run rfl, henable, hon, hfreeze, hsoft, hcommit]
  rfl

end

/-- The port that a core's write of PROXY names. -/
def Dev.proxyWritten (w : Writer) (v : Word) (e : Dev) : Dev :=
  match w with
  | .laneFw l => e.setProxy l (if R.HOST_PROXY_EN.get v = 1 then some (R.HOST_PROXY_PORT.get v) else none)
  | _ => e

/-- A write of PROXY is judged under the core's own standing (R137). -/
theorem write_proxy {d : Dev} {w : Writer} {v : Word} {t : Target} (ht : d.target (pageAddr pgHOST 0x50) = some t)
    (ha : d.accepts w (pageAddr pgHOST 0x50) v) :
    d.write w (pageAddr pgHOST 0x50) v = d.tookAt w t (pageAddr pgHOST 0x50) v 0 [] (Dev.proxyWritten w v) := by
  obtain rfl : d.pageTarget pgHOST 0x50 = t := Option.some.inj ((page_target (by decide) (by decide) (by decide) (by decide)).symm.trans ht)
  have hpage : ¬ (pgHOST = pgMOTION 0 ∨ pgHOST = pgMOTION 1) := by decide
  rw [write_took ht rfl (p := planHost _) rfl rfl (.inr (.inl hpage)) ha]
  cases w <;> rfl

/-- IRQ_N held against what the dies drive is seen by the die that differs. -/
theorem pinMismatch_held {d : Dev} {l : Lane} {low : Bool} (hup : d.up (.iface l) = true) (hother : d.irqDrives l.other = false)
    (hlow : low ≠ d.irqDrives l) :
    d.pinMismatch l low = ({ d with lands := { d.lands with irqHeld := some low } }).causeL l pgIRQ 1 := by
  have hdriven : (d.irqDrives .a || d.irqDrives .b) = d.irqDrives l := by
    cases l
    case a => rw [show d.irqDrives .b = false from hother, Bool.or_false]
    case b => rw [show d.irqDrives .a = false from hother, Bool.false_or]
  have hother' : ∀ x : LandState, ({ d with lands := x } : Dev).irqDrives l.other = false := fun _ => hother
  have hlow' : ∀ x : LandState, low ≠ ({ d with lands := x } : Dev).irqDrives l := fun _ => hlow
  simp only [Dev.pinMismatch, hup, hdriven, if_neg hlow, Bool.not_true, Bool.false_eq_true, if_false]
  exact if_neg (by simp [hother', hlow'])

/-- Settles O4: a write by its verdict, and each register of the header by its plan. That an access which does not arrive changes nothing, and
what holds IRQ_N, is the model's choice (log 109), as are the instants of PROXY (log 14). -/
theorem registerCommandsComplete : Obligations.RegisterCommandsComplete := by
  rintro s d rfl
  exact ⟨
    fun w addr value ha => completes (·.write w addr value) (write_accepted ha) rfl,
    fun w addr value harr hbad => completes (·.write w addr value) (write_refused harr hbad) rfl,
    fun w p ha => completes (·.writeField w p H.CTRL_COMMIT 1) (writeField_commit ha) rfl,
    fun p hdue => completes (·.commitPoint p) (if_pos (by simp [hdue])) rfl,
    fun w p ha => completes (·.writeField w p H.CTRL_SOFTRST 1) (writeField_softrst ha) rfl,
    fun w p on ha hne => completes (·.writeField w p H.CTRL_FREEZE on.toNat) (writeField_freeze ha hne) rfl,
    fun w p on ha hne => completes (·.writeField w p H.CTRL_ENABLE on.toNat) (writeField_enable ha hne) rfl,
    fun w p ha => completes (·.writeReg w p 0x18 0x6C000000#32) (writeReg_lock (key := 0x6C) (by decide) (by decide) ha) rfl,
    fun w p ha => completes (·.writeReg w p 0x18 0x93000000#32) (writeReg_lock (key := 0x93) (by decide) (by decide) ha) rfl,
    fun w p ha => completes (·.writeReg w p 0x18 0xE7000000#32) (writeReg_lock (key := 0xE7) (by decide) (by decide) ha) rfl,
    fun w p bits ha => completes (·.writeReg w p 0x14 bits)
      (writeReg_took (pageReg_header rfl (by decide)) ha (pagePlan_header (by decide)) rfl rfl rfl rfl) rfl,
    fun w p bits meets ha => completes (·.causeClear w p bits meets) (by
      unfold Dev.causeClear
      rw [writeReg_took (pageReg_header rfl (by decide)) ha (pagePlan_header (by decide)) rfl rfl rfl rfl]
      rfl) rfl,
    fun w p ha => completes (fun d => d.writeReg w p 0x28 (BitVec.ofNat 32 (d.who w).ident))
      (writeReg_took (pageReg_header rfl (by decide)) ha (pagePlan_header (by decide)) rfl rfl rfl rfl) rfl,
    fun w p ha => completes (·.writeReg w p 0x28 63) (writeReg_took (pageReg_header rfl (by decide)) ha (pagePlan_header (by decide)) rfl rfl rfl rfl) rfl,
    fun p => completes (·.sealRecompute p) rfl rfl,
    fun w value ha => completes (·.writeReg w pgHOST 0x4C value) (writeReg_took (by decide) ha (pagePlan_host (by decide)) rfl rfl rfl rfl) rfl,
    fun w value t ht ha => completes (·.proxyAct w (.write value)) (by cases w <;> exact write_proxy ht ha) rfl,
    fun k hon hsummary => completes (·.interruptNotice k)
      (if_neg fun h => h.elim (by simp [hon]) fun ⟨h0, h1⟩ => hsummary.elim (· h0) (· h1)) rfl,
    fun l low hup hother hlow => completes (·.pinMismatch l low) (pinMismatch_held hup hother hlow) rfl,
    fun w addr value harr => completes (·.write w addr value) (if_neg (by simp [harr])) rfl,
    fun l => completes (·.proxyAct (.laneFw l) .leave) rfl rfl,
    fun l => completes (·.proxyAct (.laneFw l) .interrupted) rfl rfl,
    fun l p r hheld => completes (·.proxyAct (.laneFw l) .back) (by unfold Dev.proxyAct; simp [hheld]) rfl⟩

end Sys2Proof.Machine
end

section
/-! O9: the axes (R235 to R284). -/
namespace Sys2Proof.Machine

/-- The operation of a command word of an axis. -/
theorem axisWord_op {epoch op : Nat} (hop : op < 8) : R.FIELD_CMD_OP.get (keyWord epoch op) = op :=
  Fld.get_ofNat_eq (by decide) (by
    norm_num [R.FIELD_CMD_OP, Fld.width]
    omega)

section
variable {d : Dev} {w : Writer} {x : Fin 2} {v : Word}

/-- A write of an axis's CMD carries out its operation. -/
theorem writeReg_axisCmd {op : Nat} (hop : R.FIELD_CMD_OP.get v = op) (ha : d.accepts w (pageAddr (pgFIELD x) 0x44) v) :
    d.writeReg w (pgFIELD x) 0x44 v = d.took w (pgFIELD x) 0x44 v 0 fun e => (match op with
      | 1 => e.axisStart x
      | 2 => e.axisStopCmd x
      | 3 => e.axisOff x
      | _ => e.axisClr x).getD e := by
  subst hop
  refine writeReg_took (by fin_cases x <;> decide) ha (pagePlan_field (by decide)) rfl rfl rfl ?_
  unfold planField
  rfl

theorem writeReg_mapSwap (hswap : R.FIELD_MAPCFG_SWAP.get v = 1) (ha : d.accepts w (pageAddr (pgFIELD x) 0x88) v) :
    d.writeReg w (pgFIELD x) 0x88 v = d.took w (pgFIELD x) 0x88 v 0 fun e => e.mapSwapReq x :=
  writeReg_took (by fin_cases x <;> decide) ha (pagePlan_field (by decide)) rfl rfl rfl (if_pos hswap)

/-- The second stage of a silent command input, where ACT is HOLD. -/
theorem cmdTimeout_hold (hstate : d.axState x = .run) (htmo : 0 < d.g (pgFIELD x) R.FIELD_CMDTO_TMO) (hstage : d.axes[x].cmdStage = 1)
    (hdue : d.axes[x].tcmdAt + 2 * (d.g (pgFIELD x) R.FIELD_CMDTO_TMO * 500000) ≤ d.now) (hact : d.g (pgFIELD x) R.FIELD_CMDTO_ACT = 2) :
    d.cmdTimeout x = (d.onAxis x fun a => { a with cmdStage := 2 }).hold x fun c => { c with cmdTimeout := true } := by
  have hact' : (d.onAxis x fun a => { a with cmdStage := 2 }).g (pgFIELD x) R.FIELD_CMDTO_ACT = 2 := hact
  unfold Dev.cmdTimeout
  dsimp only
  rw [if_neg (by simp [hstate]; omega), if_neg (by rw [hstage]; decide), if_pos ⟨hstage, hdue⟩]
  simp only [hact']

end

/-- Settles O9: each event under the conditions of its rule, and the accepted commands of an axis by their operation. -/
theorem axisCommandsComplete : Obligations.AxisCommandsComplete := by
  rintro s d rfl
  exact ⟨
    fun l x hup hfieldon hlanes => completes (·.fieldPeriod l x) (by
      simp only [Dev.fieldPeriod, hup, hfieldon, hlanes]
      rfl) rfl,
    fun l x hup hfieldu hsensorangle => completes (·.angleTimeout l x) (if_neg (by simp [hup, hfieldu, hsensorangle])) rfl,
    fun w x epoch ha => completes (·.writeReg w (pgFIELD x) 0x44 (keyWord epoch 1)) (writeReg_axisCmd (axisWord_op (by decide)) ha) rfl,
    fun w x epoch ha => completes (·.writeReg w (pgFIELD x) 0x44 (keyWord epoch 2)) (writeReg_axisCmd (axisWord_op (by decide)) ha) rfl,
    fun w x epoch ha => completes (·.writeReg w (pgFIELD x) 0x44 (keyWord epoch 3)) (writeReg_axisCmd (axisWord_op (by decide)) ha) rfl,
    fun w x epoch ha => completes (·.writeReg w (pgFIELD x) 0x44 (keyWord epoch 4)) (writeReg_axisCmd (axisWord_op (by decide)) ha) rfl,
    fun x hstate htmo hstage hdue => completes (·.cmdTimeout x)
      ((if_neg (by simp [hstate]; omega)).trans ((if_pos hstage).trans (if_pos hdue))) rfl,
    fun x hstate htmo hstage hdue hact => completes (·.cmdTimeout x) (cmdTimeout_hold hstate htmo hstage hdue hact) rfl,
    fun x hstate hstarts hdue => completes (·.alignComplete x) (if_neg (by rw [hstate, hstarts]; simpa using hdue)) rfl,
    fun x t haxes hstate ht => completes (·.lockedRotor x) (by
      simp only [Dev.lockedRotor, haxes, hstate, ht]
      rfl) rfl,
    fun x hcounts hnext => completes (·.catchSample x) (if_neg (by rw [hcounts]; simpa using hnext)) rfl,
    fun x t hwin hdue => completes (·.catchWindowEnd x) (by
      simp only [Dev.catchWindowEnd, hwin]
      exact if_neg fun ⟨hlate, hopen⟩ => hdue.elim (by simpa using hlate) (Nat.not_le.mpr hopen)) rfl,
    fun x hstate haxes htmo => completes (·.catchTimeout x) (by
      simp only [Dev.catchTimeout, hstate, haxes, htmo]
      rfl) rfl,
    fun x hstate hfieldu hinasc ht => completes (·.ascReleaseCheck x) (by
      simp only [Dev.ascReleaseCheck, hstate, hfieldu, hinasc, ht]
      rfl) rfl,
    fun w x ha => completes (·.writeField w (pgFIELD x) R.FIELD_MAPCFG_SWAP 1) (writeReg_mapSwap (get_fieldWord_same (by decide)) ha) rfl⟩

end Sys2Proof.Machine
end

section
/-! O10: the motion units and the chopper (R325 to R356, R419 to R424). -/
namespace Sys2Proof.Machine

/-- The operation of a command word of a motion unit. -/
theorem motionWord_op {epoch op : Nat} (hop : op < 8) : R.MOTION_CMD_OP.get (keyWord epoch op) = op :=
  Fld.get_ofNat_eq (by decide) (by
    norm_num [R.MOTION_CMD_OP, Fld.width]
    omega)

theorem writeReg_motionCmd {d : Dev} {w : Writer} {x : Fin 2} {v : Word} {op : Nat} (hop : R.MOTION_CMD_OP.get v = op)
    (ha : d.accepts w (pageAddr (pgMOTION x) 0x44) v) :
    d.writeReg w (pgMOTION x) 0x44 v = d.took w (pgMOTION x) 0x44 v 0 fun e => e.motionCmd x op := by
  subst hop
  exact writeReg_took (by fin_cases x <;> decide) ha (pagePlan_motion (by decide)) rfl rfl rfl rfl

/-- A servo tick stores the shadow of its motion unit in both lanes, and then runs every unit that has it. -/
theorem servoTaken_due {d e : Dev} {x : Fin 2} {tk : Nat} (hdue : d.servoAt x = some tk)
    (he : (d.eachLane fun e l => e.shadowTrack l (2 ^ (1 + x.val))) = e) (hcopies : e.copies (pgMOTION x) ≠ []) :
    d.servoTaken x = e.eachUnit x fun u => u.unitServo x := by
  unfold Dev.servoTaken
  rw [if_pos (by rw [hdue]; rfl), he]
  exact if_neg hcopies

section
variable {d : Dev} {l : Lane} {n : Fin 6} {t : Nat} {high : Bool} (hlegs : ((d.mods.at l).legs[n]).chopDue = some (t, high))
  (hdue : d.chopAt l n t ≤ d.now)
include hlegs hdue

theorem chopChange_due : d.chopChange l n = d.chopTurns l n (d.chopAt l n t) high := by
  unfold Dev.chopChange
  rw [hlegs]
  exact if_neg (Nat.not_lt.mpr hdue)

/-- The first three legs are the chopper's; the others begin the next change too. -/
theorem chopFollow_low (hn : n.val < 3) : d.chopFollow l n = d.chopTurns l n (d.chopAt l n t) high := by
  rw [← chopChange_due hlegs hdue]
  unfold Dev.chopFollow
  rw [hlegs]
  exact if_pos (.inr hn)

theorem chopFollow_high (hn : 3 ≤ n.val) :
    d.chopFollow l n = (d.chopTurns l n (d.chopAt l n t) high).chopBegins l n high := by
  rw [← chopChange_due hlegs hdue]
  unfold Dev.chopFollow
  rw [hlegs]
  exact if_neg (by omega)

end

/-- Settles O10: each event under the conditions of its rule, and the accepted commands of a motion unit by their operation. -/
theorem motionCommandsComplete : Obligations.MotionCommandsComplete := by
  rintro s d rfl
  exact ⟨
    fun x tk e hdue he hcopies => completes (·.servoTaken x) (servoTaken_due hdue he hcopies) rfl,
    fun w x epoch ha => completes (·.writeReg w (pgMOTION x) 0x44 (keyWord epoch 1)) (writeReg_motionCmd (motionWord_op (by decide)) ha) rfl,
    fun w x epoch ha => completes (·.writeReg w (pgMOTION x) 0x44 (keyWord epoch 2)) (writeReg_motionCmd (motionWord_op (by decide)) ha) rfl,
    fun w x epoch ha => completes (·.writeReg w (pgMOTION x) 0x44 (keyWord epoch 3)) (writeReg_motionCmd (motionWord_op (by decide)) ha) rfl,
    fun w x epoch ha => completes (·.writeReg w (pgMOTION x) 0x44 (keyWord epoch 4)) (writeReg_motionCmd (motionWord_op (by decide)) ha) rfl,
    fun hstate => completes (·.stepUpdate) (if_neg (by simp [hstate])) rfl,
    fun l n bad hchopwatches hbad hchopsampleok => completes (·.chopperDecision l n bad) (by
      simp only [Dev.chopperDecision, hchopwatches, hbad, hchopsampleok]
      rfl) rfl,
    fun l n t high hlegs hdue hn => completes (·.chopFollow l n) (chopFollow_low hlegs hdue hn) rfl,
    fun l n t high hlegs hdue hn => completes (·.chopFollow l n) (chopFollow_high hlegs hdue hn) rfl⟩

end Sys2Proof.Machine
end

section
/-! O11: the modulator (R357 to R389). -/
namespace Sys2Proof.Machine

section
variable {d : Dev} {l : Lane}

theorem timebaseStart_due {tb : Fin 2} {t k : Nat} (hstart : ((d.mods.at l).tb tb).startAt = some t) (hfirst : d.tbFirst l tb t = some k)
    (hdue : k ≤ d.now) (hen : d.tbEnabled l tb = true) : d.timebaseStart l tb = d.timebaseBegins l tb k := by
  unfold Dev.timebaseStart
  rw [hstart, Option.bind_some, hfirst]
  exact if_neg (by simp [hdue, hen])

theorem periodStart_due {tb : Fin 2} (hrun : ((d.mods.at l).tb tb).running = true)
    (hdue : (((d.mods.at l).tb tb).t0 + ((d.mods.at l).tb tb).per : Int) + ((d.mods.at l).tb tb).syncAdj ≤ d.now) :
    d.periodStart l tb = d.periodBegins l tb :=
  if_neg (by rw [hrun]; simpa using hdue)

theorem edgeSend_due {k : DieIx} {e : QueuedEdge} {r : List QueuedEdge} (hqueue : ((d.mods.at l).masters[k]).queue = e :: r)
    (hsilent : (d.lanes.at l).silent = false) (hdue : e.due ≤ d.now + 64)
    (hgap : ((d.mods.at l).masters[k]).lastMsg = none ∨ ((d.mods.at l).masters[k]).lastSend + 8 ≤ d.now) :
    d.edgeSend l k = d.edgeLeaves l k e r := by
  unfold Dev.edgeSend
  dsimp only
  rw [hqueue]
  refine if_neg ?_
  rintro (h | h | ⟨hsent, hearly⟩)
  · exact absurd h (by rw [hsilent]; decide)
  · omega
  · rcases hgap with hnone | hlate
    · rw [hnone] at hsent
      cases hsent
    · omega

theorem tripAccept_first {level : Bool} {held : Nat} (hup : d.pageUp l (pgMOD l) = true) (hen : d.gl l (pgMOD l) R.MOD_TRIPCFG_EN1 = 1)
    (hlevel : level = (d.gl l (pgMOD l) R.MOD_TRIPCFG_POL1 == 1)) (hheld : d.tripFilt l false ≤ held) :
    d.tripAccept l 0 level held =
      (d.sl l (pgMOD l) R.MOD_TRIPSTAT_LIVE (d.gl l (pgMOD l) R.MOD_TRIPSTAT_LIVE ||| 1)).acceptTrip l 0 (d.now - held) := by
  have hland : d.tripAccept l 0 level held = d.tripLand l false level held := if_neg (by simp [hup])
  have hcond : d.tripEn l false = true ∧ d.tripActive l false level = true ∧ d.tripFilt l false ≤ held := by
    refine ⟨?_, ?_, hheld⟩
    · simpa [Dev.tripEn] using hen
    · simp [Dev.tripActive, hlevel]
  rw [hland]
  exact if_pos hcond

theorem tripRelease_inactive {second level : Bool} (hup : d.pageUp l (pgMOD l) = true)
    (hlevel : level ≠ (d.gl l (pgMOD l) (if second then R.MOD_TRIPCFG_POL2 else R.MOD_TRIPCFG_POL1) == 1)) :
    d.tripRelease l second level =
      (let b := if second then 2 else 1
       let v := d.gl l (pgMOD l) R.MOD_TRIPSTAT_LIVE
       d.sl l (pgMOD l) R.MOD_TRIPSTAT_LIVE (v - (if v / b % 2 = 1 then b else 0))) := by
  have hactive : d.tripActive l second level = false := beq_eq_false_iff_ne.mpr hlevel
  exact if_neg (by simp [hup, hactive])

variable {w : Writer}

theorem writeReg_groupCommit {groups : Fin 16} (ha : d.accepts w (pageAddr (pgMOD l) 0x58) (BitVec.ofNat 32 groups.val)) :
    d.writeReg w (pgMOD l) 0x58 (BitVec.ofNat 32 groups.val) =
      d.took w (pgMOD l) 0x58 (BitVec.ofNat 32 groups.val) 0 fun e => e.commitGroups l groups.val := by
  have hgroups : R.MOD_COMMIT_G.get (BitVec.ofNat 32 groups.val) = groups.val := Fld.get_ofNat_of_lt (by decide) rfl groups.isLt
  exact writeReg_took (by cases l <;> decide) ha (pagePlan_mod (by decide)) rfl rfl rfl (congrArg (Dev.commitGroups _ l) hgroups)

theorem writeReg_swTrip {trig : Bool} (ha : d.accepts w (pageAddr (pgMOD l) 0x7C) (BitVec.ofNat 32 trig.toNat)) :
    d.writeReg w (pgMOD l) 0x7C (BitVec.ofNat 32 trig.toNat) =
      d.took w (pgMOD l) 0x7C (BitVec.ofNat 32 trig.toNat) 0 fun e => e.swTrip l trig := by
  have htrig : (R.MOD_SWTRIP_TRIG.get (BitVec.ofNat 32 trig.toNat) == 1) = trig := by cases trig <;> decide
  exact writeReg_took (by cases l <;> decide) ha (pagePlan_mod (by decide)) rfl rfl rfl (congrArg (Dev.swTrip _ l) htrig)

theorem writeReg_tripClr {bits : Fin 16} (ha : d.accepts w (pageAddr (pgMOD l) 0x78) (BitVec.ofNat 32 bits.val)) :
    d.writeReg w (pgMOD l) 0x78 (BitVec.ofNat 32 bits.val) =
      d.took w (pgMOD l) 0x78 (BitVec.ofNat 32 bits.val) 0 fun e => e.tripClr l bits.val := by
  have hbits : (BitVec.ofNat 32 bits.val).toNat % 16 = bits.val := by simp only [BitVec.toNat_ofNat]; omega
  exact writeReg_took (by cases l <;> decide) ha (pagePlan_mod (by decide)) rfl rfl rfl (congrArg (Dev.tripClr _ l) hbits)

end

/-- Settles O11: each event under the conditions of its rule, and the accepted writes of COMMIT, SWTRIP and TRIPCLR. -/
theorem modulatorCommandsComplete : Obligations.ModulatorCommandsComplete := by
  rintro s d rfl
  exact ⟨
    fun l tb t k hstart hfirst hdue hen => completes (fun d => d.periodHooks (d.timebaseStart l tb) l tb)
      (by rw [timebaseStart_due hstart hfirst hdue hen]) rfl,
    fun l tb k hnextstart hnow hlatched => completes (·.latchPoint l tb) (by simp [Dev.latchPoint, hnextstart, hnow, hlatched]) rfl,
    fun l tb hrun hdue => completes (fun d => d.periodHooks (d.periodStart l tb) l tb) (by rw [periodStart_due hrun hdue]) rfl,
    fun hnow => completes (·.deferredTick) (if_neg (by simp [hnow])) rfl,
    fun l hsyncin hmods => completes (·.syncInEdge l) (if_neg (by simp [hsyncin, hmods])) rfl,
    fun l hsyncin hmods hmods₂ hmods₃ => completes (·.syncLost l) (if_pos (by simp [hsyncin, hmods, hmods₂, hmods₃])) rfl,
    fun w l groups ha => completes (·.writeReg w (pgMOD l) 0x58 (BitVec.ofNat 32 groups)) (writeReg_groupCommit ha) rfl,
    fun l k e r hqueue hsilent hdue hgap => completes (·.edgeSend l k) (edgeSend_due hqueue hsilent hdue hgap) rfl,
    fun l k roundTrip turnaround hlink => completes (·.linkEcho l k roundTrip turnaround) (if_neg (by simp [hlink])) rfl,
    fun l level held hpageup => completes (·.tripAccept l 2 level held) (if_neg (by simp [hpageup])) rfl,
    fun l level held hup hen hlevel hheld => completes (·.tripAccept l 0 level held) (tripAccept_first hup hen hlevel hheld) rfl,
    fun w l trig ha => completes (·.writeReg w (pgMOD l) 0x7C (BitVec.ofNat 32 trig.toNat)) (writeReg_swTrip ha) rfl,
    fun w l bits ha => completes (·.writeReg w (pgMOD l) 0x78 (BitVec.ofNat 32 bits)) (writeReg_tripClr ha) rfl,
    fun l second level hup hlevel => completes (·.tripRelease l second level) (tripRelease_inactive hup hlevel) rfl,
    fun n hbootout => completes (·.bootUv n) (if_neg (by simp [hbootout])) rfl⟩

end Sys2Proof.Machine
end

section
/-! An accepted write of a word of a table region (R110, R116). -/
namespace Sys2Proof.Machine

/-- A write of a word of a region that is accepted, and whose plan moves no claim, takes effect as the plan says. -/
theorem write_took_region {d : Dev} {w : Writer} {k : Nat} {v keep : Word} {t : Target} {run : Dev → Dev} {q : Plan} (hk : ¬ k < 0x2D000)
    (ht : d.target k = some t) (ha : d.accepts w k v) (hplan : planRegion d (d.store t k v 0) k (d.wrOf w (d.whoAt w k) t k v) = q)
    (hacts : q.ignore = false) (hclaims : q.claims = []) (hkeep : q.keep = keep)
    (hrun : q.run (d.store t k v keep) = run (d.store t k v keep)) :
    d.write w k v = d.tookAt w t k v keep [] run := by
  subst hplan hkeep
  have hregion := target_of_region hk ht
  have hplanOf : d.planOf t k (d.wrOf w (d.whoAt w k) t k v) = planRegion d (d.store t k v 0) k (d.wrOf w (d.whoAt w k) t k v) := by
    unfold Dev.planOf
    rw [if_pos hregion]
    rfl
  rw [write_took ht rfl hplanOf hacts (.inl hregion) ha, hclaims]
  unfold Dev.tookAt
  exact congrArg (fun e : Dev => (e.commitDelays t).showAccess w (d.verdict w k v)) hrun

/-- Where a region begins that an address lies in. -/
def regionBase (k : Nat) : Nat :=
  if (regionFlds k).1.isEmpty then (if k < rgCONN then rgMAP else rgQUILL) else (regionFlds k).2.2

theorem target_regionOffset {d : Dev} {k p : Nat} {t : Target} (hk : ¬ k < 0x2D000) (hpage : regionPage k = some p) (ht : d.target k = some t) :
    t.o = k - regionBase k := by
  unfold Dev.target at ht
  split at ht
  case isTrue => cases ht
  case isFalse =>
    rw [hpage] at ht
    obtain rfl := Option.some.inj ht
    rfl

section
variable {k : Nat} (hlo : rgQUILL ≤ k) (hhi : k < rgRULING)
include hlo hhi

theorem regionPage_quill : regionPage k = some (pgQUILL .a) := by
  unfold rgQUILL at hlo
  unfold rgRULING at hhi
  unfold regionPage rgSEG rgMAP rgCONN rgQUILL rgRULING
  rw [if_neg (by omega), if_neg (by omega), if_neg (by omega), if_neg (by omega), if_pos (by omega)]

theorem regionBase_quill : regionBase k = rgQUILL := by
  have hflds : regionFlds k = ([], 4, k) := by
    unfold rgQUILL at hlo
    unfold rgRULING at hhi
    unfold regionFlds rgSEG rgCONN rgQUILL rgRULING rgFILTER rgEnd
    rw [if_neg (by omega), if_neg (by omega), if_neg (by omega), if_neg (by omega)]
  unfold regionBase
  rw [hflds]
  exact if_neg (show ¬ k < rgCONN by unfold rgCONN; unfold rgQUILL at hlo; omega)

/-- The offset of an address in the Quill region. -/
theorem target_quillRegion {d : Dev} {t : Target} (ht : d.target k = some t) : t.o = k - rgQUILL := by
  have hk : ¬ k < 0x2D000 := by unfold rgQUILL at hlo; omega
  rw [target_regionOffset hk (regionPage_quill hlo hhi) ht, regionBase_quill hlo hhi]

/-- The words of the Quill region, by their place: program, data port and coefficients. -/
theorem planRegion_quill {d a : Dev} {w : Wr} :
    planRegion d a k w =
      (let l : Lane := if d.dieUp .a false then .a else .b
       if w.o < 0x8000 then
         { block := d.gl l (pgQUILL l) R.QUILL_PROG_WIN == 0 && d.ctlLanes.all fun m => (d.quill.at m).swapAt.isNone
           run := fun d => d.ctlLanes.foldl (fun d m => d.progWrite m (w.o / 8) (w.o / 4 % 2 == 1) w.v) (d.tinkerNeedBoth false 30) }
       else if w.o < 0xC000 then
         { run := fun d => d.ctlLanes.foldl (fun d m => d.qPortData m ((w.o - 0x8000) / 4) w.v) d }
       else if w.o < 0xE000 then
         { run := fun d => d.ctlLanes.foldl (fun d m => d.coefWrite m ((w.o - 0xC000) / 8) (w.o % 8 == 4) w.v) d }
       else { ignore := true }) := by
  have h1 : ¬ k < rgMAP := by unfold rgMAP; unfold rgQUILL at hlo; omega
  have h2 : ¬ k < rgCONN := by unfold rgCONN; unfold rgQUILL at hlo; omega
  unfold planRegion
  rw [if_neg h1, if_neg h2, if_neg (by omega), if_pos hhi]

end

end Sys2Proof.Machine
end


section
/-! O15: the runs of a Quill, its memories and its banks (R285 to R324). -/
namespace Sys2Proof.Machine

section
variable {d : Dev} {l : Lane} {e : Fin 2} {bad : Nat}

/-- A TRIG1 of an idle Quill whose TRIG0 is due in the same tick waits behind it. -/
theorem quillTrigger_behind (hidle : (d.quill.at l).run = none) (hfirst : d.trigDue l 0 = true) :
    d.quillTrigger l 1 bad = ((d.inputStage l 1 bad).trigMark l 1).holdTrig l (d.trigGives l 1 bad) := by
  simp only [Dev.quillTrigger, hidle]
  exact if_pos ⟨trivial, hfirst⟩

section
variable {r : Fin 2} (hrun : (d.quill.at l).run = some r)
include hrun

/-- A trigger during a run is held, and an overrun where the run is of its own entry. -/
theorem quillTrigger_busy (hheld : (d.quill.at l).held.any (fun x => x.entry == e) = false) :
    d.quillTrigger l e bad = if r = e then (((d.inputStage l e bad).trigMark l e).holdTrig l (d.trigGives l e bad)).overrun l
      else ((d.inputStage l e bad).trigMark l e).holdTrig l (d.trigGives l e bad) := by
  simp only [Dev.quillTrigger, hrun, hheld, Bool.false_eq_true, if_false]

/-- A trigger whose entry is held already is dropped. -/
theorem quillTrigger_dropped (hheld : (d.quill.at l).held.any (fun x => x.entry == e) = true) :
    d.quillTrigger l e bad = if r = e then ((d.trigMark l e).qShowShadow l).overrun l else (d.trigMark l e).qShowShadow l := by
  simp only [Dev.quillTrigger, hrun, hheld, if_true]

end

end

section
variable {d : Dev} {l : Lane}

theorem illegalOp_issue (hrun : (d.quill.at l).run.isSome = true) (hissue : (d.quill.at l).nextAt ≤ d.now)
    (hlimit : (d.quill.at l).nextAt < (d.quill.at l).t0 + d.gl l (pgQUILL l) R.QUILL_RUN_MAXCYC)
    (hillegal : qLegal (d.qAtPc l) (d.quill.at l).pc = false) : d.illegalOp l = (d.qRaise l 3 (some 3)).qAbort l := by
  have hsome : (d.quill.at l).run.isNone = false := by
    rw [← Option.not_isSome, hrun]
    rfl
  exact if_neg (by simp [hsome, hissue, hlimit, hillegal])

theorem eccFatal_memory (hup : d.up (.ctl l) = true) :
    d.eccFatal l none = (if (d.quill.at l).run.isSome then d.qAbort l else d).qRaise l 1 none :=
  if_neg (by simp [hup])

theorem eccFatal_held {n : Fin 6} (hup : d.up (.ctl l) = true) (hheld : (d.quill.at l).hold.any (fun h => h.1 == n) = true) :
    d.eccFatal l (some n) = (d.onQuill l fun u => { u with hold := u.hold.filter fun h => h.1 != n }).qRaise l 1 none := by
  unfold Dev.eccFatal
  rw [if_neg (by simp [hup])]
  exact if_pos hheld

end

section
variable {d : Dev} {w : Writer} {v : Word}

theorem write_coeffShift {k : Fin 1024} {t : Target} (ht : d.target (rgQUILL + 0xC000 + 8 * k.val + 4) = some t)
    (ha : d.accepts w (rgQUILL + 0xC000 + 8 * k.val + 4) v) :
    d.write w (rgQUILL + 0xC000 + 8 * k.val + 4) v = d.tookAt w t (rgQUILL + 0xC000 + 8 * k.val + 4) v 0 [] fun e =>
      e.ctlLanes.foldl (fun e m => e.coefWrite m k.val true v) e := by
  have hlo : rgQUILL ≤ rgQUILL + 0xC000 + 8 * k.val + 4 := by omega
  have hhi : rgQUILL + 0xC000 + 8 * k.val + 4 < rgRULING := by unfold rgQUILL rgRULING; omega
  have ho : t.o = 0xC000 + 8 * k.val + 4 := by rw [target_quillRegion hlo hhi ht]; omega
  have hk : (0xC000 + 8 * k.val + 4 - 0xC000) / 8 = k.val := by omega
  have hshift : ((0xC000 + 8 * k.val + 4) % 8 == 4) = true := beq_iff_eq.mpr (by omega)
  refine write_took_region (by unfold rgQUILL; omega) ht ha (planRegion_quill hlo hhi) ?_ ?_ ?_ ?_ <;>
    simp only [Dev.wrOf, ho] <;> rw [if_neg (by omega), if_neg (by omega), if_pos (by omega)]
  simp only [hk, hshift]

theorem write_progWindow {n : Fin 4096} {high : Bool} {t : Target} (ht : d.target (rgQUILL + 8 * n.val + 4 * high.toNat) = some t)
    (ha : d.accepts w (rgQUILL + 8 * n.val + 4 * high.toNat) v) :
    d.write w (rgQUILL + 8 * n.val + 4 * high.toNat) v = d.tookAt w t (rgQUILL + 8 * n.val + 4 * high.toNat) v 0 [] fun e =>
      e.ctlLanes.foldl (fun e m => e.progWrite m n.val high v) (e.tinkerNeedBoth false 30) := by
  have hbit : high.toNat ≤ 1 := Bool.toNat_le high
  have hlo : rgQUILL ≤ rgQUILL + 8 * n.val + 4 * high.toNat := by omega
  have hhi : rgQUILL + 8 * n.val + 4 * high.toNat < rgRULING := by unfold rgQUILL rgRULING; omega
  have ho : t.o = 8 * n.val + 4 * high.toNat := by rw [target_quillRegion hlo hhi ht]; omega
  have hn : (8 * n.val + 4 * high.toNat) / 8 = n.val := by omega
  have hhigh : ((8 * n.val + 4 * high.toNat) / 4 % 2 == 1) = high := by
    rw [show (8 * n.val + 4 * high.toNat) / 4 % 2 = high.toNat by omega]
    cases high <;> rfl
  refine write_took_region (by unfold rgQUILL; omega) ht ha (planRegion_quill hlo hhi) ?_ ?_ ?_ ?_ <;>
    simp only [Dev.wrOf, ho] <;> rw [if_pos (by omega)]
  simp only [hn, hhigh]

/-- A write of PROG that carries SWAP leaves its busy bit to the swap. -/
theorem writeReg_progSwap {l : Lane} (hswap : R.QUILL_PROG_SWAP.get v = 1) (ha : d.accepts w (pageAddr (pgQUILL l) 0x4C) v) :
    d.writeReg w (pgQUILL l) 0x4C v = d.took w (pgQUILL l) 0x4C v 2 fun e => (e.tinkerNeedBoth false 30).progSwap :=
  writeReg_took (by cases l <;> decide) ha (pagePlan_quill (by decide)) rfl rfl rfl (if_pos hswap)

end

/-- Settles O15: triggers, aborts, corrections, windows and banks, each under the conditions of its rule. -/
theorem quillRunsComplete : Obligations.QuillRunsComplete := by
  rintro s d rfl
  exact ⟨
    fun l e bad hdue hidle hfirst => completes (fun d => if d.trigDue l e then (d.tinkerQuill l).quillTrigger l e bad else d)
      ((if_pos hdue).trans (quillTrigger_idle hidle hfirst bad.val)) rfl,
    fun l e bad r hdue hrun hheld => completes (fun d => if d.trigDue l e then (d.tinkerQuill l).quillTrigger l e bad else d)
      ((if_pos hdue).trans (quillTrigger_busy hrun hheld)) rfl,
    fun l e bad r hdue hrun hheld => completes (fun d => if d.trigDue l e then (d.tinkerQuill l).quillTrigger l e bad else d)
      ((if_pos hdue).trans (quillTrigger_dropped hrun hheld)) rfl,
    fun l => completes (·.quillRelease l) rfl rfl,
    fun l hquill hmaxcyc => completes (·.runLimit l) (if_pos (by simp [hquill, hmaxcyc])) rfl,
    fun l hrun hissue hlimit hillegal => completes (·.illegalOp l) (illegalOp_issue hrun hissue hlimit hillegal) rfl,
    fun l e hup hqshowheld => completes (·.qLockstep l) (by
      simp only [Dev.qLockstep, hup, hqshowheld]
      rfl) rfl,
    fun l hup => completes (fun d => if true then d.eccFatal l none else d.eccCorr l) ((if_pos rfl).trans (eccFatal_memory hup)) rfl,
    fun l n hup hheld => completes (fun d => if true then d.eccFatal l (some n) else d.eccCorr l)
      ((if_pos rfl).trans (eccFatal_held hup hheld)) rfl,
    fun w k value t ht ha => completes (·.write w (rgQUILL + 0xC000 + 8 * k.val + 4) value) (write_coeffShift ht ha) rfl,
    fun w n high value t ht ha => completes (·.write w (rgQUILL + 8 * n.val + 4 * high.toNat) value) (write_progWindow ht ha) rfl,
    fun w l ha => completes (·.writeField w (pgQUILL l) R.QUILL_PROG_SWAP 1) (writeReg_progSwap (get_fieldWord_same (by decide)) ha) rfl,
    fun l hswap hcheck => completes (·.progBankCheck l) (if_neg (by rw [← Option.not_isSome, hswap, hcheck]; decide)) rfl,
    fun hlanes hdue => completes (·.swapDone) (if_neg (by simp [hlanes, hdue])) rfl,
    fun l sh rest hsent hlive hup => completes (·.shadowArrive l) (by
      simp only [Dev.shadowArrive, hsent, hlive, hup]
      rfl) rfl,
    fun l bad hdue hidle hfirst => completes (fun d => if d.trigDue l 1 then (d.tinkerQuill l).quillTrigger l 1 bad else d)
      ((if_pos hdue).trans (quillTrigger_behind hidle hfirst)) rfl,
    fun l leg hup => completes (·.eccCorr l) (if_pos hup) rfl⟩

end Sys2Proof.Machine
end

section
/-! O16: gate drive and protection (R390 to R425). -/
namespace Sys2Proof.Machine

section
variable {d e : Dev} {o : OutIx} {gate tpl dv held : Nat} {settled above : Bool}

/-- Phase 1 ends where the gate has reached the level that the pre-charge leads to. -/
theorem gatePhaseEnd_p1 (hphase : (d.outs[o]).phase = .p1) (he : (if (d.outs[o]).phaseOn then d else d.clampAt o gate) = e)
    (hreached : (d.outs[o]).reached gate (e.preLevel o) = true) :
    d.gatePhaseEnd o gate settled tpl dv = e.onOut o fun x => { x with phase := .p2, p2At := e.now } := by
  subst he
  simp only [Dev.gatePhaseEnd, hphase, reduceCtorEq, false_or]
  exact if_pos hreached

/-- Phase 2 ends at its level or at its longest time. -/
theorem gatePhaseEnd_p2 (hphase : (d.outs[o]).phase = .p2) (he : (if (d.outs[o]).phaseOn then d else d.clampAt o gate) = e)
    (hend : (d.outs[o]).reached gate (e.endLevel o) = true ∨ (d.outs[o]).p2At + e.outCfg o R.GATE_GMON_PL_TMAX ≤ e.now) :
    d.gatePhaseEnd o gate settled tpl dv = (e.measureEdge o tpl dv).onOut o fun x => { x with phase := .p3 } := by
  subst he
  simp only [Dev.gatePhaseEnd, hphase, reduceCtorEq, false_or]
  exact if_pos hend

/-- Phase 3 ends when the gate has settled. -/
theorem gatePhaseEnd_p3 (hphase : (d.outs[o]).phase = .p3) (he : (if (d.outs[o]).phaseOn then d else d.clampAt o gate) = e)
    (hsettled : settled = true) :
    d.gatePhaseEnd o gate settled tpl dv =
      e.onOut o fun x => { x with phase := .idle, gateOn := x.phaseOn, clamp := !x.phaseOn && decide (e.outCfg o R.GATE_OCFG_CLAMP_EN = 1) } := by
  subst he
  simp only [Dev.gatePhaseEnd, hphase, reduceCtorEq, false_or]
  exact if_pos hsettled

theorem desat_detected (ho : o.val ≠ 13) (hen : d.outCfg o R.GATE_OCFG_DESAT_EN = 1)
    (hon : (d.outs[o]).on = true ∨ (d.outs[o]).soft ≠ .none)
    (hdue : max (d.now - held) ((d.outs[o]).edgeAt + d.outCfg o R.GATE_DESAT_BLANK) + d.outCfg o R.GATE_DESAT_FLT ≤ d.now) :
    d.desat o held = d.detectShort o 1 (max (d.now - held) ((d.outs[o]).edgeAt + d.outCfg o R.GATE_DESAT_BLANK)) :=
  if_pos ⟨ho, hen, hon.imp_right bne_iff_ne.mpr, hdue⟩

theorem plateauShort_detected (ho : o.val ≠ 13) (hen : d.outCfg o R.GATE_OCFG_PW_EN = 1) (hphaseOn : (d.outs[o]).phaseOn = true)
    (hon : (d.outs[o]).on = true ∨ (d.outs[o]).soft ≠ .none) (habove : above = true) (hshort : tpl < d.outCfg o R.GATE_PWATCH_MIN) :
    d.plateauShort o tpl above = d.detectShort o 2 d.now :=
  if_pos ⟨ho, hen, hphaseOn, hon.imp_right bne_iff_ne.mpr, habove, hshort⟩

theorem gateMon_judged {badA badB : Bool} (hphase : (d.outs[o]).phase ≠ .idle)
    (hdue : (d.outs[o]).edgeAt + d.outCfg o R.GATE_GMON_GMON_T ≤ d.now) :
    d.gateMon o badA badB =
      if badA then (if badB then (d.cutHalf o .a).cutHalf o .b else d.cutHalf o .a) else (if badB then d.cutHalf o .b else d.gmonFault o) := by
  unfold Dev.gateMon
  rw [if_neg (not_or.mpr ⟨hphase, Nat.not_lt.mpr hdue⟩)]
  cases badA <;> cases badB <;> rfl

end

/-- Settles O16: each event under the conditions of its rule. -/
theorem gateCommandsComplete : Obligations.GateCommandsComplete := by
  rintro s d rfl
  exact ⟨
    fun o gate settled tpl dv e hphase he hreached => completes (·.gatePhaseEnd o gate settled tpl dv) (gatePhaseEnd_p1 hphase he hreached) rfl,
    fun o gate settled tpl dv e hphase he hend => completes (·.gatePhaseEnd o gate settled tpl dv) (gatePhaseEnd_p2 hphase he hend) rfl,
    fun o gate settled tpl dv e hphase he hsettled => completes (·.gatePhaseEnd o gate settled tpl dv) (gatePhaseEnd_p3 hphase he hsettled) rfl,
    fun o half hpowered => completes (·.halfFailed o half) (if_pos hpowered) rfl,
    fun o held ho hen hon hblank => completes (·.desat o held) (desat_detected ho hen hon hblank) rfl,
    fun o tpl above ho hen hphaseOn hon habove hshort => completes (·.plateauShort o tpl above)
      (plateauShort_detected ho hen hphaseOn hon habove hshort) rfl,
    fun o gate settled hsoft ht => completes (·.softTurnOffStep o gate settled) (by
      simp only [Dev.softTurnOffStep, hsoft, ht]
      rfl) rfl,
    fun o gate settled hsoft hsettled => completes (·.softTurnOffStep o gate settled) (by
      simp only [Dev.softTurnOffStep, hsoft, hsettled]
      rfl) rfl,
    fun o badA badB hphase hdue => completes (·.gateMon o badA badB) (gateMon_judged hphase hdue) rfl,
    fun o vpos vneg hwarn huv => completes (·.gateSupply o vpos vneg) (by
      simp only [Dev.gateSupply, hwarn, huv]
      rfl) rfl,
    fun o vpos vneg n hwarn houtleg huv => completes (·.gateSupply o vpos vneg) (by
      simp only [Dev.gateSupply, hwarn, houtleg, huv]
      rfl) rfl,
    fun o vpos vneg => completes (·.gateSupplyRecovered o vpos vneg) rfl rfl,
    fun b hi hwaithigh hascbydly hascmoving hsidepermitted => completes (·.ascDly b) (by
      simp only [Dev.ascDly, hwaithigh, hascbydly, hascmoving, hsidepermitted]
      rfl) rfl,
    fun l on hprot hprot₂ => completes (·.chopHold l) (by
      simp only [Dev.chopHold, hprot, hprot₂]
      rfl) rfl,
    fun l k t hstartat hnow hen hlink => completes (·.linkTimeout l k) (by
      simp only [Dev.linkTimeout, hstartat, hnow, hen, hlink]
      rfl) rfl,
    fun l volt hup => completes (·.dclinkComparator l volt) (if_neg (by simp [hup])) rfl,
    fun l hup hprot hprot₂ hnow hjobcfg => completes (·.chopSample l) (by
      simp only [Dev.chopSample, hup, hprot, hprot₂, hnow, hjobcfg]
      rfl) rfl,
    fun l v e hprot hprot₂ honprot => completes (·.chopEnergy l) (by simp [Dev.chopEnergy, hprot, hprot₂, honprot]) rfl,
    fun hmode htmax hdcdead => completes (·.dischargeTimeout) (if_pos (by simp [hmode, htmax, hdcdead])) rfl⟩

end Sys2Proof.Machine
end

section
/-! O17: configuration blocks and PROT.CLR (R426 to R429). -/
namespace Sys2Proof.Machine

theorem cfgMismatch_seen {d : Dev} {k : DieIx} {x y : List Word} (hx : (d.dies[k]).ports.a.staged = some x)
    (hy : (d.dies[k]).ports.b.staged = some y) (hcrc : crc32cWords x ≠ crc32cWords y)
    (hdue : max (d.dies[k]).ports.a.stagedAt (d.dies[k]).ports.b.stagedAt + 500000 ≤ d.now) : d.cfgMismatch k = d.mismatchSeen k := by
  unfold Dev.cfgMismatch
  simp only [hx, hy]
  exact if_pos ⟨hcrc, hdue⟩

/-- What runs with given facts counts in the device that holds them. -/
theorem withFacts_congr {d : Dev} {f : Facts} {run run' : Dev → Dev}
    (h : run { d with boot := { d.boot with given := some f } } = run' { d with boot := { d.boot with given := some f } }) :
    d.withFacts f run = d.withFacts f run' := by
  unfold Dev.withFacts
  rw [h]

section
variable {d : Dev} {w : Writer} {v : Word} {outs kind : Nat}

/-- The outputs that a word of PROT.CLR names. -/
theorem protClr_out (houts : outs < 16384) : R.PROT_CLR_OUT.get (BitVec.ofNat 32 (0x10000 * kind + outs)) = outs :=
  Fld.get_ofNat_eq (by decide) (by
    norm_num [R.PROT_CLR_OUT, Fld.width]
    omega)

/-- The kind of a word of PROT.CLR. -/
theorem protClr_kind (houts : outs < 16384) (hkind : kind < 4) : R.PROT_CLR_KIND.get (BitVec.ofNat 32 (0x10000 * kind + outs)) = kind :=
  Fld.get_ofNat_eq (by decide) (by
    norm_num [R.PROT_CLR_KIND, Fld.width]
    omega)

/-- A write of PROT.CLR clears what its kind names on the outputs that it names. -/
theorem writeReg_protClr (hout : R.PROT_CLR_OUT.get v = outs) (hkind : R.PROT_CLR_KIND.get v = kind)
    (ha : d.accepts w (pageAddr pgPROT 0x6C) v) :
    d.writeReg w pgPROT 0x6C v = d.took w pgPROT 0x6C v 0 fun e => match (generalizing := false) kind with
      | 0 => e.clearShort outs
      | 1 => { e.clearHalf outs e.openFacts.halves with freeCtr := e.freeCtr + 10 }
      | 2 => e.clearMon outs
      | _ => e.clearSupply outs := by
  subst hout hkind
  refine writeReg_took (by decide) ha (pagePlan_prot (by decide)) rfl rfl rfl ?_
  unfold planProt
  rfl

end

/-- Settles O17: a word of PROT.CLR is read by its fields, and a check of cut-off halves rests on the facts given with it. -/
theorem gateConfigAndClearsComplete : Obligations.GateConfigAndClearsComplete := by
  rintro s d rfl
  exact ⟨
    fun l hdieup => completes (·.gateConfig l) (if_neg (by simp [hdieup])) rfl,
    fun k ws hagreedblock => completes (·.judgeBlocks k) (by simp only [Dev.judgeBlocks, hagreedblock]) rfl,
    fun k x y hx hy hcrc hdue => completes (·.cfgMismatch k) (cfgMismatch_seen hx hy hcrc hdue) rfl,
    fun w outs ha => completes (·.writeReg w pgPROT 0x6C (BitVec.ofNat 32 outs))
      (writeReg_protClr (Fld.get_ofNat_of_lt (by decide) rfl outs.isLt) (kind := 0) (by simpa using protClr_kind (kind := 0) outs.isLt (by decide)) ha) rfl,
    fun w outs pass ha => completes (fun d => d.withFacts { noFacts with halves := pass } fun d => d.writeReg w pgPROT 0x6C (BitVec.ofNat 32 (0x10000 + outs.val)))
      (withFacts_congr (writeReg_protClr (protClr_out (kind := 1) outs.isLt) (protClr_kind outs.isLt (by decide)) ha)) rfl,
    fun w outs ha => completes (·.writeReg w pgPROT 0x6C (BitVec.ofNat 32 (0x20000 + outs.val)))
      (writeReg_protClr (protClr_out (kind := 2) outs.isLt) (protClr_kind outs.isLt (by decide)) ha) rfl,
    fun w outs ha => completes (·.writeReg w pgPROT 0x6C (BitVec.ofNat 32 (0x30000 + outs.val)))
      (writeReg_protClr (protClr_out (kind := 3) outs.isLt) (protClr_kind outs.isLt (by decide)) ha) rfl⟩

end Sys2Proof.Machine
end

section
/-! O18: a lane that has not started with its failure record standing, beside a failed lane (R456, R462). -/
namespace Sys2Proof.Machine

/-- Only the control die of lane A runs; its lane is down and has a failure record in LANE, and lane B has failed. -/
def bothLanesToRejoin : Dev :=
  ({ Dev.reset with
    power := { Dev.reset.power with running := [.ctl .a] }
    lanes := { Dev.reset.lanes with b := { Dev.reset.lanes.b with role := .failed } } }).sl .a pgLANE R.LANE_FAILREC_VALID 1 0

/-- The word of LANE.CMD that asks for a rejoin. -/
abbrev rejoinWord : Word := keyWord 0x5C 3

/-- The state that lane A's firmware leaves when it asks for a rejoin. -/
abbrev rejoinAsked : State := State.done ⟨bothLanesToRejoin, []⟩ (bothLanesToRejoin.writeReg (.laneFw .a) pgLANE 0x44 rejoinWord)

/-- The state that the obligation states, in which lane B is reset. -/
abbrev rejoinStated : State :=
  State.done ⟨bothLanesToRejoin, []⟩ (bothLanesToRejoin.took (.laneFw .a) pgLANE 0x44 rejoinWord 0 fun e => e.peerRequest .b)

theorem rejoinWord_accepted : bothLanesToRejoin.accepts (.laneFw .a) (pageAddr pgLANE 0x44) rejoinWord := by decide +kernel

/-- The lane with the failure record is the one that rejoins. -/
theorem rejoinAsked_lane : rejoinAsked.dev.lanes.a.rejoining = true := by decide +kernel

theorem rejoinStated_lane : rejoinStated.dev.lanes.a.rejoining = false := by decide +kernel

/-- Refutes O18 by its clause of a rejoin: LANE.CMD takes lane A first where it has not started and its failure record stands, though its
role is not FAILED, and so does not reset lane B. -/
theorem not_laneCommandsComplete : ¬ Obligations.LaneCommandsComplete := by
  unfold Obligations.LaneCommandsComplete
  intro h
  obtain ⟨-, -, -, -, -, -, hrejoin, -⟩ := h ⟨bothLanesToRejoin, []⟩ bothLanesToRejoin rfl
  have hnext : Host.Outcome.next rejoinAsked = .next rejoinStated :=
    hrejoin (.laneFw .a) rejoinWord_accepted rfl (by decide +kernel)
  have hlane := congrArg (fun t : State => t.dev.lanes.a.rejoining) (Host.Outcome.next.inj hnext)
  exact absurd (rejoinAsked_lane.symm.trans (hlane.trans rejoinStated_lane)) (by decide)

end Sys2Proof.Machine
end

section
/-! O19: the safety islands (R466 to R493). -/
namespace Sys2Proof.Machine

/-- What a held input brings waits. -/
theorem viaInput_held {d : Dev} {l : Lane} {island : Bool} {x : PairInput} {c : HeldChange} {run : Dev → Dev}
    (hheld : d.inputHeld l island x = true) : d.viaInput l island x c run = d.holdChange l island x c :=
  if_pos hheld

/-- What an input on which the pair agrees brings acts. -/
theorem viaInput_agreed {d : Dev} {l : Lane} {island : Bool} {x : PairInput} {c : HeldChange} {run : Dev → Dev}
    (hheld : d.inputHeld l island x = false) : d.viaInput l island x c run = run d :=
  if_neg (Bool.eq_false_iff.mp hheld)

/-- A word that is not the reset value, written at another key, leaves a word as it is. -/
theorem word_setWord_otherKey {d : Dev} {l m : Lane} {a b : Nat} {w : Word} (hkey : regKey l a ≠ regKey m b) (hw : w ≠ addrReset b) :
    (d.setWord m b w).word l a = d.word l a := by
  simp [Dev.word, Dev.setWord, hw, cellsGet_put_other w hkey]

section
variable {d : Dev} {i : Lane} {x : Fin 2}

theorem safetyCycleEnd_due (hon : d.islandOn i = true) (hdue : d.now % 125000 = 0) :
    (if d.now % 125000 ≠ 0 then d else (d.safetyCycleEnd i).slNotices i) = (d.safetyCycle i).slNotices i := by
  rw [if_neg (not_not.mpr hdue), Dev.safetyCycleEnd, if_neg (by simp [hon, hdue])]

theorem decisionReceive_met {word : DecisionWord} (hheld : d.inputHeld i true .frame = false) (hon : d.islandOn i = true)
    (hpartner : d.partnerOn i = true) (hmeets : d.decisionMeets i word = true) : d.decisionReceive i word = d.decisionTaken i word :=
  (viaInput_agreed hheld).trans (if_neg (by simp [hon, hpartner, hmeets]))

/-- A relay message that arrives is taken with the values of the ACTIVE lane. -/
theorem activeRelay_taken {l : Lane} {failed : BitVec 22} (hheld : d.inputHeld i true .frame = false) (hup : d.up (.iface i) = true)
    (hactive : d.active = some l) (harrives : d.relayArrives i = true) :
    d.activeRelay i failed = d.relayTaken i (d.relayValues l failed) failed := by
  rw [Dev.activeRelay, viaInput_agreed hheld]
  unfold Dev.relayReached
  simp only [hactive]
  exact if_pos ⟨hup, harrives⟩

/-- A relay message without a value that fails its check raises nothing. -/
theorem relayTaken_good {v : RelayValues} :
    d.relayTaken i v 0 = d.onIsland i fun x => { x with
      relay := some v, relayAt := d.now, tcmds1 := (v.ax1.tcmd.map sint).toList ++ x.tcmds1, tcmds2 := (v.ax2.tcmd.map sint).toList ++ x.tcmds2 } := by
  unfold Dev.relayTaken
  exact if_pos rfl

theorem relayTaken_failed {v : RelayValues} {failed : BitVec 22} (hfailed : failed ≠ 0) :
    d.relayTaken i v failed = (d.onIsland i fun x => { x with
      relay := some v, relayAt := d.now, tcmds1 := (v.ax1.tcmd.map sint).toList ++ x.tcmds1,
      tcmds2 := (v.ax2.tcmd.map sint).toList ++ x.tcmds2 }).raise 157 := by
  unfold Dev.relayTaken
  exact if_neg hfailed

section
variable {n ch : Fin 2} {high : Bool} {held : Nat}

theorem sdinChange_filtered (hup : d.up (.iface i) = true) (hfilt : d.gl i (pgSAFE i) R.SAFE_SDIN_FILT n.val * 50000 ≤ held) :
    d.sdinChange i n ch high held = d.viaInput i true (.sdi n) (.sdi n ch high) fun d => d.sdinTaken i n ch high :=
  if_neg (by simp [hup, Dev.sdinFiltered, hfilt])

theorem sdinDiscrepancy_due {t : Nat} (hbad : (d.islands.at i).sdiBadAt.getD n.val none = some t) (hon : d.islandOn i = true)
    (hdue : t + d.gl i (pgSAFE i) R.SAFE_SDIN_DISC n.val * 500000 < d.now) :
    d.sdinDiscrepancy i n =
      (((d.onIsland i fun x => { x with sdiFault := x.sdiFault.set n.val true }).islandRaise i 5).safeCause i 2).showSdin i := by
  unfold Dev.sdinDiscrepancy
  simp only [hbad]
  exact if_neg (by simp [hon, hdue])

end

/-- A write of SAFE.ACK acknowledges under its key. -/
theorem writeReg_safeAck {w : Writer} {key : Fin 256} (ha : d.accepts w (pageAddr (pgSAFE i) 0x4C) (BitVec.ofNat 32 key.val)) :
    d.writeReg w (pgSAFE i) 0x4C (BitVec.ofNat 32 key.val) =
      d.took w (pgSAFE i) 0x4C (BitVec.ofNat 32 key.val) 0 fun e => e.safeAck key.val :=
  writeReg_took (by cases i <;> decide) ha (pagePlan_safe (by decide)) rfl rfl rfl
    (congrArg (Dev.safeAck _) (Fld.get_ofNat_of_lt (by decide) rfl key.isLt))

section
variable (hon : d.islandOn i = true) (hreq : ((d.islands.at i).ax x).stopReq = true)
include hon hreq

/-- A requested stop category 1 ramps its axis down. -/
theorem safeStop_ss1 (hstate : d.safeState i x = 3) :
    d.safeStop i x = ((d.onSafeAx i x fun a => { a with stopReq := false }).onAxis x fun a => { a with ss1Req := a.ss1Req.put i true }).axisStop x
      ((d.onSafeAx i x fun a => { a with stopReq := false }).sf i x R.SAFE_SS_RAMP) := by
  have hstate' : (d.onSafeAx i x fun a => { a with stopReq := false }).safeState i x = 3 := hstate
  unfold Dev.safeStop
  rw [if_neg (by simp [hon, hreq])]
  simp only [hstate']

/-- A requested stop category 2 stops the motion. -/
theorem safeStop_ss2 (hstate : d.safeState i x = 2) :
    d.safeStop i x = (d.onSafeAx i x fun a => { a with stopReq := false }).motionStop x := by
  have hstate' : (d.onSafeAx i x fun a => { a with stopReq := false }).safeState i x = 2 := hstate
  unfold Dev.safeStop
  rw [if_neg (by simp [hon, hreq])]
  simp only [hstate']

end

/-! The safe brake (R491 to R493) -/

/-- An axis in STO asks for the brake once its delay has passed. -/
theorem brakeDecided_sto (haxes : d.gl i (pgSAFE i) R.SAFE_SBC_AXES / 2 ^ x.val % 2 = 1) (hstate : d.safeState i x = 4)
    (hdue : ((d.islands.at i).ax x).t0 + d.gl i (pgSAFE i) R.SAFE_SBC_DLY * 5000000 ≤ d.now) : d.brakeDecided i = true := by
  unfold Dev.brakeDecided
  have hmem : x ∈ [(0 : Fin 2), 1] := by fin_cases x <;> decide
  dsimp only
  rw [Bool.or_eq_true]
  exact .inr (List.any_eq_true.mpr ⟨x, hmem, by simp [haxes, hstate, hdue]⟩)

theorem sbcEngage_asked (hup : d.up (.iface i) = true)
    (hbrake : d.gl i (pgSAFE i) R.SAFE_REQ_BRAKE = 1 ∨ (d.islands.at i).pduBrake = true ∨ (d.islands.at i).brakeAsked = true ∨
      (d.islands.at i).inService = false) : d.sbcEngage i = d.setBrake i false := by
  refine if_pos ⟨hup, ?_⟩
  rcases hbrake with hreq | hpdu | hasked | hout
  · exact .inl (by simp [Dev.brakeDecided, hreq])
  · exact .inl (by simp [Dev.brakeDecided, hpdu])
  · exact .inr (.inl hasked)
  · exact .inr (.inr (by simp [hout]))

section
variable (hon : d.islandOn i = true) (hreleased : d.gl i (pgSAFE i) R.SAFE_SBCSTAT_RELEASED ≠ 0)
include hon hreleased

theorem sbcTest_start {seen : Option Nat} (hidle : (d.islands.at i).sbcTesting = false)
    (hdue : (d.islands.at i).sbcTestAt + d.gl i (pgSAFE i) R.SAFE_SBC_TPER * 500000000 ≤ d.now) :
    d.sbcTest i seen = d.sbcTestStarts i := by
  unfold Dev.sbcTest
  dsimp only
  rw [if_neg (by simp [hon, hreleased]), if_neg (Bool.eq_false_iff.mp hidle), if_neg (Nat.not_lt.mpr hdue)]

theorem sbcTest_end {seen : Option Nat} (htesting : (d.islands.at i).sbcTesting = true)
    (hdue : (d.islands.at i).sbcTestAt + d.gl i (pgSAFE i) R.SAFE_SBC_TPW * 500 ≤ d.now) : d.sbcTest i seen = d.sbcTestEnds i seen := by
  unfold Dev.sbcTest
  dsimp only
  rw [if_neg (by simp [hon, hreleased]), if_pos htesting, if_neg (Nat.not_lt.mpr hdue)]

end

/-- The switch under test is a field of SBCSTAT. -/
theorem sbcSwitch_eq : d.sbcSwitch i = R.SAFE_SBCSTAT_HS ∨ d.sbcSwitch i = R.SAFE_SBCSTAT_LS := ite_eq_or_eq ..

/-- The end of a brake test leaves SBC, whose TPW it judges by. -/
theorem gl_sbcTpw_testEnd : (d.sl i (pgSAFE i) (d.sbcSwitch i) 1).gl i (pgSAFE i) R.SAFE_SBC_TPW = d.gl i (pgSAFE i) R.SAFE_SBC_TPW := by
  have keeps : ∀ f : Fld, f = R.SAFE_SBCSTAT_HS ∨ f = R.SAFE_SBCSTAT_LS →
      (d.sl i (pgSAFE i) f 1).gl i (pgSAFE i) R.SAFE_SBC_TPW = d.gl i (pgSAFE i) R.SAFE_SBC_TPW := by
    intro f hf
    have hin : f.inWord := by rcases hf with rfl | rfl <;> decide
    have hreset : addrReset (pageAddr (pgSAFE i) (f.at 0)) = 0#32 := by rcases hf with rfl | rfl <;> cases i <;> decide
    have hone : 1 % 2 ^ f.width = 1 := by rcases hf with rfl | rfl <;> decide
    have hzero : f.get 0#32 = 0 := by rcases hf with rfl | rfl <;> decide
    have hkey : regKey i (pageAddr (pgSAFE i) 0x5C) ≠ regKey i (pageAddr (pgSAFE i) (f.at 0)) := by
      rcases hf with rfl | rfl <;> cases i <;> decide
    have hset : f.put (d.word i (pageAddr (pgSAFE i) (f.at 0))) 1 ≠ addrReset (pageAddr (pgSAFE i) (f.at 0)) := by
      rw [hreset]
      intro hput
      have hget := Fld.get_put_same hin (d.word i (pageAddr (pgSAFE i) (f.at 0))) 1
      rw [hput, hzero, hone] at hget
      exact absurd hget (by decide)
    have hword : (d.sl i (pgSAFE i) f 1).word i (pageAddr (pgSAFE i) 0x5C) = d.word i (pageAddr (pgSAFE i) 0x5C) :=
      word_setWord_otherKey hkey hset
    exact congrArg R.SAFE_SBC_TPW.get hword
  exact keeps _ sbcSwitch_eq

/-- A test whose coil answered in time leaves the brake as it is. -/
theorem sbcTestEnds_seen {t : Nat} (hseen : t ≤ (d.sl i (pgSAFE i) (d.sbcSwitch i) 1).gl i (pgSAFE i) R.SAFE_SBC_TPW) :
    d.sbcTestEnds i (some t) =
      (d.sl i (pgSAFE i) (d.sbcSwitch i) 1).onIsland i fun x => { x with sbcTesting := false, sbcTestHigh := !x.sbcTestHigh } :=
  if_pos (decide_eq_true (gl_sbcTpw_testEnd (d := d) ▸ hseen))

/-- A test whose coil answered too late or not at all engages the brake. -/
theorem sbcTestEnds_late {seen : Option Nat} (hlate : ∀ t, seen = some t → d.gl i (pgSAFE i) R.SAFE_SBC_TPW < t) :
    d.sbcTestEnds i seen = (((d.sl i (pgSAFE i) (d.sbcSwitch i) 1).onIsland i fun x =>
      { x with sbcTesting := false, sbcTestHigh := !x.sbcTestHigh }).setBrake i false).sbcFault i := by
  cases seen with
  | none => rfl
  | some t => exact if_neg (by simpa using hlate t rfl)

section
variable {milliamp : Nat} {e : Dev} (hon : d.islandOn i = true) (he : d.sl i (pgSAFE i) R.SAFE_SBCSTAT_I (min milliamp 65535) = e)
include hon he

theorem sbcCoil_enough (hlow : ¬ (e.gl i (pgSAFE i) R.SAFE_SBCSTAT_RELEASED = 1 ∧ milliamp < e.gl i (pgSAFE i) R.SAFE_SBC2_IMIN ∧
    e.gl i (pgSAFE i) R.SAFE_SBCSTAT_FAULT = 0)) : d.sbcCoil i milliamp = e.onIsland i fun x => { x with sbcLowAt := none } := by
  subst he
  exact (if_pos hon).trans (if_neg hlow)

theorem sbcCoil_low {t : Nat} (hlow : e.gl i (pgSAFE i) R.SAFE_SBCSTAT_RELEASED = 1 ∧ milliamp < e.gl i (pgSAFE i) R.SAFE_SBC2_IMIN ∧
    e.gl i (pgSAFE i) R.SAFE_SBCSTAT_FAULT = 0) (ht : t = (e.islands.at i).sbcLowAt.getD e.now) :
    d.sbcCoil i milliamp = if t + 5000000 ≤ e.now then (e.onIsland i fun x => { x with sbcLowAt := some t }).sbcFault i
      else e.onIsland i fun x => { x with sbcLowAt := some t } := by
  subst he ht
  exact (if_pos hon).trans (if_pos hlow)

end

end

/-- Settles O19: each event under the conditions of its rule, the requests and acknowledgements by their fields. -/
theorem safetyIslandCommandsComplete : Obligations.SafetyIslandCommandsComplete := by
  rintro s d rfl
  exact ⟨
    fun i hon hdue => completes (fun d => if d.now % 125000 ≠ 0 then d else (d.safetyCycleEnd i).slNotices i) (safetyCycleEnd_due hon hdue) rfl,
    fun i word hheld hon hpartner hmeets => completes (·.decisionReceive i word) (decisionReceive_met hheld hon hpartner hmeets) rfl,
    fun i word hheld => completes (·.decisionReceive i word) (viaInput_held hheld) rfl,
    fun i group hislandon => completes (·.islandLockstep i) (if_neg (by simp [hislandon])) rfl,
    fun i l hheld hup hactive harrives => completes (·.activeRelay i 0)
      ((activeRelay_taken hheld hup hactive harrives).trans relayTaken_good) rfl,
    fun i l failed hheld hup hactive harrives hfailed => completes (·.activeRelay i failed)
      ((activeRelay_taken hheld hup hactive harrives).trans (relayTaken_failed hfailed)) rfl,
    fun i t hislands hislandon hdegr ht => completes (·.degradedTimeout i) (by
      simp only [Dev.degradedTimeout, hislands, hislandon, hdegr, ht]
      rfl) rfl,
    fun i t hislands hislandon hdisc => completes (·.stoDiscrepancy i) (by simp [Dev.stoDiscrepancy, hislands, hislandon, hdisc]) rfl,
    fun i n ch high held hup hheld hfilt => completes (·.sdinChange i n ch high held)
      ((sdinChange_filtered hup hfilt).trans (viaInput_agreed hheld)) rfl,
    fun i n ch high held hup hheld hfilt => completes (·.sdinChange i n ch high held)
      ((sdinChange_filtered hup hfilt).trans (viaInput_held hheld)) rfl,
    fun i n t hbad hon hdue => completes (·.sdinDiscrepancy i n) (sdinDiscrepancy_due hbad hon hdue) rfl,
    fun w i value ha => completes (·.writeReg w (pgSAFE i) 0x48 value) (writeReg_took (by cases i <;> decide) ha (pagePlan_safe (by decide)) rfl rfl rfl rfl) rfl,
    fun w i key ha => completes (·.writeReg w (pgSAFE i) 0x4C (BitVec.ofNat 32 key)) (writeReg_safeAck ha) rfl,
    fun i x hon hreq hstate => completes (·.safeStop i x) (safeStop_ss1 hon hreq hstate) rfl,
    fun i x hon hreq hstate => completes (·.safeStop i x) (safeStop_ss2 hon hreq hstate) rfl,
    fun i x hislandon hdelay hsafestate => completes (·.ssExpiry i x) (by simp [Dev.ssExpiry, hislandon, hdelay, hsafestate]) rfl,
    fun i x hislandon hdelay hsafestate => completes (·.ssExpiry i x) (by simp [Dev.ssExpiry, hislandon, hdelay, hsafestate]) rfl,
    fun i u hislandon hnow hen => completes (·.isecSample i u) (if_neg (by simp [hislandon, hnow, hen])) rfl,
    fun i hup hbrake => completes (·.sbcEngage i) (sbcEngage_asked hup hbrake) rfl,
    fun i x hup haxes hstate hdue => completes (·.sbcEngage i) (if_pos ⟨hup, .inl (brakeDecided_sto haxes hstate hdue)⟩) rfl,
    fun i seen hon hreleased hidle hdue => completes (·.sbcTest i seen) (sbcTest_start hon hreleased hidle hdue) rfl,
    fun i t hon hreleased htesting hdue hseen => completes (·.sbcTest i (some t))
      ((sbcTest_end hon hreleased htesting hdue).trans (sbcTestEnds_seen hseen)) rfl,
    fun i seen hon hreleased htesting hdue hlate => completes (·.sbcTest i seen)
      ((sbcTest_end hon hreleased htesting hdue).trans (sbcTestEnds_late hlate)) rfl,
    fun i milliamp e hon he hlow => completes (·.sbcCoil i milliamp) (sbcCoil_enough hon he hlow) rfl,
    fun i milliamp t e hon he hlow ht => completes (·.sbcCoil i milliamp) (sbcCoil_low hon he hlow ht) rfl⟩

end Sys2Proof.Machine
end

section
/-! O20: the safety layer (R505 to R525). -/
namespace Sys2Proof.Machine

section
variable {d e : Dev} {i : Lane}

/-- A safety PDU that reaches an island is taken by every entry whose path it is. -/
theorem safetyPduReceive_reached {n : Fin 48} {id : Fin 536870912} {data : List Byte} {age : Nat}
    (he : (if (n.val = 7 ∨ n.val = 8) ∧ portLane n.val = i ∧ d.rigOn (portLane n.val) then d.rigHeard (portLane n.val) (id.val % 64) else d) = e)
    (hon : e.slOn i = true) (hreaches : e.pduReaches i n.val = true) :
    d.safetyPduReceive i n.val id.val data age =
      (List.range 1024).foldl (fun u k => (u.slPaths i k n.val id.val).foldl (fun v p => v.slTake i k p data (e.arrivalStamp n.val age)) u) e := by
  subst he
  exact if_neg (by simp [hon, hreaches])

theorem slTimeout_ended {k : Fin 1024} {t : Nat} (hon : d.slOn i = true) (hend : d.slEnd i k.val = some t)
    (hdir : d.cw i k.val R.CONN_DIR ≠ 1) (hdue : t ≤ d.now) : d.slTimeout i k.val = d.slTimesOut i k.val := by
  rw [Dev.slTimeout, if_pos hon]
  unfold Dev.slExpire
  simp only [hend]
  exact if_neg (not_or.mpr ⟨hdir, Nat.not_lt.mpr hdue⟩)

section
variable {w : Writer} {v : Word}

theorem writeReg_slayerClear (hkey : R.SLAYER_CLR_KEY.get v = 0x4D) (ha : d.accepts w (pageAddr pgSLAYER 0x58) v) :
    d.writeReg w pgSLAYER 0x58 v = d.took w pgSLAYER 0x58 v 0 fun e => e.slayerClear v :=
  writeReg_took (by decide) ha (pagePlan_slayer (by decide)) (bne_eq_false_iff_eq.mpr hkey) rfl rfl rfl

theorem writeReg_rebind (hkey : R.SLAYER_REBIND_KEY.get v = 0x7B) (ha : d.accepts w (pageAddr pgSLAYER 0x50) v) :
    d.writeReg w pgSLAYER 0x50 v = d.took w pgSLAYER 0x50 v 0 fun e => e.rebind true v :=
  writeReg_took (by decide) ha (pagePlan_slayer (by decide)) (bne_eq_false_iff_eq.mpr hkey) rfl rfl rfl

end

end

/-- Settles O20: each event under the conditions of its rule, and the keyed commands of SLAYER. -/
theorem safetyLayerCommandsComplete : Obligations.SafetyLayerCommandsComplete := by
  rintro s d rfl
  exact ⟨
    fun i n id data age e he hon hreaches => completes (·.safetyPduReceive i n id data age) (safetyPduReceive_reached he hon hreaches) rfl,
    fun i k c hsle hslon hwaits hcmpw => completes (·.dualMissing i k) (by
      simp only [Dev.dualMissing, hsle, hslon, hwaits, hcmpw]
      rfl) rfl,
    fun i k t hon hend hdir hdue => completes (·.slTimeout i k) (slTimeout_ended hon hend hdir hdue) rfl,
    fun i k payload partner hslon hen hdir hcst hnow hperiod hnow₂ hperiod₂ => completes (·.safetyPduProduce i k payload partner)
      (if_neg (by simp [hslon, hen, hdir, hcst, hnow, hperiod, hnow₂, hperiod₂])) rfl,
    fun w v ha hkey => completes (·.writeReg w pgSLAYER 0x58 v) (writeReg_slayerClear hkey ha) rfl,
    fun w v ha hkey => completes (·.writeReg w pgSLAYER 0x50 v) (writeReg_rebind hkey ha) rfl,
    fun hnow => completes (·.bindTick) (if_neg (by simp [hnow])) rfl,
    fun i hslon => completes (·.entryCheckVerify i) (if_pos (by simp [hslon])) rfl⟩

end Sys2Proof.Machine
end

section
/-! The regions of the ruling cells and of the filters (R540, R531). -/
namespace Sys2Proof.Machine

section
variable {k : Nat} (hlo : rgRULING ≤ k) (hhi : k < rgFILTER)
include hlo hhi

/-- The offset of an address in the region of the ruling cells. -/
theorem target_rulingRegion {d : Dev} {t : Target} (ht : d.target k = some t) : t.o = k - rgRULING := by
  unfold rgRULING at hlo
  unfold rgFILTER at hhi
  have hpage : regionPage k = some (pgCAN 0) := by
    unfold regionPage rgSEG rgMAP rgCONN rgQUILL rgRULING rgFILTER
    rw [if_neg (by omega), if_neg (by omega), if_neg (by omega), if_neg (by omega), if_neg (by omega), if_pos (by omega)]
  have hflds : regionFlds k = (R.fldsCELL, 32, rgRULING) := by
    unfold regionFlds rgSEG rgCONN rgQUILL rgRULING rgFILTER rgEnd
    rw [if_neg (by omega), if_neg (by omega), if_pos (by omega)]
  rw [target_regionOffset (by omega) hpage ht]
  unfold regionBase
  rw [hflds]
  rfl

theorem planRegion_ruling {d a : Dev} {w : Wr} :
    planRegion d a k w =
      if w.o % 32 = 28 then
        { block := d.resOk w.who (56 + w.o / 32 / 64), value := !failsWith (d.rulingCellWrite (w.o / 32) w.v) .value, keep := 0xFFFFFFFF#32
          run := fun e => exceptD (e.rulingCellWrite (w.o / 32) w.v) e }
      else
        { block := d.resOk w.who (56 + w.o / 32 / 64), keep := 0xFFFFFFFF#32, run := fun e => e.cellHold w.o w.v
          value := w.o % 32 != 8 || decide (w.f R.CELL_REPX ≤ 6 ∧ w.f R.CELL_OFFSET < 2 ^ w.f R.CELL_REPX) } := by
  unfold rgRULING at hlo
  have h1 : ¬ k < rgMAP := by unfold rgMAP; omega
  have h2 : ¬ k < rgCONN := by unfold rgCONN; omega
  have h3 : ¬ k < rgQUILL := by unfold rgQUILL; omega
  have h4 : ¬ k < rgRULING := by unfold rgRULING; omega
  unfold planRegion
  rw [if_neg h1, if_neg h2, if_neg h3, if_neg h4, if_pos hhi]

end

section
variable {k : Nat} (hlo : rgFILTER ≤ k)
include hlo

/-- The offset of an address in the region of the filters. -/
theorem target_filterRegion {d : Dev} {t : Target} (hhi : k < rgEnd) (ht : d.target k = some t) : t.o = k - rgFILTER := by
  unfold rgFILTER at hlo
  unfold rgEnd at hhi
  have hpage : regionPage k = some (0x24 + (k - rgFILTER) / 0x2000) := by
    unfold regionPage rgSEG rgMAP rgCONN rgQUILL rgRULING rgFILTER rgEnd
    rw [if_neg (by omega), if_neg (by omega), if_neg (by omega), if_neg (by omega), if_neg (by omega), if_neg (by omega), if_pos (by omega)]
  have hflds : regionFlds k = (R.fldsFILT, 64, rgFILTER) := by
    unfold regionFlds rgSEG rgCONN rgQUILL rgRULING rgFILTER rgEnd
    rw [if_neg (by omega), if_neg (by omega), if_neg (by omega), if_pos (by omega)]
  rw [target_regionOffset (by omega) hpage ht]
  unfold regionBase
  rw [hflds]
  rfl

theorem planRegion_filter {d a : Dev} {w : Wr} {n : Fin 4} (hn : (k - rgFILTER) / 0x2000 = n.val) :
    planRegion d a k w =
      if w.o % 0x2000 % 64 < 0x20 then { keep := 0xFFFFFFFF#32, run := fun e => e.filterHold n (w.o % 0x2000) w.v }
      else if w.o % 0x2000 % 64 = 0x20 then { keep := 0xFFFFFFFF#32, run := fun e => e.filterUpdate n (w.o % 0x2000 / 64) w.v }
      else {} := by
  unfold rgFILTER at hlo
  have h1 : ¬ k < rgMAP := by unfold rgMAP; omega
  have h2 : ¬ k < rgCONN := by unfold rgCONN; omega
  have h3 : ¬ k < rgQUILL := by unfold rgQUILL; omega
  have h4 : ¬ k < rgRULING := by unfold rgRULING; omega
  have h5 : ¬ k < rgFILTER := by unfold rgFILTER; omega
  have hctl : (⟨(k - rgFILTER) / 0x2000 % 4, by omega⟩ : Fin 4) = n := Fin.ext (by simp only [hn]; omega)
  unfold planRegion
  rw [if_neg h1, if_neg h2, if_neg h3, if_neg h4, if_neg h5]
  simp only [hctl]

end

end Sys2Proof.Machine
end

section
/-! O21: the CAN controllers (R526 to R537). -/
namespace Sys2Proof.Machine

section
variable {d : Dev} {n : Fin 4}

section
variable {f : CanFrame} {age : Nat}

theorem canFrameReceive_taken (htakes : d.canTakes n f = true) (hloops : d.canLoops n = false) :
    d.canFrameReceive n f age = d.canArrives n f age :=
  if_neg (by simp [htakes, hloops])

/-- A frame that carries no safety PDU is filtered and queued alone. -/
theorem canArrives_plain (hsafety : d.canSafety n f = false) : d.canArrives n f age = d.canFrameTaken n f (d.now - age) :=
  if_neg (Bool.eq_false_iff.mp hsafety)

section
variable {sof : Nat} (hlen : ¬ (f.fmt.val = 4 ∧ 64 < f.data.length)) (hdiverted : (d.canHeard n).canDiverted n f = false)
include hlen hdiverted

theorem canFrameTaken_noMatch (hfilter : (d.canHeard n).filterOf n f sof = none) :
    d.canFrameTaken n f sof =
      (d.canHeard n).canNoMatch n f (if (d.canHeard n).cg n R.CAN_CFG_TSPOINT = 0 then sof else (d.canHeard n).now) := by
  unfold Dev.canFrameTaken
  dsimp only
  rw [if_neg hlen, if_neg (Bool.eq_false_iff.mp hdiverted)]
  simp only [hfilter]

theorem canFrameTaken_match {i : Nat} {c : Word} (hfilter : (d.canHeard n).filterOf n f sof = some (i, c)) :
    d.canFrameTaken n f sof =
      (d.canHeard n).canMatch n f sof (if (d.canHeard n).cg n R.CAN_CFG_TSPOINT = 0 then sof else (d.canHeard n).now) i c := by
  unfold Dev.canFrameTaken
  dsimp only
  rw [if_neg hlen, if_neg (Bool.eq_false_iff.mp hdiverted)]
  simp only [hfilter]

end

end

/-! Error states (R528) -/

section
variable (hon : d.canOn n = true) (hstate : d.cg n R.CAN_STAT_STATE = 2 ∨ d.cg n R.CAN_STAT_STATE = 1)
include hon hstate

theorem errorPassive_tec (htec : 128 ≤ d.cg n R.CAN_ERR_TEC) :
    d.errorPassive n = ((d.cs n R.CAN_STAT_STATE 3).canCause n 4).raiseCond (321 + 4 * n.val) := by
  unfold Dev.errorPassive
  dsimp only
  rw [if_neg (fun h => h.elim (by simp [hon]) fun ⟨h2, h1⟩ => hstate.elim h2 h1), if_neg (Nat.not_lt.mpr htec)]

theorem errorPassive_rec {e : Dev} (htec : d.cg n R.CAN_ERR_TEC < 128)
    (he : (d.cs n R.CAN_ERR_REC (128 + (Config.freeWord d.freeCtr).toNat % 128)).fresh = e) :
    d.errorPassive n = ((e.cs n R.CAN_STAT_STATE 3).canCause n 4).raiseCond (321 + 4 * n.val) := by
  subst he
  unfold Dev.errorPassive
  dsimp only
  rw [if_neg (fun h => h.elim (by simp [hon]) fun ⟨h2, h1⟩ => hstate.elim h2 h1), if_pos htec]

end

/-! Writes and reads (R531, R535, R536) -/

section
variable {w : Writer} {v : Word}

/-- A write of a filter's last word applies the filter. -/
theorem write_filterUpdate {f : Fin 128} {t : Target} (ht : d.target (rgFILTER + 0x2000 * n.val + 64 * f.val + 0x20) = some t)
    (ha : d.accepts w (rgFILTER + 0x2000 * n.val + 64 * f.val + 0x20) v) :
    d.write w (rgFILTER + 0x2000 * n.val + 64 * f.val + 0x20) v =
      d.tookAt w t (rgFILTER + 0x2000 * n.val + 64 * f.val + 0x20) v 0xFFFFFFFF#32 [] fun e => e.filterUpdate n f.val v := by
  have hlo : rgFILTER ≤ rgFILTER + 0x2000 * n.val + 64 * f.val + 0x20 := by omega
  have hhi : rgFILTER + 0x2000 * n.val + 64 * f.val + 0x20 < rgEnd := by unfold rgFILTER rgEnd; omega
  have ho : t.o = 0x2000 * n.val + 64 * f.val + 0x20 := by rw [target_filterRegion hlo hhi ht]; omega
  have hctl : (rgFILTER + 0x2000 * n.val + 64 * f.val + 0x20 - rgFILTER) / 0x2000 = n.val := by omega
  have hoff : (0x2000 * n.val + 64 * f.val + 0x20) % 0x2000 = 64 * f.val + 0x20 := by omega
  have hfilt : (64 * f.val + 0x20) / 64 = f.val := by omega
  refine write_took_region (by unfold rgFILTER; omega) ht ha (planRegion_filter hlo hctl) ?_ ?_ ?_ ?_ <;>
    simp only [Dev.wrOf, ho, hoff] <;> rw [if_neg (by omega), if_pos (by omega)]
  rw [hfilt]

/-- The controller that a page of CAN stands for. -/
theorem pgCAN_index : (⟨(pgCAN n - 0x24) % 4, by omega⟩ : Fin 4) = n := by
  fin_cases n <;> decide

theorem pageRead_queueWindow {ident : Nat} {l : Lane} {q : Fin 2} {k : Fin 22} :
    d.pageRead ident l (pgCAN n) (0x100 + 0x80 * q.val + 4 * k.val) = d.queueWindowRead ident n q.val k.val := by
  have hkind : (pageKind (pgCAN n)).1 = 0x24 := by fin_cases n <;> decide
  have htime : pgCAN n ≠ pgTIME := by unfold pgCAN pgTIME; omega
  have heth : ¬ (pgCAN n = pgETH ∧ 0x100 + 0x80 * q.val + 4 * k.val = 0x68) := by omega
  unfold Dev.pageRead
  rw [if_neg (fun h => htime h.1), if_neg heth, hkind, pgCAN_index]
  match q with
  | 0 =>
    rw [if_pos (by simp only [Fin.val_zero, true_and]; omega)]
    congr 1
    simp only [Fin.val_zero]
    omega
  | 1 =>
    rw [if_neg (by simp only [Fin.val_one]; omega), if_pos (by simp only [Fin.val_one, true_and]; omega)]
    congr 1
    simp only [Fin.val_one]
    omega

theorem pageReg_queueWindow {q : Fin 2} {k : Fin 22} : pageReg (pgCAN n) (0x100 + 0x80 * q.val + 4 * k.val) := by
  have hsize : pageRegs (pgCAN n) = pageRegs 0x24 := by fin_cases n <;> decide
  refine ⟨by unfold pgCAN; omega, by omega, ?_, .inl (by unfold pgCAN pgHOST; omega), .inl ⟨by unfold pgCAN pgMOTION; omega, by unfold pgCAN pgMOTION; omega⟩⟩
  have hlast : 118 ≤ pageRegs 0x24 := by decide
  omega

/-- The operation of a command word of a queue. -/
theorem qcmdWord_op {op q : Nat} (hop : op < 4) : R.CAN_QCMD_OP.get (BitVec.ofNat 32 (op + 0x100 * q)) = op :=
  Fld.get_ofNat_eq (by decide) (by
    norm_num [R.CAN_QCMD_OP, Fld.width]
    omega)

/-- The queue of a command word of a queue. -/
theorem qcmdWord_queue {op q : Nat} (hop : op < 4) (hq : q < 2) : R.CAN_QCMD_QUEUE.get (BitVec.ofNat 32 (op + 0x100 * q)) = q :=
  Fld.get_ofNat_eq (by decide) (by
    norm_num [R.CAN_QCMD_QUEUE, Fld.width]
    omega)

/-- A write of QCMD takes or gives the head of the queue that it names. -/
theorem writeReg_qcmd {op q : Nat} (hop : R.CAN_QCMD_OP.get v = op) (hq : R.CAN_QCMD_QUEUE.get v = q)
    (ha : d.accepts w (pageAddr (pgCAN n) 0x64) v) :
    d.writeReg w (pgCAN n) 0x64 v = d.took w (pgCAN n) 0x64 v 0 fun e =>
      (if op = 1 then e.queueTake (d.who w) n q else e.queueGive (d.who w) n q).getD e := by
  subst hop hq
  exact writeReg_took (by fin_cases n <;> decide) ha (pagePlan_can (by decide)) rfl rfl rfl rfl

end

/-! Transmission (R537) -/

section
variable (hsends : d.canSends n = true) (hcell : d.exclusiveDue n = none)
include hsends hcell

/-- Where no exclusive cell is due and no safety PDU goes first, the offered buffer goes on the bus. -/
theorem canTransmit_buffer {b : Fin 32} (hpdus : (d.can[n]).pdus = [] ∨ d.exclusiveNow n = true) (hoffered : d.offered n = some b) :
    d.canTransmit n = d.busStart n b := by
  unfold Dev.canTransmit
  rw [if_neg (by simp [hsends])]
  simp only [hcell]
  rw [if_neg fun ⟨hsome, hlater⟩ => hpdus.elim (fun h => absurd hsome (by rw [h]; decide)) fun h => by simp [h] at hlater]
  simp only [hoffered]

theorem canTransmit_pdu (hpdus : (d.can[n]).pdus ≠ []) (hnow : d.exclusiveNow n = false) : d.canTransmit n = d.pduStart n := by
  unfold Dev.canTransmit
  rw [if_neg (by simp [hsends])]
  simp only [hcell]
  exact if_pos ⟨by simpa [List.isEmpty_iff] using hpdus, by simp [hnow]⟩

end

section
variable {r : TxOutcome} {age : Nat}

/-- Outside the loopback mode, and where the attempt failed, nothing is received back. -/
theorem txComplete_alone (h : r ≠ .sent ∨ d.canLoops n = false) : d.txComplete n r age = d.txEnds n r age := by
  unfold Dev.txComplete
  cases d.canOnBus n with
  | none => rfl
  | some f => exact if_neg fun ⟨hsent, hloops, _⟩ => h.elim (· hsent) (Bool.eq_false_iff.mp · hloops)

theorem txEnds_sent {b : Fin 32} (hbus : (d.can[n]).bus = some b) (href : (d.can[n]).refOut = none) :
    d.txEnds n .sent age = d.canSent n b (if d.cg n R.CAN_CFG_TSPOINT = 0 then d.now - age else d.now) := by
  simp only [Dev.txEnds, hbus, href]

theorem txEnds_reference {b : Fin 32} {c : Nat} {e : Dev} (hbus : (d.can[n]).bus = some b) (href : (d.can[n]).refOut = some c)
    (he : d.canSent n b (if d.cg n R.CAN_CFG_TSPOINT = 0 then d.now - age else d.now) = e) :
    d.txEnds n .sent age = e.cycleStarts n (e.now - age) c := by
  subst he
  simp only [Dev.txEnds, hbus, href]

theorem txEnds_notSent {b : Fin 32} (hbus : (d.can[n]).bus = some b) (hr : r ≠ .sent) : d.txEnds n r age = d.canNotSent n b r := by
  cases r with
  | sent => exact absurd rfl hr
  | error e f => simp only [Dev.txEnds, hbus]
  | lostArbitration => simp only [Dev.txEnds, hbus]

theorem txEnds_pdu (hbus : (d.can[n]).bus = none) (hpdu : (d.can[n]).busPdu = true) :
    d.txEnds n r age = (d.busOver n r).onCan n fun u => { u with pdus := if r = .sent then u.pdus.drop 1 else u.pdus } := by
  simp only [Dev.txEnds, hbus, hpdu]
  rfl

end

end

/-- Settles O21: frames, error states, filters, queues, buffers and attempts, each under the conditions of its rule. -/
theorem canCommandsComplete : Obligations.CanCommandsComplete := by
  rintro s d rfl
  exact ⟨
    fun n f age htakes hloops hsafety hlen hdiverted hfilter => completes (·.canFrameReceive n f age)
      (((canFrameReceive_taken htakes hloops).trans (canArrives_plain hsafety)).trans (canFrameTaken_noMatch hlen hdiverted hfilter)) rfl,
    fun n f age i c htakes hloops hsafety hlen hdiverted hfilter => completes (·.canFrameReceive n f age)
      (((canFrameReceive_taken htakes hloops).trans (canArrives_plain hsafety)).trans (canFrameTaken_match hlen hdiverted hfilter)) rfl,
    fun n f age htakes hloops hsafety => completes (·.canFrameReceive n f age)
      ((canFrameReceive_taken htakes hloops).trans (if_pos hsafety)) rfl,
    fun n hcanlive => completes (·.busOff n) (if_neg (by simp [hcanlive])) rfl,
    fun n hon htec hstate => completes (·.errorPassive n) (errorPassive_tec hon hstate htec) rfl,
    fun n e hon htec he hstate => completes (·.errorPassive n) (errorPassive_rec hon hstate htec he) rfl,
    fun n hcanon hstate hautorecov => completes (·.busOffRecovery n) (if_neg (by simp [hcanon, hstate, hautorecov])) rfl,
    fun w n f v t ht ha => completes (·.write w (rgFILTER + 0x2000 * n.val + 64 * f.val + 0x20) v) (write_filterUpdate ht ha) rfl,
    fun w n q k l harr hn hl => completes (·.read w (pageAddr (pgCAN n) (0x100 + 0x80 * q.val + 4 * k.val)))
      (read_page pageReg_queueWindow harr hn hl pageRead_queueWindow) rfl,
    fun w n q ha => completes (·.writeReg w (pgCAN n) 0x64 (BitVec.ofNat 32 (1 + 0x100 * q.val)))
      (writeReg_qcmd (qcmdWord_op (by decide)) (qcmdWord_queue (by decide) q.isLt) ha) rfl,
    fun w n q ha => completes (·.writeReg w (pgCAN n) 0x64 (BitVec.ofNat 32 (2 + 0x100 * q.val)))
      (writeReg_qcmd (qcmdWord_op (by decide)) (qcmdWord_queue (by decide) q.isLt) ha) rfl,
    fun w n v ha => completes (·.writeReg w (pgCAN n) 0x254 v) (writeReg_took (by fin_cases n <;> decide) ha (pagePlan_can (by decide)) rfl rfl rfl rfl) rfl,
    fun n k hcansends hexclusivedue => completes (·.canTransmit n) (by
      simp only [Dev.canTransmit, hcansends, hexclusivedue]
      rfl) rfl,
    fun n b hsends hcell hpdus hoffered => completes (·.canTransmit n) (canTransmit_buffer hsends hcell hpdus hoffered) rfl,
    fun n hsends hcell hpdus hnow => completes (·.canTransmit n) (canTransmit_pdu hsends hcell hpdus hnow) rfl,
    fun n age b hbus href hloops => completes (·.txComplete n (.sent) age)
      ((txComplete_alone (.inr hloops)).trans (txEnds_sent hbus href)) rfl,
    fun n r age b hbus hr => completes (·.txComplete n r age) ((txComplete_alone (.inl hr)).trans (txEnds_notSent hbus hr)) rfl,
    fun n age b c e hbus href hloops he => completes (·.txComplete n (.sent) age)
      ((txComplete_alone (.inr hloops)).trans (txEnds_reference hbus href he)) rfl,
    fun n r age hbus hpdu h => completes (·.txComplete n r age) ((txComplete_alone h).trans (txEnds_pdu hbus hpdu)) rfl,
    fun n age f hcanonbus hcanloops hcantakes => completes (·.txComplete n (.sent) age) (by
      simp only [Dev.txComplete, hcanonbus, hcanloops, hcantakes]
      rfl) rfl,
    fun w n v ha => completes (·.writeReg w (pgCAN n) 0x74 v) (writeReg_took (by fin_cases n <;> decide) ha (pagePlan_can (by decide)) rfl rfl rfl rfl) rfl⟩

end Sys2Proof.Machine
end

section
/-! O22: the CAN ruling (R538 to R541). -/
namespace Sys2Proof.Machine

section
variable {d : Dev} {n : Fin 4}

/-- The master's reference leaves where none has been, where the cycle has passed, or where no reference stands. -/
theorem rulingReferenceSend_due {b : Fin 32} (hsends : d.canSends n = true) (henabled : d.bufEnabled n b = true)
    (hen : d.cg n R.CAN_RULCFG_EN ≠ 0) (hmaster : d.cg n R.CAN_RULSTAT_MASTER ≠ 0)
    (hdue : ∀ t, (d.can[n]).refAt = some t → t + d.cg n R.CAN_RULCYC_T ≤ d.now ∨ d.cg n R.CAN_RULSTAT_REF_OK = 0)
    (hb : b.val = d.cg n R.CAN_RULCFG_REFBUF) (hstate : ((d.can[n]).bufs[b]).state = 1) :
    d.rulingReferenceSend n = d.refSends n b ((d.cg n R.CAN_RULSTAT_CYC + 1) % 2 ^ d.cg n R.CAN_RULCFG_CYCX) := by
  have hbuf : (⟨d.cg n R.CAN_RULCFG_REFBUF % 32, by omega⟩ : Fin 32) = b := Fin.ext (by simp only [← hb]; omega)
  unfold Dev.rulingReferenceSend
  simp only [hbuf]
  cases href : (d.can[n]).refAt with
  | none => exact if_neg (by simpa [hsends, hen, hmaster, henabled] using hstate)
  | some t =>
    have hlate : (decide (d.now < t + d.cg n R.CAN_RULCYC_T) && d.cg n R.CAN_RULSTAT_REF_OK == 1) = false := by
      rcases hdue t href with h | h <;> simp [h]
    exact if_neg (by simpa [hsends, hen, hmaster, henabled, hlate] using hstate)

/-- A frame that the reference's filter takes counts at its filter and starts a cycle. -/
theorem canMatch_reference {f : CanFrame} {sof stamp i : Nat} {c : Word} {v e : Dev} (haction : R.FILT_ACTION.get c = 3)
    (hv : d.setWord (canLane n) (filtAddr n i 10) (BitVec.ofNat 32 (satInc 4294967295 (d.word (canLane n) (filtAddr n i 10)).toNat)) = v)
    (he : (v.onCan n fun x => { x with ended := v.rxChecks n i sof ++ x.ended }) = e)
    (hfilt : i = e.cg n R.CAN_RULCFG_REFFILT) (hen : e.cg n R.CAN_RULCFG_EN = 1) :
    d.canMatch n f sof stamp i c = e.referenceTaken n f sof := by
  subst hv he
  unfold Dev.canMatch
  dsimp only
  rw [haction, if_neg (by decide), if_neg (by decide), if_neg (by decide)]
  exact if_pos ⟨rfl, hfilt, hen⟩

theorem refLost_due {t : Nat} (href : (d.can[n]).refAt = some t) (hon : d.canOn n = true) (hen : d.cg n R.CAN_RULCFG_EN ≠ 0)
    (hmaster : d.cg n R.CAN_RULSTAT_MASTER ≠ 1) (hgone : (d.can[n]).refGone = false)
    (hdue : 3 * d.cg n R.CAN_RULCYC_T ≤ 2 * (d.now - t)) :
    d.refLost n =
      (((d.cs n R.CAN_RULSTAT_REF_OK 0).onCan n fun u => { u with refGone := true, acted := [], ended := [] }).canCause n 7).raise (323 + 4 * n.val) := by
  unfold Dev.refLost
  simp only [href]
  exact if_neg (by simpa [hon, hen, hmaster, hdue] using hgone)

theorem rulingTakeover_due {t : Nat} (href : (d.can[n]).refAt = some t) (hlive : d.canLive n = true) (hen : d.cg n R.CAN_RULCFG_EN ≠ 0)
    (hrole : d.cg n R.CAN_RULCFG_ROLE = 2) (hmaster : d.cg n R.CAN_RULSTAT_MASTER ≠ 1)
    (hdue : t + d.cg n R.CAN_RULCYC_T + d.cg n R.CAN_RULBK_T ≤ d.now) : d.rulingTakeover n = d.cs n R.CAN_RULSTAT_MASTER 1 := by
  unfold Dev.rulingTakeover
  simp only [href]
  exact if_neg (by simp [hlive, hen, hrole, hmaster, hdue])

/-- A write of a cell's ACT word applies the cell. -/
theorem write_cellAct {w : Writer} {k : Fin 1024} {v : Word} {t : Target} (ht : d.target (rgRULING + 32 * k.val + 28) = some t)
    (ha : d.accepts w (rgRULING + 32 * k.val + 28) v) :
    d.write w (rgRULING + 32 * k.val + 28) v =
      d.tookAt w t (rgRULING + 32 * k.val + 28) v 0xFFFFFFFF#32 [] fun e => exceptD (e.rulingCellWrite k.val v) e := by
  have hlo : rgRULING ≤ rgRULING + 32 * k.val + 28 := by omega
  have hhi : rgRULING + 32 * k.val + 28 < rgFILTER := by unfold rgRULING rgFILTER; omega
  have ho : t.o = 32 * k.val + 28 := by rw [target_rulingRegion hlo hhi ht]; omega
  have hcell : (32 * k.val + 28) / 32 = k.val := by omega
  refine write_took_region (by unfold rgRULING; omega) ht ha (planRegion_ruling hlo hhi) ?_ ?_ ?_ ?_ <;>
    simp only [Dev.wrOf, ho] <;> rw [if_pos (by omega)]
  rw [hcell]

/-- A cell whose window has passed misses; a buffer of its own that still waits and is not kept ends with it. -/
theorem rulingMiss_past {k c : Nat} (hon : d.canOn n = true) (hok : d.cg n R.CAN_RULSTAT_REF_OK ≠ 0)
    (hacted : (d.can[n]).acted.contains k = true) (hended : (d.can[n]).ended.contains k = false) (hcycle : d.cycleTime n d.now = some c)
    (hpast : d.cellOf n k R.CELL_MARK + d.cellOf n k R.CELL_WIN ≤ c) :
    d.rulingMiss n k =
      if (d.cellMiss n k).cellOf n k R.CELL_KIND = 0 ∧ (d.cellMiss n k).rulingReady n ((d.cellMiss n k).cellBuf n k) = true ∧
          ((d.can[n]).bufs[(d.cellMiss n k).cellBuf n k]).keep = false ∧ (d.can[n]).bus ≠ some ((d.cellMiss n k).cellBuf n k)
      then (d.cellMiss n k).bufDone n ((d.cellMiss n k).cellBuf n k) 4 else d.cellMiss n k := by
  unfold Dev.rulingMiss
  simp only [hcycle]
  rw [if_neg (by simp only [hon, hacted, hended, hpast]; simp [hok])]
  simp only [Bool.not_eq_true']

end

/-- Settles O22: references, takeovers, cells and misses, each under the conditions of its rule. -/
theorem rulingCommandsComplete : Obligations.RulingCommandsComplete := by
  rintro s d rfl
  exact ⟨
    fun n b hsends henabled hen hmaster href hb hstate => completes (·.rulingReferenceSend n)
      (rulingReferenceSend_due hsends henabled hen hmaster (fun t h => absurd (href.symm.trans h) (by simp)) hb hstate) rfl,
    fun n b t hsends henabled hen hmaster href hdue hb hstate => completes (·.rulingReferenceSend n)
      (rulingReferenceSend_due hsends henabled hen hmaster (fun u h => .inl (Option.some.inj (href.symm.trans h) ▸ hdue)) hb hstate) rfl,
    fun n b hsends henabled hen hmaster hok hb hstate => completes (·.rulingReferenceSend n)
      (rulingReferenceSend_due hsends henabled hen hmaster (fun _ _ => .inr hok) hb hstate) rfl,
    fun n f age i c u v e htakes hloops hsafety hreference hlen hu hdiverted hfilter haction hv he hfilt hen =>
      completes (·.rulingReferenceReceive n f age) (by
      subst hu
      exact (((if_pos hreference).trans (canFrameReceive_taken htakes hloops)).trans (canArrives_plain hsafety)).trans
        ((canFrameTaken_match hlen hdiverted hfilter).trans (canMatch_reference haction hv he hfilt hen))) rfl,
    fun n t href hon hen hmaster hgone hdue => completes (·.refLost n) (refLost_due href hon hen hmaster hgone hdue) rfl,
    fun n t href hlive hen hrole hmaster hdue => completes (·.rulingTakeover n) (rulingTakeover_due href hlive hen hrole hmaster hdue) rfl,
    fun w k v t ht ha => completes (·.write w (rgRULING + 32 * k.val + 28) v) (write_cellAct ht ha) rfl,
    fun n k js hcanon hcellready hmark => completes (·.rulingCellMark n k) (by
      simp only [Dev.rulingCellMark, hcanon, hcellready, hmark]
      rfl) rfl,
    fun n k c hon hok hacted hended hcycle hpast => completes (·.rulingMiss n k) (rulingMiss_past hon hok hacted hended hcycle hpast) rfl⟩

end Sys2Proof.Machine
end

section
/-! O23: the RigRaong link (R542 to R548). -/
namespace Sys2Proof.Machine

section
variable {d e : Dev} {l : Lane} {t : Nat}

section
variable {collision : Option Nat} (hcycle : (d.rig.at l).cycAt = some t) (hon : d.rigOn l = true) (hruns : (d.rig.at l).stopped = false)
include hcycle hon hruns

/-- A node whose slot runs under a head fills it. -/
theorem linkSlot_fills
    (hclear : (d.rg l R.LINK_STAT_ISHEAD == 1 && decide (d.now < (d.rig.at l).lineEnd) && (d.rig.at l).sent.any (·.typ == 0) && collision.isSome) = false)
    (hfrom : t + 5 * d.rg l R.LINK_SLOT_START ≤ d.now)
    (hto : d.now < t + 5 * d.rg l R.LINK_SLOT_START + 5 * d.rg l R.LINK_SLOT_LEN)
    (hhead : d.rg l R.LINK_STAT_HEADOK ≠ 0 ∨ d.rg l R.LINK_STAT_ISHEAD ≠ 0) :
    d.linkSlot l collision = d.slotFills l t (t + 5 * d.rg l R.LINK_SLOT_START) collision := by
  unfold Dev.linkSlot
  simp only [hcycle]
  rw [if_neg (by simp [hon, hruns]), if_neg (by rw [← Bool.and_eq_true, hclear]; decide), if_neg (by omega)]

/-- A head whose opening frame collides ends its cycle. -/
theorem linkSlot_collides
    (hopening : (d.rg l R.LINK_STAT_ISHEAD == 1 && decide (d.now < (d.rig.at l).lineEnd) && (d.rig.at l).sent.any (·.typ == 0) && collision.isSome) = true) :
    d.linkSlot l collision = (d.rigSends l [] d.now).rigCollides l := by
  unfold Dev.linkSlot
  simp only [hcycle]
  rw [if_neg (by simp [hon, hruns]), if_pos (by rwa [← Bool.and_eq_true])]

end

theorem noticeFrame_interrupt {src : Nat} {x y : Word} (hon : d.rigOn l = true) (he : d.rigHeard l src = e) (hheard : e.rigOn l = true)
    (hhead : e.rg l R.LINK_STAT_ISHEAD ≠ 0) (hsome : ¬ (x = 0 ∧ y = 0)) :
    d.noticeFrame l src (.interrupt x y) =
      e.rs l (if src < 32 then R.LINK_NOTICE0_NODE else R.LINK_NOTICE1_NODE)
        (e.rg l (if src < 32 then R.LINK_NOTICE0_NODE else R.LINK_NOTICE1_NODE) ||| 2 ^ (src % 32)) := by
  subst he
  unfold Dev.noticeFrame
  dsimp only
  rw [if_pos hon, if_neg (by simp [hheard, hhead]), if_neg hsome]

/-- The head has been silent for `n` cycles. -/
theorem rigSilent_due {n : Nat} (hhead : (d.rig.at l).headAt = some t) (hdue : t + n * d.rg l R.LINK_CYCLE_CYC * 500 ≤ d.now) :
    d.rigSilent l n = true := by
  unfold Dev.rigSilent
  simp only [hhead]
  exact decide_eq_true hdue

theorem headLost_silent (hon : d.rigOn l = true) (hnode : d.rg l R.LINK_STAT_ISHEAD ≠ 1) (hsilent : d.rigSilent l 2 = true) :
    d.headLost l = ((d.rs l R.LINK_STAT_HEADOK 0).rigCause l 1).raiseCond (rigSrc l 0) :=
  if_neg (by simp [hon, hnode, hsilent])

theorem headTakeover_silent (hon : d.rigOn l = true) (hbackup : d.rg l R.LINK_CFG_HEAD = 2) (hnode : d.rg l R.LINK_STAT_ISHEAD ≠ 1)
    (hsilent : d.rigSilent l 4 = true) :
    d.headTakeover l =
      ((((d.rs l R.LINK_STAT_ISHEAD 1).rigCause l 2).endCause (rigSrc l 0)).onRig l fun r => { r with cycAt := none }).linkCycleStart l :=
  if_neg (by simp [hon, hbackup, hnode, hsilent])

theorem writeReg_syncTx {w : Writer} {evt : Fin 256} (ha : d.accepts w (pageAddr (pgLINK l) 0x6C) (BitVec.ofNat 32 evt.val)) :
    d.writeReg w (pgLINK l) 0x6C (BitVec.ofNat 32 evt.val) =
      d.took w (pgLINK l) 0x6C (BitVec.ofNat 32 evt.val) 0 fun e => e.syncTx l evt.val :=
  writeReg_took (by cases l <;> decide) ha (pagePlan_link (by decide)) rfl rfl rfl (congrArg (Dev.syncTx _ l) (Fld.get_ofNat_of_lt (by decide) rfl evt.isLt))

/-! Synchronisation events (R548) -/

section
variable {src evt : Nat} {due : Word} (hon : d.rigOn l = true)
include hon

section
variable (hnew : (d.rig.at l).events.contains (src, evt, due) = false)
  (he : (if src = d.rg l R.LINK_NODE_ADDR then d else d.rigHeard l src) = e)
include hnew he

/-- An event that has not been queued counts from the device that has heard its sender. -/
theorem syncEvent_new :
    d.syncEvent l src evt due =
      if stampDiff e.now due.toNat < 0 then e.onRig l fun r => { r with events := r.events ++ [(src, evt, due)] }
      else ((((e.onRig l fun r => { r with events := r.events.erase (src, evt, due) }).rs l R.LINK_SYNCRX_SRC src).rs l
        R.LINK_SYNCRX_EVT evt).rs l R.LINK_SYNCRX_LATE (decide (0 < stampDiff e.now due.toNat)).toNat).rigCause l 6 := by
  subst he
  unfold Dev.syncEvent
  rw [if_neg (by simp [hon])]
  simp only [hnew, Bool.false_eq_true, false_or, if_false, Bool.not_false, Bool.true_and]
  rfl

theorem syncEvent_newDue (hdue : 0 ≤ stampDiff e.now due.toNat) :
    d.syncEvent l src evt due = ((((e.onRig l fun r => { r with events := r.events.erase (src, evt, due) }).rs l R.LINK_SYNCRX_SRC src).rs l
      R.LINK_SYNCRX_EVT evt).rs l R.LINK_SYNCRX_LATE (decide (0 < stampDiff e.now due.toNat)).toNat).rigCause l 6 :=
  (syncEvent_new hon hnew he).trans (if_neg (Int.not_lt.mpr hdue))

theorem syncEvent_newWaits (hwaits : stampDiff e.now due.toNat < 0) :
    d.syncEvent l src evt due = e.onRig l fun r => { r with events := r.events ++ [(src, evt, due)] } :=
  (syncEvent_new hon hnew he).trans (if_pos hwaits)

end

/-- A queued event that falls due is not late. -/
theorem syncEvent_queuedDue (hqueued : (d.rig.at l).events.contains (src, evt, due) = true) (hdue : 0 ≤ stampDiff d.now due.toNat) :
    d.syncEvent l src evt due = ((((d.onRig l fun r => { r with events := r.events.erase (src, evt, due) }).rs l R.LINK_SYNCRX_SRC src).rs l
      R.LINK_SYNCRX_EVT evt).rs l R.LINK_SYNCRX_LATE 0).rigCause l 6 := by
  unfold Dev.syncEvent
  rw [if_neg (by simp [hon])]
  simp only [hqueued, true_or, if_true]
  rw [if_neg (Int.not_lt.mpr hdue)]
  rfl

end

end

/-- Settles O23: each event of the link under the conditions of its rule. -/
theorem linkNetworkCommandsComplete : Obligations.LinkNetworkCommandsComplete := by
  rintro s d rfl
  exact ⟨
    fun l hrigon hishead hrig => completes (·.linkCycleStart l) (if_neg (by simp [hrigon, hishead, hrig])) rfl,
    fun l t hrigon hishead hrig hcyc => completes (·.linkCycleStart l) (if_neg (by simp [hrigon, hishead, hrig, hcyc])) rfl,
    fun l src count hrigon hishead => completes (·.cycleStartReceive l src count) (by
      simp only [Dev.cycleStartReceive, hrigon, hishead]
      rfl) rfl,
    fun l src count hrigon hishead haddr => completes (·.cycleStartReceive l src count)
      (by simp [Dev.cycleStartReceive, hrigon, hishead, haddr]) rfl,
    fun l collision t hcycle hon hruns hclear hfrom hto hhead => completes (·.linkSlot l collision)
      (linkSlot_fills hcycle hon hruns hclear hfrom hto hhead) rfl,
    fun l collision t hcycle hon hruns hopening => completes (·.linkSlot l collision) (linkSlot_collides hcycle hon hruns hopening) rfl,
    fun l dst epoch header owner tag data hrigon haddr hepoch => completes (·.regReq l dst epoch header owner tag data)
      (by simp [Dev.regReq, hrigon, haddr, hepoch]) rfl,
    fun l dst epoch header owner tag data hrigon haddr hepoch => completes (·.regReq l dst epoch header owner tag data)
      (by simp [Dev.regReq, hrigon, haddr, hepoch]) rfl,
    fun l src rstat tag data hrigon hrigheard => completes (·.regRsp l src rstat tag data) (by
      simp only [Dev.regRsp, hrigon, hrigheard]
      rfl) rfl,
    fun l src x y e hon he hheard hhead hsome => completes (·.noticeFrame l src (.interrupt x y))
      (noticeFrame_interrupt hon he hheard hhead hsome) rfl,
    fun l hrigon => completes (·.frameError l) (if_neg (by simp [hrigon])) rfl,
    fun l t hon hnode hhead hdue => completes (·.headLost l) (headLost_silent hon hnode (rigSilent_due hhead hdue)) rfl,
    fun l t hon hbackup hnode hhead hdue => completes (·.headTakeover l) (headTakeover_silent hon hbackup hnode (rigSilent_due hhead hdue)) rfl,
    fun w l evt ha => completes (·.writeReg w (pgLINK l) 0x6C (BitVec.ofNat 32 evt)) (writeReg_syncTx ha) rfl,
    fun l src evt due e hon hnew he hdue => completes (·.syncEvent l src evt due) (syncEvent_newDue hon hnew he hdue) rfl,
    fun l src evt due e hon hnew he hwaits => completes (·.syncEvent l src evt due) (syncEvent_newWaits hon hnew he hwaits) rfl,
    fun l src evt due hon hqueued hdue => completes (·.syncEvent l src evt due) (syncEvent_queuedDue hon hqueued hdue) rfl⟩

end Sys2Proof.Machine
end

section
/-! O25: a clear of a source whose FORCE bit stands (R577, R578). -/
namespace Sys2Proof.Machine

/-- Control die and interface die of lane A run, and source 128 of LEDGER shows FORCE. -/
def forcedSource : Dev :=
  ({ Dev.reset with power := { Dev.reset.power with running := [.ctl .a, .iface .a] } }).sl .a pgLEDGER R.LEDGER_SRC_FORCE 1 128

/-- The word of a clear of source 128: it carries the FORCE bit that the register shows. -/
abbrev forcedClearWord : Word := forcedSource.fieldWord (.laneFw .a) pgLEDGER R.LEDGER_SRC_STATUS 1 128

/-- The state that lane A's firmware leaves when it clears the source. -/
abbrev forcedCleared : State := State.done ⟨forcedSource, []⟩ (forcedSource.writeField (.laneFw .a) pgLEDGER R.LEDGER_SRC_STATUS 1 128)

/-- The state that the obligation states, in which the write clears and does nothing else. -/
abbrev forcedStated : State :=
  State.done ⟨forcedSource, []⟩ (forcedSource.took (.laneFw .a) pgLEDGER (0x200 + 4 * 128) forcedClearWord
    (R.LEDGER_SRC_STATUS.mask ||| R.LEDGER_SRC_FORCE.mask) fun e => e.sourceClear 128)

/-- The clear is accepted, and as its writer may force, it raises the source again; the clear alone leaves it down. -/
theorem forcedCleared_raises : forcedSource.accepts (.laneFw .a) (pageAddr pgLEDGER (0x200 + 4 * 128)) forcedClearWord ∧
    forcedCleared.dev.g pgLEDGER R.LEDGER_SRC_STATUS 128 = 1 ∧ forcedStated.dev.g pgLEDGER R.LEDGER_SRC_STATUS 128 = 0 := by decide +kernel

/-- Refutes O25 by its clause of a clear: a write of STATUS carries a standing FORCE bit along, and a writer that may force then forces
the source anew. -/
theorem not_serviceCommandsComplete : ¬ Obligations.ServiceCommandsComplete := by
  unfold Obligations.ServiceCommandsComplete
  intro h
  obtain ⟨-, -, -, -, -, -, -, -, hclear, -⟩ := h ⟨forcedSource, []⟩ forcedSource rfl
  obtain ⟨haccepts, hasked, hstated⟩ := forcedCleared_raises
  have hnext : Host.Outcome.next forcedCleared = .next forcedStated := hclear (.laneFw .a) 128 haccepts (by decide)
  have hstatus := congrArg (fun t : State => t.dev.g pgLEDGER R.LEDGER_SRC_STATUS 128) (Host.Outcome.next.inj hnext)
  exact absurd (hasked.symm.trans (hstatus.trans hstated)) (by decide)

end Sys2Proof.Machine
end

section
/-! O27: update, unlock and attestation (R604 to R630). -/
namespace Sys2Proof.Machine

section
variable {d : Dev} {w : Writer} {v : Word}

/-- The fields of a command word of an update. -/
theorem updWord_fields {op bank scope : Nat} (hop : op < 16) (hbank : bank < 2) (hscope : scope < 8) :
    R.NVM_UPD_KEY.get (updWord op bank scope) = 0xB7 ∧ R.NVM_UPD_OP.get (updWord op bank scope) = op ∧
      R.NVM_UPD_BANK.get (updWord op bank scope) = bank ∧ R.NVM_UPD_SCOPE.get (updWord op bank scope) = scope := by
  refine ⟨Fld.get_ofNat_eq (by decide) ?_, Fld.get_ofNat_eq (by decide) ?_, Fld.get_ofNat_eq (by decide) ?_, Fld.get_ofNat_eq (by decide) ?_⟩
  · norm_num [R.NVM_UPD_KEY, Fld.width]
    omega
  · norm_num [R.NVM_UPD_OP, Fld.width]
    omega
  · norm_num [R.NVM_UPD_BANK, Fld.width]
    omega
  · norm_num [R.NVM_UPD_SCOPE, Fld.width]
    omega

/-- The effect of an update command, by its operation. -/
def Dev.updCommand (e : Dev) (op bank scope ident : Nat) : Dev :=
  match op with
  | 1 => e.updBegin bank
  | 2 => (e.tinkerNeedBoth true 22).updFinish
  | 3 => { e with boot := { e.boot with actReq := some (bank, scope, ident) } }
  | 4 => e.updAbort
  | 5 => e.updSetpref bank
  | 6 => e.updCommitSvn
  | 7 => { e.updProvision e.openFacts.healthy with freeCtr := e.freeCtr + 10 }
  | _ => e

/-- A keyed write of UPD carries out its command. -/
theorem writeReg_upd (hkey : R.NVM_UPD_KEY.get v = 0xB7) (ha : d.accepts w (pageAddr pgNVM 0x44) v) :
    d.writeReg w pgNVM 0x44 v = d.took w pgNVM 0x44 v 0 fun e =>
      e.updCommand (R.NVM_UPD_OP.get v) (R.NVM_UPD_BANK.get v) (R.NVM_UPD_SCOPE.get v) (d.who w).ident := by
  refine writeReg_took (by decide) ha (pagePlan_nvm (by decide)) (by simp [planNvm, Dev.pageWr, Dev.wrOf, Dev.pageTarget, Wr.f, hkey]) rfl rfl ?_
  unfold planNvm Dev.updCommand
  rfl

theorem writeReg_updWord {op bank scope : Nat} (hop : op < 16) (hbank : bank < 2) (hscope : scope < 8)
    (ha : d.accepts w (pageAddr pgNVM 0x44) (updWord op bank scope)) :
    d.writeReg w pgNVM 0x44 (updWord op bank scope) =
      d.took w pgNVM 0x44 (updWord op bank scope) 0 fun e => e.updCommand op bank scope (d.who w).ident := by
  obtain ⟨hkey, hop', hbank', hscope'⟩ := updWord_fields hop hbank hscope
  simp only [writeReg_upd hkey ha, hop', hbank', hscope']

/-- The fields of a command word of UNLOCK. -/
theorem unlockWord_fields {op : Nat} (hop : op < 4) :
    R.NVM_UNLOCK_KEY.get (keyWord 0xE1 op) = 0xE1 ∧ R.NVM_UNLOCK_OP.get (keyWord 0xE1 op) = op := by
  refine ⟨Fld.get_ofNat_eq (by decide) ?_, Fld.get_ofNat_eq (by decide) ?_⟩
  · norm_num [R.NVM_UNLOCK_KEY, Fld.width]
    omega
  · norm_num [R.NVM_UNLOCK_OP, Fld.width]
    omega

/-- A keyed write of UNLOCK makes a challenge or judges the token. -/
theorem writeReg_unlock (hkey : R.NVM_UNLOCK_KEY.get v = 0xE1) (ha : d.accepts w (pageAddr pgNVM 0x5C) v) :
    d.writeReg w pgNVM 0x5C v = d.took w pgNVM 0x5C v 0 fun e =>
      if R.NVM_UNLOCK_OP.get v = 1 then { e.challenge e.openFacts.entropy with freeCtr := e.freeCtr + 10 }
      else (e.tinkerNeedBoth true 22).submit :=
  writeReg_took (by decide) ha (pagePlan_nvm (by decide)) (by simp [planNvm, Dev.pageWr, Dev.wrOf, Dev.pageTarget, Wr.f, hkey]) rfl rfl rfl

theorem writeReg_challenge (ha : d.accepts w (pageAddr pgNVM 0x5C) (keyWord 0xE1 1)) :
    d.writeReg w pgNVM 0x5C (keyWord 0xE1 1) = d.took w pgNVM 0x5C (keyWord 0xE1 1) 0 fun e =>
      { e.challenge e.openFacts.entropy with freeCtr := e.freeCtr + 10 } := by
  obtain ⟨hkey, hop⟩ := unlockWord_fields (op := 1) (by decide)
  simp only [writeReg_unlock hkey ha, hop, if_true]

theorem writeReg_submit (ha : d.accepts w (pageAddr pgNVM 0x5C) (keyWord 0xE1 2)) :
    d.writeReg w pgNVM 0x5C (keyWord 0xE1 2) = d.took w pgNVM 0x5C (keyWord 0xE1 2) 0 fun e => (e.tinkerNeedBoth true 22).submit := by
  obtain ⟨hkey, hop⟩ := unlockWord_fields (op := 2) (by decide)
  simp only [writeReg_unlock hkey ha, hop, OfNat.ofNat_ne_one, if_false]

theorem writeReg_quote (hkey : R.NVM_QUOTE_KEY.get v = 0x51) (hgo : R.NVM_QUOTE_GO.get v = 1) (ha : d.accepts w (pageAddr pgNVM 0x60) v) :
    d.writeReg w pgNVM 0x60 v = d.took w pgNVM 0x60 v 0 fun e => (e.tinkerNeedBoth true 22).quoteGo :=
  writeReg_took (by decide) ha (pagePlan_nvm (by decide)) (bne_eq_false_iff_eq.mpr hkey) rfl rfl (if_pos hgo)

end

/-- Settles O27: keyed commands by the fields of their words, and each event under the conditions of its rule. -/
theorem updateCommandsComplete : Obligations.UpdateCommandsComplete := by
  rintro s d rfl
  exact ⟨
    fun w bank ha => completes (·.writeReg w pgNVM 0x44 (updWord 1 bank 0)) (writeReg_updWord (by decide) bank.isLt (by decide) ha) rfl,
    fun hstate => completes (·.eraseComplete) (if_neg (by simp [hstate])) rfl,
    fun w value ha => completes (·.writeReg w pgNVM 0x1FC value) (writeReg_took (by decide) ha (pagePlan_nvm (by decide)) rfl rfl rfl rfl) rfl,
    fun hstate => completes (·.programComplete) (if_pos (by simp [hstate])) rfl,
    fun w ha => completes (·.writeReg w pgNVM 0x44 (updWord 2 0 0)) (writeReg_updWord (by decide) (by decide) (by decide) ha) rfl,
    fun e hstate he => completes (·.verifyComplete) (by
      simp only [Dev.verifyComplete, hstate, he]
      rfl) rfl,
    fun w bank scope ha => completes (·.writeReg w pgNVM 0x44 (updWord 3 bank scope)) (writeReg_updWord (by decide) bank.isLt scope.isLt ha) rfl,
    fun b l t hboot hstate hsettle => completes (·.activationSettle) (by
      simp only [Dev.activationSettle, hboot, hstate, hsettle]
      rfl) rfl,
    fun b l x t hboot hstate hlanes htmo => completes (·.updateFailed) (by
      simp only [Dev.updateFailed, hboot, hstate, hlanes, htmo]
      rfl) rfl,
    fun w ha => completes (·.writeReg w pgNVM 0x44 (updWord 4 0 0)) (writeReg_updWord (by decide) (by decide) (by decide) ha) rfl,
    fun w bank ha => completes (·.writeReg w pgNVM 0x44 (updWord 5 bank 0)) (writeReg_updWord (by decide) bank.isLt (by decide) ha) rfl,
    fun w ha => completes (·.writeReg w pgNVM 0x44 (updWord 6 0 0)) (writeReg_updWord (by decide) (by decide) (by decide) ha) rfl,
    fun w healthy ha => completes (fun d => d.withFacts { noFacts with healthy := healthy } fun d => d.writeReg w pgNVM 0x44 (updWord 7 0 0))
      (withFacts_congr (writeReg_updWord (by decide) (by decide) (by decide) ha)) rfl,
    fun w entropy ha => completes (fun d => d.withFacts { noFacts with entropy := entropy } fun d => d.writeReg w pgNVM 0x5C (keyWord 0xE1 1))
      (withFacts_congr (writeReg_challenge ha)) rfl,
    fun w ha => completes (·.writeReg w pgNVM 0x5C (keyWord 0xE1 2)) (writeReg_submit ha) rfl,
    fun w v ha => completes (·.writeReg w pgNVM 0xC4 v)
      (writeReg_took (by decide) ha (pagePlan_nvm (by decide)) rfl rfl rfl rfl) rfl,
    fun w l harr hn hl => completes (·.read w (pageAddr pgNVM 0xC4))
      (read_page (by decide) harr hn hl rfl) rfl,
    fun entropy hclosed hdies => completes (·.jtagChallenge entropy) (if_neg (by simp [hclosed, hdies])) rfl,
    fun token hclosed hdies => completes (fun d => (d.tinkerNeedBoth true 22).jtagToken token)
      (if_neg (by simp [hclosed, hdies])) rfl,
    fun w v ha hkey hgo => completes (·.writeReg w pgNVM 0x60 v) (writeReg_quote hkey hgo ha) rfl,
    fun l nonce hboot hbusy => completes (·.quoteComplete) (by
      simp only [Dev.quoteComplete, hboot, hbusy]
      rfl) rfl⟩

end Sys2Proof.Machine
end
